-- ==== Sys2Proof/Word.lean ====
section
/-! DEFINITION. The word types of the block: bytes of host memory, streams and messages, and 32-bit registers (R10). -/
namespace Sys2Proof

/-- A byte of host memory, of a stream, or of a message. -/
abbrev Byte := BitVec 8

/-- A 32-bit register word (R10). -/
abbrev Word := BitVec 32

end Sys2Proof
end

