-- ==== Sys2Proof/Syntax.lean ====
section
/-! DEFINITION. The commands of the FX640 block: one constructor per row of spec/opcode_table.json, with the operands that
the rule each row cites gives it. What the outside supplies (a written word, bytes read from host memory, a message, a
measured result) is an operand; what the device holds is in State. -/
namespace Sys2Proof

/-- What a PCIe read of host memory returned (R329, R332): its bytes, or an error completion or poisoned TLP. -/
inductive HostRead where
  | ok (bytes : List Byte)
  | error
  deriving DecidableEq, Repr

/-- A link message as received (R208): its 16 bytes, and whether the framing and the pad symbol D21.5 were good. -/
structure LinkMsg where
  bytes : List Byte
  padOk : Bool
  deriving DecidableEq, Repr

/-- What started a cold reset (R436). -/
inductive ColdCause where | vin | poreset
  deriving DecidableEq, Repr

/-- What started a warm reset (R436). -/
inductive WarmCause where | resetN | perst
  deriving DecidableEq, Repr

/-- The wake sources of R435. -/
inductive WakeSource where | host | ack | svc | alarm
  deriving DecidableEq, Repr

/-- The two Looper engines' agreement at a sample (R292). -/
inductive Lockstep where
  | agree
  | differ
  | activeResidue
  deriving DecidableEq, Repr

/-- How a write-fed VAL or RESULT register is accessed (R454): a read, or a write of VAL_LO or VAL_HI. -/
inductive WfAccess where
  | read
  | writeLo (v : Word)
  | writeHi (v : Word)
  deriving DecidableEq, Repr

/-- The width of a write-fed data write (R454). -/
inductive WfWidth where | w8 | w16 | w32
  deriving DecidableEq, Repr

/-- One compressed or raw plane body as a slice's compressor offers it (R106, R107): slot, and FTC tokens. -/
structure PlaneBody where
  slot : Nat
  tokens : List Byte
  deriving DecidableEq, Repr

/-- A slice's shadow or third-opinion result for one slot of a tile (R374): the plane's CRC-32C, or empty. -/
structure PlaneCrc where
  slot : Nat
  crc : Option Nat
  deriving DecidableEq, Repr

/-- One temperature sensor's conversion (R398, R399): the reading in 0.25 degree steps, and its self-check. -/
structure SensorReading where
  temp : Int
  selfCheck : Bool
  deriving DecidableEq, Repr

/-- What a calibration item measured (R400, R401). -/
inductive CalMeasure where
  | deskew (targets : List (Option Nat))
  | dac (sparesX sparesY : Nat) (limited : Bool)
  | interpolator (latPs ppsPs ptpPs : Nat)
  | adc (ch0 ch1 : Int)
  | failed
  deriving DecidableEq, Repr

/-- Eyespot's readings of one beam (R408): the signals at gray 0 and at the largest gray code (16.16 ADC counts), and the
edge crossings less nominal in 1/64 px, where an edge was found. -/
structure EyeReading where
  sig0 : Nat
  sigMax : Nat
  dx : Option Int
  dy : Option Int
  deriving DecidableEq, Repr

/-- Who asks the HBM controller for a word (R300). -/
inductive Requester where
  | ingest | staging | bins | cache | grid | residue | band | ledger | report | tables | tableLoad
  deriving DecidableEq, Repr

/-- The page hint of a request (R300). -/
inductive PageHint where | openRow | closeRow
  deriving DecidableEq, Repr

/-- What a strong decode finds beside its page's data: whether the read-back of a corrected word gives its error again (R316), and
the upsets of the page's words of check symbols since they were last read (R311). -/
structure DecodeRun where
  hard : Bool
  checks : List (Fin 32 × BitVec 72)
  deriving DecidableEq, Repr

/-- The taps of the read delay, then of the write delay, at which every burst passed (R303): tap i in bit i. -/
structure EyeScan where
  read : BitVec 64
  write : BitVec 64
  deriving DecidableEq, Repr

/-- A byte lane in a sweep (R303): its own scan, those of its eight DQ where it is tested bit by bit, and its scan once the failing
ones are steered onto repair lanes. -/
structure LaneScan where
  lane : EyeScan
  dqs : List EyeScan
  again : EyeScan
  deriving DecidableEq, Repr

/-- What a sweep measured of one pseudo-channel's five byte lanes (R303). -/
structure SweepPc where
  pc : Nat
  lanes : List LaneScan
  deriving DecidableEq, Repr

/-- The commands (spec/opcode_table.json), in the table's order. -/
inductive Instr where
  | nop
  | tableLoad (payload : HostRead)
  | stripeBegin
  | stripeResume
  | stripeAbort
  | stripeEnd
  | ledgerRead
  | counterSnapshot
  | calRun
  | beamCheck
  | switchBack (lanePass : Bool)
  | axisMove
  | axisStop
  | layout (ring : Fin 8)
  | unknownOpcode (ring : Fin 9)
  | xk2Layout
  | stripeStart
  | stripeStop
  | xk2TableLoad (payload : HostRead)
  | xk2BeamCheck
  | auxMove
  | auxStop
  | xk2UnknownOp
  | submissionDoorbell (ring : Fin 9) (v : Word)
  | completionHeadDoorbell (ring : Fin 5) (v : Word)
  | xk2RingTail (v : Word)
  | xk2CplHeadWrite (v : Word)
  | descriptorFetch (ring : Fin 10) (desc : HostRead) (buf : HostRead)
  | completionWrite (ring : Fin 5)
  | ringCtlWrite (ring : Fin 14) (v : Word)
  | softReset (v : Word)
  | xk2SoftReset (v : Word)
  | glbCtlLockWrite (v : Word)
  | irqCauseClear (v : Word)
  | irqMaskWrite (v : Word)
  | enterIdle (v : Word)
  | enterChrysalis (v : Word)
  | timStepRequest (v : Word)
  | timAccept (v : Word)
  | timRateWrite (v : Word)
  | timNowLatch (console : Bool)
  | timCapArm (v : Word)
  | looperSwap (v : Word)
  | groupRetrain (g : Fin 16) (v : Word)
  | l2Request (g : Fin 16) (v : Word)
  | groupMaxRateWrite (g : Fin 16) (v : Word)
  | prbsGenEnable (g : Fin 16) (slot : Fin 11) (v : Word)
  | prbsCheckerEnable (g : Fin 16) (slot : Fin 11) (v : Word)
  | injOne (g : Fin 16) (slot : Fin 11) (v : Word)
  | hbmSweepRequest (v : Word)
  | hbmRateRequest (v : Word)
  | flipArm (v : Word)
  | counterClear (v : Word)
  | counterFreeze (v : Word)
  | counterChainWrite (i : Fin 3) (v : Word)
  | pmcRdLatch (console : Bool)
  | deviceIdWrite (v : Word)
  | wfStart (c : Fin 8) (v : Word)
  | wfData (c : Fin 8) (w : WfWidth) (v : Word)
  | wfValAccess (c : Fin 8) (a : WfAccess)
  | snoopAccumStart (u : Fin 22) (v : Word)
  | xk2EqDataWrite (v : Word)
  | xk2LinkRetrain (v : Word)
  | xk2xRecRead
  | consoleWrite (off : Nat) (v : Word)
  | registerWrite (off : Nat) (v : Word)
  | bar0BadAccess (write : Bool)
  | coldReset (cause : ColdCause) (modesel : Bool)
  | warmReset (cause : WarmCause)
  | pcieHotReset
  | flr
  | brownout
  | vkeepLoss
  | cocoonEntry
  | wake (src : WakeSource)
  | cocoonAlarm
  | instarAdvance (fwMajor fwMinor : BitVec 8) (fwImage : Option Bool) (speed width : Nat) (badPcs : List Nat)
  | plChange
  | estopAssert (channelB : Bool)
  | estopRelease
  | estopDiscrepancy
  | ackPress
  | doorOpen
  | doorClose
  | keyChange (on : Bool)
  | serviceCableIn
  | serviceCableOut
  | stageSample (lane : Fin 3) (word : BitVec 80) (tau : Nat) (lockstep : Lockstep)
  | stagePortFault (lane : Fin 3)
  | stageLaneLockLost (lane : Fin 3)
  | setPointWord (pos vel acc : Int)
  | frameLaunch (notReady : List (Fin 128)) (slip : Nat) (fixedWords : Nat) (badWords : List (List (Nat × Nat)))
  | lostVisitSweep
  | tickOverrun
  | abortTick
  | runComplete
  | skipperEvaluate
  | stripeReadyToStart
  | stageAtRest (pos : Int)
  | readyTimeout
  | deferredRetrain (g : Fin 16)
  | ticksyncTickMessage (bytes : List Byte) (arrival : Nat)
  | ticksyncRunMessage (bytes : List Byte) (arrival : Nat)
  | ticksyncMissing
  | ticksyncReturnMissing
  | looperDisengage
  | looperSwapTimeout
  | implausible
  | looperSelfCheckDone (activePass standbyPass : Bool)
  | tilePlace (slice : Fin 5) (engine : Fin 16)
  | planeDone (slice : Fin 5) (engine : Fin 16) (body : PlaneBody)
  | selfmisLimitReached (slice : Fin 5)
  | engineWatchdog (slice : Fin 5) (engine : Fin 16)
  | fenceLimitExceeded (slice : Fin 5)
  | engineClockGate (slice : Fin 5) (engine : Fin 16)
  | binBandExpand (slice : Fin 5) (band : Nat)
  | tileCommit (sector : Fin 4)
  | bypassRateReport (slice : Fin 5) (rate : Nat)
  | shadowCompare (crcs : List PlaneCrc)
  | thirdOpinion (crcs : List PlaneCrc)
  | spareLimitReached
  | sliceSelfTestDone (slice : Fin 5) (agreed : Bool) (fenced : Bool)
  | ftcBlockDecode (ch : Fin 8)
  | flxRecord (ch : Fin 8)
  | prepassDone (ch : Fin 8)
  | dcuGridStart
  | dcuGridDone (cycles : Nat)
  | statusNak (g : Fin 16) (m : LinkMsg)
  | nakLimitReached (lane : Fin 128)
  | statusAlive (g : Fin 16) (m : LinkMsg)
  | statusReady (g : Fin 16) (m : LinkMsg)
  | statusSpareReady (g : Fin 16) (m : LinkMsg)
  | statusLaneDown (g : Fin 16) (m : LinkMsg)
  | statusHot (g : Fin 16) (m : LinkMsg)
  | tempMessage (g : Fin 16) (m : LinkMsg)
  | tempTimeout (g : Fin 16)
  | reservedLinkMessage (g : Fin 16) (m : LinkMsg)
  | returnLaneLoss (g : Fin 16) (m : LinkMsg)
  | returnLaneSilence (g : Fin 16)
  | transmitterFault (g : Fin 16) (slot : Fin 9)
  | spareSwitch (g : Fin 16)
  | spareReadyTimeout (g : Fin 16)
  | groupStart (g : Fin 16)
  | caps (g : Fin 16) (m : LinkMsg)
  | capsTimeout (g : Fin 16)
  | tapReq (g : Fin 16) (m : LinkMsg)
  | alignTimeout (g : Fin 16)
  | groupRateRaise (g : Fin 16)
  | eqTimeout (g : Fin 16)
  | prbsResult (g : Fin 16) (m : LinkMsg)
  | verifyTimeout (g : Fin 16)
  | xk2VerifyDone (g : Fin 16)
  | spareStale (g : Fin 16)
  | l1Entry (g : Fin 16) (slot : Fin 8)
  | l1Exit (g : Fin 16) (slot : Fin 8)
  | l2ExitTimeout (g : Fin 16)
  | calDeskewStep (g : Fin 16)
  | sensorSample (readings : Vector SensorReading 12)
  | calItemStart (item : Fin 4)
  | calItemDone (item : Fin 4) (m : CalMeasure)
  | beamCheckDone (readings : List EyeReading)
  | hbmRead (who : Requester) (hint : PageHint) (addr : Nat) (upset : BitVec 72) (hard : Bool)
  | strongDecodeDone (run : DecodeRun)
  | hbmWrite (who : Requester) (hint : PageHint) (addr : Nat) (data : List Byte)
  | caParityAlert (ch : Fin 32)
  | channelFail (ch : Fin 32)
  | hbmSweep
  | hbmSweepDone (results : List SweepPc)
  | rowRefresh (pc : Fin 64)
  | ptpSync (stampSec stampNs : Nat) (originSec originNs : Nat) (correctionNs : Int) (usable : Bool) (servoRate : Option Int)
  | ptpAnnounce (grandmaster : Nat) (best : Bool)
  | ptpDelayReqSend (seq : BitVec 16) (stamp : Nat)
  | ptpDelayResp (seq : BitVec 16) (rxStamp : Nat) (correctionNs : Int)
  | ptpAnnounceTimeout
  | ptpSyncTimeout
  | ethBlockLockLost
  | ppsEdge (stamp : Nat)
  | ppsAbsent
  | heldStepApply
  | tickInEdge (stamp : Nat)
  | auxStep (axis : Fin 4)
  | auxWakeExpiry (axis : Fin 4)
  | auxIholdTimeout (axis : Fin 4)
  | counterCapture
  | msixHoldoffExpiry (ring : Fin 5)
  | runMessageRepeat
  | prbsCheckerLock (g : Fin 16) (slot : Fin 11)
  | prbsCheckerLockLost (g : Fin 16) (slot : Fin 11)
  | caAlertClear (ch : Fin 32)
  | flrComplete
  | cocoonDomainPowerUp
  | looperEngineCheckDone (pass : Bool)
  deriving DecidableEq, Repr

end Sys2Proof
end

