-- ==== Sys2Proof/Machine/Crc.lean ====
section
/-! DEFINITION. The check values of R452, and the CRC-8 of R245. A reflected check takes each byte least significant bit
first, any other most significant bit first; a seed word enters first, as 8 bytes, least significant first. -/
namespace Sys2Proof.Machine

/-- One bit into a reflected register, whose polynomial is written bit-reversed. -/
def crcReflBit {w : Nat} (poly r : BitVec w) (bit : Bool) : BitVec w :=
  if (r.getLsbD 0 ^^ bit) then (r >>> 1) ^^^ poly else r >>> 1

/-- One bit into a register that shifts toward its top. -/
def crcFwdBit {w : Nat} (poly r : BitVec w) (bit : Bool) : BitVec w :=
  if (r.getMsbD 0 ^^ bit) then (r <<< 1) ^^^ poly else r <<< 1

/-- One byte, least significant bit first. -/
def crcReflByte {w : Nat} (poly r : BitVec w) (b : Byte) : BitVec w :=
  [0, 1, 2, 3, 4, 5, 6, 7].foldl (fun r i => crcReflBit poly r (b.getLsbD i)) r

/-- One byte, most significant bit first. -/
def crcFwdByte {w : Nat} (poly r : BitVec w) (b : Byte) : BitVec w :=
  [7, 6, 5, 4, 3, 2, 1, 0].foldl (fun r i => crcFwdBit poly r (b.getLsbD i)) r

/-- The running value of check `code` (R452) after a byte: 0 CRC-32C, 1 CRC-32, 2 CRC-16-CCITT, 3 CRC-64. -/
def crcStep (code : Nat) (r : BitVec 64) (b : Byte) : BitVec 64 :=
  if code = 0 then (crcReflByte (0x82F63B78 : BitVec 32) (r.setWidth 32) b).setWidth 64
  else if code = 1 then (crcReflByte (0xEDB88320 : BitVec 32) (r.setWidth 32) b).setWidth 64
  else if code = 2 then (crcFwdByte (0x1021 : BitVec 16) (r.setWidth 16) b).setWidth 64
  else crcFwdByte (0x42F0E1EBA9EA3693 : BitVec 64) r b

/-- Init of R452. -/
def crcInit (code : Nat) : BitVec 64 :=
  if code = 0 ∨ code = 1 then 0xFFFFFFFF else if code = 2 then 0xFFFF else 0

/-- XorOut of R452. -/
def crcXorOut (code : Nat) : BitVec 64 := if code = 0 ∨ code = 1 then 0xFFFFFFFF else 0

/-- The running value after a byte list. -/
def crcRun (code : Nat) (r : BitVec 64) (bs : List Byte) : BitVec 64 := bs.foldl (crcStep code) r

/-- The running value after Init and a seed word (R452). -/
def crcSeeded (code : Nat) (seed : Nat) : BitVec 64 := crcRun code (crcInit code) (leBytes 8 seed)

/-- CRC-32C of bytes behind a 64-bit seed word (R61, R100, R110, R197). -/
def crc32cSeeded (seed : Nat) (bs : List Byte) : Nat :=
  (crcRun 0 (crcSeeded 0 seed) bs ^^^ crcXorOut 0).toNat

/-- CRC-32C, unseeded. -/
def crc32c (bs : List Byte) : Nat := (crcRun 0 (crcInit 0) bs ^^^ crcXorOut 0).toNat

/-- CRC-32 (IEEE 802.3), unseeded, of a version 1 package (R90). -/
def crc32 (bs : List Byte) : Nat := (crcRun 1 (crcInit 1) bs ^^^ crcXorOut 1).toNat

/-- CRC-16-CCITT of a link message (R208). -/
def crc16 (bs : List Byte) : Nat := (crcRun 2 (crcInit 2) bs).toNat

/-- CRC-8 of sample words, set-point words and TICKSYNC messages (R245). -/
def crc8 (bs : List Byte) : BitVec 8 := bs.foldl (crcFwdByte (0x07 : BitVec 8)) 0

end Sys2Proof.Machine
end

