-- ==== Sys2Proof/Machine/Frame.lean ====
section
/-! DEFINITION. Muash frames and link messages as bytes (R193 to R197, R203, R208), and the 8b/10b-free content of the
set-point, sample and TICKSYNC words (R245, R249, R261). -/
namespace Sys2Proof.Machine

/-- The FLAGS of a frame header (R195). -/
structure FrameFlags where
  blank : Bool := false
  gap : Bool := false
  veto : Bool := false
  spare : Bool := false
  repair : Bool := false
  endRun : Bool := false
  announce : Bool := false
  deriving DecidableEq, Repr

/-- The FLAGS byte (R195). -/
def FrameFlags.toNat (f : FrameFlags) : Nat :=
  b2n f.blank + 2 * b2n f.gap + 4 * b2n f.veto + 8 * b2n f.spare + 16 * b2n f.repair + 32 * b2n f.endRun
    + 64 * b2n f.announce

/-- A frame header (R194). -/
def frameHeader (tick stripe lane : Nat) (fl : FrameFlags) : List Byte :=
  leBytes 4 tick ++ leBytes 2 stripe ++ leBytes 1 lane ++ leBytes 1 fl.toNat

/-- The frame seed word (R197). -/
def frameSeed (tick sid device lane : Nat) : Nat :=
  tick % 2 ^ 32 * 2 ^ 32 + (sid ^^^ (device * 2 ^ 21) ^^^ (lane * 2 ^ 14)) % 2 ^ 32

/-- The SID a mode folds in (R197, R219). -/
def frameSid (native : Bool) (stripe : Nat) : Nat := if native then stripe else stripe % 2 ^ 16

/-- A frame between SOF and EOF: header, payload, check value (R193, R197). -/
def frameBody (native : Bool) (device tick stripe lane : Nat) (fl : FrameFlags) (payload : List Byte) : List Byte :=
  let body := frameHeader tick stripe lane fl ++ payload
  body ++ leBytes 4 (crc32cSeeded (frameSeed tick (frameSid native stripe) device lane) body)

/-- The payload of 2,048 gray codes by beam index (R196). -/
def grayPayload (native : Bool) (grays : List Nat) : List Byte :=
  let w := if native then 6 else 4
  let s := (grays.foldr (fun g acc => g % 2 ^ w + 2 ^ w * acc) 0)
  leBytes (if native then 1536 else 1024) s

/-- A link message's 16 bytes (R208): type, sequence, body of 12 bytes, CRC-16. -/
def linkMessage (type seq : Nat) (body : List Byte) : List Byte :=
  let b := leBytes 1 type ++ leBytes 1 seq ++ (body ++ List.replicate 12 0).take 12
  b ++ leBytes 2 (crc16 b)

/-- A received message whose framing, length and CRC-16 are good (R208, R213). -/
def linkCrcGood (bytes : List Byte) (padOk : Bool) : Bool :=
  padOk && bytes.length == 16 && leAt bytes 14 2 == crc16 (bytes.take 14)

/-- An ANNOUNCE payload (R203). -/
def announcePayload (stripe device kind index first last k p delay len np : Nat) : List Byte :=
  leBytes 4 stripe ++ leBytes 2 device ++ leBytes 1 kind ++ leBytes 1 index ++ leBytes 4 first ++ leBytes 4 last
    ++ leBytes 1 k ++ leBytes 1 p ++ [6, 0] ++ leBytes 2 delay ++ leBytes 2 len ++ leBytes 2 np
    ++ List.replicate 6 0

/-- The bytes of a word, most significant first. -/
def beBytes (n v : Nat) : List Byte := (leBytes n v).reverse

/-- A sample word's SYNC and CRC are right (R245). -/
def sampleGood (w : BitVec 80) : Bool :=
  bits w.toNat 72 8 == 0xB8 && crc8 (beBytes 8 (bits w.toNat 8 64)) == BitVec.ofNat 8 w.toNat

/-- A set-point word (R249). -/
def setPointBits (seq : Nat) (pos vel acc : Int) (active emergency hold : Bool) : BitVec 144 :=
  let body := seq % 256 * 2 ^ 120 + unsignedOf 48 pos * 2 ^ 72 + unsignedOf 32 vel * 2 ^ 40 + unsignedOf 24 acc * 2 ^ 16
    + (b2n active + 2 * b2n emergency + 4 * b2n hold) * 2 ^ 8
  BitVec.ofNat 144 (0xB8 * 2 ^ 136 + body * 2 ^ 8 + (crc8 (beBytes 16 body)).toNat)

/-- A TICKSYNC message's 17 bytes from its first 16 (R261). -/
def ticksyncBytes (b : List Byte) : List Byte := b ++ [crc8 b]

/-- A TICKSYNC message with a good CRC-8 (R261). -/
def ticksyncGood (b : List Byte) : Bool := b.length == 17 && crc8 (b.take 16) == b.getD 16 0

end Sys2Proof.Machine
end

