-- ==== Sys2Proof/Machine/Geometry.lean ====
section
/-! DEFINITION. Figures in the stripe frame: orientations and their composition (R72, R73), exact area inside a rectangle
(R86, R121, R125), and the inclusion rule of R120. -/
namespace Sys2Proof.Machine

/-- A point in DBU. -/
abbrev Pt := Int × Int

/-- A placement transform: (u, v) lands at (a·u + b·v + x, c·u + d·v + y). -/
structure Xform where
  a : Int
  b : Int
  c : Int
  d : Int
  x : Int
  y : Int
  deriving DecidableEq, Repr

/-- The identity placement of the root cell. -/
def Xform.id : Xform := ⟨1, 0, 0, 1, 0, 0⟩

/-- The map R of an orientation (R72), placed at (x, y). -/
def Xform.place (orient : Nat) (x y : Int) : Xform :=
  match orient with
  | 0 => ⟨1, 0, 0, 1, x, y⟩
  | 1 => ⟨0, -1, 1, 0, x, y⟩
  | 2 => ⟨-1, 0, 0, -1, x, y⟩
  | 3 => ⟨0, 1, -1, 0, x, y⟩
  | 4 => ⟨-1, 0, 0, 1, x, y⟩
  | 5 => ⟨0, -1, -1, 0, x, y⟩
  | 6 => ⟨1, 0, 0, -1, x, y⟩
  | _ => ⟨0, 1, 1, 0, x, y⟩

/-- The image of a point. -/
def Xform.app (t : Xform) (p : Pt) : Pt := (t.a * p.1 + t.b * p.2 + t.x, t.c * p.1 + t.d * p.2 + t.y)

/-- `s` after `t`: the placing cell's transform applied to a placement in it (R73). -/
def Xform.comp (s t : Xform) : Xform :=
  ⟨s.a * t.a + s.b * t.c, s.a * t.b + s.b * t.d, s.c * t.a + s.d * t.c, s.c * t.b + s.d * t.d,
   s.a * t.x + s.b * t.y + s.x, s.c * t.x + s.d * t.y + s.y⟩

/-- A bounding box: least and greatest coordinates (R77). -/
structure Box where
  x0 : Int
  y0 : Int
  x1 : Int
  y1 : Int
  deriving DecidableEq, Repr

/-- The smallest box that holds both. -/
def Box.join (p q : Box) : Box := ⟨min p.x0 q.x0, min p.y0 q.y0, max p.x1 q.x1, max p.y1 q.y1⟩

/-- Join with a box that may be absent. -/
def Box.joinOpt (p : Option Box) (q : Box) : Box :=
  match p with
  | none => q
  | some p => p.join q

/-- The box of a point list. -/
def Box.ofPts : List Pt → Option Box
  | [] => none
  | p :: ps => some (ps.foldl (fun b q => b.join ⟨q.1, q.2, q.1, q.2⟩) ⟨p.1, p.2, p.1, p.2⟩)

/-- The image of a box under a transform, again a box. -/
def Box.image (t : Xform) (b : Box) : Box :=
  let p := t.app (b.x0, b.y0)
  let q := t.app (b.x1, b.y1)
  ⟨min p.1 q.1, min p.2 q.2, max p.1 q.1, max p.2 q.2⟩

/-- Two boxes share an area of positive size. -/
def Box.meets (p q : Box) : Bool :=
  decide (max p.x0 q.x0 < min p.x1 q.x1) && decide (max p.y0 q.y0 < min p.y1 q.y1)

/-- A convex polygon with rational vertices. -/
abbrev Poly := List (Rat × Rat)

/-- The point where the segment p q meets the line n·z = c, for p and q on opposite sides. -/
def cutPoint (nx ny c : Rat) (p q : Rat × Rat) : Rat × Rat :=
  let u := nx * p.1 + ny * p.2 - c
  let v := nx * q.1 + ny * q.2 - c
  let t := u / (u - v)
  (p.1 + t * (q.1 - p.1), p.2 + t * (q.2 - p.2))

/-- The vertices of one edge's contribution when clipping to n·z ≤ c. -/
def clipEdge (nx ny c : Rat) (p q : Rat × Rat) : Poly :=
  let pin := decide (nx * p.1 + ny * p.2 ≤ c)
  let qin := decide (nx * q.1 + ny * q.2 ≤ c)
  match pin, qin with
  | true, true => [q]
  | true, false => [cutPoint nx ny c p q]
  | false, true => [cutPoint nx ny c p q, q]
  | false, false => []

/-- A convex polygon clipped to the half-plane n·z ≤ c. -/
def clipHalf (nx ny c : Rat) (ps : Poly) : Poly :=
  match ps with
  | [] => []
  | p :: rest => (List.zip ps (rest ++ [p])).flatMap fun (u, v) => clipEdge nx ny c u v

/-- A polygon clipped to a box. -/
def clipBox (b : Box) (ps : Poly) : Poly :=
  clipHalf (-1) 0 (-(b.x0 : Rat)) (clipHalf 1 0 b.x1 (clipHalf 0 (-1) (-(b.y0 : Rat)) (clipHalf 0 1 b.y1 ps)))

/-- Twice the signed area of a polygon. -/
def twiceArea (ps : Poly) : Rat :=
  match ps with
  | [] => 0
  | p :: rest => ((List.zip ps (rest ++ [p])).map fun (u, v) => u.1 * v.2 - v.1 * u.2).sum

/-- The exact area of a figure inside a box (R86, R121). -/
def areaIn (verts : List Pt) (b : Box) : Rat :=
  let a := twiceArea (clipBox b (verts.map fun p => ((p.1 : Rat), (p.2 : Rat))))
  (if a < 0 then -a else a) / 2

/-- Whether (u, v), scaled by 2, plus (ε, ε²) lies strictly left of the edge p q, for every small ε > 0. -/
def leftOf (p q : Pt) (u2 v2 : Int) : Bool :=
  let ex := q.1 - p.1
  let ey := q.2 - p.2
  let s := ex * (v2 - 2 * p.2) - ey * (u2 - 2 * p.1)
  if s ≠ 0 then decide (0 < s) else if ey ≠ 0 then decide (ey < 0) else decide (0 < ex)

/-- The inclusion rule of R120, for a point given at twice its coordinates, in a figure that is a convex polygon. -/
def inFigure (verts : List Pt) (u2 v2 : Int) : Bool :=
  let ps := if 0 ≤ twiceArea (verts.map fun p => ((p.1 : Rat), (p.2 : Rat))) then verts else verts.reverse
  match ps with
  | [] => false
  | p :: rest => (List.zip ps (rest ++ [p])).all fun (u, v) => u == v || leftOf u v u2 v2

end Sys2Proof.Machine
end

