-- ==== Sys2Proof/Machine/Status.lean ====
section
/-! DEFINITION. Completion status codes (R348), used by the stream checks and the rings. -/
namespace Sys2Proof.Machine

/-- Completion status codes (R348). -/
inductive Status where
  | ok | badOpcode | badLength | badAddress | notInMode
  | ftcIllegalCode | ftcDistBeyondHistory | ftcLenOverrun | ftcTruncated | ftcCheckMismatch | ftcNoGain
  | flxBadRecord | flxDepthExceeded | flxCoordRange | tileOverload
  | stripeAborted | tickOverrun | looperImplausible | estop | axisLimit
  | linkTrainFail | linkNoSpare | blankerHot
  | memUncorrectable | memPoisoned | memTrainFail
  | sliceFailed | ledgerOverflow | wrongPixels | stuckOnUnwritable
  deriving DecidableEq, Repr

/-- The code of a status (R348). -/
def Status.code : Status → Nat
  | .ok => 0x00 | .badOpcode => 0x01 | .badLength => 0x02 | .badAddress => 0x03 | .notInMode => 0x05
  | .ftcIllegalCode => 0x40 | .ftcDistBeyondHistory => 0x41 | .ftcLenOverrun => 0x42 | .ftcTruncated => 0x43
  | .ftcCheckMismatch => 0x44 | .ftcNoGain => 0x45
  | .flxBadRecord => 0x48 | .flxDepthExceeded => 0x49 | .flxCoordRange => 0x4A | .tileOverload => 0x60
  | .stripeAborted => 0x80 | .tickOverrun => 0x81 | .looperImplausible => 0x82 | .estop => 0x83 | .axisLimit => 0x84
  | .linkTrainFail => 0xA0 | .linkNoSpare => 0xA1 | .blankerHot => 0xA2
  | .memUncorrectable => 0xC0 | .memPoisoned => 0xC1 | .memTrainFail => 0xC2
  | .sliceFailed => 0xE0 | .ledgerOverflow => 0xE1 | .wrongPixels => 0xE2 | .stuckOnUnwritable => 0xE3

/-- The rank of an abort cause among causes of one core cycle (R336); the lower rank decides. -/
def Status.abortRank : Status → Nat
  | .estop => 0 | .blankerHot => 1 | .looperImplausible => 2 | .memUncorrectable => 3 | .memTrainFail => 4
  | .linkTrainFail => 5 | .linkNoSpare => 6 | .sliceFailed => 7 | .tickOverrun => 8 | _ => 9

end Sys2Proof.Machine
end

