-- ==== Sys2Proof/Machine/Flx.lean ====
section
/-! DEFINITION. The FLX layout stream: records, their checks in byte order, cells, and hierarchy expansion
(R51 to R91). -/
namespace Sys2Proof.Machine

/-- An FLX refusal (R87): status, error offset in the package, and the tile of ST_TILE_OVERLOAD. -/
structure FlxErr where
  status : Status
  offset : Nat
  tile : Nat
  deriving DecidableEq, Repr

/-- A dose class (R63). -/
structure DoseClass where
  factor : Nat
  noPec : Bool
  noDensity : Bool
  deriving DecidableEq, Repr

/-- What a cell holds, with the package offset of its record (R68 to R75). -/
inductive Item where
  | figure (cls : Nat) (verts : List Pt) (off : Nat)
  | aref (cell orient : Nat) (x y : Int) (nx ny : Nat) (dx dy : Int) (off : Nat)
  deriving DecidableEq, Repr

/-- A cell definition: items in record order, depth and bounding box (R65, R76, R77). -/
structure CellDef where
  id : Nat
  items : List Item
  depth : Nat
  bbox : Option Box
  deriving DecidableEq, Repr

/-- Where the parser stands in the record order of R56. -/
inductive FlxPhase where | start | table | guard | maps | cells | inCell | done
  deriving DecidableEq, Repr

/-- What the parser holds of a package (R51 to R81). -/
structure Flx where
  phase : FlxPhase
  version : Nat
  np : Nat
  stripe : Nat
  len : Nat
  cellCount : Nat
  root : Nat
  pkgBytes : Nat
  classes : List DoseClass
  gw : Nat
  context : Nat
  guardOff : Nat
  /-- coarse rows of FOG_MAP and LOAD_MAP: row and its 32 factors -/
  fog : List (Nat × List Nat)
  load : List (Nat × List Nat)
  firstMap : Option Nat
  /-- closed cells, newest first; the cell being defined -/
  cells : List CellDef
  cur : Option CellDef
  lastCell : Option (Nat × Nat)
  records : Nat
  /-- running CRC of the bytes so far, and the last four bytes held back from it -/
  offset : Nat
  deriving DecidableEq, Repr

/-- Before the first record. -/
def Flx.empty : Flx :=
  ⟨.start, 0, 0, 0, 0, 0, 0, 0, [], 0, 0xFFFFFFFF, 0, [], [], none, [], none, none, 0, 0⟩

/-- A check on a record: offset reported, bytes of the record it needs, whether it holds, the status it gives. -/
structure RecCheck where
  at_ : Nat
  need : Nat
  good : Bool
  status : Status
  deriving DecidableEq, Repr

/-- A zero-byte check for each byte in a range (R54). -/
def zeros (b : List Byte) (lo hi : Nat) : List RecCheck :=
  (List.range (hi - lo)).map fun i => ⟨lo + i, lo + i + 1, byteAt b (lo + i) == 0, .flxBadRecord⟩

/-- A check that gives ST_FLX_BAD_RECORD. -/
def bad (at_ need : Nat) (good : Bool) : RecCheck := ⟨at_, need, good, .flxBadRecord⟩

/-- The coarse rows of a stripe, ⌈L/128⌉. -/
def coarseRows (len : Nat) : Nat := (len + 127) / 128

/-- The bounds on L of R19 for a pitch. -/
def lengthOk (len np : Nat) : Bool := decide (1 ≤ len ∧ len ≤ 33554432 ∧ len * np ≤ 1600000000)

/-- What the parser is told from outside a package (R51, R52, R82). -/
structure FlxEnv where
  native : Bool
  fx632 : Bool
  /-- stripe ids of packages staged and not released -/
  staged : List Nat
  /-- the id its descriptors name -/
  named : Nat

/-- The signed 32-bit field at an offset. -/
def s32 (b : List Byte) (o : Nat) : Int := signed 32 (leAt b o 4)

/-- A closed cell by its id. -/
def Flx.cell (f : Flx) (id : Nat) : Option CellDef := f.cells.find? fun c => c.id == id

/-- Whether a cell id is defined, closed or not. -/
def Flx.defined (f : Flx) (id : Nat) : Bool :=
  (f.cells.any fun c => c.id == id) || (f.cur.any fun c => c.id == id)

/-- Whether a record type may stand at the parser's place (R56). -/
def typeAllowed (f : Flx) (ty : Nat) : Bool :=
  match f.phase with
  | .start => ty == 1
  | .table => ty == 2
  | .guard => ty == 5
  | .maps => ty == 3 || (f.version == 2 && (ty == 6 || ty == 7))
  | .cells => ty == 3 || ty == 0x0F
  | .inCell => ty == 4 || ty == 0x10 || ty == 0x11 || ty == 0x12 || ty == 0x13
  | .done => false

/-- The record length of a type in 8-byte units (R55), from its count where it has one. -/
def recLen (ty : Nat) (b : List Byte) : Nat :=
  match ty with
  | 1 => 4 | 2 => 2 + (leAt b 8 2 + 1) / 2 | 3 => 2 | 4 => 1 | 5 => 2 | 6 => 2 + 8 * leAt b 12 4
  | 7 => 2 + 8 * leAt b 12 4 | 0x0F => 2 | 0x10 => 4 | 0x11 => 5 | 0x12 => 3 | _ => 5

/-- The four corner instance boxes of an array of a cell's box (R77). -/
def cornerBoxes (bb : Box) (orient : Nat) (x y : Int) (nx ny : Nat) (dx dy : Int) : List Box :=
  let at_ (i j : Int) := Box.image (Xform.place orient (x + i * dx) (y + j * dy)) bb
  [at_ 0 0, at_ (nx - 1) 0, at_ 0 (ny - 1), at_ (nx - 1) (ny - 1)]

/-- A box whose coordinates are signed 32-bit values (R77). -/
def Box.in32 (b : Box) : Bool :=
  decide (-2147483648 ≤ b.x0 ∧ -2147483648 ≤ b.y0 ∧ b.x1 ≤ 2147483647 ∧ b.y1 ≤ 2147483647)

/-- The depth limit (R76, R90). -/
def depthLimit (version : Nat) : Nat := if version = 1 then 2 else 16

/-- The checks PLACE and AREF share on the cell they name: closed (R67) and depth (R76). -/
def refChecks (f : Flx) (b : List Byte) : List RecCheck :=
  let c := f.cell (leAt b 8 4)
  [bad 8 12 c.isSome,
   ⟨8, 12, match c with | none => true | some c => decide (c.depth + 1 ≤ depthLimit f.version), .flxDepthExceeded⟩,
   bad 12 13 (decide (byteAt b 12 < (if f.version = 1 then 4 else 8)))]

/-- The coordinate check of PLACE and AREF (R77), reported at byte 16 once the record's position fields are there. -/
def coordCheck (f : Flx) (b : List Byte) (need nx ny : Nat) (dx dy : Int) : RecCheck :=
  ⟨16, need, nx = 0 || ny = 0 || match f.cell (leAt b 8 4) with
    | some ⟨_, _, _, some bb⟩ => (cornerBoxes bb (byteAt b 12) (s32 b 16) (s32 b 20) nx ny dx dy).all Box.in32
    | _ => true, .flxCoordRange⟩

/-- The body checks of a record, in byte order of what they report (R57 to R81, R90). -/
def bodyChecks (env : FlxEnv) (f : Flx) (ty : Nat) (b : List Byte) : List RecCheck :=
  match ty with
  | 1 =>
    let v := leAt b 8 2
    let np := leAt b 10 2
    [⟨8, 10, if v = 1 ∨ v = 2 then (v == 2) == env.native else true, .notInMode⟩, bad 8 10 (v == 1 || v == 2),
     bad 10 12 (if v = 1 then np == 80 else decide (40 ≤ np ∧ np ≤ 160)),
     ⟨12, 16, !(env.staged.contains (leAt b 12 4)) && leAt b 12 4 == env.named, .badAddress⟩,
     bad 16 20 (lengthOk (leAt b 16 4) np),
     bad 20 24 (decide (1 ≤ leAt b 20 4 ∧ leAt b 20 4 ≤ (if v = 1 then 65536 else 1048576)))]
  | 2 =>
    let n := leAt b 8 2
    zeros b 10 16 ++ (List.range n).flatMap (fun i =>
      [bad (18 + 4 * i) (19 + 4 * i) (decide (byteAt b (18 + 4 * i) < (if f.version = 1 then 1 else 4)))]
        ++ zeros b (19 + 4 * i) (20 + 4 * i)) ++ zeros b (16 + 4 * n) (8 * recLen 2 b)
  | 3 => [bad 8 12 (decide (leAt b 8 4 < f.cellCount) && !f.defined (leAt b 8 4))] ++ zeros b 12 16
  | 4 => []
  | 5 => [bad 8 9 (decide (byteAt b 8 ≤ 32))] ++ zeros b 9 12
  | 0x0F => []
  | 0x10 =>
    [bad 8 9 (decide (byteAt b 8 < f.classes.length))] ++ zeros b 9 12
      ++ [bad 12 24 (decide (s32 b 12 < s32 b 20)), bad 16 28 (decide (s32 b 16 < s32 b 24))] ++ zeros b 28 32
  | 0x11 =>
    [bad 8 9 (decide (byteAt b 8 < f.classes.length))] ++ zeros b 9 12
      ++ [bad 12 20 (decide (s32 b 12 < s32 b 16)), bad 20 28 (decide (s32 b 20 ≤ s32 b 24)),
          bad 20 36 (!(s32 b 20 == s32 b 24 && s32 b 28 == s32 b 32)),
          bad 28 36 (decide (s32 b 28 ≤ s32 b 32))] ++ zeros b 36 40
  | 0x12 => refChecks f b ++ zeros b 13 16 ++ [coordCheck f b 24 1 1 0 0]
  | 0x13 =>
    let nx := leAt b 24 2
    let ny := leAt b 26 2
    let cap := if f.version = 1 then 4096 else 65535
    refChecks f b ++ zeros b 13 16
      ++ [coordCheck f b 36 nx ny (s32 b 28) (s32 b 32),
          bad 24 26 (decide (1 ≤ nx ∧ nx ≤ cap)), bad 26 28 (decide (1 ≤ ny ∧ ny ≤ cap)),
          bad 28 32 (!(s32 b 28 == 0 && decide (1 < nx))), bad 32 36 (!(s32 b 32 == 0 && decide (1 < ny)))] ++ zeros b 36 40
  | _ =>
    let row0 := leAt b 8 4
    let nr := leAt b 12 4
    let had := if ty = 6 then f.fog else f.load
    [⟨8, 16, decide (row0 + nr ≤ coarseRows f.len), .flxCoordRange⟩,
     bad 8 16 (!(had.any fun r => decide (row0 ≤ r.1 ∧ r.1 < row0 + nr)))]

/-- Every check of a record, in the order in which the parser judges them (R55, R56, R88). -/
def recChecks (env : FlxEnv) (f : Flx) (b : List Byte) : List RecCheck :=
  let ty := byteAt b 0
  let known := ty == 1 || ty == 2 || ty == 3 || ty == 4 || ty == 5 || ty == 6 || ty == 7 || ty == 0x0F
    || ty == 0x10 || ty == 0x11 || ty == 0x12 || ty == 0x13
  let counted := ty == 2 || ty == 6 || ty == 7
  let count := if ty = 2 then [bad 8 10 (decide (1 ≤ leAt b 8 2 ∧ leAt b 8 2 ≤ 256))]
    else if ty = 6 ∨ ty = 7 then [bad 12 16 (decide (1 ≤ leAt b 12 4 ∧ leAt b 12 4 ≤ 8191))] else []
  [bad 0 1 (known && typeAllowed f ty), ⟨0, 1, !(env.fx632 && (ty == 6 || ty == 7)), .notInMode⟩, bad 1 2 (byteAt b 1 == 0)] ++ count
    ++ [bad 2 (if ty = 2 then 10 else if counted then 16 else 4) (leAt b 2 2 == recLen ty b)] ++ zeros b 4 8
    ++ bodyChecks env f ty b

/-- The first check that fails, once its bytes and those of every check before it have arrived: where a buffer ends carries no
meaning (R51, R88). -/
def firstBad (cs : List RecCheck) (avail : Nat) : Option RecCheck :=
  (cs.takeWhile fun c => decide (c.need ≤ avail)).find? fun c => !c.good

/-- A BOX's vertices. -/
def boxVerts (b : List Byte) : List Pt :=
  [(s32 b 12, s32 b 16), (s32 b 20, s32 b 16), (s32 b 20, s32 b 24), (s32 b 12, s32 b 24)]

/-- A TRAP's vertices (R69). -/
def trapVerts (b : List Byte) : List Pt :=
  [(s32 b 20, s32 b 12), (s32 b 24, s32 b 12), (s32 b 32, s32 b 16), (s32 b 28, s32 b 16)]

/-- Add a figure to the cell being defined. -/
def CellDef.addFigure (c : CellDef) (cls : Nat) (verts : List Pt) (off : Nat) : CellDef :=
  { c with items := c.items ++ [.figure cls verts off]
           bbox := match Box.ofPts verts with | some b => some (Box.joinOpt c.bbox b) | none => c.bbox }

/-- Add an array of a closed cell to the cell being defined (R76, R77). -/
def CellDef.addRef (c : CellDef) (ref : Option CellDef) (i : Item) (boxes : Box → List Box) : CellDef :=
  match ref with
  | none => c
  | some r =>
    { c with items := c.items ++ [i], depth := max c.depth (r.depth + 1)
             bbox := match r.bbox with
               | none => c.bbox
               | some bb => (boxes bb).foldl (fun acc b => some (Box.joinOpt acc b)) c.bbox }

/-- The parser's state after an accepted record that is not PKG_END. -/
def Flx.take (f : Flx) (b : List Byte) : Flx :=
  let ty := byteAt b 0
  let off := f.offset
  let g := { f with records := f.records + 1, offset := f.offset + 8 * leAt b 2 2 }
  match ty with
  | 1 => { g with phase := .table, version := leAt b 8 2, np := leAt b 10 2, stripe := leAt b 12 4, len := leAt b 16 4,
                  cellCount := leAt b 20 4, root := leAt b 24 4, pkgBytes := leAt b 28 4 }
  | 2 => { g with phase := if f.version = 2 then .guard else .maps
                  classes := (List.range (leAt b 8 2)).map fun i =>
                    ⟨leAt b (16 + 4 * i) 2, bitOf (byteAt b (18 + 4 * i)) 0, bitOf (byteAt b (18 + 4 * i)) 1⟩ }
  | 3 => { g with phase := .inCell, cur := some ⟨leAt b 8 4, [], 1, none⟩, lastCell := some (leAt b 8 4, off) }
  | 4 => { g with phase := .cells, cur := none, cells := (match f.cur with | some c => c :: f.cells | none => f.cells) }
  | 5 => { g with phase := .maps, gw := byteAt b 8, context := leAt b 12 4, guardOff := off }
  | 0x10 => { g with cur := f.cur.map fun c => c.addFigure (byteAt b 8) (boxVerts b) off }
  | 0x11 => { g with cur := f.cur.map fun c => c.addFigure (byteAt b 8) (trapVerts b) off }
  | 0x12 =>
    let i := Item.aref (leAt b 8 4) (byteAt b 12) (s32 b 16) (s32 b 20) 1 1 0 0 off
    { g with cur := f.cur.map fun c => c.addRef (f.cell (leAt b 8 4)) i fun bb =>
        cornerBoxes bb (byteAt b 12) (s32 b 16) (s32 b 20) 1 1 0 0 }
  | 0x13 =>
    let nx := leAt b 24 2
    let ny := leAt b 26 2
    let i := Item.aref (leAt b 8 4) (byteAt b 12) (s32 b 16) (s32 b 20) nx ny (s32 b 28) (s32 b 32) off
    { g with cur := f.cur.map fun c => c.addRef (f.cell (leAt b 8 4)) i fun bb =>
        cornerBoxes bb (byteAt b 12) (s32 b 16) (s32 b 20) nx ny (s32 b 28) (s32 b 32) }
  | _ =>
    let rows := (List.range (leAt b 12 4)).map fun m =>
      (leAt b 8 4 + m, (List.range 32).map fun i => leAt b (16 + 64 * m + 2 * i) 2)
    if ty = 6 then { g with fog := f.fog ++ rows, firstMap := f.firstMap.or (some off) }
    else { g with load := f.load ++ rows, firstMap := f.firstMap.or (some off) }

/-- The package check value over everything but its own four bytes (R61, R90). -/
def pkgCheck (f : Flx) (whole : List Byte) : Nat :=
  let data := whole.take (whole.length - 4)
  if f.version = 1 then crc32 data else crc32cSeeded (f.stripe * 2 ^ 32 + f.pkgBytes) data

/-- The checks at PKG_END, in order (R62, R66, R79, R91). `whole` is every byte of the package up to here. -/
def pkgEndErr (f : Flx) (b whole : List Byte) : Option FlxErr :=
  let fail (good : Bool) (off : Nat) : Option FlxErr := if good then none else some ⟨.flxBadRecord, off, 0⟩
  (fail (match f.lastCell with | some (id, _) => id == f.root | none => false)
      ((match f.lastCell with | some (_, o) => o | none => 0) + 8)).orElse fun _ =>
  (fail (f.version == 1 || f.context == 0xFFFFFFFF || ((f.cell f.context).isSome && f.context != f.root))
      (f.guardOff + 12)).orElse fun _ =>
  (fail (f.offset + 16 == f.pkgBytes) 28).orElse fun _ =>
  (fail (f.cells.length == f.cellCount) 20).orElse fun _ =>
  (fail (f.version == 1 || leAt b 8 4 == f.records + 1) (f.offset + 8)).orElse fun _ =>
  fail (leAt b 12 4 == pkgCheck f whole) (f.offset + 12)

/-- What the parser does with the bytes at its place: wait for more, refuse, or go on past one record. -/
inductive FlxStep where
  | wait
  | refuse (e : FlxErr)
  | next (f : Flx) (used : Nat)
  deriving DecidableEq, Repr

/-- Take one record from the bytes at the parser's place (R55, R88). -/
def flxStep (env : FlxEnv) (f : Flx) (avail whole : List Byte) : FlxStep :=
  match firstBad (recChecks env f avail) avail.length with
  | some c => .refuse ⟨c.status, f.offset + c.at_, 0⟩
  | none =>
    let n := 8 * leAt avail 2 2
    if avail.length < 8 ∨ avail.length < n then .wait
    else
      let b := avail.take n
      if byteAt b 0 = 0x0F then
        match pkgEndErr f b (whole.take (f.offset + n)) with
        | some e => .refuse e
        | none => .next { f with phase := .done, records := f.records + 1, offset := f.offset + n } n
      else .next (f.take b) n

/-- A figure in the stripe frame (R73, R119): class, vertices, and its record's offset. -/
structure Fig where
  cls : Nat
  verts : List Pt
  off : Nat
  deriving DecidableEq, Repr

/-- Every instance (i, j) of an array, i fastest (R75). -/
def arefInstances (nx ny : Nat) : List (Nat × Nat) :=
  (List.range ny).flatMap fun j => (List.range nx).map fun i => (i, j)

/-- Expand a cell, depth first in record order (R73, R75, R86); `fuel` is the depth left, at most 16. -/
def expandCell (f : Flx) : Nat → Nat → Xform → List Fig
  | 0, _, _ => []
  | fuel + 1, id, t =>
    match f.cell id with
    | none => []
    | some c => c.items.flatMap fun it =>
      match it with
      | .figure cls verts off => [⟨cls, verts.map t.app, off⟩]
      | .aref cell orient x y nx ny dx dy _ =>
        (arefInstances nx ny).flatMap fun (i, j) =>
          expandCell f fuel cell (t.comp (Xform.place orient (x + i * dx) (y + j * dy)))

/-- The figures the root reaches. -/
def Flx.figures (f : Flx) : List Fig := expandCell f 16 f.root Xform.id

/-- The figures of the context cell as if placed at the origin (R79). -/
def Flx.contextFigures (f : Flx) : List Fig :=
  if f.context = 0xFFFFFFFF then [] else expandCell f 16 f.context Xform.id

end Sys2Proof.Machine
end

