-- ==== Sys2Proof/Machine/SMap.lean ====
section
/-! DEFINITION. Sparse tables as plain data: a list of (key, value) pairs with strictly rising keys, no entry equal to
the value an unlisted key reads as. Register fields, HBM words, beam tables and residues are held in this form. -/
namespace Sys2Proof.Machine

/-- A sparse table. -/
abbrev SMap (β : Type) := List (Nat × β)

/-- The value at `k`: the listed one, else the default `d k`. -/
def SMap.get {β : Type} (d : Nat → β) (m : SMap β) (k : Nat) : β :=
  match m with
  | [] => d k
  | (a, v) :: t => if a = k then v else SMap.get d t k

/-- `m` without an entry of `k`. -/
def SMap.erase {β : Type} (m : SMap β) (k : Nat) : SMap β := m.filter fun e => e.1 != k

/-- `m` with `(k, v)` put at its place among rising keys. -/
def SMap.put {β : Type} (m : SMap β) (k : Nat) (v : β) : SMap β :=
  match m with
  | [] => [(k, v)]
  | (a, w) :: t =>
    if k < a then (k, v) :: (a, w) :: t
    else if a = k then (k, v) :: t
    else (a, w) :: SMap.put t k v

/-- Write `v` at `k`; writing the default removes the entry, so equal tables are equal data. -/
def SMap.set {β : Type} [DecidableEq β] (d : Nat → β) (m : SMap β) (k : Nat) (v : β) : SMap β :=
  if v = d k then SMap.erase m k else SMap.put m k v

/-- Keys rise strictly from above `lo`, and no entry holds its default. -/
def SMap.wfFrom {β : Type} [DecidableEq β] (d : Nat → β) (lo : Option Nat) : SMap β → Bool
  | [] => true
  | (a, v) :: t =>
    (match lo with | none => true | some l => decide (l < a)) && decide (v ≠ d a) && SMap.wfFrom d (some a) t

/-- The canonical form. -/
def SMap.wf {β : Type} [DecidableEq β] (d : Nat → β) (m : SMap β) : Bool := SMap.wfFrom d none m

/-- The table with every entry failing `keep` returned to its default. -/
def SMap.restrict {β : Type} (keep : Nat → Bool) (m : SMap β) : SMap β := m.filter fun e => keep e.1

/-- The table with every listed value changed; one that becomes the default leaves it. -/
def SMap.mapValues {β : Type} [DecidableEq β] (d : Nat → β) (f : β → β) (m : SMap β) : SMap β :=
  (m.map fun e => (e.1, f e.2)).filter fun e => decide (e.2 ≠ d e.1)

end Sys2Proof.Machine
end

