-- ==== Sys2Proof/Machine/Raster.lean ====
section
/-! DEFINITION. Tiles, class sets, exact coverage, bins and the density pre-pass (R86, R115 to R126). -/
namespace Sys2Proof.Machine

/-- The key of tile (column, row): ascending row, then column. -/
def tileKey (col row : Nat) : Nat := 16 * row + col

/-- Tile rows of a stripe (R115). -/
def tileRows (len : Nat) : Nat := (len + 255) / 256

/-- The box of a pixel rectangle in DBU, limited to the stripe rectangle of R70. -/
def stripeBox (np len x0 y0 w h : Nat) : Box :=
  ⟨x0 * np, y0 * np, min (x0 + w) 4096 * np, min (y0 + h) len * np⟩

/-- The part of a tile inside the stripe (R86). -/
def tileBox (np len col row : Nat) : Box := stripeBox np len (256 * col) (256 * row) 256 256

/-- The tiles whose box a figure's bounding box meets, in ascending row then column. -/
def figTiles (np len : Nat) (verts : List Pt) : List (Nat × Nat) :=
  match Box.ofPts verts with
  | none => []
  | some b =>
    let lo (v : Int) := (v / (256 * np : Nat)).toNat
    let hiC := min (lo b.x1) 15
    let hiR := min (lo b.y1) (tileRows len - 1)
    (List.range (hiR + 1 - lo b.y0)).flatMap fun j => (List.range (hiC + 1 - lo b.x0)).map fun i =>
      (lo b.x0 + i, lo b.y0 + j)

/-- The tiles in whose stripe part a figure has area of positive size (R86, R117). -/
def figAreaTiles (np len : Nat) (verts : List Pt) : List (Nat × Nat) :=
  (figTiles np len verts).filter fun (c, r) => decide (0 < areaIn verts (tileBox np len c r))

/-- Insert into an ascending list without repeats. -/
def insertAsc (x : Nat) : List Nat → List Nat
  | [] => [x]
  | y :: ys => if x < y then x :: y :: ys else if x = y then y :: ys else y :: insertAsc x ys

/-- One figure into the class sets; the first tile, if any, whose set it makes five (R86). -/
def addToSets (np len : Nat) (sets : SMap (List Nat)) (f : Fig) : SMap (List Nat) × Option Nat :=
  (figAreaTiles np len f.verts).foldl (fun (acc : SMap (List Nat) × Option Nat) (t : Nat × Nat) =>
    let k := tileKey t.1 t.2
    let new := insertAsc f.cls (SMap.get (fun _ => []) acc.1 k)
    (SMap.set (fun _ => []) acc.1 k new, if new.length = 5 ∧ acc.2 = none then some k else acc.2)) (sets, none)

/-- The class sets of every tile, or the overload that refuses the package (R86). -/
def classSets (np len : Nat) : List Fig → SMap (List Nat) → Except FlxErr (SMap (List Nat))
  | [], sets => .ok sets
  | f :: fs, sets =>
    match addToSets np len sets f with
    | (_, some k) => .error ⟨.tileOverload, f.off + 8, k⟩
    | (s, none) => classSets np len fs s

/-- The class set of a tile: its slots are the list positions (R116). -/
def setOf (sets : SMap (List Nat)) (col row : Nat) : List Nat := SMap.get (fun _ => []) sets (tileKey col row)

/-- The figures of a class in a tile's bin (R117). -/
def binOf (np len : Nat) (figs : List Fig) (col row cls : Nat) : List Fig :=
  figs.filter fun f => f.cls == cls && decide (0 < areaIn f.verts (tileBox np len col row))

/-- The coverage byte of a pixel from the figures of one class in its tile's bin (R121, R122). -/
def coverage (np len : Nat) (bin : List Fig) (x y : Nat) : Nat :=
  if len ≤ y then 0
  else
    let box := stripeBox np len x y 1 1
    let a := min ((bin.map fun f => areaIn f.verts box).sum) ((np * np : Nat) : Rat)
    let q := 255 * a / ((np * np : Nat) : Rat)
    let fl := q.floor.toNat
    let frac := q - (fl : Rat)
    if frac < 1 / 2 then fl
    else if 1 / 2 < frac then fl + 1
    else if bin.any fun f => inFigure f.verts (2 * x * np + np) (2 * y * np + np) then fl + 1 else fl

/-- A coverage plane: byte 256·(Y mod 256) + (X mod 256) (R116). -/
def coveragePlane (np len : Nat) (bin : List Fig) (col row : Nat) : List Byte :=
  (List.range 65536).map fun i => BitVec.ofNat 8 (coverage np len bin (256 * col + i % 256) (256 * row + i / 256))

/-- Density in Q8.24 from the exact sum of area times factor (R125). -/
def densityOf (np : Nat) (sum : Rat) : Nat :=
  let v := sum * (2 ^ 24 : Nat) / ((8192 * (128 * np) * (128 * np) : Nat) : Rat)
  min (v + 1 / 2).floor.toNat 0xFFFFFFFF

/-- Coarse cell (i, j) as a box. -/
def coarseBox (np : Nat) (i j : Int) : Box :=
  ⟨128 * i * np, 128 * j * np, 128 * (i + 1) * np, 128 * (j + 1) * np⟩

/-- The sum of area times factor of figures in a box, without NO_DENSITY classes (R125). -/
def weighted (classes : List DoseClass) (figs : List Fig) (b : Box) : Rat :=
  (figs.map fun f => match classes[f.cls]? with
    | some c => if c.noDensity then 0 else areaIn f.verts b * (c.factor : Rat)
    | none => 0).sum

/-- The density of coarse cell (i, j) (R79, R125): the root's figures over the whole cell, the context's outside the
stripe. -/
def density (f : Flx) (root context : List Fig) (i j : Int) : Nat :=
  let box := coarseBox f.np i j
  let ctx := weighted f.classes context box
  let inside := weighted f.classes context
    ⟨max box.x0 0, max box.y0 0, min box.x1 (4096 * f.np : Nat), min box.y1 (f.len * f.np : Nat)⟩
  let meetsStripe := box.meets ⟨0, 0, (4096 * f.np : Nat), (f.len * f.np : Nat)⟩
  densityOf f.np (weighted f.classes root box + (ctx - if meetsStripe then inside else 0))

/-- First coarse column and how many of them slice i's expander takes in the pre-pass: columns 8i to 8i + 7, slice 0 also the
guard columns below 0 and slice 3 those above 31 (R124). -/
def prepassColumns (gw i : Nat) : Int × Nat :=
  ((8 * i : Nat) - (if i = 0 then (gw : Int) else 0), 8 + (if i = 0 then gw else 0) + if i = 3 then gw else 0)

/-- One row of the map as slice i's expander finds it (R124). -/
def sliceDensity (f : Flx) (root context : List Fig) (j : Int) (i : Nat) : List Nat :=
  (List.range (prepassColumns f.gw i).2).map fun (n : Nat) => density f root context ((prepassColumns f.gw i).1 + n) j

/-- The density map over the stripe and its guard ring, row by row from (−gw, −gw), the four slices' columns side by side (R124,
R145). -/
def densityMap (f : Flx) : List (List Nat) :=
  let root := f.figures
  let context := f.contextFigures
  (List.range (coarseRows f.len + 2 * f.gw)).map fun (j : Nat) =>
    (List.range 4).flatMap (sliceDensity f root context ((j : Int) - f.gw))

/-- The longest an engine takes over a plane, in core cycles (R126), from its figure and sloped-pixel counts. -/
def planeCycles (figures slopedPixels : Nat) : Nat := 16384 + slopedPixels + 2 * figures

end Sys2Proof.Machine
end

