-- ==== Sys2Proof/Machine/Dcu.lean ====
section
/-! DEFINITION. The dose-correction unit: kernel tables, the Jacobi iteration, map factors and the pixel interpolator
(R144 to R157). -/
namespace Sys2Proof.Machine

/-- Nearest integer to n / d, ties up (R150). -/
def rnd (n d : Nat) : Nat := (2 * n + d) / (2 * d)

/-- Limit to 0xFFFF_FFFF. -/
def sat32 (v : Nat) : Nat := min v 0xFFFFFFFF

/-- A kernel slot (R146). -/
structure Kernel where
  ng : Nat
  nIt : Nat
  radius : Nat
  etas : List Nat
  taps : List (List Nat)
  deriving DecidableEq, Repr

/-- The first payload byte at fault in a DCU_KERNEL table (R147), none for a good one. -/
def kernelBad (b : List Byte) : Option Nat :=
  let ng := byteAt b 0
  let r := byteAt b 2
  let checks : List (Nat × Bool) :=
    [(0, decide (1 ≤ ng ∧ ng ≤ 3)), (1, decide (1 ≤ byteAt b 1 ∧ byteAt b 1 ≤ 16)), (2, decide (1 ≤ r ∧ r ≤ 32)),
     (3, byteAt b 3 == 0)]
    ++ (List.range 3).map (fun g => (4 + 2 * g, decide (g < ng) || leAt b (4 + 2 * g) 2 == 0))
    ++ (List.range 6).map (fun i => (10 + i, byteAt b (10 + i) == 0))
    ++ (List.range 3).flatMap (fun g => (List.range 33).flatMap fun d =>
        let o := 16 + 132 * g + 4 * d
        [(o, (decide (g < ng) && decide (d ≤ r)) || leAt b o 3 == 0), (o + 3, byteAt b (o + 3) == 0)])
  (checks.find? fun c => !c.2).map (·.1)

/-- A kernel from its payload. -/
def kernelOf (b : List Byte) : Kernel :=
  ⟨byteAt b 0, byteAt b 1, byteAt b 2, (List.range 3).map fun g => leAt b (4 + 2 * g) 2,
   (List.range 3).map fun g => (List.range 33).map fun d => leAt b (16 + 132 * g + 4 * d) 3⟩

/-- A grid held row by row. -/
abbrev Grid := List (List Nat)

/-- The value at column i, row j, 0 outside the grid (R145). -/
def gridAt (g : Grid) (i j : Int) : Nat :=
  if i < 0 ∨ j < 0 then 0 else (g.getD j.toNat []).getD i.toNat 0

/-- A grid of the same shape from a function of column and row. -/
def gridMap (cols rows : Nat) (f : Int → Int → Nat) : Grid :=
  (List.range rows).map fun j => (List.range cols).map fun i => f i j

/-- One 1-D pass of Gaussian taps (R150), before saturation. -/
def tapSum (taps : List Nat) (r : Nat) (at_ : Int → Nat) : Nat :=
  rnd (((List.range (2 * r + 1)).map fun d => taps.getD ((d : Int) - r).natAbs 0 * at_ ((d : Int) - r)).sum) (2 ^ 23)

/-- The unlimited values of one cell of an iteration, so that saturation shows (R151). -/
structure CellStep where
  raw : List Nat
  f : Nat

/-- One Jacobi iteration (R150): the next factors and, per cell, whether any step saturated. -/
def dcuIterate (k : Kernel) (cols rows : Nat) (rho f : Grid) : Grid × List (List Bool) :=
  let tooBig (v : Nat) : Bool := decide (0xFFFFFFFF < v)
  let sRaw := gridMap cols rows fun i j => rnd (gridAt rho i j * gridAt f i j) (2 ^ 24)
  let s := sRaw.map (·.map sat32)
  let gs := (List.range k.ng).map fun g =>
    let t := k.taps.getD g []
    let aRaw := gridMap cols rows fun i j => tapSum t k.radius fun d => gridAt s (i + d) j
    let a := aRaw.map (·.map sat32)
    let bRaw := gridMap cols rows fun i j => tapSum t k.radius fun d => gridAt a i (j + d)
    (aRaw, bRaw, bRaw.map (·.map sat32), k.etas.getD g 0)
  let eRaw := gridMap cols rows fun i j => rnd ((gs.map fun (_, _, b, eta) => eta * gridAt b i j).sum) (2 ^ 14)
  let h := ((List.range k.ng).map fun g => k.etas.getD g 0).sum
  let fRaw := gridMap cols rows fun i j => rnd ((8192 + h) * 2 ^ 34) (2 ^ 23 + sat32 (gridAt eRaw i j))
  (fRaw.map (·.map sat32),
   (List.range rows).map fun j => (List.range cols).map fun i =>
     tooBig (gridAt sRaw i j) || tooBig (gridAt eRaw i j) || tooBig (gridAt fRaw i j)
       || gs.any fun (a, b, _, _) => tooBig (gridAt a i j) || tooBig (gridAt b i j))

/-- `n` iterations: the last factors, the factors before them, and the last iteration's saturations. -/
def dcuRun (k : Kernel) (cols rows : Nat) (rho : Grid) : Nat → Grid × Grid × List (List Bool)
  | 0 => (gridMap cols rows fun _ _ => 0x01000000, gridMap cols rows fun _ _ => 0x01000000, [])
  | n + 1 =>
    let (f, _, _) := dcuRun k cols rows rho n
    let (fn, sat) := dcuIterate k cols rows rho f
    (fn, f, sat)

/-- The largest step of the last iteration (R151). -/
def largestStep (f g : Grid) : Nat :=
  (List.zipWith (fun a b => (List.zipWith (fun u v => (max u v) - (min u v)) a b).foldl max 0) f g).foldl max 0

/-- A map factor as R81 supplies it: 1.0 for a row no record carries. -/
def mapFactor (m : List (Nat × List Nat)) (i j : Nat) : Nat :=
  match m.find? fun r => r.1 == j with
  | some (_, fs) => fs.getD i 0x4000
  | none => 0x4000

/-- The map factor G of a cell (R152), with a guard cell taking the nearest stripe cell's. -/
def mapG (f : Flx) (i j : Int) : Nat :=
  let ci := (max 0 (min 31 i)).toNat
  let cj := (max 0 (min ((coarseRows f.len : Int) - 1) j)).toNat
  rnd (mapFactor f.fog ci cj * mapFactor f.load ci cj) (2 ^ 4)

/-- A computed grid (R160): proximity factors, saturated cells, largest step. -/
structure DcuGrid where
  p : Grid
  cols : Nat
  rows : Nat
  sat : Nat
  step : Nat
  deriving DecidableEq, Repr

/-- The grid of a package under a kernel (R145, R150, R151). -/
def dcuGrid (k : Kernel) (f : Flx) (rho : Grid) : DcuGrid :=
  let cols := 32 + 2 * f.gw
  let rows := coarseRows f.len + 2 * f.gw
  let (p, prev, sat) := dcuRun k cols rows rho k.nIt
  ⟨p, cols, rows, (sat.map fun r => r.countP id).sum, largestStep p prev⟩

/-- The pixel interpolator on one coarse quantity (R153). -/
def interpolate (at_ : Int → Int → Nat) (x y : Nat) : Nat :=
  let ux : Int := 2 * x - 127
  let uy : Int := 2 * y - 127
  let i0 := ux / 256
  let j0 := uy / 256
  let ax := (ux - 256 * i0).toNat
  let ay := (uy - 256 * j0).toNat
  rnd ((256 - ax) * (256 - ay) * at_ i0 j0 + ax * (256 - ay) * at_ (i0 + 1) j0
    + (256 - ax) * ay * at_ i0 (j0 + 1) + ax * ay * at_ (i0 + 1) (j0 + 1)) (2 ^ 16)

/-- The two correction factors of a pixel (R153): with and without the proximity factor. -/
def pixelFactors (f : Flx) (g : DcuGrid) (x y : Nat) : Nat × Nat :=
  let gpx := interpolate (mapG f) x y
  let ppx := interpolate (fun i j => gridAt g.p (i + f.gw) (j + f.gw)) x y
  (sat32 (rnd (ppx * gpx) (2 ^ 24)), gpx)

/-- The target of a pixel before its clamp (R154, R156), from its tile's classes with their coverages. -/
def targetSum (f : Flx) (g : Option DcuGrid) (covs : List (Nat × Nat)) (x y : Nat) : Nat :=
  let ks := match g with
    | some g => pixelFactors f g x y
    | none => (0x01000000, 0x01000000)
  (covs.map fun (cls, cov) => match f.classes[cls]? with
    | some c => cov * c.factor * (if c.noPec then ks.2 else ks.1)
    | none => 0).sum

/-- The target before the clamp of R154. -/
def targetRaw (s : Nat) : Nat := (s + 255 * 2 ^ 23) / (255 * 2 ^ 24)

/-- The most whole core cycles a grid takes: the bound of R159, which need not be an integer. -/
def gridCycles (k : Kernel) (cells : Nat) : Nat := cells * (k.nIt * 2 * k.ng * (k.radius + 1)) / 128 + 2 * cells

end Sys2Proof.Machine
end

