-- ==== Sys2Proof/Machine/Dose.lean ====
section
/-! DEFINITION. Write geometry and dose arithmetic: beams, ticks and visits (R18 to R36), the beam table, visit sets and
plans, visit targets, shares and grays (R163 to R177, R184). -/
namespace Sys2Proof.Machine

/-- Nominal X offset of beam (r, c), px (R20). -/
def beamX (r c : Nat) : Nat := 8 * c + r % 8

/-- Nominal Y offset of row r, px (R20). -/
def beamY (r : Nat) : Nat := 8 * r + r / 8 % 8

/-- Multiplicity per pass (R23). -/
def multiplicity (k : Nat) : Nat := 64 / k

/-- The pass offset (ox, oy) in 1/64 px (R24). -/
def passOffset (p j : Nat) : Nat × Nat :=
  if p = 2 then (if j = 1 then (32, 32) else (0, 0))
  else if p = 4 then (match j with | 1 => (32, 32) | 2 => (32, 0) | 3 => (0, 32) | _ => (0, 0))
  else (0, 0)

/-- The last tick of a pass (R26). -/
def lastTickOfPass (len k : Nat) : Nat := (len + 4094 + k - 1) / k

/-- Ticks per pass, N (R26). -/
def ticksPerPass (len k : Nat) : Nat := lastTickOfPass len k + 1

/-- The stripe row a beam of row r visits at tick t of its pass (R22). -/
def visitY (k t r : Nat) : Int := (k * t : Nat) - (beamY r : Int)

/-- A stripe's share of a band pixel's target (R29): band index i of B, left or right band. -/
def bandShare (left : Bool) (b i t : Nat) : Nat :=
  if left then ((2 * i + 1) * t + b) / (2 * b) else ((2 * b - 2 * i - 1) * t + b) / (2 * b)

/-- States of a beam (R166). -/
inductive BeamState where | ok | weak | dead | stuckOn
  deriving DecidableEq, Repr

/-- A beam table entry (R166). -/
structure Beam where
  gain : Nat
  dx : Int
  dy : Int
  state : BeamState
  stuckQ : Nat
  deriving DecidableEq, Repr

/-- What an unlisted entry of a sparse beam table reads as: a beam of gain 1.0, on its nominal place, OK. -/
def Beam.plain : Beam := ⟨0x4000, 0, 0, .ok, 0⟩

/-- A beam's state code. -/
def BeamState.ofCode (n : Nat) : BeamState :=
  match n % 4 with | 0 => .ok | 1 => .weak | 2 => .dead | _ => .stuckOn

/-- The code of a state. -/
def BeamState.code : BeamState → Nat | .ok => 0 | .weak => 1 | .dead => 2 | .stuckOn => 3

/-- A beam from its 8 bytes (R166). -/
def Beam.ofBytes (b : List Byte) : Beam :=
  ⟨leAt b 0 2, signed 16 (leAt b 2 2), signed 16 (leAt b 4 2), BeamState.ofCode (byteAt b 6), byteAt b 7⟩

/-- A beam's 8 bytes. -/
def Beam.bytes (b : Beam) : List Byte :=
  leBytes 2 b.gain ++ leBytes 2 (unsignedOf 16 b.dx) ++ leBytes 2 (unsignedOf 16 b.dy) ++ leBytes 1 b.state.code
    ++ leBytes 1 b.stuckQ

/-- The first byte at fault in an entry of a BEAM_TABLE payload (R167). -/
def beamBad (b : List Byte) : Option Nat :=
  let e := Beam.ofBytes b
  ([(0, e.state == .dead || decide (0x100 ≤ e.gain)), (2, decide (-512 ≤ e.dx ∧ e.dx ≤ 512)),
    (4, decide (-512 ≤ e.dy ∧ e.dy ≤ 512)), (6, decide (byteAt b 6 < 4)),
    (7, e.state == .stuckOn || e.stuckQ == 0)].find? fun c => !c.2).map (·.1)

/-- The dose of a visit with gray g at raw gain A, RU (R164). -/
def doseOf (g a : Nat) : Nat := (g * a + 256) / 512

/-- The dose of one visit of a stuck beam, RU (R170). -/
def stuckDose (b : Beam) : Nat := (b.stuckQ * b.gain + 1024) / 2048

/-- The wrong threshold θ (R165). -/
def wrongThreshold (native : Bool) : Nat := if native then 9 else 17

/-- The largest gray code (R33, R173). -/
def grayMax (native : Bool) : Nat := if native then 63 else 15

/-- A stripe's tables as the plan needs them. -/
structure Tables where
  beam : Nat → Nat → Beam
  defect : Nat → Nat → Bool

/-- A beam is live (R170). -/
def Tables.live (t : Tables) (r c : Nat) : Bool :=
  !t.defect r c && ((t.beam r c).state == .ok || (t.beam r c).state == .weak)

/-- A beam delivers in every window: STUCK_ON, unless its defect bit makes it DEAD (R168, R176). -/
def Tables.stuck (t : Tables) (r c : Nat) : Bool := !t.defect r c && (t.beam r c).state == .stuckOn

/-- The values of q of a visit set, ascending (R170). -/
def setQs (k q0 : Nat) : List Nat := (List.range 64).filter fun q => q % k == q0 % k

/-- The gains of the live visits of one pass, ascending q. -/
def liveGains (t : Tables) (k c s q0 : Nat) : List Nat :=
  ((setQs k q0).filter fun q => t.live (8 * q + s) c).map fun q => (t.beam (8 * q + s) c).gain

/-- D_s of a set (R170). -/
def stuckSum (t : Tables) (k p c s q0 : Nat) : Nat :=
  p * (((setQs k q0).filter fun q => t.stuck (8 * q + s) c).map fun q => stuckDose (t.beam (8 * q + s) c)).sum

/-- The weight W_n before and after the live visit of row q in pass j, and the total W (R170). -/
def visitWeights (t : Tables) (k p c s q0 j q : Nat) : Nat × Nat × Nat :=
  let pass := (liveGains t k c s q0).sum
  let before := (((setQs k q0).filter fun q' => decide (q' < q) && t.live (8 * q' + s) c).map
    fun q' => (t.beam (8 * q' + s) c).gain).sum
  (j * pass + before, j * pass + before + (t.beam (8 * q + s) c).gain, p * pass)

/-- The row of a set's closing visit (R170): its highest q. -/
def closingQ (k q0 : Nat) : Nat := 64 - k + q0 % k

/-- A set whose closing visit is not a live beam within the limit of R175. -/
def untrimmed (t : Tables) (native : Bool) (k c s q0 : Nat) : Bool :=
  let r := 8 * closingQ k q0 + s
  !(t.live r c && decide ((t.beam r c).gain ≤ if native then 0x2200 else 0x4200))

/-- Every visit set (c, s, q0) (R170). -/
def visitSets (k : Nat) : List (Nat × Nat × Nat) :=
  (List.range 512).flatMap fun c => (List.range 8).flatMap fun s => (List.range k).map fun q => (c, s, q)

/-- The visit target T_v (R171): `dose` reads the window after clamping. -/
def visitTarget (dose : Nat → Nat → Nat) (len k t : Nat) (x y : Nat) (dx dy : Int) (ox oy : Nat) : Nat :=
  let lo : Int := max 0 ((k * t : Nat) - 4095)
  let hi : Int := min ((len : Int) - 1) (k * t : Nat)
  let d (i j : Int) : Int := dose (clampInt 0 4095 i).toNat (clampInt lo hi j).toNat
  let ux : Int := 64 * x + dx + ox
  let uy : Int := 64 * y + dy + oy
  let i0 := ux / 64
  let fx := ux - 64 * i0
  let j0 := uy / 64
  let fy := uy - 64 * j0
  (((64 - fx) * (64 - fy) * d i0 j0 + fx * (64 - fy) * d (i0 + 1) j0 + (64 - fx) * fy * d i0 (j0 + 1)
    + fx * fy * d (i0 + 1) (j0 + 1) + 2048) / 4096).toNat

/-- X_n of a live visit (R172): `v` is V in native mode. -/
def visitDose (native : Bool) (v tv ds : Nat) : Int :=
  if native then ((tv * v / 8 : Nat) : Int) - ds else (((15 * tv + 2) / 4 : Nat) : Int) - ds

/-- The share of a live visit (R172), floors toward −∞. -/
def visitShare (w0 w1 w : Nat) (xn : Int) : Int := (w1 * xn) / (w : Int) - (w0 * xn) / (w : Int)

/-- The gray that minimises |x − d(g)|, the lower on a tie (R173). -/
def bestGray (gmax a : Nat) (x : Int) : Nat :=
  (List.range (gmax + 1)).foldl (fun best g =>
    if (x - doseOf g a).natAbs < (x - doseOf best a).natAbs then g else best) 0

/-- The dose a repair visit asks for (R184). -/
def repairAsk (rem : Int) (a wrem : Nat) : Int := (2 * rem * a + wrem) / (2 * wrem : Nat)

end Sys2Proof.Machine
end

