-- ==== Sys2Proof/Config.lean ====
section
/-! DEFINITION. What an implementation fixes and the manual leaves open: opaque constants with no body, so that no proof
can see a value of them. A statement that mentions one holds whatever it is. -/
namespace Sys2Proof

/-- A reserved bit of BAR0 as it reads (R12: the host must not rely on it): by offset and draw number. Free value, log 6. -/
opaque Config.reservedBits : Nat → Nat → BitVec 32

/-- Whether a quotient that is no integer is taken up rather than down, where the manual states the quotient and not its
rounding: by draw number. Free value, log 8. -/
opaque Config.roundUp : Nat → Bool

/-- The residue byte of a pixel whose residue word was lost (R300): by draw number and pixel. Free value, log 9. -/
opaque Config.lostResidue : Nat → Nat → BitVec 8

/-- The first and last tick, k, P and n_p that Eyespot's own ANNOUNCE carries (R408 gives its RUN_KIND and STRIPE_ID only):
by draw number and field. Free value, log 10. -/
opaque Config.eyespotRun : Nat → Nat → Nat

/-- What the light code makes of a word whose syndrome the manual does not determine (R310: three or more errors, or errors
in a poisoned word): 0 clean, 1 uncorrectable, 2 the poison syndrome, else the bit it corrects. Free value, log 12. -/
opaque Config.lightCode : Bool → BitVec 72 → Nat

/-- The bank of a PC in which a local page lies (R298). Free value, log 12. -/
opaque Config.hbmBank : Nat → Nat

/-- A row-disturb register after a draw of RD_N bits (R307). Free value, log 12. -/
opaque Config.hbmLfsr : Nat → BitVec 32 → BitVec 32

/-- Where in a region of R297 an address lies: which package, stripe, record or byte it belongs to, by draw number and
question. Free value, log 12. -/
opaque Config.hbmWhere : Nat → Nat → Nat

/-- Where in staging the package of a stripe id lies (R297 gives the region only). Free value, log 12. -/
opaque Config.stagingBase : Nat → Nat

/-- Core cycles lost to a change of performance level (R443, R445), by draw number. Free value, log 15. -/
opaque Config.switchCycles : Nat → Nat

/-- Whether the grid in progress goes on to its next iteration in a cycle (R159 bounds the whole grid only), by draw number. Free
value, log 40. -/
opaque Config.gridIterates : Nat → Bool

/-- Slots of a beam engine that wait in a cycle (R190, R451), by draw number and engine, 16 more for waits on a full buffer. Free value,
log 40. -/
opaque Config.beamWaits : Nat → Nat → Nat

/-- Whether a lane sent an odd number of idle pairs, each of which turns the disparity, since what it last sent (R198; log 41): by
lane and number sent. Free value. -/
opaque Config.idlePairs : Nat → Nat → Bool

/-- How long after its 16 ns an abort's END waits for its pair boundary (R199): by draw number; taken within a pair. Free value, log
42. -/
opaque Config.pairSlip : Nat → Nat

/-- What a pattern generator holds when it starts (R239): by draw number and lane. Free value, log 42. -/
opaque Config.prbsSeed : Nat → Nat → BitVec 31

/-- Bit errors on a lane whose checker is locked (R240), in a cycle: by draw number and lane. Free value, log 42. -/
opaque Config.lineErrors : Nat → Nat → Nat

/-- A beam's landing offset along an axis in whose scan Eyespot found no edge (R408), by beam and axis. Free value, log 16. -/
opaque Config.missingEdge : Nat → Int

/-- A supply's monitor reading (R428, PWR_SUPPLY), by draw number and supply. Free value, log 25. -/
opaque Config.supply : Nat → Nat → Nat

end Sys2Proof
end

