-- ==== Sys2Proof/Machine/Registers.lean ====
section
/-! DEFINITION. The fields of every BAR0 register the manual defines (R465's index), each with its offset, bits,
access code (R11), reset value (R13) and retention class (R14), and the lookup of the fields at an offset. -/
namespace Sys2Proof.Machine

/-- Access codes of R11. -/
inductive Access where | rw | ro | w1c | wo | rwl
  deriving DecidableEq, Repr

/-- Retention classes of R14; `none` is GLB_MODE.NATIVE, which belongs to no class (R16). -/
inductive Retention where | k | p | v | none
  deriving DecidableEq, Repr

/-- One field of a register: BAR0 offset, lowest bit, width, access, reset value and class. -/
structure Field where
  off : Nat
  lo : Nat
  width : Nat
  acc : Access
  rst : Nat
  cls : Retention
  deriving DecidableEq, Repr

/-- The key under which a field's value is held: one per bit position of BAR0. -/
def Field.key (f : Field) : Nat := 32 * f.off + f.lo

namespace Reg

/-! FTC_CTL (R113) -/
def FTC_CTL_SELFMIS_LIMIT : Field := ⟨0x16000, 0, 4, .rw, 0x4, .v⟩
def FTC_CTL_RAW_ONLY : Field := ⟨0x16000, 8, 1, .rw, 0, .v⟩
/-! FTC_CACHE_CAP (R113) -/
def FTC_CACHE_CAP_CAP_MIB : Field := ⟨0x16004, 0, 32, .ro, 0, .v⟩
/-! FTC_CACHE_USED (R113) -/
def FTC_CACHE_USED_USED_MIB : Field := ⟨0x16008, 0, 32, .ro, 0, .v⟩
/-! FTC_BYPASS (R113) -/
def FTC_BYPASS_SECTOR : Field := ⟨0x1600C, 0, 4, .ro, 0, .v⟩
def FTC_BYPASS_SPARE : Field := ⟨0x1600C, 4, 1, .ro, 0, .v⟩
/-! FTC_ERR_STATUS (R113) -/
def FTC_ERR_STATUS : Field := ⟨0x16010, 0, 8, .ro, 0x0, .p⟩
def FTC_ERR_STATUS_CHANNEL : Field := ⟨0x16010, 8, 3, .ro, 0, .p⟩
def FTC_ERR_STATUS_VALID : Field := ⟨0x16010, 31, 1, .w1c, 0, .p⟩
/-! FTC_ERR_OFFSET (R113) -/
def FTC_ERR_OFFSET_BLOCK_OFFSET : Field := ⟨0x16014, 0, 21, .ro, 0, .p⟩
/-! FTC_ERR_BLOCK (R113) -/
def FTC_ERR_BLOCK_BLOCK_INDEX : Field := ⟨0x16018, 0, 32, .ro, 0, .p⟩
/-! SLC_CTL (R143) -/
def SLC_CTL_WDOG_CYCLES (s : Nat) : Field := ⟨0x08000 + 0x800 * s, 0, 8, .rw, 0x10, .v⟩
def SLC_CTL_FENCE_LIMIT (s : Nat) : Field := ⟨0x08000 + 0x800 * s, 8, 4, .rw, 0x4, .v⟩
/-! SLC_STATUS (R143) -/
def SLC_STATUS_STATE (s : Nat) : Field := ⟨0x08004 + 0x800 * s, 0, 3, .ro, 0, .v⟩
def SLC_STATUS_SECTOR (s : Nat) : Field := ⟨0x08004 + 0x800 * s, 4, 3, .ro, (if s ≤ 3 then s else 7), .v⟩
def SLC_STATUS_PREPASS (s : Nat) : Field := ⟨0x08004 + 0x800 * s, 8, 1, .ro, 0, .v⟩
def SLC_STATUS_ENG_FENCED (s : Nat) : Field := ⟨0x08004 + 0x800 * s, 16, 16, .ro, 0, .v⟩
/-! SLC_ENG_DISABLE (R143) -/
def SLC_ENG_DISABLE (s : Nat) : Field := ⟨0x08008 + 0x800 * s, 0, 16, .rw, 0, .v⟩
/-! SLC_DROPS (R143) -/
def SLC_DROPS_MIG_DROPPED (s : Nat) : Field := ⟨0x0800C + 0x800 * s, 0, 16, .ro, 0, .v⟩
def SLC_DROPS_SHADOW_DROPPED (s : Nat) : Field := ⟨0x0800C + 0x800 * s, 16, 16, .ro, 0, .v⟩
/-! DCU_STATUS (R162) -/
def DCU_STATUS_BUSY : Field := ⟨0x0C000, 0, 1, .ro, 0, .v⟩
def DCU_STATUS_RECOMPUTE : Field := ⟨0x0C000, 1, 1, .ro, 0, .v⟩
def DCU_STATUS_ITER : Field := ⟨0x0C000, 4, 4, .ro, 0, .v⟩
def DCU_STATUS_SLOT_VALID : Field := ⟨0x0C000, 8, 4, .ro, 0, .v⟩
/-! DCU_STRIPE (R162) -/
def DCU_STRIPE_STRIPE_ID : Field := ⟨0x0C004, 0, 32, .ro, 0, .v⟩
/-! DCU_GRID (R162) -/
def DCU_GRID_COLS : Field := ⟨0x0C008, 0, 7, .ro, 0, .v⟩
def DCU_GRID_ROWS : Field := ⟨0x0C008, 8, 19, .ro, 0, .v⟩
/-! DCU_RESID (R162) -/
def DCU_RESID_MAX_STEP : Field := ⟨0x0C00C, 0, 32, .ro, 0, .v⟩
/-! DCU_SAT (R162) -/
def DCU_SAT_F_SAT : Field := ⟨0x0C010, 0, 16, .ro, 0, .v⟩
def DCU_SAT_T_CLAMP : Field := ⟨0x0C010, 16, 16, .ro, 0, .v⟩
/-! DCU_TIME (R162) -/
def DCU_TIME_CYCLES : Field := ⟨0x0C014, 0, 32, .ro, 0, .v⟩
/-! BEM_STATUS (R190) -/
def BEM_STATUS_BT_VALID : Field := ⟨0x0C100, 0, 1, .ro, 0, .p⟩
def BEM_STATUS_DM_VALID : Field := ⟨0x0C100, 1, 1, .ro, 0, .p⟩
/-! BEM_PLAN (R190) -/
def BEM_PLAN_UNTRIMMED : Field := ⟨0x0C104, 0, 16, .ro, 0, .v⟩
def BEM_PLAN_EMPTY : Field := ⟨0x0C104, 16, 16, .ro, 0, .v⟩
/-! BEM_LOST (R190) -/
def BEM_LOST_FRAMES : Field := ⟨0x0C108, 0, 32, .ro, 0, .v⟩
/-! BEM_CUT (R190) -/
def BEM_CUT_TICK : Field := ⟨0x0C10C, 0, 32, .ro, 0, .v⟩
/-! LDG_CTL (R190) -/
def LDG_CTL_REPAIR_MAX : Field := ⟨0x0C200, 0, 2, .rw, 0x2, .v⟩
/-! LDG_STATUS (R190) -/
def LDG_STATUS_OVERFLOW : Field := ⟨0x0C204, 0, 1, .ro, 0, .v⟩
def LDG_STATUS_REPAIR_PASS : Field := ⟨0x0C204, 1, 2, .ro, 0, .v⟩
/-! LDG_USED (R190) -/
def LDG_USED_ENTRIES : Field := ⟨0x0C208, 0, 25, .ro, 0, .v⟩
/-! LDG_PEAK (R190) -/
def LDG_PEAK_ENTRIES : Field := ⟨0x0C20C, 0, 25, .ro, 0, .v⟩
/-! LDG_VIS_ABORT (R190) -/
def LDG_VIS_ABORT_VISITS : Field := ⟨0x0C210, 0, 32, .ro, 0, .v⟩
/-! LDG_VIS_GAP (R190) -/
def LDG_VIS_GAP_VISITS : Field := ⟨0x0C214, 0, 32, .ro, 0, .v⟩
/-! LDG_VIS_LOST (R190) -/
def LDG_VIS_LOST_VISITS : Field := ⟨0x0C218, 0, 32, .ro, 0, .v⟩
/-! LDG_REPORT (R190) -/
def LDG_REPORT_RECORDS : Field := ⟨0x0C21C, 0, 23, .ro, 0, .v⟩
/-! FRM_DWELL (R220) -/
def FRM_DWELL_DELAY : Field := ⟨0x0D000, 0, 11, .rw, 0x30, .v⟩
def FRM_DWELL_LEN : Field := ⟨0x0D000, 16, 11, .rw, 0x2D0, .v⟩
/-! FRM_DEVICE (R220) -/
def FRM_DEVICE_DEVICE_ID : Field := ⟨0x0D004, 0, 11, .rw, 0, .p⟩
/-! FRM_NAK_CTL (R220) -/
def FRM_NAK_CTL_NAK_WINDOW : Field := ⟨0x0D008, 0, 6, .rw, 0x20, .v⟩
/-! FRM_NAK (R220) -/
def FRM_NAK_COUNT : Field := ⟨0x0D00C, 0, 24, .ro, 0, .v⟩
def FRM_NAK_BOGUS : Field := ⟨0x0D00C, 24, 8, .ro, 0, .v⟩
/-! FRM_SPARE_CTL (R220) -/
def FRM_SPARE_CTL_NAK_LIMIT : Field := ⟨0x0D010, 0, 4, .rw, 0x4, .v⟩
/-! FRM_SPARE_MAP (R220) -/
def FRM_SPARE_MAP_USED0 (n : Nat) : Field := ⟨0x0D014 + 0x4 * n, 3, 1, .ro, 0, .p⟩
def FRM_SPARE_MAP_LANE0 (n : Nat) : Field := ⟨0x0D014 + 0x4 * n, 0, 3, .ro, 0, .p⟩
def FRM_SPARE_MAP_USED1 (n : Nat) : Field := ⟨0x0D014 + 0x4 * n, 7, 1, .ro, 0, .p⟩
def FRM_SPARE_MAP_LANE1 (n : Nat) : Field := ⟨0x0D014 + 0x4 * n, 4, 3, .ro, 0, .p⟩
def FRM_SPARE_MAP_USED2 (n : Nat) : Field := ⟨0x0D014 + 0x4 * n, 11, 1, .ro, 0, .p⟩
def FRM_SPARE_MAP_LANE2 (n : Nat) : Field := ⟨0x0D014 + 0x4 * n, 8, 3, .ro, 0, .p⟩
def FRM_SPARE_MAP_USED3 (n : Nat) : Field := ⟨0x0D014 + 0x4 * n, 15, 1, .ro, 0, .p⟩
def FRM_SPARE_MAP_LANE3 (n : Nat) : Field := ⟨0x0D014 + 0x4 * n, 12, 3, .ro, 0, .p⟩
def FRM_SPARE_MAP_USED4 (n : Nat) : Field := ⟨0x0D014 + 0x4 * n, 19, 1, .ro, 0, .p⟩
def FRM_SPARE_MAP_LANE4 (n : Nat) : Field := ⟨0x0D014 + 0x4 * n, 16, 3, .ro, 0, .p⟩
def FRM_SPARE_MAP_USED5 (n : Nat) : Field := ⟨0x0D014 + 0x4 * n, 23, 1, .ro, 0, .p⟩
def FRM_SPARE_MAP_LANE5 (n : Nat) : Field := ⟨0x0D014 + 0x4 * n, 20, 3, .ro, 0, .p⟩
def FRM_SPARE_MAP_USED6 (n : Nat) : Field := ⟨0x0D014 + 0x4 * n, 27, 1, .ro, 0, .p⟩
def FRM_SPARE_MAP_LANE6 (n : Nat) : Field := ⟨0x0D014 + 0x4 * n, 24, 3, .ro, 0, .p⟩
def FRM_SPARE_MAP_USED7 (n : Nat) : Field := ⟨0x0D014 + 0x4 * n, 31, 1, .ro, 0, .p⟩
def FRM_SPARE_MAP_LANE7 (n : Nat) : Field := ⟨0x0D014 + 0x4 * n, 28, 3, .ro, 0, .p⟩
/-! FRM_GAP (R220) -/
def FRM_GAP_LAST_NS : Field := ⟨0x0D01C, 0, 16, .ro, 0, .v⟩
def FRM_GAP_SWITCHES : Field := ⟨0x0D01C, 16, 16, .ro, 0, .v⟩
/-! FRM_TEMP (R220) -/
def FRM_TEMP_VALUE : Field := ⟨0x0D020, 0, 16, .ro, 0, .v⟩
def FRM_TEMP_GROUP : Field := ⟨0x0D020, 16, 4, .ro, 0, .v⟩
def FRM_TEMP_STALE : Field := ⟨0x0D020, 31, 1, .ro, 0, .v⟩
/-! FRM_TEMP_CTL (R220) -/
def FRM_TEMP_CTL_TIMEOUT : Field := ⟨0x0D024, 0, 12, .rw, 0x7D0, .v⟩
/-! FRM_RET_ERR (R220) -/
def FRM_RET_ERR_LOSSES : Field := ⟨0x0D028, 0, 16, .ro, 0, .v⟩
def FRM_RET_ERR_GROUP : Field := ⟨0x0D028, 16, 4, .ro, 0, .p⟩
def FRM_RET_ERR_VALID : Field := ⟨0x0D028, 31, 1, .w1c, 0, .p⟩
/-! MPH_TXEQ (R244) -/
def MPH_TXEQ_PRE (g i : Nat) : Field := ⟨0x10000 + 0x400 * g + 0x40 * i, 0, 8, .ro, 0x0, .v⟩
def MPH_TXEQ_MAIN (g i : Nat) : Field := ⟨0x10000 + 0x400 * g + 0x40 * i, 8, 8, .ro, 0x3F, .v⟩
def MPH_TXEQ_POST (g i : Nat) : Field := ⟨0x10000 + 0x400 * g + 0x40 * i, 16, 8, .ro, 0x0, .v⟩
/-! MPH_LSTATE (R244) -/
def MPH_LSTATE_STATE (g i : Nat) : Field := ⟨0x10004 + 0x400 * g + 0x40 * i, 0, 3, .ro, 0, .v⟩
def MPH_LSTATE_TRAINED (g i : Nat) : Field := ⟨0x10004 + 0x400 * g + 0x40 * i, 3, 1, .ro, 0, .v⟩
/-! MPH_PRBS_CTL (R244) -/
def MPH_PRBS_CTL_PATTERN (g i : Nat) : Field := ⟨0x10008 + 0x400 * g + 0x40 * i, 0, 2, .rw, 0x2, .v⟩
def MPH_PRBS_CTL_GEN_EN (g i : Nat) : Field := ⟨0x10008 + 0x400 * g + 0x40 * i, 4, 1, .rw, 0, .v⟩
def MPH_PRBS_CTL_CHK_EN (g i : Nat) : Field := ⟨0x10008 + 0x400 * g + 0x40 * i, 5, 1, .rw, 0, .v⟩
def MPH_PRBS_CTL_LOOP (g i : Nat) : Field := ⟨0x10008 + 0x400 * g + 0x40 * i, 6, 1, .rw, 0, .v⟩
def MPH_PRBS_CTL_INJ_ONE (g i : Nat) : Field := ⟨0x10008 + 0x400 * g + 0x40 * i, 8, 1, .wo, 0, .v⟩
def MPH_PRBS_CTL_INJ_RATE (g i : Nat) : Field := ⟨0x10008 + 0x400 * g + 0x40 * i, 12, 4, .rw, 0x0, .v⟩
def MPH_PRBS_CTL_LOCK (g i : Nat) : Field := ⟨0x10008 + 0x400 * g + 0x40 * i, 31, 1, .ro, 0, .v⟩
/-! MPH_PRBS_BITS (R244) -/
def MPH_PRBS_BITS (g i : Nat) : Field := ⟨0x1000C + 0x400 * g + 0x40 * i, 0, 32, .ro, 0, .v⟩
/-! MPH_PRBS_ERR (R244) -/
def MPH_PRBS_ERR_ERRORS (g i : Nat) : Field := ⟨0x10010 + 0x400 * g + 0x40 * i, 0, 32, .ro, 0, .v⟩
/-! MPH_EQ_SAVE0 (R244) -/
def MPH_EQ_SAVE0_TAPS (g i : Nat) : Field := ⟨0x10014 + 0x400 * g + 0x40 * i, 0, 24, .ro, 0, .p⟩
def MPH_EQ_SAVE0_VALID (g i : Nat) : Field := ⟨0x10014 + 0x400 * g + 0x40 * i, 31, 1, .ro, 0, .p⟩
/-! MPH_EQ_SAVE1 (R244) -/
def MPH_EQ_SAVE1_TAPS (g i : Nat) : Field := ⟨0x10018 + 0x400 * g + 0x40 * i, 0, 24, .ro, 0, .p⟩
def MPH_EQ_SAVE1_VALID (g i : Nat) : Field := ⟨0x10018 + 0x400 * g + 0x40 * i, 31, 1, .ro, 0, .p⟩
/-! MPH_EQ_SAVE2 (R244) -/
def MPH_EQ_SAVE2_TAPS (g i : Nat) : Field := ⟨0x1001C + 0x400 * g + 0x40 * i, 0, 24, .ro, 0, .p⟩
def MPH_EQ_SAVE2_VALID (g i : Nat) : Field := ⟨0x1001C + 0x400 * g + 0x40 * i, 31, 1, .ro, 0, .p⟩
/-! MPH_EQ_SAVE3 (R244) -/
def MPH_EQ_SAVE3_TAPS (g i : Nat) : Field := ⟨0x10020 + 0x400 * g + 0x40 * i, 0, 24, .ro, 0, .p⟩
def MPH_EQ_SAVE3_VALID (g i : Nat) : Field := ⟨0x10020 + 0x400 * g + 0x40 * i, 31, 1, .ro, 0, .p⟩
/-! MPH_EQ_SAVE4 (R244) -/
def MPH_EQ_SAVE4_TAPS (g i : Nat) : Field := ⟨0x10024 + 0x400 * g + 0x40 * i, 0, 24, .ro, 0, .p⟩
def MPH_EQ_SAVE4_VALID (g i : Nat) : Field := ⟨0x10024 + 0x400 * g + 0x40 * i, 31, 1, .ro, 0, .p⟩
/-! MPH_GRP_CTL (R244) -/
def MPH_GRP_CTL_MAX_RATE (n : Nat) : Field := ⟨0x103C0 + 0x400 * n, 0, 3, .rw, 0x4, .v⟩
def MPH_GRP_CTL_RETRAIN (n : Nat) : Field := ⟨0x103C0 + 0x400 * n, 4, 1, .wo, 0, .v⟩
def MPH_GRP_CTL_L2_REQ (n : Nat) : Field := ⟨0x103C0 + 0x400 * n, 5, 1, .rw, 0, .v⟩
def MPH_GRP_CTL_EQ_TIMEOUT (n : Nat) : Field := ⟨0x103C0 + 0x400 * n, 8, 4, .rw, 0x4, .v⟩
def MPH_GRP_CTL_VERIFY_LOG2 (n : Nat) : Field := ⟨0x103C0 + 0x400 * n, 16, 5, .rw, 0x1E, .v⟩
/-! MPH_GRP_STATUS (R244) -/
def MPH_GRP_STATUS_RATE (n : Nat) : Field := ⟨0x103C4 + 0x400 * n, 0, 3, .ro, 0, .p⟩
def MPH_GRP_STATUS_FAR_MAX (n : Nat) : Field := ⟨0x103C4 + 0x400 * n, 3, 3, .ro, 0, .v⟩
def MPH_GRP_STATUS_STATE (n : Nat) : Field := ⟨0x103C4 + 0x400 * n, 8, 3, .ro, 0, .v⟩
def MPH_GRP_STATUS_FAIL_REASON (n : Nat) : Field := ⟨0x103C4 + 0x400 * n, 12, 4, .ro, 0, .p⟩
def MPH_GRP_STATUS_SPARE_FIT (n : Nat) : Field := ⟨0x103C4 + 0x400 * n, 16, 1, .ro, 0, .v⟩
def MPH_GRP_STATUS_RATE_PENDING (n : Nat) : Field := ⟨0x103C4 + 0x400 * n, 17, 1, .ro, 0, .v⟩
def MPH_GRP_STATUS_STEPPED_DOWN (n : Nat) : Field := ⟨0x103C4 + 0x400 * n, 18, 1, .ro, 0, .p⟩
/-! STG_CTL (R274) -/
def STG_CTL_EN : Field := ⟨0x04000, 0, 1, .rw, 0, .v⟩
def STG_CTL_ROLE : Field := ⟨0x04000, 1, 2, .rw, 0, .v⟩
def STG_CTL_SP_EN : Field := ⟨0x04000, 3, 1, .rw, 0, .v⟩
/-! STG_STATUS (R274) -/
def STG_STATUS_LOCK : Field := ⟨0x04004, 0, 3, .ro, 0, .v⟩
def STG_STATUS_STATE : Field := ⟨0x04004, 4, 4, .ro, 0, .v⟩
def STG_STATUS_TSYNC_LOCK : Field := ⟨0x04004, 8, 1, .ro, 0, .v⟩
/-! STG_MISSED (R274) -/
def STG_MISSED_SAMPLES : Field := ⟨0x04008, 0, 16, .ro, 0, .v⟩
def STG_MISSED_FAULTS : Field := ⟨0x04008, 16, 16, .ro, 0, .v⟩
/-! STG_LAT (R274) -/
def STG_LAT : Field := ⟨0x0400C, 0, 20, .rw, 0x249F0, .p⟩
/-! STG_TSYNC_HOP (R274) -/
def STG_TSYNC_HOP : Field := ⟨0x04010, 0, 16, .rw, 0, .p⟩
/-! STG_TSYNC_LEAD (R274) -/
def STG_TSYNC_LEAD : Field := ⟨0x04014, 0, 16, .rw, 0xFA0, .v⟩
/-! STG_TSYNC_RING (R274) -/
def STG_TSYNC_RING : Field := ⟨0x04018, 0, 16, .ro, 0, .v⟩
/-! STG_OVERRUN (R274) -/
def STG_OVERRUN_HELD : Field := ⟨0x0401C, 0, 24, .ro, 0, .v⟩
def STG_OVERRUN_EMERG : Field := ⟨0x0401C, 24, 8, .ro, 0, .v⟩
/-! STG_MAX_LAG (R274) -/
def STG_MAX_LAG : Field := ⟨0x04020, 0, 16, .ro, 0, .v⟩
/-! STG_XK2 (R274) -/
def STG_XK2_OVERRUN : Field := ⟨0x04024, 0, 16, .ro, 0, .v⟩
/-! SKP_VA (R274) -/
def SKP_VA_VMAX : Field := ⟨0x04400, 0, 16, .rw, 0x7D0, .v⟩
def SKP_VA_AMAX : Field := ⟨0x04400, 16, 16, .rw, 0x3E8, .v⟩
/-! SKP_JE (R274) -/
def SKP_JE_JMAX : Field := ⟨0x04404, 0, 16, .rw, 0x64, .v⟩
def SKP_JE_EDEC : Field := ⟨0x04404, 16, 16, .rw, 0xFA0, .v⟩
/-! SKP_PLAN (R274) -/
def SKP_PLAN_MARGIN : Field := ⟨0x04408, 0, 12, .rw, 0x40, .v⟩
def SKP_PLAN_LOW : Field := ⟨0x04408, 16, 12, .rw, 0x400, .v⟩
/-! SKP_TIME (R274) -/
def SKP_TIME_HORIZON : Field := ⟨0x0440C, 0, 8, .rw, 0x14, .v⟩
def SKP_TIME_SETTLE : Field := ⟨0x0440C, 8, 8, .rw, 0xA, .v⟩
def SKP_TIME_COOL_FRAC : Field := ⟨0x0440C, 16, 6, .rw, 0x20, .v⟩
/-! SKP_YMIN (R274) -/
def SKP_YMIN_Y : Field := ⟨0x04410, 0, 32, .rw, 0x80000000, .v⟩
/-! SKP_YMAX (R274) -/
def SKP_YMAX_Y : Field := ⟨0x04414, 0, 32, .rw, 0x7FFFFFFF, .v⟩
/-! SKP_STATUS (R274) -/
def SKP_STATUS_F_PLAN : Field := ⟨0x04418, 0, 21, .ro, 0, .v⟩
def SKP_STATUS_CAUSE : Field := ⟨0x04418, 24, 4, .ro, 0, .v⟩
/-! SKP_RES (R274) -/
def SKP_RES_WIN : Field := ⟨0x0441C, 0, 12, .ro, 0, .v⟩
/-! SKP_RAS (R274) -/
def SKP_RAS : Field := ⟨0x04420, 0, 24, .ro, 0, .v⟩
/-! SKP_OVERSHOOT (R274) -/
def SKP_OVERSHOOT_NM : Field := ⟨0x04424, 0, 32, .ro, 0, .v⟩
/-! AUX_VEL (R274) -/
def AUX_VEL_VSTART (n : Nat) : Field := ⟨0x05000 + 0x40 * n, 0, 16, .rw, 0x64, .v⟩
def AUX_VEL_VMAX (n : Nat) : Field := ⟨0x05000 + 0x40 * n, 16, 16, .rw, 0x9C4, .v⟩
/-! AUX_ACC (R274) -/
def AUX_ACC (n : Nat) : Field := ⟨0x05004 + 0x40 * n, 0, 16, .rw, 0x271, .v⟩
def AUX_ACC_DEC (n : Nat) : Field := ⟨0x05004 + 0x40 * n, 16, 16, .rw, 0x271, .v⟩
/-! AUX_HOLD (R274) -/
def AUX_HOLD_HOLD_DELAY (n : Nat) : Field := ⟨0x05008 + 0x40 * n, 0, 12, .rw, 0x64, .v⟩
def AUX_HOLD_WAKE (n : Nat) : Field := ⟨0x05008 + 0x40 * n, 16, 4, .rw, 0x2, .v⟩
/-! AUX_POS (R274) -/
def AUX_POS (n : Nat) : Field := ⟨0x0500C + 0x40 * n, 0, 32, .ro, 0, .p⟩
/-! AUX_MIN (R274) -/
def AUX_MIN_LIMIT (n : Nat) : Field := ⟨0x05010 + 0x40 * n, 0, 32, .rw, 0x80000000, .v⟩
/-! AUX_MAX (R274) -/
def AUX_MAX_LIMIT (n : Nat) : Field := ⟨0x05014 + 0x40 * n, 0, 32, .rw, 0x7FFFFFFF, .v⟩
/-! AUX_REMAIN (R274) -/
def AUX_REMAIN_STEPS (n : Nat) : Field := ⟨0x05018 + 0x40 * n, 0, 32, .ro, 0, .v⟩
/-! AUX_STATUS (R274) -/
def AUX_STATUS_STATE (n : Nat) : Field := ⟨0x0501C + 0x40 * n, 0, 3, .ro, 0, .v⟩
def AUX_STATUS_IHOLD (n : Nat) : Field := ⟨0x0501C + 0x40 * n, 3, 1, .ro, 1, .v⟩
def AUX_STATUS_ACCEL_DEFERRED (n : Nat) : Field := ⟨0x0501C + 0x40 * n, 4, 1, .w1c, 0, .v⟩
def AUX_STATUS_OVERSHOOT (n : Nat) : Field := ⟨0x0501C + 0x40 * n, 8, 24, .ro, 0, .v⟩
/-! LPR_CTL (R295) -/
def LPR_CTL_EN : Field := ⟨0x06000, 0, 1, .rw, 0, .v⟩
def LPR_CTL_SWAP : Field := ⟨0x06000, 1, 1, .wo, 0, .v⟩
def LPR_CTL_INV_X : Field := ⟨0x06000, 2, 1, .rw, 0, .v⟩
def LPR_CTL_INV_Y : Field := ⟨0x06000, 3, 1, .rw, 0, .v⟩
def LPR_CTL_PLAUS_EN : Field := ⟨0x06000, 4, 1, .rw, 1, .v⟩
/-! LPR_STATUS (R295) -/
def LPR_STATUS_ENGAGED : Field := ⟨0x06004, 0, 1, .ro, 0, .v⟩
def LPR_STATUS_BANK : Field := ⟨0x06004, 1, 1, .ro, 0, .v⟩
def LPR_STATUS_REGION : Field := ⟨0x06004, 2, 2, .ro, 0, .v⟩
def LPR_STATUS_BANK_VALID : Field := ⟨0x06004, 4, 2, .ro, 0, .v⟩
def LPR_STATUS_SWAP_PENDING : Field := ⟨0x06004, 6, 1, .ro, 0, .v⟩
def LPR_STATUS_SWAP_FORCED : Field := ⟨0x06004, 7, 1, .w1c, 0, .v⟩
def LPR_STATUS_SWAP_BAD : Field := ⟨0x06004, 8, 1, .w1c, 0, .v⟩
def LPR_STATUS_HOLD : Field := ⟨0x06004, 9, 1, .ro, 0, .v⟩
def LPR_STATUS_SAT_X : Field := ⟨0x06004, 16, 8, .ro, 0, .v⟩
def LPR_STATUS_SAT_Y : Field := ⟨0x06004, 24, 8, .ro, 0, .v⟩
/-! LPR_SWAP_TIMEOUT (R295) -/
def LPR_SWAP_TIMEOUT_US : Field := ⟨0x06008, 0, 16, .rw, 0xC8, .v⟩
/-! LPR_PATH (R295) -/
def LPR_PATH_PATH_NS : Field := ⟨0x0600C, 0, 12, .rw, 0x190, .v⟩
/-! LPR_DAC_GAIN_X (R295) -/
def LPR_DAC_GAIN_X_GAIN : Field := ⟨0x06010, 0, 24, .rw, 0x418937, .v⟩
/-! LPR_DAC_GAIN_Y (R295) -/
def LPR_DAC_GAIN_Y_GAIN : Field := ⟨0x06014, 0, 24, .rw, 0x418937, .v⟩
/-! LPR_DAC_OFS_X (R295) -/
def LPR_DAC_OFS_X_OFS : Field := ⟨0x06018, 0, 20, .rw, 0, .v⟩
/-! LPR_DAC_OFS_Y (R295) -/
def LPR_DAC_OFS_Y_OFS : Field := ⟨0x0601C, 0, 20, .rw, 0, .v⟩
/-! LPR_PLAUS (R295) -/
def LPR_PLAUS_THR : Field := ⟨0x06020, 0, 16, .rw, 0x7D0, .v⟩
def LPR_PLAUS_N : Field := ⟨0x06020, 16, 8, .rw, 0x10, .v⟩
/-! LPR_DEMAND_X (R295) -/
def LPR_DEMAND_X_D : Field := ⟨0x06024, 0, 32, .ro, 0, .v⟩
/-! LPR_DEMAND_Y (R295) -/
def LPR_DEMAND_Y_D : Field := ⟨0x06028, 0, 32, .ro, 0, .v⟩
/-! LPR_PEAK (R295) -/
def LPR_PEAK_X : Field := ⟨0x0602C, 0, 16, .ro, 0, .v⟩
def LPR_PEAK_Y : Field := ⟨0x0602C, 16, 16, .ro, 0, .v⟩
/-! LPR_SAT (R295) -/
def LPR_SAT_X : Field := ⟨0x06030, 0, 16, .ro, 0, .v⟩
def LPR_SAT_Y : Field := ⟨0x06030, 16, 16, .ro, 0, .v⟩
/-! LPR_EVENTS (R295) -/
def LPR_EVENTS_SWAPS : Field := ⟨0x06034, 0, 8, .ro, 0, .v⟩
def LPR_EVENTS_FORCED : Field := ⟨0x06034, 8, 8, .ro, 0, .v⟩
def LPR_EVENTS_IMPLAUS : Field := ⟨0x06034, 16, 8, .ro, 0, .v⟩
def LPR_EVENTS_MISMATCH : Field := ⟨0x06034, 24, 8, .ro, 0, .v⟩
/-! LPR_ENGINE (R295) -/
def LPR_ENGINE_ACTIVE : Field := ⟨0x06038, 0, 1, .ro, 0, .p⟩
def LPR_ENGINE_STANDBY : Field := ⟨0x06038, 1, 2, .ro, 0, .p⟩
/-! LPR_MODEL (R295) -/
def LPR_MODEL_PEAK : Field := ⟨0x0603C, 0, 16, .ro, 0, .v⟩
/-! MEM_CTL (R321) -/
def MEM_CTL_RATE : Field := ⟨0x14000, 0, 2, .rw, 0, .v⟩
def MEM_CTL_RD_N : Field := ⟨0x14000, 4, 4, .rw, 0x9, .v⟩
def MEM_CTL_SWEEP : Field := ⟨0x14000, 8, 1, .wo, 0, .v⟩
/-! MEM_STATUS (R321) -/
def MEM_STATUS_RATE : Field := ⟨0x14004, 0, 2, .ro, 0, .v⟩
def MEM_STATUS_SWEEPING : Field := ⟨0x14004, 2, 1, .ro, 0, .v⟩
def MEM_STATUS_RATE_PENDING : Field := ⟨0x14004, 3, 1, .ro, 0, .v⟩
def MEM_STATUS_TRAINED : Field := ⟨0x14004, 4, 1, .ro, 0, .v⟩
def MEM_STATUS_REHASH_PENDING : Field := ⟨0x14004, 5, 1, .ro, 0, .p⟩
def MEM_STATUS_LIVE0 : Field := ⟨0x14004, 8, 6, .ro, 32, .p⟩
def MEM_STATUS_LIVE1 : Field := ⟨0x14004, 16, 6, .ro, 32, .p⟩
/-! MEM_PC_LIVE (R321) -/
def MEM_PC_LIVE (n : Nat) : Field := ⟨0x14008 + 0x4 * n, 0, 32, .ro, 0xFFFFFFFF, .p⟩
/-! MEM_REPAIR (R321) -/
def MEM_REPAIR_USED0 (n : Nat) : Field := ⟨0x14010 + 0x4 * n, 0, 2, .ro, 0, .p⟩
def MEM_REPAIR_USED1 (n : Nat) : Field := ⟨0x14010 + 0x4 * n, 2, 2, .ro, 0, .p⟩
def MEM_REPAIR_USED2 (n : Nat) : Field := ⟨0x14010 + 0x4 * n, 4, 2, .ro, 0, .p⟩
def MEM_REPAIR_USED3 (n : Nat) : Field := ⟨0x14010 + 0x4 * n, 6, 2, .ro, 0, .p⟩
def MEM_REPAIR_USED4 (n : Nat) : Field := ⟨0x14010 + 0x4 * n, 8, 2, .ro, 0, .p⟩
def MEM_REPAIR_USED5 (n : Nat) : Field := ⟨0x14010 + 0x4 * n, 10, 2, .ro, 0, .p⟩
def MEM_REPAIR_USED6 (n : Nat) : Field := ⟨0x14010 + 0x4 * n, 12, 2, .ro, 0, .p⟩
def MEM_REPAIR_USED7 (n : Nat) : Field := ⟨0x14010 + 0x4 * n, 14, 2, .ro, 0, .p⟩
def MEM_REPAIR_USED8 (n : Nat) : Field := ⟨0x14010 + 0x4 * n, 16, 2, .ro, 0, .p⟩
def MEM_REPAIR_USED9 (n : Nat) : Field := ⟨0x14010 + 0x4 * n, 18, 2, .ro, 0, .p⟩
def MEM_REPAIR_USED10 (n : Nat) : Field := ⟨0x14010 + 0x4 * n, 20, 2, .ro, 0, .p⟩
def MEM_REPAIR_USED11 (n : Nat) : Field := ⟨0x14010 + 0x4 * n, 22, 2, .ro, 0, .p⟩
def MEM_REPAIR_USED12 (n : Nat) : Field := ⟨0x14010 + 0x4 * n, 24, 2, .ro, 0, .p⟩
def MEM_REPAIR_USED13 (n : Nat) : Field := ⟨0x14010 + 0x4 * n, 26, 2, .ro, 0, .p⟩
def MEM_REPAIR_USED14 (n : Nat) : Field := ⟨0x14010 + 0x4 * n, 28, 2, .ro, 0, .p⟩
def MEM_REPAIR_USED15 (n : Nat) : Field := ⟨0x14010 + 0x4 * n, 30, 2, .ro, 0, .p⟩
/-! MEM_CAP (R321) -/
def MEM_CAP_DATA_MIB : Field := ⟨0x14020, 0, 16, .ro, 0, .v⟩
/-! MEM_CE (R321) -/
def MEM_CE_COUNT : Field := ⟨0x14024, 0, 32, .ro, 0, .v⟩
/-! MEM_STRONG (R321) -/
def MEM_STRONG_COUNT : Field := ⟨0x14028, 0, 32, .ro, 0, .v⟩
/-! MEM_UE (R321) -/
def MEM_UE_COUNT : Field := ⟨0x1402C, 0, 16, .ro, 0, .v⟩
def MEM_UE_POISON_HITS : Field := ⟨0x1402C, 16, 16, .ro, 0, .v⟩
/-! MEM_CA (R321) -/
def MEM_CA_REPLAYS : Field := ⟨0x14030, 0, 16, .ro, 0, .v⟩
def MEM_CA_FAILED : Field := ⟨0x14030, 16, 8, .ro, 0, .p⟩
/-! MEM_RD_REFRESH (R321) -/
def MEM_RD_REFRESH_COUNT : Field := ⟨0x14034, 0, 32, .ro, 0, .v⟩
/-! MEM_ERR_INFO (R321) -/
def MEM_ERR_INFO_STATUS : Field := ⟨0x14038, 0, 8, .ro, 0x0, .p⟩
def MEM_ERR_INFO_PC : Field := ⟨0x14038, 8, 7, .ro, 0, .p⟩
def MEM_ERR_INFO_KIND : Field := ⟨0x14038, 16, 3, .ro, 0, .p⟩
def MEM_ERR_INFO_VALID : Field := ⟨0x14038, 31, 1, .w1c, 0, .p⟩
/-! MEM_ERR_ADDR_LO (R321) -/
def MEM_ERR_ADDR_LO_ADDR : Field := ⟨0x1403C, 0, 32, .ro, 0, .p⟩
/-! MEM_ERR_ADDR_HI (R321) -/
def MEM_ERR_ADDR_HI_ADDR : Field := ⟨0x14040, 0, 4, .ro, 0, .p⟩
/-! MEM_REMAP (R321) -/
def MEM_REMAP_USED : Field := ⟨0x14044, 0, 6, .ro, 0, .p⟩
def MEM_REMAP_FULL : Field := ⟨0x14044, 8, 1, .ro, 0, .p⟩
/-! MEM_FLIP_LO (R321) -/
def MEM_FLIP_LO_MASK : Field := ⟨0x14048, 0, 32, .rw, 0, .v⟩
/-! MEM_FLIP_MID (R321) -/
def MEM_FLIP_MID_MASK : Field := ⟨0x1404C, 0, 32, .rw, 0, .v⟩
/-! MEM_FLIP_HI (R321) -/
def MEM_FLIP_HI_MASK : Field := ⟨0x14050, 0, 8, .rw, 0, .v⟩
/-! MEM_FLIP_CTL (R321) -/
def MEM_FLIP_CTL_ARM : Field := ⟨0x14054, 0, 1, .rw, 0, .v⟩
def MEM_FLIP_CTL_ADDR_MATCH : Field := ⟨0x14054, 1, 1, .rw, 0, .v⟩
def MEM_FLIP_CTL_STRONG_FAIL : Field := ⟨0x14054, 2, 1, .rw, 0, .v⟩
/-! MEM_FLIP_ADDR_LO (R321) -/
def MEM_FLIP_ADDR_LO_ADDR : Field := ⟨0x14058, 3, 29, .rw, 0, .v⟩
/-! MEM_FLIP_ADDR_HI (R321) -/
def MEM_FLIP_ADDR_HI_ADDR : Field := ⟨0x1405C, 0, 4, .rw, 0, .v⟩
/-! HIF_STATUS (R353) -/
def HIF_STATUS_SPEED : Field := ⟨0x01004, 0, 4, .ro, 0, .v⟩
def HIF_STATUS_WIDTH : Field := ⟨0x01004, 4, 6, .ro, 0, .v⟩
def HIF_STATUS_DB_ERR : Field := ⟨0x01004, 16, 1, .w1c, 0, .v⟩
def HIF_STATUS_CFG_ERR : Field := ⟨0x01004, 17, 1, .w1c, 0, .v⟩
/-! HIF_SQ_BASE_LO (R353) -/
def HIF_SQ_BASE_LO_ADDR (n : Nat) : Field := ⟨0x01100 + 0x20 * n, 0, 32, .rw, 0, .v⟩
/-! HIF_SQ_BASE_HI (R353) -/
def HIF_SQ_BASE_HI_ADDR (n : Nat) : Field := ⟨0x01104 + 0x20 * n, 0, 32, .rw, 0, .v⟩
/-! HIF_CPR_BASE_LO (R353) -/
def HIF_CPR_BASE_LO_ADDR (n : Nat) : Field := ⟨0x01300 + 0x20 * n, 0, 32, .rw, 0, .v⟩
/-! HIF_CPR_BASE_HI (R353) -/
def HIF_CPR_BASE_HI_ADDR (n : Nat) : Field := ⟨0x01304 + 0x20 * n, 0, 32, .rw, 0, .v⟩
/-! HIF_EVR_BASE_LO (R353) -/
def HIF_EVR_BASE_LO_ADDR : Field := ⟨0x01380, 0, 32, .rw, 0, .v⟩
/-! HIF_EVR_BASE_HI (R353) -/
def HIF_EVR_BASE_HI_ADDR : Field := ⟨0x01384, 0, 32, .rw, 0, .v⟩
/-! HIF_SQ_CTL (R353) -/
def HIF_SQ_CTL_EN (n : Nat) : Field := ⟨0x01108 + 0x20 * n, 0, 1, .rw, 0, .v⟩
def HIF_SQ_CTL_LOG2_SIZE (n : Nat) : Field := ⟨0x01108 + 0x20 * n, 8, 5, .rw, 0, .v⟩
def HIF_SQ_CTL_CPR (n : Nat) : Field := ⟨0x01108 + 0x20 * n, 16, 2, .rw, 0, .v⟩
/-! HIF_SQ_STATUS (R353) -/
def HIF_SQ_STATUS_CONS (n : Nat) : Field := ⟨0x0110C + 0x20 * n, 0, 16, .ro, 0, .v⟩
def HIF_SQ_STATUS_TAIL_LO (n : Nat) : Field := ⟨0x0110C + 0x20 * n, 16, 8, .ro, 0, .v⟩
def HIF_SQ_STATUS_STOPPED (n : Nat) : Field := ⟨0x0110C + 0x20 * n, 24, 1, .ro, 0, .v⟩
def HIF_SQ_STATUS_ERR (n : Nat) : Field := ⟨0x0110C + 0x20 * n, 25, 3, .ro, 0, .v⟩
/-! HIF_CPR_CTL (R353) -/
def HIF_CPR_CTL_EN (n : Nat) : Field := ⟨0x01308 + 0x20 * n, 0, 1, .rw, 0, .v⟩
def HIF_CPR_CTL_LOG2_SIZE (n : Nat) : Field := ⟨0x01308 + 0x20 * n, 8, 5, .rw, 0, .v⟩
def HIF_CPR_CTL_VECTOR (n : Nat) : Field := ⟨0x01308 + 0x20 * n, 16, 6, .rw, n, .v⟩
def HIF_CPR_CTL_HOLDOFF (n : Nat) : Field := ⟨0x01308 + 0x20 * n, 24, 8, .rw, 0, .v⟩
/-! HIF_EVR_CTL (R353) -/
def HIF_EVR_CTL_EN : Field := ⟨0x01388, 0, 1, .rw, 0, .v⟩
def HIF_EVR_CTL_LOG2_SIZE : Field := ⟨0x01388, 8, 5, .rw, 0, .v⟩
def HIF_EVR_CTL_VECTOR : Field := ⟨0x01388, 16, 6, .rw, 4, .v⟩
def HIF_EVR_CTL_HOLDOFF : Field := ⟨0x01388, 24, 8, .rw, 0, .v⟩
/-! HIF_CPR_IDX (R353) -/
def HIF_CPR_IDX_W (n : Nat) : Field := ⟨0x0130C + 0x20 * n, 0, 16, .ro, 0, .v⟩
def HIF_CPR_IDX_HEAD (n : Nat) : Field := ⟨0x0130C + 0x20 * n, 16, 16, .ro, 0, .v⟩
/-! HIF_EVR_IDX (R353) -/
def HIF_EVR_IDX_W : Field := ⟨0x0138C, 0, 16, .ro, 0, .v⟩
def HIF_EVR_IDX_HEAD : Field := ⟨0x0138C, 16, 16, .ro, 0, .v⟩
/-! HIF_EVR_DROPPED (R353) -/
def HIF_EVR_DROPPED_COUNT : Field := ⟨0x01390, 0, 32, .ro, 0, .v⟩
/-! TIM_CTL (R370) -/
def TIM_CTL_SRC : Field := ⟨0x03000, 0, 2, .rw, 0, .v⟩
def TIM_CTL_HOLD : Field := ⟨0x03000, 2, 1, .rw, 1, .v⟩
def TIM_CTL_GUARD : Field := ⟨0x03000, 3, 1, .rw, 1, .v⟩
def TIM_CTL_ACCEPT : Field := ⟨0x03000, 4, 1, .wo, 0, .v⟩
/-! TIM_STATUS (R370) -/
def TIM_STATUS_VALID : Field := ⟨0x03004, 0, 1, .ro, 0, .k⟩
def TIM_STATUS_LOCKED : Field := ⟨0x03004, 1, 1, .ro, 0, .v⟩
def TIM_STATUS_HOLDING : Field := ⟨0x03004, 2, 1, .ro, 0, .v⟩
def TIM_STATUS_GUARD_TRIP : Field := ⟨0x03004, 3, 1, .w1c, 0, .v⟩
def TIM_STATUS_STEP_PENDING : Field := ⟨0x03004, 4, 1, .ro, 0, .v⟩
def TIM_STATUS_XTAL_RAN : Field := ⟨0x03004, 5, 1, .w1c, 0, .k⟩
def TIM_STATUS_TSQ_OVF : Field := ⟨0x03004, 6, 1, .w1c, 0, .v⟩
def TIM_STATUS_RATE_BAD : Field := ⟨0x03004, 7, 1, .w1c, 0, .v⟩
def TIM_STATUS_PTP_STATE : Field := ⟨0x03004, 8, 4, .ro, 0, .v⟩
/-! TIM_NOW_FRAC (R370) -/
def TIM_NOW_FRAC_V : Field := ⟨0x03008, 0, 32, .ro, 0, .k⟩
/-! TIM_NOW_NS (R370) -/
def TIM_NOW_NS_V : Field := ⟨0x0300C, 0, 30, .ro, 0, .k⟩
/-! TIM_NOW_SEC_LO (R370) -/
def TIM_NOW_SEC_LO_V : Field := ⟨0x03010, 0, 32, .ro, 0, .k⟩
/-! TIM_NOW_SEC_HI (R370) -/
def TIM_NOW_SEC_HI_V : Field := ⟨0x03014, 0, 16, .ro, 0, .k⟩
/-! TIM_RATE (R370) -/
def TIM_RATE : Field := ⟨0x03018, 0, 32, .rw, 0, .k⟩
/-! TIM_STEP_NS (R370) -/
def TIM_STEP_NS_STEP : Field := ⟨0x0301C, 0, 32, .wo, 0, .v⟩
/-! TIM_STEP_SEC (R370) -/
def TIM_STEP_SEC_STEP : Field := ⟨0x03020, 0, 32, .wo, 0, .v⟩
/-! TIM_GUARD (R370) -/
def TIM_GUARD_THR : Field := ⟨0x03024, 0, 32, .rw, 0x3E8, .v⟩
/-! TIM_SLEW (R370) -/
def TIM_SLEW_PPB : Field := ⟨0x03028, 0, 20, .rw, 0x2710, .v⟩
/-! TIM_OFFSET (R370) -/
def TIM_OFFSET_NS : Field := ⟨0x0302C, 0, 32, .ro, 0, .v⟩
/-! TIM_PPS_NS (R370) -/
def TIM_PPS_NS : Field := ⟨0x03030, 0, 30, .ro, 0, .v⟩
def TIM_PPS_NS_GLITCH : Field := ⟨0x03030, 30, 2, .ro, 0, .v⟩
/-! TIM_PPS_SEC_LO (R370) -/
def TIM_PPS_SEC_LO_SEC : Field := ⟨0x03034, 0, 32, .ro, 0, .v⟩
/-! TIM_CAP_TICK (R370) -/
def TIM_CAP_TICK : Field := ⟨0x03038, 0, 32, .rw, 0, .v⟩
/-! TIM_CAP_FRAC (R370) -/
def TIM_CAP_FRAC_V : Field := ⟨0x0303C, 0, 32, .ro, 0, .v⟩
/-! TIM_CAP_NS (R370) -/
def TIM_CAP_NS_V : Field := ⟨0x03040, 0, 30, .ro, 0, .v⟩
def TIM_CAP_NS_VALID : Field := ⟨0x03040, 31, 1, .ro, 0, .v⟩
/-! TIM_CAP_SEC_LO (R370) -/
def TIM_CAP_SEC_LO_V : Field := ⟨0x03044, 0, 32, .ro, 0, .v⟩
/-! TIM_PTP_CTL (R370) -/
def TIM_PTP_CTL_EN : Field := ⟨0x03048, 0, 1, .rw, 0, .v⟩
def TIM_PTP_CTL_UDP : Field := ⟨0x03048, 1, 1, .rw, 0, .v⟩
def TIM_PTP_CTL_FEC : Field := ⟨0x03048, 2, 1, .rw, 1, .v⟩
def TIM_PTP_CTL_DOMAIN : Field := ⟨0x03048, 8, 7, .rw, 0, .v⟩
def TIM_PTP_CTL_DREQ_LOG2 : Field := ⟨0x03048, 16, 3, .rw, 0x4, .v⟩
/-! TIM_PTP_IP (R370) -/
def TIM_PTP_IP_ADDR : Field := ⟨0x0304C, 0, 32, .rw, 0, .v⟩
/-! TIM_TSQ (R370) -/
def TIM_TSQ_USED : Field := ⟨0x03050, 0, 4, .ro, 0, .v⟩
def TIM_TSQ_DROPPED : Field := ⟨0x03050, 16, 16, .ro, 0, .v⟩
/-! FLT_CTL (R397) -/
def FLT_CTL_SHADOW_LOG2 : Field := ⟨0x17000, 0, 3, .rw, 0x6, .v⟩
def FLT_CTL_SPARE_LIMIT : Field := ⟨0x17000, 4, 4, .rw, 0x2, .v⟩
def FLT_CTL_DISC_MS : Field := ⟨0x17000, 8, 12, .rw, 0x1F4, .v⟩
/-! FLT_STATUS (R397) -/
def FLT_STATUS_MOLT_SECTOR : Field := ⟨0x17004, 0, 3, .ro, 7, .p⟩
def FLT_STATUS_SPARE_STATE : Field := ⟨0x17004, 4, 2, .ro, 0, .p⟩
def FLT_STATUS_SLICE_FAILED : Field := ⟨0x17004, 8, 4, .ro, 0, .p⟩
/-! FLT_SHADOW (R397) -/
def FLT_SHADOW_COMPARES : Field := ⟨0x17008, 0, 24, .ro, 0, .v⟩
def FLT_SHADOW_MISMATCH : Field := ⟨0x17008, 24, 8, .ro, 0, .v⟩
/-! FLT_THIRD (R397) -/
def FLT_THIRD_OWNER_WRONG : Field := ⟨0x1700C, 0, 8, .ro, 0, .v⟩
def FLT_THIRD_SPARE_WRONG : Field := ⟨0x1700C, 8, 8, .ro, 0, .v⟩
def FLT_THIRD_NO_MAJORITY : Field := ⟨0x1700C, 16, 8, .ro, 0, .v⟩
/-! FLT_OP (R397) -/
def FLT_OP_ESTOP_A : Field := ⟨0x17010, 0, 1, .ro, 0, .v⟩
def FLT_OP_ESTOP_B : Field := ⟨0x17010, 1, 1, .ro, 0, .v⟩
def FLT_OP_ESTOP : Field := ⟨0x17010, 2, 1, .ro, 0, .v⟩
def FLT_OP_ACK_WAIT : Field := ⟨0x17010, 3, 1, .ro, 1, .v⟩
def FLT_OP_DOOR_OPEN : Field := ⟨0x17010, 4, 1, .ro, 0, .v⟩
def FLT_OP_KEY_ON : Field := ⟨0x17010, 5, 1, .ro, 0, .v⟩
def FLT_OP_SVC_PRESENT : Field := ⟨0x17010, 6, 1, .ro, 0, .v⟩
def FLT_OP_ESTOP_DISC : Field := ⟨0x17010, 7, 1, .w1c, 0, .v⟩
/-! FLT_MAINT (R397) -/
def FLT_MAINT_VY : Field := ⟨0x17014, 0, 16, .rw, 0x64, .v⟩
def FLT_MAINT_VAUX : Field := ⟨0x17014, 16, 16, .rw, 0xFA, .v⟩
/-! FLT_HOLD (R397) -/
def FLT_HOLD_DRIFT_X : Field := ⟨0x17018, 0, 16, .ro, 0, .v⟩
def FLT_HOLD_DRIFT_Y : Field := ⟨0x17018, 16, 16, .ro, 0, .v⟩
/-! FLT_SVC (R397) -/
def FLT_SVC_REFUSED : Field := ⟨0x1701C, 0, 16, .ro, 0, .v⟩
def FLT_SVC_WRITE_EN : Field := ⟨0x1701C, 16, 1, .ro, 0, .v⟩
def FLT_SVC_SESSION : Field := ⟨0x1701C, 17, 1, .ro, 0, .v⟩
/-! CAL_CTL (R409) -/
def CAL_CTL_AUTO : Field := ⟨0x18000, 0, 1, .rw, 1, .v⟩
def CAL_CTL_DT : Field := ⟨0x18000, 8, 8, .rw, 0x1E, .v⟩
/-! CAL_STATUS (R409) -/
def CAL_STATUS_VALID : Field := ⟨0x18004, 0, 4, .ro, 0, .p⟩
def CAL_STATUS_DUE : Field := ⟨0x18004, 4, 4, .ro, 0, .v⟩
def CAL_STATUS_RUNNING : Field := ⟨0x18004, 8, 4, .ro, 0, .v⟩
def CAL_STATUS_FAIL : Field := ⟨0x18004, 12, 4, .ro, 0, .p⟩
def CAL_STATUS_DAC_LIMITED : Field := ⟨0x18004, 16, 1, .ro, 0, .p⟩
/-! CAL_THR_DIE (R409) -/
def CAL_THR_DIE_WARN : Field := ⟨0x18008, 0, 8, .rw, 0x5F, .v⟩
def CAL_THR_DIE_LIMIT : Field := ⟨0x18008, 8, 8, .rw, 0x64, .v⟩
def CAL_THR_DIE_CRIT : Field := ⟨0x18008, 16, 8, .rw, 0x68, .v⟩
def CAL_THR_DIE_HYST : Field := ⟨0x18008, 24, 8, .rw, 0x3, .v⟩
/-! CAL_THR_BLK (R409) -/
def CAL_THR_BLK_WARN : Field := ⟨0x1800C, 0, 8, .rw, 0x41, .v⟩
def CAL_THR_BLK_LIMIT : Field := ⟨0x1800C, 8, 8, .rw, 0x48, .v⟩
def CAL_THR_BLK_CRIT : Field := ⟨0x1800C, 16, 8, .rw, 0x4E, .v⟩
def CAL_THR_BLK_HYST : Field := ⟨0x1800C, 24, 8, .rw, 0x3, .v⟩
/-! CAL_THERM (R409) -/
def CAL_THERM_DIE_LEVEL : Field := ⟨0x18010, 0, 2, .ro, 0, .v⟩
def CAL_THERM_BLK_LEVEL : Field := ⟨0x18010, 2, 2, .ro, 0, .v⟩
def CAL_THERM_HOT_SENSOR : Field := ⟨0x18010, 4, 4, .ro, 0, .v⟩
def CAL_THERM_INVALID : Field := ⟨0x18010, 16, 12, .ro, 0, .v⟩
/-! CAL_SENSOR (R409) -/
def CAL_SENSOR_TEMP (n : Nat) : Field := ⟨0x18020 + 0x4 * n, 0, 16, .ro, 0, .v⟩
def CAL_SENSOR_VALID (n : Nat) : Field := ⟨0x18020 + 0x4 * n, 31, 1, .ro, 0, .v⟩
/-! CAL_DESKEW (R409) -/
def CAL_DESKEW_CODE0 (n : Nat) : Field := ⟨0x18060 + 0x4 * n, 0, 8, .ro, 0, .p⟩
def CAL_DESKEW_CODE1 (n : Nat) : Field := ⟨0x18060 + 0x4 * n, 8, 8, .ro, 0, .p⟩
def CAL_DESKEW_CODE2 (n : Nat) : Field := ⟨0x18060 + 0x4 * n, 16, 8, .ro, 0, .p⟩
def CAL_DESKEW_CODE3 (n : Nat) : Field := ⟨0x18060 + 0x4 * n, 24, 8, .ro, 0, .p⟩
/-! CAL_DAC (R409) -/
def CAL_DAC_SPARES_X : Field := ⟨0x18070, 0, 16, .ro, 0, .p⟩
def CAL_DAC_SPARES_Y : Field := ⟨0x18070, 16, 16, .ro, 0, .p⟩
/-! CAL_ADC_OFS (R409) -/
def CAL_ADC_OFS_CH0 : Field := ⟨0x18074, 0, 16, .ro, 0, .p⟩
def CAL_ADC_OFS_CH1 : Field := ⟨0x18074, 16, 16, .ro, 0, .p⟩
/-! CAL_TSD (R409) -/
def CAL_TSD_PPS_PS : Field := ⟨0x18078, 0, 16, .ro, 0, .p⟩
def CAL_TSD_PTP_PS : Field := ⟨0x18078, 16, 16, .ro, 0, .p⟩
/-! CAL_EYE_CTL (R409) -/
def CAL_EYE_CTL_AXIS : Field := ⟨0x18080, 0, 2, .rw, 0, .v⟩
def CAL_EYE_CTL_WEAK : Field := ⟨0x18080, 16, 16, .rw, 0x3000, .v⟩
/-! CAL_EYE_PARK (R409) -/
def CAL_EYE_PARK_POS : Field := ⟨0x18084, 0, 32, .rw, 0, .v⟩
/-! CAL_EYE_REF (R409) -/
def CAL_EYE_REF : Field := ⟨0x18088, 0, 32, .rw, 0, .v⟩
/-! XK2_ID (R413) -/
def XK2_ID_DEVICE : Field := ⟨0x20000, 0, 16, .ro, 2592, .v⟩
def XK2_ID_LEVEL : Field := ⟨0x20000, 16, 8, .ro, 0x3, .v⟩
/-! XK2_CTL (R413) -/
def XK2_CTL_RING_EN : Field := ⟨0x20004, 0, 1, .rw, 0, .v⟩
def XK2_CTL_CPL_EN : Field := ⟨0x20004, 1, 1, .rw, 0, .v⟩
def XK2_CTL_IRQ_EN : Field := ⟨0x20004, 2, 1, .rw, 0, .v⟩
def XK2_CTL_SOFT_RESET : Field := ⟨0x20004, 8, 1, .wo, 0, .v⟩
/-! XK2_STATUS (R413) -/
def XK2_STATUS_READY : Field := ⟨0x20008, 0, 1, .ro, 0, .v⟩
def XK2_STATUS_ARMED : Field := ⟨0x20008, 1, 1, .ro, 0, .v⟩
def XK2_STATUS_WRITING : Field := ⟨0x20008, 2, 1, .ro, 0, .v⟩
def XK2_STATUS_DATA_LATE : Field := ⟨0x20008, 3, 1, .ro, 0, .v⟩
def XK2_STATUS_OVERRUN : Field := ⟨0x20008, 4, 1, .w1c, 0, .v⟩
def XK2_STATUS_EARLY : Field := ⟨0x20008, 5, 1, .w1c, 0, .v⟩
def XK2_STATUS_HOT : Field := ⟨0x20008, 6, 1, .ro, 0, .v⟩
def XK2_STATUS_ESTOP : Field := ⟨0x20008, 7, 1, .ro, 0, .v⟩
def XK2_STATUS_EQ_BAD : Field := ⟨0x20008, 8, 1, .w1c, 0, .v⟩
/-! XK2_IRQ (R413) -/
def XK2_IRQ_CPL : Field := ⟨0x2000C, 0, 1, .w1c, 0, .v⟩
def XK2_IRQ_OVERRUN : Field := ⟨0x2000C, 1, 1, .w1c, 0, .v⟩
def XK2_IRQ_ERR : Field := ⟨0x2000C, 2, 1, .w1c, 0, .v⟩
/-! XK2_RING_BASE_LO (R413) -/
def XK2_RING_BASE_LO_ADDR : Field := ⟨0x20010, 0, 32, .rw, 0, .v⟩
/-! XK2_RING_BASE_HI (R413) -/
def XK2_RING_BASE_HI_ADDR : Field := ⟨0x20014, 0, 32, .rw, 0, .v⟩
/-! XK2_CPL_BASE_LO (R413) -/
def XK2_CPL_BASE_LO_ADDR : Field := ⟨0x20024, 0, 32, .rw, 0, .v⟩
/-! XK2_CPL_BASE_HI (R413) -/
def XK2_CPL_BASE_HI_ADDR : Field := ⟨0x20028, 0, 32, .rw, 0, .v⟩
/-! XK2_RING_CTL (R413) -/
def XK2_RING_CTL_LOG2_SIZE : Field := ⟨0x20018, 0, 4, .rw, 0, .v⟩
/-! XK2_CPL_CTL (R413) -/
def XK2_CPL_CTL_LOG2_SIZE : Field := ⟨0x2002C, 0, 4, .rw, 0, .v⟩
/-! XK2_RING_TAIL (R413) -/
def XK2_RING_TAIL : Field := ⟨0x2001C, 0, 16, .rw, 0, .v⟩
/-! XK2_RING_HEAD (R413) -/
def XK2_RING_HEAD_CONS : Field := ⟨0x20020, 0, 16, .ro, 0, .v⟩
/-! XK2_CPL_HEAD (R413) -/
def XK2_CPL_HEAD : Field := ⟨0x20030, 0, 16, .rw, 0, .v⟩
def XK2_CPL_HEAD_W : Field := ⟨0x20030, 16, 16, .ro, 0, .v⟩
/-! XK2_OVERRUN_CNT (R413) -/
def XK2_OVERRUN_CNT_COUNT : Field := ⟨0x20034, 0, 16, .ro, 0, .v⟩
/-! XK2_LINK_CTL (R413) -/
def XK2_LINK_CTL_DEVICE_ID : Field := ⟨0x20038, 0, 11, .rw, 0, .p⟩
def XK2_LINK_CTL_RETRAIN : Field := ⟨0x20038, 11, 1, .wo, 0, .v⟩
def XK2_LINK_CTL_SPARE_EN : Field := ⟨0x20038, 16, 16, .rw, 0, .p⟩
/-! XK2_LINK_STATUS (R413) -/
def XK2_LINK_STATUS_UP : Field := ⟨0x2003C, 0, 16, .ro, 0, .v⟩
def XK2_LINK_STATUS_SPARE_USED : Field := ⟨0x2003C, 16, 16, .ro, 0, .p⟩
/-! XK2_EQ_ADDR (R413) -/
def XK2_EQ_ADDR_INDEX : Field := ⟨0x20040, 0, 10, .rw, 0, .v⟩
/-! XK2_EQ_DATA (R413) -/
def XK2_EQ_DATA_TAPS : Field := ⟨0x20044, 0, 24, .rw, 0, .p⟩
/-! XK2_TEMP (R413) -/
def XK2_TEMP_VALUE : Field := ⟨0x20048, 0, 16, .ro, 0, .v⟩
/-! XK2X_REPORT (R415) -/
def XK2X_REPORT_RECORDS : Field := ⟨0x2F000, 0, 23, .ro, 0, .v⟩
/-! XK2X_REC_IDX (R415) -/
def XK2X_REC_IDX_INDEX : Field := ⟨0x2F004, 0, 23, .rw, 0, .v⟩
/-! XK2X_REC (R415) -/
def XK2X_REC_WORD (n : Nat) : Field := ⟨0x2F008 + 0x4 * n, 0, 32, .ro, 0, .v⟩
/-! PWR_CTL (R444) -/
def PWR_CTL_REQ : Field := ⟨0x02000, 0, 2, .wo, 0, .v⟩
def PWR_CTL_PL_LIMIT : Field := ⟨0x02000, 4, 2, .rw, 0, .v⟩
/-! PWR_STATUS (R444) -/
def PWR_STATUS_PL : Field := ⟨0x02004, 0, 2, .ro, 0, .v⟩
def PWR_STATUS_PL_PENDING : Field := ⟨0x02004, 2, 1, .ro, 0, .v⟩
def PWR_STATUS_REQ_REFUSED : Field := ⟨0x02004, 3, 1, .w1c, 0, .v⟩
def PWR_STATUS_RST_BUSY : Field := ⟨0x02004, 4, 1, .ro, 0, .v⟩
def PWR_STATUS_LAST_RESET : Field := ⟨0x02004, 8, 3, .ro, 0, .k⟩
def PWR_STATUS_K_LOST : Field := ⟨0x02004, 12, 1, .w1c, 1, .k⟩
/-! PWR_WAKE (R444) -/
def PWR_WAKE_EN : Field := ⟨0x02008, 0, 4, .rw, 0, .k⟩
def PWR_WAKE_CAUSE : Field := ⟨0x02008, 16, 4, .w1c, 0, .k⟩
/-! PWR_ALARM_LO (R444) -/
def PWR_ALARM_LO_SEC : Field := ⟨0x0200C, 0, 32, .rw, 0xFFFFFFFF, .k⟩
/-! PWR_ALARM_HI (R444) -/
def PWR_ALARM_HI_SEC : Field := ⟨0x02010, 0, 16, .rw, 0xFFFF, .k⟩
/-! PWR_SUPPLY (R444) -/
def PWR_SUPPLY_VIN : Field := ⟨0x02014, 0, 16, .ro, 0, .v⟩
def PWR_SUPPLY_VIO : Field := ⟨0x02014, 16, 8, .ro, 0, .v⟩
def PWR_SUPPLY_VKEEP : Field := ⟨0x02014, 24, 8, .ro, 0, .v⟩
/-! PWR_RESET_CNT (R444) -/
def PWR_RESET_CNT_WARM : Field := ⟨0x02018, 0, 8, .ro, 0, .k⟩
def PWR_RESET_CNT_HOT_FLR : Field := ⟨0x02018, 8, 8, .ro, 0, .k⟩
def PWR_RESET_CNT_SOFT : Field := ⟨0x02018, 16, 8, .ro, 0, .k⟩
def PWR_RESET_CNT_BROWNOUT : Field := ⟨0x02018, 24, 8, .ro, 0, .k⟩
/-! PWR_KEEP (R444) -/
def PWR_KEEP_WORD (n : Nat) : Field := ⟨0x02100 + 0x4 * n, 0, 32, .rw, 0, .k⟩
/-! PMC_CTL (R458) -/
def PMC_CTL_FREEZE : Field := ⟨0x19000, 0, 1, .rw, 0, .v⟩
def PMC_CTL_CLEAR : Field := ⟨0x19000, 1, 1, .wo, 0, .v⟩
/-! PMC_CHAIN (R458) -/
def PMC_CHAIN (n : Nat) : Field := ⟨0x19004 + 0x4 * n, 0, 32, .rw, 0xFFFFFFFF, .v⟩
/-! PMC_OVF (R458) -/
def PMC_OVF (n : Nat) : Field := ⟨0x19010 + 0x4 * n, 0, 32, .w1c, 0, .v⟩
/-! PMC_RD_SEL (R458) -/
def PMC_RD_SEL_BLOCK : Field := ⟨0x19028, 0, 5, .rw, 0, .v⟩
def PMC_RD_SEL_COUNTER : Field := ⟨0x19028, 5, 3, .rw, 0, .v⟩
def PMC_RD_SEL_ENGINE : Field := ⟨0x19028, 8, 7, .rw, 0, .v⟩
def PMC_RD_SEL_CLASS : Field := ⟨0x19028, 16, 2, .rw, 0, .v⟩
def PMC_RD_SEL_SLOT : Field := ⟨0x19028, 31, 1, .rw, 0, .v⟩
/-! PMC_RD_LO (R458) -/
def PMC_RD_LO_VALUE : Field := ⟨0x1902C, 0, 32, .ro, 0, .v⟩
/-! PMC_RD_MID (R458) -/
def PMC_RD_MID_VALUE : Field := ⟨0x19030, 0, 32, .ro, 0, .v⟩
/-! PMC_RD_HI (R458) -/
def PMC_RD_HI_VALUE : Field := ⟨0x19034, 0, 32, .ro, 0, .v⟩
/-! PMC_SEQ (R458) -/
def PMC_SEQ : Field := ⟨0x19038, 0, 32, .ro, 0, .v⟩
/-! CHK_SN_CTL (R458) -/
def CHK_SN_CTL_MODE (u : Nat) : Field := ⟨0x16100 + 0x20 * u, 0, 2, .rw, (if u = 0 then 0 else 1), .v⟩
def CHK_SN_CTL_POLY (u : Nat) : Field := ⟨0x16100 + 0x20 * u, 2, 2, .rw, 0, .v⟩
def CHK_SN_CTL_SEEDED (u : Nat) : Field := ⟨0x16100 + 0x20 * u, 4, 1, .rw, 0, .v⟩
def CHK_SN_CTL_FILTER (u : Nat) : Field := ⟨0x16100 + 0x20 * u, 8, 4, .rw, 0, .v⟩
/-! CHK_SN_SEED_LO (R458) -/
def CHK_SN_SEED_LO_WORD (u : Nat) : Field := ⟨0x16104 + 0x20 * u, 0, 32, .rw, 0, .v⟩
/-! CHK_SN_SEED_HI (R458) -/
def CHK_SN_SEED_HI_WORD (u : Nat) : Field := ⟨0x16108 + 0x20 * u, 0, 32, .rw, 0, .v⟩
/-! CHK_SN_VAL_LO (R458) -/
def CHK_SN_VAL_LO_WORD (u : Nat) : Field := ⟨0x1610C + 0x20 * u, 0, 32, .rw, 0, .v⟩
/-! CHK_SN_VAL_HI (R458) -/
def CHK_SN_VAL_HI_WORD (u : Nat) : Field := ⟨0x16110 + 0x20 * u, 0, 32, .rw, 0, .v⟩
/-! CHK_SN_COUNT (R458) -/
def CHK_SN_COUNT (u : Nat) : Field := ⟨0x16114 + 0x20 * u, 0, 32, .ro, 0, .v⟩
/-! CHK_SN_MISMATCH (R458) -/
def CHK_SN_MISMATCH_COUNT (u : Nat) : Field := ⟨0x16118 + 0x20 * u, 0, 32, .ro, 0, .v⟩
/-! CHK_WF_CTL (R458) -/
def CHK_WF_CTL_START (c : Nat) : Field := ⟨0x16400 + 0x40 * c, 0, 1, .wo, 0, .v⟩
def CHK_WF_CTL_POLY (c : Nat) : Field := ⟨0x16400 + 0x40 * c, 2, 2, .rw, 0, .v⟩
def CHK_WF_CTL_SEEDED (c : Nat) : Field := ⟨0x16400 + 0x40 * c, 4, 1, .rw, 1, .v⟩
def CHK_WF_CTL_BUSY (c : Nat) : Field := ⟨0x16400 + 0x40 * c, 8, 1, .ro, 0, .v⟩
/-! CHK_WF_SEED_LO (R458) -/
def CHK_WF_SEED_LO_WORD (c : Nat) : Field := ⟨0x16404 + 0x40 * c, 0, 32, .rw, 0, .v⟩
/-! CHK_WF_SEED_HI (R458) -/
def CHK_WF_SEED_HI_WORD (c : Nat) : Field := ⟨0x16408 + 0x40 * c, 0, 32, .rw, 0, .v⟩
/-! CHK_WF_VAL_LO (R458) -/
def CHK_WF_VAL_LO_WORD (c : Nat) : Field := ⟨0x1640C + 0x40 * c, 0, 32, .rw, 0, .v⟩
/-! CHK_WF_VAL_HI (R458) -/
def CHK_WF_VAL_HI_WORD (c : Nat) : Field := ⟨0x16410 + 0x40 * c, 0, 32, .rw, 0, .v⟩
/-! CHK_WF_RESULT_LO (R458) -/
def CHK_WF_RESULT_LO_WORD (c : Nat) : Field := ⟨0x16414 + 0x40 * c, 0, 32, .ro, 0, .v⟩
/-! CHK_WF_RESULT_HI (R458) -/
def CHK_WF_RESULT_HI_WORD (c : Nat) : Field := ⟨0x16418 + 0x40 * c, 0, 32, .ro, 0, .v⟩
/-! CHK_WF_DATA32 (R458) -/
def CHK_WF_DATA32_DATA (c : Nat) : Field := ⟨0x16420 + 0x40 * c, 0, 32, .wo, 0, .v⟩
/-! CHK_WF_DATA16 (R458) -/
def CHK_WF_DATA16_DATA (c : Nat) : Field := ⟨0x16424 + 0x40 * c, 0, 16, .wo, 0, .v⟩
/-! CHK_WF_DATA8 (R458) -/
def CHK_WF_DATA8_DATA (c : Nat) : Field := ⟨0x16428 + 0x40 * c, 0, 8, .wo, 0, .v⟩
/-! CHK_WF_BYTES (R458) -/
def CHK_WF_BYTES (c : Nat) : Field := ⟨0x1642C + 0x40 * c, 0, 32, .ro, 0, .v⟩
/-! CHK_STATUS (R458) -/
def CHK_STATUS_MISMATCH : Field := ⟨0x16600, 0, 22, .w1c, 0, .v⟩
def CHK_STATUS_WF_PRESENT : Field := ⟨0x16600, 24, 1, .ro, 1, .v⟩
/-! DBG_MUX (R458) -/
def DBG_MUX_A_SEL : Field := ⟨0x1A000, 0, 6, .rw, 0, .v⟩
def DBG_MUX_B_SEL : Field := ⟨0x1A000, 8, 6, .rw, 0, .v⟩
/-! GLB_ID (R461) -/
def GLB_ID_VENDOR : Field := ⟨0x00000, 0, 16, .ro, 0x1F4B, .v⟩
def GLB_ID_DEVICE : Field := ⟨0x00000, 16, 16, .ro, 0x0640, .v⟩
/-! GLB_VERSION (R461) -/
def GLB_VERSION_STEPPING : Field := ⟨0x00004, 0, 8, .ro, 0x1, .v⟩
def GLB_VERSION_FW_MAJOR : Field := ⟨0x00004, 8, 8, .ro, 0, .v⟩
def GLB_VERSION_FW_MINOR : Field := ⟨0x00004, 16, 8, .ro, 0, .v⟩
def GLB_VERSION_FW_IMAGE : Field := ⟨0x00004, 24, 1, .ro, 0, .v⟩
/-! GLB_MODE (R461) -/
def GLB_MODE_NATIVE : Field := ⟨0x00008, 0, 1, .ro, 0, .none⟩
def GLB_MODE_MODESEL_LEVEL : Field := ⟨0x00008, 1, 1, .ro, 0, .v⟩
/-! GLB_CAPS (R461) -/
def GLB_CAPS_SLICES : Field := ⟨0x0000C, 0, 3, .ro, 5, .v⟩
def GLB_CAPS_SPARE_SLICE : Field := ⟨0x0000C, 3, 1, .ro, 1, .v⟩
def GLB_CAPS_DCU : Field := ⟨0x0000C, 4, 1, .ro, 1, .v⟩
def GLB_CAPS_WF_CHECK : Field := ⟨0x0000C, 5, 1, .ro, 1, .v⟩
def GLB_CAPS_FX632 : Field := ⟨0x0000C, 6, 1, .ro, 0, .v⟩
def GLB_CAPS_GROUPS : Field := ⟨0x0000C, 8, 5, .ro, 16, .v⟩
def GLB_CAPS_SNOOP_UNITS : Field := ⟨0x0000C, 16, 5, .ro, 22, .v⟩
def GLB_CAPS_XK2_IMAGE : Field := ⟨0x0000C, 24, 1, .ro, 1, .v⟩
/-! GLB_CTL (R461) -/
def GLB_CTL_SOFT_RESET : Field := ⟨0x00010, 0, 1, .wo, 0, .v⟩
def GLB_CTL_SVC_WRITE_DIS : Field := ⟨0x00010, 8, 1, .rwl, 0, .p⟩
def GLB_CTL_SVC_PORT_DIS : Field := ⟨0x00010, 9, 1, .rwl, 0, .p⟩
def GLB_CTL_OBS_DIS : Field := ⟨0x00010, 10, 1, .rwl, 0, .p⟩
def GLB_CTL_LOCK : Field := ⟨0x00010, 31, 1, .rwl, 0, .p⟩
/-! GLB_STATUS (R461) -/
def GLB_STATUS_INSTAR : Field := ⟨0x00014, 0, 3, .ro, 0, .v⟩
def GLB_STATUS_BLOCKED : Field := ⟨0x00014, 4, 1, .ro, 0, .v⟩
def GLB_STATUS_DEGRADED : Field := ⟨0x00014, 5, 1, .ro, 0, .v⟩
def GLB_STATUS_LOCK_HIT : Field := ⟨0x00014, 8, 1, .w1c, 0, .v⟩
def GLB_STATUS_BOUND : Field := ⟨0x00014, 9, 3, .ro, 0, .v⟩
def GLB_STATUS_WRITING : Field := ⟨0x00014, 12, 1, .ro, 0, .v⟩
def GLB_STATUS_HELD : Field := ⟨0x00014, 13, 1, .ro, 0, .v⟩
/-! GLB_IRQ_CAUSE (R461) -/
def GLB_IRQ_CAUSE_TIME : Field := ⟨0x00018, 0, 1, .w1c, 0, .v⟩
def GLB_IRQ_CAUSE_THERMAL : Field := ⟨0x00018, 1, 1, .w1c, 0, .v⟩
def GLB_IRQ_CAUSE_OPERATOR : Field := ⟨0x00018, 2, 1, .w1c, 0, .v⟩
def GLB_IRQ_CAUSE_LINK : Field := ⟨0x00018, 3, 1, .w1c, 0, .v⟩
def GLB_IRQ_CAUSE_MEMORY : Field := ⟨0x00018, 4, 1, .w1c, 0, .v⟩
def GLB_IRQ_CAUSE_HOST : Field := ⟨0x00018, 5, 1, .w1c, 0, .v⟩
def GLB_IRQ_CAUSE_EVR_DROP : Field := ⟨0x00018, 6, 1, .w1c, 0, .v⟩
def GLB_IRQ_CAUSE_INSTAR : Field := ⟨0x00018, 7, 1, .w1c, 0, .v⟩
def GLB_IRQ_CAUSE_CAL : Field := ⟨0x00018, 8, 1, .w1c, 0, .v⟩
def GLB_IRQ_CAUSE_FAULT : Field := ⟨0x00018, 9, 1, .w1c, 0, .v⟩
def GLB_IRQ_CAUSE_POWER : Field := ⟨0x00018, 10, 1, .w1c, 0, .v⟩
def GLB_IRQ_CAUSE_LOCK : Field := ⟨0x00018, 11, 1, .w1c, 0, .v⟩
/-! GLB_IRQ_MASK (R461) -/
def GLB_IRQ_MASK : Field := ⟨0x0001C, 0, 12, .rw, 0xFFF, .v⟩

/-- The single fields of block FTC (R459). -/
def singlesFTC : List Field :=
  [FTC_CTL_SELFMIS_LIMIT, FTC_CTL_RAW_ONLY, FTC_CACHE_CAP_CAP_MIB, FTC_CACHE_USED_USED_MIB, 
   FTC_BYPASS_SECTOR, FTC_BYPASS_SPARE, FTC_ERR_STATUS, FTC_ERR_STATUS_CHANNEL, FTC_ERR_STATUS_VALID, 
   FTC_ERR_OFFSET_BLOCK_OFFSET, FTC_ERR_BLOCK_BLOCK_INDEX]

/-- The single fields of block DCU (R459). -/
def singlesDCU : List Field :=
  [DCU_STATUS_BUSY, DCU_STATUS_RECOMPUTE, DCU_STATUS_ITER, DCU_STATUS_SLOT_VALID, DCU_STRIPE_STRIPE_ID, 
   DCU_GRID_COLS, DCU_GRID_ROWS, DCU_RESID_MAX_STEP, DCU_SAT_F_SAT, DCU_SAT_T_CLAMP, DCU_TIME_CYCLES]

/-- The single fields of block BEM (R459). -/
def singlesBEM : List Field :=
  [BEM_STATUS_BT_VALID, BEM_STATUS_DM_VALID, BEM_PLAN_UNTRIMMED, BEM_PLAN_EMPTY, BEM_LOST_FRAMES, 
   BEM_CUT_TICK]

/-- The single fields of block LDG (R459). -/
def singlesLDG : List Field :=
  [LDG_CTL_REPAIR_MAX, LDG_STATUS_OVERFLOW, LDG_STATUS_REPAIR_PASS, LDG_USED_ENTRIES, LDG_PEAK_ENTRIES, 
   LDG_VIS_ABORT_VISITS, LDG_VIS_GAP_VISITS, LDG_VIS_LOST_VISITS, LDG_REPORT_RECORDS]

/-- The single fields of block FRM (R459). -/
def singlesFRM : List Field :=
  [FRM_DWELL_DELAY, FRM_DWELL_LEN, FRM_DEVICE_DEVICE_ID, FRM_NAK_CTL_NAK_WINDOW, FRM_NAK_COUNT, 
   FRM_NAK_BOGUS, FRM_SPARE_CTL_NAK_LIMIT, FRM_GAP_LAST_NS, FRM_GAP_SWITCHES, FRM_TEMP_VALUE, 
   FRM_TEMP_GROUP, FRM_TEMP_STALE, FRM_TEMP_CTL_TIMEOUT, FRM_RET_ERR_LOSSES, FRM_RET_ERR_GROUP, 
   FRM_RET_ERR_VALID]

/-- The single fields of block STG (R459). -/
def singlesSTG : List Field :=
  [STG_CTL_EN, STG_CTL_ROLE, STG_CTL_SP_EN, STG_STATUS_LOCK, STG_STATUS_STATE, STG_STATUS_TSYNC_LOCK, 
   STG_MISSED_SAMPLES, STG_MISSED_FAULTS, STG_LAT, STG_TSYNC_HOP, STG_TSYNC_LEAD, STG_TSYNC_RING, 
   STG_OVERRUN_HELD, STG_OVERRUN_EMERG, STG_MAX_LAG, STG_XK2_OVERRUN]

/-- The single fields of block SKP (R459). -/
def singlesSKP : List Field :=
  [SKP_VA_VMAX, SKP_VA_AMAX, SKP_JE_JMAX, SKP_JE_EDEC, SKP_PLAN_MARGIN, SKP_PLAN_LOW, SKP_TIME_HORIZON, 
   SKP_TIME_SETTLE, SKP_TIME_COOL_FRAC, SKP_YMIN_Y, SKP_YMAX_Y, SKP_STATUS_F_PLAN, SKP_STATUS_CAUSE, 
   SKP_RES_WIN, SKP_RAS, SKP_OVERSHOOT_NM]

/-- The single fields of block LPR (R459). -/
def singlesLPR : List Field :=
  [LPR_CTL_EN, LPR_CTL_SWAP, LPR_CTL_INV_X, LPR_CTL_INV_Y, LPR_CTL_PLAUS_EN, LPR_STATUS_ENGAGED, 
   LPR_STATUS_BANK, LPR_STATUS_REGION, LPR_STATUS_BANK_VALID, LPR_STATUS_SWAP_PENDING, 
   LPR_STATUS_SWAP_FORCED, LPR_STATUS_SWAP_BAD, LPR_STATUS_HOLD, LPR_STATUS_SAT_X, LPR_STATUS_SAT_Y, 
   LPR_SWAP_TIMEOUT_US, LPR_PATH_PATH_NS, LPR_DAC_GAIN_X_GAIN, LPR_DAC_GAIN_Y_GAIN, LPR_DAC_OFS_X_OFS, 
   LPR_DAC_OFS_Y_OFS, LPR_PLAUS_THR, LPR_PLAUS_N, LPR_DEMAND_X_D, LPR_DEMAND_Y_D, LPR_PEAK_X, 
   LPR_PEAK_Y, LPR_SAT_X, LPR_SAT_Y, LPR_EVENTS_SWAPS, LPR_EVENTS_FORCED, LPR_EVENTS_IMPLAUS, 
   LPR_EVENTS_MISMATCH, LPR_ENGINE_ACTIVE, LPR_ENGINE_STANDBY, LPR_MODEL_PEAK]

/-- The single fields of block MEM (R459). -/
def singlesMEM : List Field :=
  [MEM_CTL_RATE, MEM_CTL_RD_N, MEM_CTL_SWEEP, MEM_STATUS_RATE, MEM_STATUS_SWEEPING, 
   MEM_STATUS_RATE_PENDING, MEM_STATUS_TRAINED, MEM_STATUS_REHASH_PENDING, MEM_STATUS_LIVE0, 
   MEM_STATUS_LIVE1, MEM_CAP_DATA_MIB, MEM_CE_COUNT, MEM_STRONG_COUNT, MEM_UE_COUNT, MEM_UE_POISON_HITS, 
   MEM_CA_REPLAYS, MEM_CA_FAILED, MEM_RD_REFRESH_COUNT, MEM_ERR_INFO_STATUS, MEM_ERR_INFO_PC, 
   MEM_ERR_INFO_KIND, MEM_ERR_INFO_VALID, MEM_ERR_ADDR_LO_ADDR, MEM_ERR_ADDR_HI_ADDR, MEM_REMAP_USED, 
   MEM_REMAP_FULL, MEM_FLIP_LO_MASK, MEM_FLIP_MID_MASK, MEM_FLIP_HI_MASK, MEM_FLIP_CTL_ARM, 
   MEM_FLIP_CTL_ADDR_MATCH, MEM_FLIP_CTL_STRONG_FAIL, MEM_FLIP_ADDR_LO_ADDR, MEM_FLIP_ADDR_HI_ADDR]

/-- The single fields of block HIF (R459). -/
def singlesHIF : List Field :=
  [HIF_STATUS_SPEED, HIF_STATUS_WIDTH, HIF_STATUS_DB_ERR, HIF_STATUS_CFG_ERR, HIF_EVR_BASE_LO_ADDR, 
   HIF_EVR_BASE_HI_ADDR, HIF_EVR_CTL_EN, HIF_EVR_CTL_LOG2_SIZE, HIF_EVR_CTL_VECTOR, HIF_EVR_CTL_HOLDOFF, 
   HIF_EVR_IDX_W, HIF_EVR_IDX_HEAD, HIF_EVR_DROPPED_COUNT]

/-- The single fields of block TIM (R459). -/
def singlesTIM : List Field :=
  [TIM_CTL_SRC, TIM_CTL_HOLD, TIM_CTL_GUARD, TIM_CTL_ACCEPT, TIM_STATUS_VALID, TIM_STATUS_LOCKED, 
   TIM_STATUS_HOLDING, TIM_STATUS_GUARD_TRIP, TIM_STATUS_STEP_PENDING, TIM_STATUS_XTAL_RAN, 
   TIM_STATUS_TSQ_OVF, TIM_STATUS_RATE_BAD, TIM_STATUS_PTP_STATE, TIM_NOW_FRAC_V, TIM_NOW_NS_V, 
   TIM_NOW_SEC_LO_V, TIM_NOW_SEC_HI_V, TIM_RATE, TIM_STEP_NS_STEP, TIM_STEP_SEC_STEP, TIM_GUARD_THR, 
   TIM_SLEW_PPB, TIM_OFFSET_NS, TIM_PPS_NS, TIM_PPS_NS_GLITCH, TIM_PPS_SEC_LO_SEC, TIM_CAP_TICK, 
   TIM_CAP_FRAC_V, TIM_CAP_NS_V, TIM_CAP_NS_VALID, TIM_CAP_SEC_LO_V, TIM_PTP_CTL_EN, TIM_PTP_CTL_UDP, 
   TIM_PTP_CTL_FEC, TIM_PTP_CTL_DOMAIN, TIM_PTP_CTL_DREQ_LOG2, TIM_PTP_IP_ADDR, TIM_TSQ_USED, 
   TIM_TSQ_DROPPED]

/-- The single fields of block FLT (R459). -/
def singlesFLT : List Field :=
  [FLT_CTL_SHADOW_LOG2, FLT_CTL_SPARE_LIMIT, FLT_CTL_DISC_MS, FLT_STATUS_MOLT_SECTOR, 
   FLT_STATUS_SPARE_STATE, FLT_STATUS_SLICE_FAILED, FLT_SHADOW_COMPARES, FLT_SHADOW_MISMATCH, 
   FLT_THIRD_OWNER_WRONG, FLT_THIRD_SPARE_WRONG, FLT_THIRD_NO_MAJORITY, FLT_OP_ESTOP_A, FLT_OP_ESTOP_B, 
   FLT_OP_ESTOP, FLT_OP_ACK_WAIT, FLT_OP_DOOR_OPEN, FLT_OP_KEY_ON, FLT_OP_SVC_PRESENT, 
   FLT_OP_ESTOP_DISC, FLT_MAINT_VY, FLT_MAINT_VAUX, FLT_HOLD_DRIFT_X, FLT_HOLD_DRIFT_Y, FLT_SVC_REFUSED, 
   FLT_SVC_WRITE_EN, FLT_SVC_SESSION]

/-- The single fields of block CAL (R459). -/
def singlesCAL : List Field :=
  [CAL_CTL_AUTO, CAL_CTL_DT, CAL_STATUS_VALID, CAL_STATUS_DUE, CAL_STATUS_RUNNING, CAL_STATUS_FAIL, 
   CAL_STATUS_DAC_LIMITED, CAL_THR_DIE_WARN, CAL_THR_DIE_LIMIT, CAL_THR_DIE_CRIT, CAL_THR_DIE_HYST, 
   CAL_THR_BLK_WARN, CAL_THR_BLK_LIMIT, CAL_THR_BLK_CRIT, CAL_THR_BLK_HYST, CAL_THERM_DIE_LEVEL, 
   CAL_THERM_BLK_LEVEL, CAL_THERM_HOT_SENSOR, CAL_THERM_INVALID, CAL_DAC_SPARES_X, CAL_DAC_SPARES_Y, 
   CAL_ADC_OFS_CH0, CAL_ADC_OFS_CH1, CAL_TSD_PPS_PS, CAL_TSD_PTP_PS, CAL_EYE_CTL_AXIS, CAL_EYE_CTL_WEAK, 
   CAL_EYE_PARK_POS, CAL_EYE_REF]

/-- The single fields of block XK2 (R459). -/
def singlesXK2 : List Field :=
  [XK2_ID_DEVICE, XK2_ID_LEVEL, XK2_CTL_RING_EN, XK2_CTL_CPL_EN, XK2_CTL_IRQ_EN, XK2_CTL_SOFT_RESET, 
   XK2_STATUS_READY, XK2_STATUS_ARMED, XK2_STATUS_WRITING, XK2_STATUS_DATA_LATE, XK2_STATUS_OVERRUN, 
   XK2_STATUS_EARLY, XK2_STATUS_HOT, XK2_STATUS_ESTOP, XK2_STATUS_EQ_BAD, XK2_IRQ_CPL, XK2_IRQ_OVERRUN, 
   XK2_IRQ_ERR, XK2_RING_BASE_LO_ADDR, XK2_RING_BASE_HI_ADDR, XK2_CPL_BASE_LO_ADDR, 
   XK2_CPL_BASE_HI_ADDR, XK2_RING_CTL_LOG2_SIZE, XK2_CPL_CTL_LOG2_SIZE, XK2_RING_TAIL, 
   XK2_RING_HEAD_CONS, XK2_CPL_HEAD, XK2_CPL_HEAD_W, XK2_OVERRUN_CNT_COUNT, XK2_LINK_CTL_DEVICE_ID, 
   XK2_LINK_CTL_RETRAIN, XK2_LINK_CTL_SPARE_EN, XK2_LINK_STATUS_UP, XK2_LINK_STATUS_SPARE_USED, 
   XK2_EQ_ADDR_INDEX, XK2_EQ_DATA_TAPS, XK2_TEMP_VALUE]

/-- The single fields of block XK2X (R459). -/
def singlesXK2X : List Field :=
  [XK2X_REPORT_RECORDS, XK2X_REC_IDX_INDEX]

/-- The single fields of block PWR (R459). -/
def singlesPWR : List Field :=
  [PWR_CTL_REQ, PWR_CTL_PL_LIMIT, PWR_STATUS_PL, PWR_STATUS_PL_PENDING, PWR_STATUS_REQ_REFUSED, 
   PWR_STATUS_RST_BUSY, PWR_STATUS_LAST_RESET, PWR_STATUS_K_LOST, PWR_WAKE_EN, PWR_WAKE_CAUSE, 
   PWR_ALARM_LO_SEC, PWR_ALARM_HI_SEC, PWR_SUPPLY_VIN, PWR_SUPPLY_VIO, PWR_SUPPLY_VKEEP, 
   PWR_RESET_CNT_WARM, PWR_RESET_CNT_HOT_FLR, PWR_RESET_CNT_SOFT, PWR_RESET_CNT_BROWNOUT]

/-- The single fields of block PMC (R459). -/
def singlesPMC : List Field :=
  [PMC_CTL_FREEZE, PMC_CTL_CLEAR, PMC_RD_SEL_BLOCK, PMC_RD_SEL_COUNTER, PMC_RD_SEL_ENGINE, 
   PMC_RD_SEL_CLASS, PMC_RD_SEL_SLOT, PMC_RD_LO_VALUE, PMC_RD_MID_VALUE, PMC_RD_HI_VALUE, PMC_SEQ]

/-- The single fields of block CHK (R459). -/
def singlesCHK : List Field :=
  [CHK_STATUS_MISMATCH, CHK_STATUS_WF_PRESENT]

/-- The single fields of block DBG (R459). -/
def singlesDBG : List Field :=
  [DBG_MUX_A_SEL, DBG_MUX_B_SEL]

/-- The single fields of block GLB (R459). -/
def singlesGLB : List Field :=
  [GLB_ID_VENDOR, GLB_ID_DEVICE, GLB_VERSION_STEPPING, GLB_VERSION_FW_MAJOR, GLB_VERSION_FW_MINOR, 
   GLB_VERSION_FW_IMAGE, GLB_MODE_NATIVE, GLB_MODE_MODESEL_LEVEL, GLB_CAPS_SLICES, GLB_CAPS_SPARE_SLICE, 
   GLB_CAPS_DCU, GLB_CAPS_WF_CHECK, GLB_CAPS_FX632, GLB_CAPS_GROUPS, GLB_CAPS_SNOOP_UNITS, 
   GLB_CAPS_XK2_IMAGE, GLB_CTL_SOFT_RESET, GLB_CTL_SVC_WRITE_DIS, GLB_CTL_SVC_PORT_DIS, GLB_CTL_OBS_DIS, 
   GLB_CTL_LOCK, GLB_STATUS_INSTAR, GLB_STATUS_BLOCKED, GLB_STATUS_DEGRADED, GLB_STATUS_LOCK_HIT, 
   GLB_STATUS_BOUND, GLB_STATUS_WRITING, GLB_STATUS_HELD, GLB_IRQ_CAUSE_TIME, GLB_IRQ_CAUSE_THERMAL, 
   GLB_IRQ_CAUSE_OPERATOR, GLB_IRQ_CAUSE_LINK, GLB_IRQ_CAUSE_MEMORY, GLB_IRQ_CAUSE_HOST, 
   GLB_IRQ_CAUSE_EVR_DROP, GLB_IRQ_CAUSE_INSTAR, GLB_IRQ_CAUSE_CAL, GLB_IRQ_CAUSE_FAULT, 
   GLB_IRQ_CAUSE_POWER, GLB_IRQ_CAUSE_LOCK, GLB_IRQ_MASK]

/-- A family of registers: base offset, stride, count, and its fields at an index. -/
structure Family where
  base : Nat
  stride : Nat
  count : Nat
  fields : Nat → List Field

/-- The one-index register families of block SLC. -/
def familiesSLC : List Family :=
  [⟨0x08000, 0x800, 5, fun n => [SLC_CTL_WDOG_CYCLES n, SLC_CTL_FENCE_LIMIT n]⟩,
   ⟨0x08004, 0x800, 5, fun n => [SLC_STATUS_STATE n, SLC_STATUS_SECTOR n, SLC_STATUS_PREPASS n, SLC_STATUS_ENG_FENCED n]⟩,
   ⟨0x08008, 0x800, 5, fun n => [SLC_ENG_DISABLE n]⟩,
   ⟨0x0800C, 0x800, 5, fun n => [SLC_DROPS_MIG_DROPPED n, SLC_DROPS_SHADOW_DROPPED n]⟩]

/-- The one-index register families of block FRM. -/
def familiesFRM : List Family :=
  [⟨0x0D014, 0x4, 2, fun n => [FRM_SPARE_MAP_USED0 n, FRM_SPARE_MAP_LANE0 n, FRM_SPARE_MAP_USED1 n, FRM_SPARE_MAP_LANE1 n, FRM_SPARE_MAP_USED2 n, FRM_SPARE_MAP_LANE2 n, FRM_SPARE_MAP_USED3 n, FRM_SPARE_MAP_LANE3 n, FRM_SPARE_MAP_USED4 n, FRM_SPARE_MAP_LANE4 n, FRM_SPARE_MAP_USED5 n, FRM_SPARE_MAP_LANE5 n, FRM_SPARE_MAP_USED6 n, FRM_SPARE_MAP_LANE6 n, FRM_SPARE_MAP_USED7 n, FRM_SPARE_MAP_LANE7 n]⟩]

/-- The one-index register families of block MPH. -/
def familiesMPH : List Family :=
  [⟨0x103C0, 0x400, 16, fun n => [MPH_GRP_CTL_MAX_RATE n, MPH_GRP_CTL_RETRAIN n, MPH_GRP_CTL_L2_REQ n, MPH_GRP_CTL_EQ_TIMEOUT n, MPH_GRP_CTL_VERIFY_LOG2 n]⟩,
   ⟨0x103C4, 0x400, 16, fun n => [MPH_GRP_STATUS_RATE n, MPH_GRP_STATUS_FAR_MAX n, MPH_GRP_STATUS_STATE n, MPH_GRP_STATUS_FAIL_REASON n, MPH_GRP_STATUS_SPARE_FIT n, MPH_GRP_STATUS_RATE_PENDING n, MPH_GRP_STATUS_STEPPED_DOWN n]⟩]

/-- The one-index register families of block AUX. -/
def familiesAUX : List Family :=
  [⟨0x05000, 0x40, 4, fun n => [AUX_VEL_VSTART n, AUX_VEL_VMAX n]⟩,
   ⟨0x05004, 0x40, 4, fun n => [AUX_ACC n, AUX_ACC_DEC n]⟩,
   ⟨0x05008, 0x40, 4, fun n => [AUX_HOLD_HOLD_DELAY n, AUX_HOLD_WAKE n]⟩,
   ⟨0x0500C, 0x40, 4, fun n => [AUX_POS n]⟩,
   ⟨0x05010, 0x40, 4, fun n => [AUX_MIN_LIMIT n]⟩,
   ⟨0x05014, 0x40, 4, fun n => [AUX_MAX_LIMIT n]⟩,
   ⟨0x05018, 0x40, 4, fun n => [AUX_REMAIN_STEPS n]⟩,
   ⟨0x0501C, 0x40, 4, fun n => [AUX_STATUS_STATE n, AUX_STATUS_IHOLD n, AUX_STATUS_ACCEL_DEFERRED n, AUX_STATUS_OVERSHOOT n]⟩]

/-- The one-index register families of block MEM. -/
def familiesMEM : List Family :=
  [⟨0x14008, 0x4, 2, fun n => [MEM_PC_LIVE n]⟩,
   ⟨0x14010, 0x4, 4, fun n => [MEM_REPAIR_USED0 n, MEM_REPAIR_USED1 n, MEM_REPAIR_USED2 n, MEM_REPAIR_USED3 n, MEM_REPAIR_USED4 n, MEM_REPAIR_USED5 n, MEM_REPAIR_USED6 n, MEM_REPAIR_USED7 n, MEM_REPAIR_USED8 n, MEM_REPAIR_USED9 n, MEM_REPAIR_USED10 n, MEM_REPAIR_USED11 n, MEM_REPAIR_USED12 n, MEM_REPAIR_USED13 n, MEM_REPAIR_USED14 n, MEM_REPAIR_USED15 n]⟩]

/-- The one-index register families of block HIF. -/
def familiesHIF : List Family :=
  [⟨0x01100, 0x20, 9, fun n => [HIF_SQ_BASE_LO_ADDR n]⟩,
   ⟨0x01104, 0x20, 9, fun n => [HIF_SQ_BASE_HI_ADDR n]⟩,
   ⟨0x01300, 0x20, 4, fun n => [HIF_CPR_BASE_LO_ADDR n]⟩,
   ⟨0x01304, 0x20, 4, fun n => [HIF_CPR_BASE_HI_ADDR n]⟩,
   ⟨0x01108, 0x20, 9, fun n => [HIF_SQ_CTL_EN n, HIF_SQ_CTL_LOG2_SIZE n, HIF_SQ_CTL_CPR n]⟩,
   ⟨0x0110C, 0x20, 9, fun n => [HIF_SQ_STATUS_CONS n, HIF_SQ_STATUS_TAIL_LO n, HIF_SQ_STATUS_STOPPED n, HIF_SQ_STATUS_ERR n]⟩,
   ⟨0x01308, 0x20, 4, fun n => [HIF_CPR_CTL_EN n, HIF_CPR_CTL_LOG2_SIZE n, HIF_CPR_CTL_VECTOR n, HIF_CPR_CTL_HOLDOFF n]⟩,
   ⟨0x0130C, 0x20, 4, fun n => [HIF_CPR_IDX_W n, HIF_CPR_IDX_HEAD n]⟩]

/-- The one-index register families of block CAL. -/
def familiesCAL : List Family :=
  [⟨0x18020, 0x4, 12, fun n => [CAL_SENSOR_TEMP n, CAL_SENSOR_VALID n]⟩,
   ⟨0x18060, 0x4, 4, fun n => [CAL_DESKEW_CODE0 n, CAL_DESKEW_CODE1 n, CAL_DESKEW_CODE2 n, CAL_DESKEW_CODE3 n]⟩]

/-- The one-index register families of block XK2X. -/
def familiesXK2X : List Family :=
  [⟨0x2F008, 0x4, 4, fun n => [XK2X_REC_WORD n]⟩]

/-- The one-index register families of block PWR. -/
def familiesPWR : List Family :=
  [⟨0x02100, 0x4, 64, fun n => [PWR_KEEP_WORD n]⟩]

/-- The one-index register families of block PMC. -/
def familiesPMC : List Family :=
  [⟨0x19004, 0x4, 3, fun n => [PMC_CHAIN n]⟩,
   ⟨0x19010, 0x4, 6, fun n => [PMC_OVF n]⟩]

/-- The one-index register families of block CHK. -/
def familiesCHK : List Family :=
  [⟨0x16100, 0x20, 22, fun n => [CHK_SN_CTL_MODE n, CHK_SN_CTL_POLY n, CHK_SN_CTL_SEEDED n, CHK_SN_CTL_FILTER n]⟩,
   ⟨0x16104, 0x20, 22, fun n => [CHK_SN_SEED_LO_WORD n]⟩,
   ⟨0x16108, 0x20, 22, fun n => [CHK_SN_SEED_HI_WORD n]⟩,
   ⟨0x1610C, 0x20, 22, fun n => [CHK_SN_VAL_LO_WORD n]⟩,
   ⟨0x16110, 0x20, 22, fun n => [CHK_SN_VAL_HI_WORD n]⟩,
   ⟨0x16114, 0x20, 22, fun n => [CHK_SN_COUNT n]⟩,
   ⟨0x16118, 0x20, 22, fun n => [CHK_SN_MISMATCH_COUNT n]⟩,
   ⟨0x16400, 0x40, 8, fun n => [CHK_WF_CTL_START n, CHK_WF_CTL_POLY n, CHK_WF_CTL_SEEDED n, CHK_WF_CTL_BUSY n]⟩,
   ⟨0x16404, 0x40, 8, fun n => [CHK_WF_SEED_LO_WORD n]⟩,
   ⟨0x16408, 0x40, 8, fun n => [CHK_WF_SEED_HI_WORD n]⟩,
   ⟨0x1640C, 0x40, 8, fun n => [CHK_WF_VAL_LO_WORD n]⟩,
   ⟨0x16410, 0x40, 8, fun n => [CHK_WF_VAL_HI_WORD n]⟩,
   ⟨0x16414, 0x40, 8, fun n => [CHK_WF_RESULT_LO_WORD n]⟩,
   ⟨0x16418, 0x40, 8, fun n => [CHK_WF_RESULT_HI_WORD n]⟩,
   ⟨0x16420, 0x40, 8, fun n => [CHK_WF_DATA32_DATA n]⟩,
   ⟨0x16424, 0x40, 8, fun n => [CHK_WF_DATA16_DATA n]⟩,
   ⟨0x16428, 0x40, 8, fun n => [CHK_WF_DATA8_DATA n]⟩,
   ⟨0x1642C, 0x40, 8, fun n => [CHK_WF_BYTES n]⟩]

/-- The per-slot families of block MPH (R221): offset within the slot, first slot count, fields at group g, slot i. -/
def slotFamilies : List (Nat × Nat × (Nat → Nat → List Field)) :=
  [(0x00, 9, fun g i => [MPH_TXEQ_PRE g i, MPH_TXEQ_MAIN g i, MPH_TXEQ_POST g i]),
   (0x04, 11, fun g i => [MPH_LSTATE_STATE g i, MPH_LSTATE_TRAINED g i]),
   (0x08, 11, fun g i => [MPH_PRBS_CTL_PATTERN g i, MPH_PRBS_CTL_GEN_EN g i, MPH_PRBS_CTL_CHK_EN g i, MPH_PRBS_CTL_LOOP g i, MPH_PRBS_CTL_INJ_ONE g i, MPH_PRBS_CTL_INJ_RATE g i, MPH_PRBS_CTL_LOCK g i]),
   (0x0C, 11, fun g i => [MPH_PRBS_BITS g i]),
   (0x10, 11, fun g i => [MPH_PRBS_ERR_ERRORS g i]),
   (0x14, 9, fun g i => [MPH_EQ_SAVE0_TAPS g i, MPH_EQ_SAVE0_VALID g i]),
   (0x18, 9, fun g i => [MPH_EQ_SAVE1_TAPS g i, MPH_EQ_SAVE1_VALID g i]),
   (0x1C, 9, fun g i => [MPH_EQ_SAVE2_TAPS g i, MPH_EQ_SAVE2_VALID g i]),
   (0x20, 9, fun g i => [MPH_EQ_SAVE3_TAPS g i, MPH_EQ_SAVE3_VALID g i]),
   (0x24, 9, fun g i => [MPH_EQ_SAVE4_TAPS g i, MPH_EQ_SAVE4_VALID g i])]

/-- Every field of a register that stands alone. -/
def singles : List Field :=
  singlesFTC ++ singlesDCU ++ singlesBEM ++ singlesLDG ++ singlesFRM ++ singlesSTG ++ singlesSKP ++ singlesLPR ++ singlesMEM ++ singlesHIF ++ singlesTIM ++ singlesFLT ++ singlesCAL ++ singlesXK2 ++ singlesXK2X ++ singlesPWR ++ singlesPMC ++ singlesCHK ++ singlesDBG ++ singlesGLB

/-- Every one-index family. -/
def families : List Family :=
  familiesSLC ++ familiesFRM ++ familiesMPH ++ familiesAUX ++ familiesMEM ++ familiesHIF ++ familiesCAL ++ familiesXK2X ++ familiesPWR ++ familiesPMC ++ familiesCHK

/-- The fields of a family at an offset, if the offset is one of its registers. -/
def Family.fieldsAt (fam : Family) (off : Nat) : List Field :=
  if fam.base ≤ off ∧ (off - fam.base) % fam.stride = 0 ∧ (off - fam.base) / fam.stride < fam.count then
    fam.fields ((off - fam.base) / fam.stride)
  else []

/-- The fields of an MPH slot register at an offset (R221, R244). -/
def slotFieldsAt (off : Nat) : List Field :=
  if 0x10000 ≤ off ∧ off < 0x14000 then
    let g := (off - 0x10000) / 0x400
    let i := (off - 0x10000) % 0x400 / 0x40
    let o := (off - 0x10000) % 0x40
    slotFamilies.flatMap fun (b, n, fs) => if b = o ∧ i < n then fs g i else []
  else []

/-- Every field of the register at a BAR0 offset; none where R465 lists no register (R460). -/
def fieldsAt (off : Nat) : List Field :=
  singles.filter (fun f => f.off = off) ++ families.flatMap (fun fam => fam.fieldsAt off) ++ slotFieldsAt off

/-- The field held under a key. -/
def fieldOfKey (key : Nat) : Option Field :=
  (fieldsAt (key / 32)).find? fun f => f.lo = key % 32

end Reg

end Sys2Proof.Machine
end

