-- ==== Sys2Proof/Machine/State.lean ====
section
/-! DEFINITION. The state of the FX640 as plain data: every register field, ring, queue, table, buffer, counter, mode and
land the manual gives it, and the queue of waiting commands. State.reset is the device right after a cold reset. -/
namespace Sys2Proof.Machine

/-- Why the block stops. No command of the table stops it: every command has an effect (log 2). -/
inductive Fault where
  /-- Raised by no command: kept so that the type is a closed list of reasons. Safe, since nothing raises it. -/
  | none
  deriving DecidableEq, Repr

/-- Why a command is refused. -/
inductive Refusal where
  /-- Raised by a dispatch arm whose command has no meaning yet. Safe: nothing is claimed of such a command. -/
  | notModelled (mnemonic : String)
  deriving DecidableEq, Repr

/-! ### Part, mode, power -/

/-- The two parts (R1). -/
inductive Part where | fx640 | fx632
  deriving DecidableEq, Repr

/-- The latched mode (R2). -/
inductive Mode where | native | xk2
  deriving DecidableEq, Repr

/-- The power states of R433; `off` is the Cocoon domain without supply (R428). -/
inductive Power where | active | idle | chrysalis | cocoon | off
  deriving DecidableEq, Repr

/-- Power, reset and bring-up (R429 to R443). Instar, level and the reset record are register fields. -/
structure PowerUnit where
  state : Power
  /-- a cold or warm reset is in progress: until Instar 1 (R437) -/
  starting : Bool
  /-- the last reset was cold: the fill runs and every calibration item runs at Instar 4 (R431) -/
  cold : Bool
  /-- a function-level reset is in progress (R437) -/
  flrBusy : Bool
  /-- level of WAKE_N and PWRREQ_N: true while driven low (R435) -/
  wakeLow : Bool
  pwrreqLow : Bool
  /-- the thermal-emergency reduction keeps the level until the die cools (R407): slowest level forced -/
  emergency : Nat
  /-- VIN was lost under R430: the next cold reset counts it -/
  brownout : Bool
  /-- present level of MODESEL, high (R3, R461) -/
  modesel : Bool
  deriving DecidableEq, Repr

/-! ### Completion codes, rings, commands (chapter 13) -/


/-- Where a command came from: ring 0 to 8 with its slot, or ring 9, the XK2 ring, with its tag (R333, R416). -/
structure Origin where
  ring : Nat
  slot : Nat
  tag : Nat
  deriving DecidableEq, Repr

/-- A completion before it is written (R333). -/
structure Completion where
  origin : Origin
  status : Status
  d0 : Nat
  d1 : Nat
  d2 : Nat
  start : Bool
  records : Bool
  stopped : Bool
  superseded : Bool
  deriving DecidableEq, Repr

/-- A descriptor the device holds its own copy of (R325): slot, bytes, and the LAYOUT buffer read with it. -/
structure Fetched where
  slot : Nat
  desc : List Byte
  buf : HostRead
  deriving DecidableEq, Repr

/-- A submission ring beyond its register fields: the last tail, and the descriptors taken and not yet processed. -/
structure SubRing where
  tail : Nat
  fetched : List Fetched
  /-- the XK2 ring has stopped on a fetch error; a native ring shows it in HIF_SQn_STATUS (R329, log 11) -/
  stopped : Bool
  deriving DecidableEq, Repr

/-- A completion ring or the EVR beyond its register fields (R326, R327, R352). -/
structure CplRing where
  phase : Bool
  held : List Completion
  /-- entries written since the ring's last message -/
  dirty : Bool
  /-- a HOLDOFF interval runs since the last message -/
  holding : Bool
  /-- the next EVR entry carries LOST (R328) -/
  lost : Bool
  deriving DecidableEq, Repr

/-- An event (R350). -/
structure Event where
  type : Nat
  source : Nat
  kind : Nat
  lost : Bool
  phase : Bool
  stripe : Nat
  tick : Nat
  ns : Nat
  sec : Nat
  detail : Nat
  deriving DecidableEq, Repr

/-- An HBM command of a retry buffer (R308): rows are PC and page, words their key. -/
inductive HbmCmd where
  | activate (pc page : Nat)
  | read (word : Nat)
  | write (word : Nat)
  | refresh (pc : Nat)
  | prechargeAll
  deriving DecidableEq, Repr

/-- What leaves the device, newest first in `State.out`: the model's own record of outputs, read by nothing inside. -/
inductive Out where
  /-- a posted write to host memory (R486) -/
  | hostWrite (addr : Nat) (bytes : List Byte)
  /-- an MSI-X message (R352), or the XK2's one MSI vector (R411) -/
  | msix (vector : Nat)
  | msi
  /-- a frame on a lane: physical slot of its group, running disparity at its SOF (true: positive), header, payload and check
  bytes (R193) -/
  | frame (lane slot : Nat) (rd : Bool) (body : List Byte)
  /-- a link message on a group's lane, from a running disparity (R208) -/
  | message (group slot : Nat) (rd : Bool) (bytes : List Byte)
  /-- STOP ordered sets on every active lane (R207) -/
  | stop
  /-- a lane repeats a training sequence, a number of times or until it sends something else (R223, R225) -/
  | training (group slot : Nat) (rd : Bool) (times : Option Nat) (body : List Byte)
  /-- a generator's pattern on a lane from what it holds, until the lane sends something else (R239, R242) -/
  | pattern (group slot pattern : Nat) (seed : BitVec 31)
  /-- the four pairs before L1 or L2, then electrical idle (R237) -/
  | sleep (group slot : Nat) (rd l2 : Bool)
  /-- the forwarded clock starts at a rate, or stops (R222, R225, R237) -/
  | clock (group : Nat) (rate : Option Nat)
  /-- a set-point word (R249) -/
  | setPoint (word : BitVec 144)
  /-- a TICKSYNC message, from a running disparity (R261) -/
  | ticksync (rd : Bool) (bytes : List Byte)
  /-- a STEP pulse of an aux axis (R269) -/
  | step (axis : Nat) (up : Bool)
  /-- the value a latching or popping register read returned to its reader -/
  | read (v : Nat)
  /-- an inverted bit on a lane (R241) -/
  | inject (group slot : Nat)
  /-- Eyespot's dwell windows: one beam fired alone at a gray code, so many windows, every other beam sent gray 0 (R408) -/
  | eyespot (beam gray windows : Nat)
  /-- Eyespot's scan of a beam across the gate's edges by Looper deflection, in X, or in Y (R408) -/
  | eyeScan (beam : Nat) (y : Bool)
  /-- the DAC codes of a sample, X then Y (R282) -/
  | dac (x y : Int)
  /-- refreshed rows: regular, or the neighbours of an activate (R307) -/
  | refresh (pc : Nat) (neighbours : Bool)
  /-- a Delay_Req message (R365) -/
  | delayReq (seq : Nat)
  /-- an HBM command issued to a channel on a replay (R308) -/
  | hbmCommand (ch : Nat) (what : HbmCmd)
  /-- what a requester of HBM receives: its status, and the word where the status is ST_OK (R313, R315) -/
  | memory (st : Status) (addr : Nat) (data : BitVec 64)
  deriving DecidableEq, Repr

/-- The rings and their interrupts. -/
structure HostUnit where
  /-- 0 to 7 the LSRs, 8 the CTR, 9 the XK2 ring -/
  sub : Vector SubRing 10
  /-- 0 to 3 the CPRs, 4 the EVR -/
  cpl : Vector CplRing 5
  /-- the XK2 completion ring -/
  xk2Cpl : CplRing
  /-- MSI-X table words by index, and pending bits (R322, R462); log 7 -/
  msixTable : SMap (BitVec 32)
  msixPending : List Nat
  deriving DecidableEq, Repr

/-! ### Observation (chapter 19) -/

/-- A read latch of three words (R458), and one of the time base (R358). -/
structure Latches where
  pmc : Nat
  ns : Nat
  sec : Nat
  deriving DecidableEq, Repr

/-- Counters, check units and the console's copies. -/
structure ObsUnit where
  /-- 48-bit block counters, key 8·block + counter (R445) -/
  counters : SMap Nat
  /-- 64-bit slot accumulators, key 4·engine + class (R451) -/
  slots : SMap Nat
  host : Latches
  console : Latches
  /-- the console's own PMC_RD_SEL (R456) -/
  consoleSel : BitVec 32
  /-- the last 256 events, newest first (R456) -/
  events : List Event
  snapshot : Option (List Byte)
  /-- pending write-fed data writes, oldest first: context and bytes (R454) -/
  wfQueue : List (Nat × List Byte)
  deriving DecidableEq, Repr

/-! ### Time (chapter 14) -/

/-- The time base and its corrections (R354 to R366). -/
structure TimeUnit where
  sec : Nat
  ns : Nat
  frac : Nat
  /-- slew still to apply, in units of 2^-32 ns, positive adds (R359) -/
  slew : Int
  /-- a step waiting under R360, ns -/
  heldStep : Option Int
  /-- TIM_STEP_NS as last written (R361) -/
  stepNs : BitVec 32
  /-- the next measured offset is the first after loss, change or Cocoon (R363) -/
  first : Bool
  grandmaster : Option Nat
  /-- PPS gives phase under SRC 2 (R362) -/
  ppsPhase : Bool
  lastPps : Option Nat
  pathDelay : Option Int
  /-- receive stamp less origin and correction of the last usable Sync, ns -/
  syncDiff : Option Int
  /-- transmit stamps of Delay_Req waiting (R366): sequenceId and stamp -/
  tsq : List (Nat × Nat)
  deriving DecidableEq, Repr

/-! ### Muash link (chapters 8, 9) -/

/-- What a group's far side last said in CAPS (R208). -/
structure FarCaps where
  maxRate : Nat
  features : Nat
  device : Nat
  deriving DecidableEq, Repr

/-- A spare switch-over (R215): lane, decision tick, its instant, whether GAP frames or the real ones flow. -/
structure Switch where
  lane : Nat
  tick : Nat
  instant : Nat
  /-- SPARE_READY has arrived -/
  ready : Bool
  /-- launches since the decision -/
  launches : Nat
  deriving DecidableEq, Repr

/-- A group beyond its register fields. -/
structure Group where
  far : Option FarCaps
  /-- SEQ expected on the return lane -/
  rxSeq : Option Nat
  /-- the return lane is in loss until the next good message (R213) -/
  loss : Bool
  /-- stripe ticks of the frames launched since the last good message -/
  unconfirmed : List Nat
  /-- slots held at the present rate (R225) -/
  held : List Nat
  /-- PRBS results in VERIFY: slot and pass -/
  results : List (Nat × Bool)
  /-- slots that failed in training and whose lane the spare took, or the spare itself -/
  failed : List Nat
  /-- last four spare reports, newest first (R242) -/
  reports : List Bool
  /-- last TEMP: the valid readings -/
  temp : Option (List Int)
  hot : Bool
  stale : Bool
  /-- the run is accepted (STATUS READY, R203) -/
  ready : Bool
  switch : Option Switch
  /-- lanes whose switch-over is due at the next tick (R214), first asked first -/
  switchDue : List Nat
  /-- L2 exit in progress (R237) -/
  l2Exit : Bool
  /-- a fast retrain is running (R229) -/
  fast : Bool
  /-- a change of agreed rate waits for the training step to end (R235) -/
  rateChange : Bool
  /-- a DEVICE_ID restart waits for the stripe to end (R208) -/
  restartDue : Bool
  /-- slots in L1 whose lane must be retrained at its next exit (R238) -/
  retrainLanes : List Nat
  /-- a failed switch-over steps the group down once the stripe has ended (R216) -/
  stepDue : Bool
  /-- the agreed rate, fixed when CAPS arrived (R225, R226) -/
  agreed : Nat
  /-- a lane's failure in VERIFY lowers the rate once the verification window has ended (R235) -/
  stepLater : Bool
  deriving DecidableEq, Repr

/-- A transmitter: how much it has sent, its running disparity (R193), SEQ of its next message (R208), and the sixteenths of a bit
counted since its checker or its injection last took effect (R241, R244). -/
structure Line where
  sent : Nat
  rd : Bool
  seq : Nat
  bits : Nat
  inj : Nat
  deriving DecidableEq, Repr

/-- The link layer. -/
structure LinkUnit where
  groups : Vector Group 16
  /-- transmitters: slot i of group g at 16g + i, TICKSYNC_OUT at 256 -/
  lines : SMap Line
  /-- NAKs by lane: lane and arrival (time base, ps), newest first (R214) -/
  naks : List (Nat × Nat)
  /-- EQ_TABLE as loaded: entry 45g + 5i + n to its 24 tap bits (R230) -/
  eqTable : SMap Nat
  deriving DecidableEq, Repr

/-! ### Stage, ticks, Skipper, axes (chapter 10) -/

/-- A stage input lane (R245 to R248). -/
structure StageLane where
  /-- consecutive good words while seeking lock -/
  streak : Nat
  lastSeq : Nat
  /-- consecutive missed samples -/
  missed : Nat
  /-- up to nine latest positions, newest first: good or extrapolated -/
  hist : List Int
  tau : Nat
  deriving DecidableEq, Repr

/-- Motion limits as read at a host move's start (R255, R267): VMAX, AMAX, JMAX and EDEC in their registers' units. -/
structure YLimits where
  vmax : Nat
  amax : Nat
  jmax : Nat
  edec : Nat
  deriving DecidableEq, Repr

/-- A host Y move (R267), or the motion of a stripe. -/
structure YMove where
  origin : Option Origin
  target : Int
  /-- the stage first comes to rest, then moves to the target -/
  reversing : Bool
  stopping : Option Status
  stopCmd : List Origin
  overshoot : Nat
  limits : YLimits
  deriving DecidableEq, Repr

/-- An auxiliary axis's move (R268 to R271). -/
structure AuxMove where
  origin : Option Origin
  /-- where the present profile comes to rest -/
  target : Int
  /-- the move's own target -/
  goal : Int
  /-- WAKE runs before DIR is set (R270) -/
  waking : Bool
  up : Bool
  /-- speed squared, steps²/s² -/
  v2 : Nat
  /-- the next step is the first of a profile -/
  first : Bool
  /-- coming to rest for good, short of the goal -/
  stopping : Bool
  stopStatus : Status
  stoppedBy : List Origin
  /-- deceleration in force for this move, steps/s² -/
  dec : Nat
  overshoot : Nat
  deriving DecidableEq, Repr

/-- One aux axis. -/
structure AuxAxis where
  move : Option AuxMove
  /-- kept target of a STOPPED move -/
  kept : Option Int
  /-- level of AUXn_DIR -/
  dir : Bool
  deriving DecidableEq, Repr

/-- The servo port, tick generator, Skipper, TICKSYNC. -/
structure StageUnit where
  lanes : Vector StageLane 3
  /-- last set-point word: POS, VEL, ACC, its first-bit instant, SEQ -/
  spPos : Int
  spVel : Int
  spAcc : Int
  spAt : Nat
  spSeq : Nat
  spActive : Bool
  /-- EMERGENCY is in force (R254, R267) -/
  emergency : Bool
  /-- the stop in progress is at EDEC: E-STOP, overspeed, a stage-port fault or an implausible stage (R255, R266) -/
  hardStop : Bool
  yMove : Option YMove
  /-- f_target in Hz, and consecutive evaluations with f_plan above f_target (R257) -/
  fTarget : Rat
  raising : Nat
  cool : Bool
  /-- Y_cache of the least sector at the last fifty evaluations, newest first -/
  cacheHist : List Int
  /-- demand beyond the guard this run, X (R281) -/
  guardX : Bool
  /-- words with SIGNAL_LOW and with GLITCH set (R247) -/
  signalLow : Nat
  glitches : Nat
  /-- the latest tick whose instant samples bracket: tick and residual e_t, 1/64 nm (R253) -/
  tickY : Option (Nat × Int)
  /-- the latest tick whose crossing position samples bracket: tick and stamp of the crossing, ps (R253) -/
  crossAt : Option (Nat × Nat)
  /-- last accepted TICK_IN edge (R272) -/
  lastEdge : Option Nat
  /-- the last run of XK2 mode has passed its t_end and none is armed since: edges have no effect (R421) -/
  pastEnd : Bool
  /-- TICKSYNC: own SEQ, RUN message in flight (sent instant), its bytes, consecutive missing returns, follower reserves -/
  tsSeq : Nat
  tsRun : Option (List Byte × Nat)
  tsRepeat : Bool
  tsMissing : Nat
  tsReturned : Option Nat
  tsWin : Option Nat
  tsRas : Option Nat
  tsCap : Option Nat
  tsAbortReq : Bool
  tsAbort : Bool
  /-- the range a clean FINAL RUN message fixed for the next run (R263) -/
  tsRange : Option (Nat × Nat)
  /-- a member's own window and raster reserve and cap, as of its last tick (R262) -/
  own : Option (Nat × Nat × Nat)
  aux : Vector AuxAxis 4
  deriving DecidableEq, Repr

/-! ### Looper (chapter 11) -/

/-- A section's coefficients and limit (R278, R284). -/
structure Coef where
  b0 : Int
  b1 : Int
  b2 : Int
  a1 : Int
  a2 : Int
  limit : Nat
  deriving DecidableEq, Repr

/-- A coefficient bank (R284): thresholds, hysteresis, the plausibility model, and the sections at 16·region + 8·axis + i. -/
structure Bank where
  v1 : Nat
  v2 : Nat
  v3 : Nat
  hyst : Nat
  model : Coef
  sections : List Coef
  crc : Nat
  deriving DecidableEq, Repr

/-- A section's state, and the input and output of the last sample (R278, R288). -/
structure SectionState where
  s1 : Int
  s2 : Int
  x : Int
  y : Int
  deriving DecidableEq, Repr

/-- Looper. Both engines compute the same values; which is active and which is fenced are register fields. -/
structure LooperUnit where
  banks : Vector (Option Bank) 2
  xs : List SectionState
  ys : List SectionState
  /-- a swap was requested; a region change waits; the request's engaged samples -/
  swap : Bool
  regionWanted : Option Nat
  /-- timer of the earlier request has expired (R287) -/
  expired : Bool
  /-- engaged since at least one sample: the region is chosen with hysteresis -/
  fresh : Bool
  holdGap : Bool
  holdLock : Bool
  codeX : Int
  codeY : Int
  /-- outputs at the start of a gap hold (R382) -/
  holdX : Int
  holdY : Int
  modelRun : Bool
  model : SectionState
  implausible : Nat
  satPostedX : Bool
  satPostedY : Bool
  /-- an axis's demand has been beyond full range since engagement (R281) -/
  overX : Bool
  overY : Bool
  /-- the X sample that waits for its Y word: its instant (R276) -/
  sampleX : Option Nat
  deriving DecidableEq, Repr

/-! ### HBM (chapter 12) -/

/-- A stored 64-bit word: the data the page's strong code protects, the data of the light codeword last written, the 72-bit
error over that codeword (data, then check bits), and whether it was written with the poison pattern (R310, R311, R314). -/
structure HbmWord where
  data : BitVec 64
  word : BitVec 64
  err : BitVec 72
  poison : Bool
  deriving DecidableEq, Repr

/-- A request for one word: requester, hint, byte address, the bytes of a write (none: a read), whether its page is written
whole, and what the read finds: bits upset since the word was last read, and whether its cells are hard (R312, R313, R316). -/
structure HbmReq where
  who : Requester
  hint : PageHint
  addr : Nat
  bytes : Option (List Byte)
  whole : Bool
  upset : BitVec 72
  hard : Bool
  deriving DecidableEq, Repr

/-- A channel's retry buffer, oldest first, and its alert (R308, R309). -/
structure HbmChannel where
  retry : List HbmCmd
  alert : Bool
  /-- alerts in the present replay sequence -/
  alerts : Nat
  deriving DecidableEq, Repr

/-- The HBM controller. Words are keyed by 2^27·PC + local word, so a rebuilt map does not move them (R317). -/
structure HbmUnit where
  words : SMap HbmWord
  channels : Vector HbmChannel 32
  /-- LIVE of R298: the PCs of the map in force -/
  map : List Nat
  /-- the remap table (R317) -/
  remap : List (Nat × HbmWord)
  /-- strong decodes in progress, oldest first: the request that met the word; its page is locked (R313) -/
  decodes : List HbmReq
  /-- requests that wait: for a locked page, an alert to clear, or a sweep to end, oldest first (R305, R308, R313) -/
  waiting : List HbmReq
  /-- hard words that found the remap table full (R317) -/
  hard : List Nat
  /-- errors of the words that hold check symbols, by PC and word of the check area (R296, R311, R313) -/
  checkErr : SMap (BitVec 72)
  /-- open rows: bank key, page, and consecutive accesses served (R300) -/
  openRows : List (Nat × Nat × Nat)
  /-- the row-disturb registers (R307) -/
  lfsr : Vector (BitVec 32) 64
  /-- a sweep is due (R305) -/
  sweepDue : Bool
  /-- the next sweep is a fast one (R305) -/
  sweepFast : Bool
  /-- stack temperatures at each stack's last sweep -/
  sweepTemps : Vector Int 2
  /-- read and write delays of each PC's byte lanes (R303, R305) -/
  delays : SMap (List (Nat × Nat))
  deriving DecidableEq, Repr

/-! ### Calibration (chapter 16) -/

/-- A calibration item beyond its register fields (R403): reference snapshot, snapshot at the start of the measurement. -/
structure CalItem where
  ref : Option (List Int)
  begun : List Int
  deriving DecidableEq, Repr

/-- Calibration. -/
structure CalUnit where
  items : Vector CalItem 4
  /-- deskew targets toward which each group's code moves (R404) -/
  targets : Vector (Option Nat) 16
  /-- DAC cell maps are the counts of CAL_DAC; last valid readings -/
  readings : List Int
  /-- aux position of the shuttle before BEAM_CHECK -/
  shuttle : Int
  /-- a limit was reached and the temperature has not yet returned to normal: die, blanker (R406) -/
  dieHot : Bool
  blkHot : Bool
  deriving DecidableEq, Repr

/-! ### Ingest and staging (chapters 3, 4, 13) -/

/-- A LAYOUT descriptor of a package, waiting for settlement (R334): its package offset and FTC blocks. -/
structure LayoutDesc where
  origin : Origin
  start : Nat
  blocks : Nat
  deriving DecidableEq, Repr

/-- A LAYOUT buffer not yet decoded: descriptor, stripe id named, plain or FTC, the bytes left, and the bytes taken. -/
structure LayoutBuf where
  origin : Origin
  stripe : Nat
  ftc : Bool
  /-- LEN of its descriptor -/
  len : Nat
  buf : HostRead
  taken : Nat
  deriving DecidableEq, Repr

/-- A refusal of a package (R87, R103, R302, R335): what the descriptor at fault, later descriptors and STRIPE_BEGIN give. -/
structure PkgRefusal where
  stripe : Nat
  status : Status
  d0 : Nat
  d1 : Nat
  d2 : Nat
  /-- block index later descriptors give in D1 -/
  laterD1 : Nat
  deriving DecidableEq, Repr

/-- A package being assembled on a ring (R99, R332). -/
structure Assembly where
  stripe : Nat
  bytes : List Byte
  flx : Flx
  descs : List LayoutDesc
  /-- FTC blocks taken so far (R100) -/
  blockIndex : Nat
  /-- an FTC error waits until the parser has judged every earlier byte (R102) -/
  ftcErr : Option PkgRefusal
  deriving DecidableEq, Repr

/-- A refused or released package whose later descriptors still arrive (R103). -/
structure Drain where
  refusal : PkgRefusal
  /-- PKG_BYTES where PKG_BEGIN was read whole, and the stream bytes seen -/
  pkgBytes : Option Nat
  seen : Nat
  deriving DecidableEq, Repr

/-- An ingest channel (R99). -/
structure Channel where
  queue : List LayoutBuf
  pkg : Option Assembly
  drain : Option Drain
  deriving DecidableEq, Repr

/-! ### Raster (chapters 4, 5, 15) -/

/-- A cached plane (R109): slot, epoch of its seed, the stored block, and the plane it stands for. -/
structure CacheBlock where
  slot : Nat
  epoch : Nat
  raw : Bool
  body : List Byte
  crc : Nat
  deriving DecidableEq, Repr

/-- A tile's directory entry (R129 to R139, R375). -/
structure Tile where
  epoch : Nat
  placed : Bool
  cached : Bool
  empty : List Nat
  blocks : List CacheBlock
  /-- committed for the pass in progress -/
  committed : Bool
  /-- committed in any pass of the stripe -/
  everCommitted : Bool
  sampled : Bool
  /-- the commitment is held for a comparison -/
  hold : Bool
  /-- finished planes that go straight to the filler in bypass: slot and plane -/
  direct : List (Nat × List Byte)
  /-- the tile must be re-rasterized in the pass that needs it (R111) -/
  redo : Bool
  /-- no majority was found on it: it is compared by two slices before it is committed (R378) -/
  disputed : Bool
  deriving DecidableEq, Repr

/-- What an unlisted tile is: never placed. -/
def Tile.fresh : Tile := ⟨0, false, false, [], [], false, false, false, false, [], false, false⟩

/-- Why an engine works on a tile (R127, R138, R376). -/
inductive JobKind where | own | shadow | third
  deriving DecidableEq, Repr

/-- A tile in an engine. -/
structure Job where
  stripe : Nat
  col : Nat
  row : Nat
  epoch : Nat
  kind : JobKind
  /-- slots not yet finished -/
  slots : List Nat
  direct : Bool
  cycles : Nat
  /-- a finished plane waits in the engine for room in the cache or the filler (R139, R141) -/
  waits : Bool
  deriving DecidableEq, Repr

/-- A tile engine. -/
structure Engine where
  job : Option Job
  gated : Bool
  /-- the last tile it completed: instant, column, row (R131) -/
  done : Option (Nat × Nat × Nat)
  deriving DecidableEq, Repr

/-- A slice beyond its register fields. -/
structure Slice where
  engines : Vector Engine 16
  /-- ENG_DISABLE, WDOG_CYCLES and FENCE_LIMIT as read at binding -/
  disabled : BitVec 16
  wdog : Nat
  fenceLimit : Nat
  /-- bin bands filled: stripe and band -/
  bands : List (Nat × Nat)
  /-- tiles of fenced engines that the next free engine takes: stripe and tile key (R135) -/
  refenced : List (Nat × Nat)
  /-- tiles cached since the last sampled tile that agreed, newest first (R377) -/
  suspects : List (Nat × Nat)
  /-- finishing rate in bypass, tile rows per second (R140) -/
  rate : Nat
  /-- a self-test runs (R384) -/
  testing : Bool
  /-- passed: it owns its sector again from the next STRIPE_BEGIN (R384) -/
  returns : Bool
  deriving DecidableEq, Repr

/-- How far a comparison is: waiting for an engine of the spare, in it, waiting for one of the third slice, in it. -/
inductive ShadowPhase where | queued | spare | thirdQueued | third
  deriving DecidableEq, Repr

/-- A shadow comparison with its third opinion (R374 to R376). -/
structure Shadow where
  stripe : Nat
  col : Nat
  row : Nat
  epoch : Nat
  owner : Nat
  spare : List PlaneCrc
  phase : ShadowPhase
  /-- the slice that gives the third opinion -/
  third : Nat
  deriving DecidableEq, Repr

/-- A staged package (R52): parsed, then settled. -/
structure Package where
  stripe : Nat
  flx : Flx
  descs : List LayoutDesc
  settled : Bool
  sets : SMap (List Nat)
  rho : Grid
  check : Nat
  tiles : SMap Tile
  /-- self-verify mismatches by slice (R106) -/
  selfmis : Vector Nat 5
  /-- order of arrival, for R112 and R127 -/
  age : Nat
  deriving DecidableEq, Repr

/-! ### DCU, stripes, dose (chapters 1, 2, 6, 7) -/

/-- A grid being computed or computed (R158 to R161). -/
structure GridJob where
  stripe : Nat
  again : Bool
  deriving DecidableEq, Repr

/-- Band marks (R30). -/
inductive BandMark where | none | open | close
  deriving DecidableEq, Repr

/-- The states of R266. -/
inductive StripeState where | idle | bound | transit | runup | write | pause | runout | aborting | held
  deriving DecidableEq, Repr

/-- What STRIPE_BEGIN gives (R339). -/
structure Params where
  id : Nat
  len : Nat
  np : Nat
  k : Nat
  p : Nat
  b : Nat
  left : BandMark
  right : BandMark
  kernel : Option Nat
  leftNbr : Nat
  rightNbr : Nat
  fReq : Nat
  startRes : Nat
  y0 : Int
  x0 : Int
  leftDy : Int
  rightDy : Int
  deriving DecidableEq, Repr

/-- What is read at binding (R149, R169, R202, R255, R339, R373). -/
structure BoundValues where
  beams : SMap Beam
  defects : SMap Bool
  kernel : Option Kernel
  dwellDelay : Nat
  dwellLen : Nat
  nakWindow : Nat
  device : Nat
  repairMax : Nat
  role : Nat
  vmax : Nat
  amax : Nat
  jmax : Nat
  edec : Nat
  settle : Nat
  rot : Nat
  shadowLog2 : Nat
  spareLimit : Nat
  selfmisLimit : Nat
  rawOnly : Bool
  deriving DecidableEq, Repr

/-- Kinds of run (R203). -/
inductive RunKind where | pass | repair | resume
  deriving DecidableEq, Repr

/-- A ledger entry (R179): cause bits and carry. -/
structure Entry where
  cause : Nat
  carry : Int
  deriving DecidableEq, Repr

/-- A report record (R188). `last` is Y1, or Δ of a PIXEL record. -/
structure Record where
  kind : Nat
  cause : Nat
  x0 : Nat
  y0 : Nat
  x1 : Nat
  last : Int
  deriving DecidableEq, Repr

/-- A run: its kind, pass or repair index, stripe tick numbers, and how far it is. -/
structure Run where
  kind : RunKind
  /-- pass j, also for a resume; repair pass m for a repair -/
  index : Nat
  /-- the stripe tick number of tick 0 of the pass -/
  base : Nat
  first : Nat
  last : Nat
  /-- first accounted tick: the resume point of a resume run, else `first` -/
  accounted : Nat
  /-- the frame launched at the next tick instant; one beyond `last` it is END (R38, R205) -/
  next : Nat
  ticked : Bool
  announced : Bool
  /-- fixed instants, newest first: a frame number and the instant, ps, at which it launches, that of the tick before it -/
  fixed : List (Nat × Nat)
  /-- a repair pass, or the resume of one -/
  repair : Bool
  /-- last accounted tick: the run's own range, which a lock group may have widened (R263) -/
  accLast : Nat
  /-- END has been sent; NAK_WINDOW tick periods have passed; the stage has come to rest -/
  ended : Bool
  complete : Bool
  rest : Bool
  /-- link and performance-level caps at its start, Hz (R256) -/
  caps : Nat × Nat
  /-- Looper has engaged in it (R275) -/
  looped : Bool
  /-- marker departures, newest first: tick and instant (R199) -/
  departures : List (Nat × Nat)
  /-- ticks whose window VETO kept closed -/
  vetoed : List Nat
  /-- residues, entries and records as they stood before the run's first frame, until the first tick: a run that never
  ticks discards that frame (R341, log 24) -/
  before : Option (SMap Int × SMap Entry × List Record)
  deriving DecidableEq, Repr

/-- A live visit of a launched frame (R211): pixel, beam gain, gray, whether it is the pixel's closing visit. -/
structure Visit where
  lane : Nat
  x : Nat
  y : Nat
  gain : Nat
  gray : Nat
  closing : Bool
  deriving DecidableEq, Repr

/-- A launched frame as the device keeps it (R212): tick, lanes lost, whether its dose is accounted, its live visits. -/
structure FrameLog where
  tick : Nat
  lost : List Nat
  accounted : Bool
  visits : List Visit
  /-- those of `lost` that sent GAP frames or none in a gap (R48) -/
  gap : List Nat
  /-- keys of the ledger entries that its lost lanes' visits created, and whether an abort has taken the frame (R48, R180) -/
  made : List Nat
  aborted : Bool
  deriving DecidableEq, Repr

/-- A lost-frame record (R343). -/
structure LostRec where
  first : Nat
  count : Nat
  lanes : List Nat
  deriving DecidableEq, Repr

/-- A bound stripe (R266). -/
structure Stripe where
  par : Params
  bv : BoundValues
  state : StripeState
  origin : Origin
  /-- STRIPE_RESUME in progress -/
  resumeOrigin : Option Origin
  xk2 : Bool
  run : Option Run
  /-- resume point: stripe tick number -/
  resumeAt : Option Nat
  /-- repair passes run so far -/
  repairs : Nat
  /-- the abort cause that set the abort tick (R336), and whether it has taken effect -/
  cause : Option Status
  abortDue : Bool
  /-- the frame number at whose launch it takes effect where a TICK message fixed it; none: the next (R264) -/
  abortAt : Option Nat
  /-- the instant, ps, of that cause: causes of one cycle are ranked (R336) -/
  causeAt : Nat
  /-- STRIPE_ABORT commands waiting for rest -/
  aborts : List Origin
  /-- no completion is written for it (R439) -/
  silent : Bool
  /-- package checks of R339 item 10 onward are done -/
  checked : Bool
  /-- its package was released under R301 and must come again with this check value -/
  needPkg : Option Nat
  residues : SMap Int
  ledger : SMap Entry
  window : SMap Nat
  fill : Vector Int 4
  /-- rows filled in pass 0, for T_CLAMP (R155) -/
  filledMax : Vector Int 4
  /-- the filler has started the window of pass 0: T_CLAMP cleared, CLOSE bands loaded (R30, R162, R174) -/
  begun : Bool
  grid : Option DcuGrid
  /-- the grid in use is a recomputed one: a second failure aborts (R161) -/
  gridFailed : Bool
  /-- sectors that wait for a recomputed grid, and the keys of its damaged words (R161) -/
  gridStall : List Nat
  gridWords : List Nat
  frames : List FrameLog
  /-- launched frames of the run older than those kept whole, with the lanes on which they count for no dose (R212) -/
  older : List (Nat × List Nat)
  /-- lanes whose sweep is still to run: tick and lanes (R178) -/
  sweeps : List (Nat × List Nat)
  /-- pixels of damaged window words: they send gray 0 for the rest of the pass (R318) -/
  dark : List Nat
  records : List Record
  pixelRecords : Nat
  lostLog : List LostRec
  lostRun : Option LostRec
  lostFrames : Nat
  /-- overflow: pass, first and last affected tick (R182) -/
  overflow : List (Nat × Nat × Nat)
  spareWrong : Nat
  bypass : Vector Bool 5
  /-- left and right CLOSE bands: which lacked their record when the filler began, which loaded it (R30, R31) -/
  bandMissing : List Bool
  bandLoaded : List Bool
  /-- f_cap of R256, Hz -/
  fCap : Rat
  /-- start position of its run, 1/64 nm (R265, R266) -/
  startPos : Int
  deriving DecidableEq, Repr

/-- A report or log a completed stripe left (R189, R343). -/
structure Report where
  stripe : Nat
  /-- L of the stripe -/
  len : Nat
  records : List Record
  lost : List LostRec
  deriving DecidableEq, Repr

/-- A band residue record (R30): who left it, from which side, its tag, and its cells at B·Y + i. -/
structure BandRec where
  stripe : Nat
  right : Bool
  tag : Nat
  b : Nat
  len : Nat
  cells : SMap Int
  deriving DecidableEq, Repr

/-- The long-running commands (R337). -/
inductive CmdJob where
  /-- a snapshot, its buffer, and during a run the first frame whose instant was not yet fixed (R449) -/
  | snapshot (o : Origin) (addr : Nat) (since : Option Nat)
  | calRun (o : Origin) (left : List Nat) (committed kept : Nat)
  | beamCheck (o : Origin) (addr : Nat) (load : Bool)
  | switchLooper (o : Origin)
  | switchSlice (o : Origin) (slice : Nat)
  deriving DecidableEq, Repr

/-- The origin of a job. -/
def CmdJob.origin : CmdJob → Origin
  | .snapshot o _ _ | .calRun o _ _ _ | .beamCheck o _ _ | .switchLooper o | .switchSlice o _ => o

/-- FTC_CTL as it stood at the last STRIPE_BEGIN (R108, R113). -/
structure FtcSettings where
  selfmisLimit : Nat
  rawOnly : Bool
  deriving DecidableEq, Repr

/-- FTC_CTL at its reset value. -/
def FtcSettings.init : FtcSettings := ⟨4, false⟩

/-- The FX640. -/
structure State where
  part : Part
  mode : Mode
  /-- every register field not at its reset value, by `Field.key` -/
  regs : SMap (BitVec 32)
  power : PowerUnit
  host : HostUnit
  obs : ObsUnit
  time : TimeUnit
  link : LinkUnit
  stage : StageUnit
  looper : LooperUnit
  hbm : HbmUnit
  cal : CalUnit
  channels : Vector Channel 8
  packages : List Package
  refused : List PkgRefusal
  /-- packages staged so far, for their age -/
  ages : Nat
  slices : Vector Slice 5
  /-- comparisons under way, oldest first -/
  shadows : List Shadow
  /-- bindings since the last reset that cleared class V (R373) -/
  rot : Nat
  /-- FTC settings in force for packages that no stripe has bound -/
  ftc : FtcSettings
  kernels : Vector (Option Kernel) 4
  gridJob : Option GridJob
  beams : SMap Beam
  defects : SMap Bool
  stripes : List Stripe
  reports : List Report
  bands : List BandRec
  jobs : List CmdJob
  /-- stripe tick number last ticked, and the stripe, for captures and events -/
  lastTick : Option Nat
  out : List Out
  /-- draws of free values so far -/
  draw : Nat
  /-- waiting commands, first in, first out -/
  pending : List Instr
  deriving DecidableEq, Repr

/-- A quiet ring. -/
def SubRing.init : SubRing := ⟨0, [], false⟩

/-- A completion ring before it is enabled. -/
def CplRing.init : CplRing := ⟨true, [], false, false, false⟩

/-- A group before it starts. -/
def Group.init : Group :=
  ⟨none, none, false, [], [], [], [], [], none, false, false, false, none, [], false, false, false, false, [], false, 0, false⟩

/-- A transmitter before it has sent anything: negative disparity (log 41). -/
def Line.init : Line := ⟨0, false, 0, 0, 0⟩

/-- A lane that has seen nothing. -/
def StageLane.init : StageLane := ⟨0, 0, 0, [], 0⟩

/-- The stage unit at rest. -/
def StageUnit.init : StageUnit :=
  { lanes := Vector.replicate 3 StageLane.init, spPos := 0, spVel := 0, spAcc := 0, spAt := 0, spSeq := 0,
    spActive := false, emergency := false, hardStop := false, yMove := none, fTarget := 0, raising := 0, cool := false,
    cacheHist := [], guardX := false, signalLow := 0, glitches := 0, tickY := none, crossAt := none, lastEdge := none, pastEnd := false, tsSeq := 0, tsRun := none, tsRepeat := false, tsMissing := 0,
    tsReturned := none, tsWin := none, tsRas := none, tsCap := none, tsAbortReq := false, tsAbort := false, tsRange := none, own := none,
    aux := Vector.replicate 4 ⟨none, none, false⟩ }

/-- Looper with no bank loaded. -/
def LooperUnit.init : LooperUnit :=
  { banks := Vector.replicate 2 none, xs := List.replicate 8 ⟨0, 0, 0, 0⟩, ys := List.replicate 8 ⟨0, 0, 0, 0⟩,
    swap := false, regionWanted := none, expired := false, fresh := true, holdGap := false, holdLock := false,
    codeX := 0, codeY := 0, holdX := 0, holdY := 0, modelRun := false, model := ⟨0, 0, 0, 0⟩,
    implausible := 0, satPostedX := false, satPostedY := false, overX := false, overY := false, sampleX := none }

/-- A slice with every engine free and gated. -/
def Slice.init : Slice :=
  { engines := Vector.replicate 16 ⟨none, true, none⟩, disabled := 0, wdog := 0x10, fenceLimit := 4, bands := [],
    refenced := [], suspects := [], rate := 0, testing := false, returns := false }

/-- Every word of HBM after the start-up fill (R319): zero data, valid checks. -/
def HbmWord.zero : HbmWord := ⟨0, 0, 0, false⟩

/-- The HBM controller before its map is built (log 4). -/
def HbmUnit.init : HbmUnit :=
  { words := [], channels := Vector.replicate 32 ⟨[], false, 0⟩, map := [], remap := [], decodes := [], waiting := [],
    hard := [], checkErr := [], openRows := [], lfsr := Vector.replicate 64 1, sweepDue := true, sweepFast := false, sweepTemps := Vector.replicate 2 0,
    delays := [] }

/-- A channel with no package. -/
def Channel.init : Channel := ⟨[], none, none⟩

/-- The device right after a cold reset (R13, R15, R436): an FX640 in native mode, at Instar 0, with no stripe. The
values the manual leaves open are those of log 4. -/
def State.reset : State :=
  { part := .fx640, mode := .native, regs := [],
    power := ⟨.active, true, true, false, false, false, 0, false, true⟩,
    host := ⟨Vector.replicate 10 SubRing.init, Vector.replicate 5 CplRing.init, CplRing.init, [], []⟩,
    obs := ⟨[], [], ⟨0, 0, 0⟩, ⟨0, 0, 0⟩, 0, [], none, []⟩,
    time := ⟨0, 0, 0, 0, none, 0, true, none, false, none, none, none, []⟩,
    link := ⟨Vector.replicate 16 Group.init, [], [], []⟩,
    stage := StageUnit.init, looper := LooperUnit.init, hbm := HbmUnit.init,
    cal := ⟨Vector.replicate 4 ⟨none, []⟩, Vector.replicate 16 none, List.replicate 12 0, 0, false, false⟩,
    channels := Vector.replicate 8 Channel.init, packages := [], refused := [], ages := 0,
    slices := Vector.replicate 5 Slice.init, shadows := [], rot := 0, ftc := FtcSettings.init, kernels := Vector.replicate 4 none,
    gridJob := none, beams := [], defects := [], stripes := [], reports := [], bands := [], jobs := [],
    lastTick := none, out := [], draw := 0, pending := [] }

end Sys2Proof.Machine
end

