-- ==== Sys2Proof/Machine/Ops.lean ====
section
/-! DEFINITION. The named operations every meaning uses: register fields, counters, interrupt causes, events,
completions, and the stripes in flight. -/
namespace Sys2Proof.Machine

/-! ### Register fields -/

/-- A field's value. -/
def State.reg (s : State) (f : Field) : Nat :=
  (SMap.get (fun _ => BitVec.ofNat 32 f.rst) s.regs f.key).toNat

/-- A one-bit field, or whether a field is not 0. -/
def State.flag (s : State) (f : Field) : Bool := s.reg f != 0

/-- The register table with a field set, cut to its width. -/
def regsSet (m : SMap (BitVec 32)) (f : Field) (v : Nat) : SMap (BitVec 32) :=
  SMap.set (fun _ => BitVec.ofNat 32 f.rst) m f.key (BitVec.ofNat 32 (v % 2 ^ f.width))

/-- Set a field, cut to its width. -/
def State.setReg (s : State) (f : Field) (v : Nat) : State := { s with regs := regsSet s.regs f v }

/-- Set a one-bit field. -/
def State.setFlag (s : State) (f : Field) (b : Bool) : State := s.setReg f (b2n b)

/-- Set several fields. -/
def State.setRegs (s : State) (l : List (Field × Nat)) : State :=
  { s with regs := l.foldl (fun m e => regsSet m e.1 e.2) s.regs }

/-- Add to a field that saturates at its width. -/
def State.addReg (s : State) (f : Field) (k : Nat) : State := s.setReg f (min (2 ^ f.width - 1) (s.reg f + k))

/-- The signed reading of a field. -/
def State.sreg (s : State) (f : Field) : Int := signed f.width (s.reg f)

/-- Do `f` when `b` holds. -/
def State.when (s : State) (b : Bool) (f : State → State) : State := if b then f s else s

/-- Do `f` with what an option holds. -/
def State.whenSome {α : Type} (s : State) (o : Option α) (f : α → State → State) : State :=
  match o with
  | some a => f a s
  | none => s

/-- Do `f` for each of a list, in order. -/
def State.forAll {α : Type} (s : State) (l : List α) (f : α → State → State) : State :=
  l.foldl (fun s a => f a s) s

/-- The outcome of a command that ends in `t` from `s`. No command moves the queue, and none changes the part. -/
def answer (s t : State) : Host.Outcome State Fault Refusal :=
  .next { t with pending := s.pending, part := s.part, mode := s.mode }

/-- Native mode is latched (R2). -/
def State.native (s : State) : Bool := s.mode == .native

/-- The core's clocks run: Active, and the die below critical (R406, R433). -/
def State.clocked (s : State) : Bool := s.power.state == .active && s.reg Reg.CAL_THERM_DIE_LEVEL != 3

/-- A vector with the element at `i`, if there is one, changed. -/
def vmod {α : Type} {n : Nat} (v : Vector α n) (i : Nat) (f : α → α) : Vector α n :=
  if h : i < n then v.set i (f v[i]) else v

/-- The element at `i`, or a given one beyond the end. -/
def vget {α : Type} {n : Nat} (v : Vector α n) (i : Nat) (d : α) : α := if h : i < n then v[i] else d

/-! ### Time (R354) -/

/-- The time base in picoseconds. -/
def TimeUnit.ps (t : TimeUnit) : Nat := (t.sec * 1000000000 + t.ns) * 1000 + t.frac * 1000 / 2 ^ 32

/-- The present instant. -/
def State.now (s : State) : Nat := s.time.ps

/-- Append to what leaves the device. -/
def State.emit (s : State) (o : Out) : State := { s with out := o :: s.out }

/-- A quotient whose rounding the manual does not state: the integer below or above it, a free choice (log 8). -/
def State.quotient (s : State) (n : Int) (d : Nat) : Int :=
  if n % d = 0 then n / d else n / d + (if Config.roundUp s.draw then 1 else 0)

/-- A free value has been drawn. -/
def State.drawn (s : State) : State := { s with draw := s.draw + 1 }

/-! ### Counters (R445 to R448) -/

/-- Whether the pair of counter n of block b is chained (R446). -/
def State.chained (s : State) (b n : Nat) : Bool := bitOf (s.reg (Reg.PMC_CHAIN (b / 8))) (4 * (b % 8) + n / 2)

/-- A counter's value. -/
def State.counter (s : State) (b n : Nat) : Nat := SMap.get (fun _ => 0) s.obs.counters (8 * b + n)

/-- Whether an event of counter n of block b is counted now (R445, R446, R448). -/
def State.counts (s : State) (b n : Nat) : Bool :=
  !s.flag Reg.PMC_CTL_FREEZE && !(s.part == .fx632 && (b == 12 || b == 13)) && !(s.chained b n && n % 2 == 1)
    && (s.power.state == .active || s.power.state == .idle)

/-- Set the OVF bit of counter n of block b (R447). -/
def setOvf (m : SMap (BitVec 32)) (s : State) (b n : Nat) : SMap (BitVec 32) :=
  let f := Reg.PMC_OVF (b / 4)
  regsSet m f (s.reg f ||| 2 ^ (8 * (b % 4) + n))

/-- The counters after `k` events of counter n of block b. -/
def bumpCounters (s : State) (b n k : Nat) : SMap Nat :=
  let z : Nat → Nat := fun _ => 0
  let total := s.counter b n + k
  if s.chained b n then
    SMap.set z (SMap.set z s.obs.counters (8 * b + n) (total % 2 ^ 48)) (8 * b + n + 1)
      ((s.counter b (n + 1) + total / 2 ^ 48) % 2 ^ 48)
  else SMap.set z s.obs.counters (8 * b + n) (total % 2 ^ 48)

/-- Count `k` events of counter n of block b (R445 to R447). -/
def State.count (s : State) (b n k : Nat) : State :=
  { s with
    obs := { s.obs with counters := if s.counts b n then bumpCounters s b n k else s.obs.counters }
    regs :=
      if !s.counts b n then s.regs
      else if s.chained b n then
        (if 2 ^ 96 ≤ s.counter b n + 2 ^ 48 * s.counter b (n + 1) + k then setOvf s.regs s b (n + 1) else s.regs)
      else if 2 ^ 48 ≤ s.counter b n + k then setOvf s.regs s b n else s.regs }

/-- Clear one counter and its OVF bit (R446). -/
def State.clearCounter (s : State) (b n : Nat) : State :=
  let f := Reg.PMC_OVF (b / 4)
  { s with
    obs := { s.obs with counters := SMap.set (fun _ => 0) s.obs.counters (8 * b + n) 0 }
    regs := regsSet s.regs f (s.reg f - (s.reg f &&& 2 ^ (8 * (b % 4) + n))) }

/-! ### Messages and interrupt causes (R352, R462) -/

/-- Word `i` of the MSI-X table; a vector control word reads masked before it is written (log 7). -/
def HostUnit.msixWord (h : HostUnit) (i : Nat) : BitVec 32 := SMap.get (fun i => if i % 4 = 3 then 1 else 0) h.msixTable i

/-- Whether a vector is masked in the MSI-X table. -/
def HostUnit.vectorMasked (h : HostUnit) (v : Nat) : Bool := (h.msixWord (4 * v + 3)).getLsbD 0

/-- Signal a vector: a message, or its pending bit while the vector mask holds it (R462). -/
def State.msix (s : State) (v : Nat) : State :=
  { s with
    out := if s.native && !s.host.vectorMasked v then .msix v :: s.out else s.out
    host := if s.native && s.host.vectorMasked v then { s.host with msixPending := insertAsc v s.host.msixPending }
      else s.host }

/-- Count the messages a vector would send (HIF counter 1). -/
def State.message (s : State) (v : Nat) : State := (s.msix v).count 1 1 1

/-- Cause bit n of GLB_IRQ_CAUSE (R461). -/
def causeField (n : Nat) : Field := ⟨0x18, n, 1, .w1c, 0, .v⟩

/-- GLB_IRQ_CAUSE as a word. -/
def State.causes (s : State) : Nat := ((List.range 12).map fun n => s.reg (causeField n) * 2 ^ n).sum

/-- Whether a cause is masked. -/
def State.causeMasked (s : State) (n : Nat) : Bool := bitOf (s.reg Reg.GLB_IRQ_MASK) n

/-- The pending set is empty (R462). -/
def State.nonePending (s : State) : Bool :=
  (List.range 12).all fun n => !(s.flag (causeField n) && !s.causeMasked n)

/-- Raise cause n: the bit is set whether masked or not, and vector 5 is signalled when the pending set goes from empty to
non-empty (R461, R462). -/
def State.raise (s : State) (n : Nat) : State :=
  let t := ((s.setFlag (causeField n) true).count 0 2 1).when (s.causeMasked n) (·.count 0 3 1)
  t.when (s.nonePending && !t.nonePending) (·.message 5)

/-! ### Stripes in flight -/

/-- TRANSIT through ABORTING of R266. -/
def StripeState.moving : StripeState → Bool
  | .transit | .runup | .write | .pause | .runout | .aborting => true
  | .idle | .bound | .held => false

/-- TRANSIT through RUNOUT: a stripe is writing (R461). -/
def StripeState.writing : StripeState → Bool
  | .transit | .runup | .write | .pause | .runout => true
  | .idle | .bound | .held | .aborting => false

/-- The stripe in TRANSIT through ABORTING, if any; there is at most one. -/
def State.active? (s : State) : Option Stripe := s.stripes.find? fun p => p.state.moving

/-- The stripe in TRANSIT through RUNOUT. -/
def State.writing? (s : State) : Option Stripe := s.stripes.find? fun p => p.state.writing

/-- A bound stripe by its id. -/
def State.stripe? (s : State) (id : Nat) : Option Stripe := s.stripes.find? fun p => p.par.id == id

/-- A staged package by its id. -/
def State.package? (s : State) (id : Nat) : Option Package := s.packages.find? fun p => p.stripe == id

/-- Change a bound stripe. -/
def State.onStripe (s : State) (id : Nat) (f : Stripe → Stripe) : State :=
  { s with stripes := s.stripes.map fun p => if p.par.id == id then f p else p }

/-- Change a staged package. -/
def State.onPackage (s : State) (id : Nat) (f : Package → Package) : State :=
  { s with packages := s.packages.map fun p => if p.stripe == id then f p else p }

/-- Change a lane group. -/
def State.onGroup (s : State) (g : Nat) (f : Group → Group) : State :=
  { s with link := { s.link with groups := vmod s.link.groups g f } }

/-- A lane group. -/
def State.group (s : State) (g : Nat) : Group := vget s.link.groups g Group.init

/-- Change a slice. -/
def State.onSlice (s : State) (i : Nat) (f : Slice → Slice) : State := { s with slices := vmod s.slices i f }

/-- A slice. -/
def State.slice (s : State) (i : Nat) : Slice := vget s.slices i Slice.init

/-! ### Completions (R325 to R335, R416) -/

/-- A completion of a status with its three details, flags clear. -/
def Completion.mk' (o : Origin) (st : Status) (d0 d1 d2 : Nat) : Completion := ⟨o, st, d0, d1, d2, false, false, false, false⟩

/-- The completion ring a submission ring names (R327): 0 to 3, or 4 for the XK2 completion ring. -/
def State.cprOf (s : State) (ring : Nat) : Nat := if ring = 9 then 4 else s.reg (Reg.HIF_SQ_CTL_CPR ring)

/-- Entries a ring of 2^LOG2_SIZE holds. -/
def ringSize (log2 : Nat) : Nat := 2 ^ log2

/-- Completion ring c has room for an entry at W (R326, R416). -/
def State.cplRoom (s : State) (c : Nat) : Bool :=
  if c = 4 then
    s.flag Reg.XK2_CTL_CPL_EN &&
      (s.reg Reg.XK2_CPL_HEAD_W + 1) % ringSize (s.reg Reg.XK2_CPL_CTL_LOG2_SIZE) != s.reg Reg.XK2_CPL_HEAD
  else
    s.flag (Reg.HIF_CPR_CTL_EN c) &&
      (s.reg (Reg.HIF_CPR_IDX_W c) + 1) % ringSize (s.reg (Reg.HIF_CPR_CTL_LOG2_SIZE c)) != s.reg (Reg.HIF_CPR_IDX_HEAD c)

/-- What completion ring c holds on chip. -/
def State.heldCpl (s : State) (c : Nat) : List Completion :=
  if c = 4 then s.host.xk2Cpl.held else (vget s.host.cpl c CplRing.init).held

/-- Change what completion ring c holds beyond its registers. -/
def State.onCpl (s : State) (c : Nat) (f : CplRing → CplRing) : State :=
  { s with host :=
      if c = 4 then { s.host with xk2Cpl := f s.host.xk2Cpl } else { s.host with cpl := vmod s.host.cpl c f } }

/-- A command completes: its completion waits on chip until COMPLETION_WRITE writes it (R326, R327). -/
def State.complete (s : State) (c : Completion) : State :=
  let r := s.cprOf c.origin.ring
  (s.onCpl r fun k => { k with held := k.held ++ [c] }).when (!s.cplRoom r) (·.count 1 3 1)

/-- Complete with a status and no detail. -/
def State.done (s : State) (o : Origin) (st : Status) : State := s.complete (Completion.mk' o st 0 0 0)

/-- The ring of an EVR entry's message. -/
def evr : Nat := 4

/-- Signal the vector of a ring (0 to 3 a CPR, 4 the EVR) for entries just written, under HOLDOFF (R352). -/
def State.ringMessage (s : State) (c : Nat) : State :=
  let vec := if c = evr then s.reg Reg.HIF_EVR_CTL_VECTOR else s.reg (Reg.HIF_CPR_CTL_VECTOR c)
  let off := if c = evr then s.reg Reg.HIF_EVR_CTL_HOLDOFF else s.reg (Reg.HIF_CPR_CTL_HOLDOFF c)
  let ring := vget s.host.cpl c CplRing.init
  let t : State := { s with host := { s.host with cpl := vmod s.host.cpl c fun k =>
    { k with dirty := ring.holding, holding := ring.holding || decide (0 < off) } } }
  t.when (!ring.holding) (·.message vec)

/-! ### Events (R328, R350, R351) -/

/-- The stripe an event belongs to: the stripe writing, else the one aborting, else 0 (R350). -/
def State.eventStripe (s : State) : Nat := match s.active? with | some p => p.par.id | none => 0

/-- The stripe tick number of an event, all ones outside a run (R350). -/
def State.eventTick (s : State) : Nat :=
  match s.active? with
  | some p => (match p.run, s.lastTick with
    | some r, some t => if r.ticked then t else 0xFFFFFFFF
    | _, _ => 0xFFFFFFFF)
  | none => 0xFFFFFFFF

/-- An entry's 32 bytes (R350). -/
def Event.bytes (e : Event) : List Byte :=
  leBytes 1 e.type ++ leBytes 1 e.source ++ leBytes 1 e.kind ++ leBytes 1 (b2n e.lost + 128 * b2n e.phase)
    ++ leBytes 4 e.stripe ++ leBytes 4 e.tick ++ leBytes 4 e.ns ++ leBytes 6 e.sec ++ [0, 0] ++ leBytes 8 e.detail

/-- The EVR takes an entry: enabled, and room at W (R326, R328). -/
def State.evrRoom (s : State) : Bool :=
  s.flag Reg.HIF_EVR_CTL_EN &&
    (s.reg Reg.HIF_EVR_IDX_W + 1) % ringSize (s.reg Reg.HIF_EVR_CTL_LOG2_SIZE) != s.reg Reg.HIF_EVR_IDX_HEAD

/-- The EVR's base address. -/
def State.evrBase (s : State) : Nat := s.reg Reg.HIF_EVR_BASE_LO_ADDR + 2 ^ 32 * s.reg Reg.HIF_EVR_BASE_HI_ADDR

/-- An event as it is made now. -/
def State.mkEvent (s : State) (type source kind detail : Nat) : Event :=
  let ring := vget s.host.cpl evr CplRing.init
  ⟨type, source, kind, ring.lost, ring.phase, s.eventStripe, s.eventTick, s.time.ns, s.time.sec, detail⟩

/-- Write an entry at W of the EVR and advance W; the phase turns at each lap (R326). -/
def State.writeEvent (s : State) (e : Event) : State :=
  let w := s.reg Reg.HIF_EVR_IDX_W
  let w' := (w + 1) % ringSize (s.reg Reg.HIF_EVR_CTL_LOG2_SIZE)
  let t : State := { s with
    out := .hostWrite (s.evrBase + 32 * w) e.bytes :: s.out
    regs := regsSet s.regs Reg.HIF_EVR_IDX_W w'
    host := { s.host with cpl := vmod s.host.cpl evr fun k =>
      { k with lost := false, phase := if w' = 0 then !k.phase else k.phase } } }
  (t.count 1 6 1).ringMessage evr

/-- Drop an entry: counted, EVR_DROP raised, and the next entry carries LOST (R328, R461). -/
def State.dropEvent (s : State) : State :=
  let t : State := { s with host := { s.host with cpl := vmod s.host.cpl evr fun k => { k with lost := true } } }
  ((t.addReg Reg.HIF_EVR_DROPPED_COUNT 1).count 1 7 1).raise 6

/-- Post an event: the console's copy of the last 256 always takes it; the EVR takes it or drops it (R328, R456). -/
def State.event (s : State) (type source kind detail : Nat) : State :=
  let e := s.mkEvent type source kind detail
  let t : State := { s with obs := { s.obs with events := (e :: s.obs.events).take 256 } }
  if s.evrRoom then t.writeEvent e else t.dropEvent

end Sys2Proof.Machine
end

