-- ==== Sys2Proof/Machine/Symbols.lean ====
section
/-! DEFINITION. 8b/10b symbols and their codes (R193: IEEE 802.3 Clause 36, whose tables stand outside the spec, log 41), what a
lane sends as symbols (R193, R198, R207, R208, R223, R237, R261), and the PRBS patterns (R239). -/
namespace Sys2Proof.Machine

/-- A symbol: a data byte Dx.y, or a control symbol Kx.y, each by the byte with x in bits [4:0] and y in bits [7:5] (R193). -/
inductive Symbol where | d (b : Byte) | k (b : Byte)
  deriving DecidableEq, Repr

/-- Dx.y and Kx.y by their numbers. -/
def symbolByte (x y : Nat) : Byte := BitVec.ofNat 8 (x + 32 * y)
def dxy (x y : Nat) : Symbol := .d (symbolByte x y)
def kxy (x y : Nat) : Symbol := .k (symbolByte x y)

/-- abcdei of D0 to D31 at negative disparity, bit a most significant. -/
def code5 : List Nat :=
  [0b100111, 0b011101, 0b101101, 0b110001, 0b110101, 0b101001, 0b011001, 0b111000, 0b111001, 0b100101, 0b010101, 0b110100,
   0b001101, 0b101100, 0b011100, 0b010111, 0b011011, 0b100011, 0b010011, 0b110010, 0b001011, 0b101010, 0b011010, 0b111010,
   0b110011, 0b100110, 0b010110, 0b110110, 0b001110, 0b101110, 0b011110, 0b101011]

/-- fghj of Dx.0 to Dx.7 at negative disparity, the primary form of Dx.7. -/
def code3 : List Nat := [0b1011, 0b1001, 0b0101, 0b1100, 0b1101, 0b1010, 0b0110, 0b1110]

/-- fghj of K28.0 to K28.7 begun at negative disparity. -/
def codeK28 : List Nat := [0b0100, 0b1001, 0b0101, 0b0011, 0b0010, 0b1010, 0b0110, 0b1000]

/-- Ones among the low n bits. -/
def onesOf (n v : Nat) : Nat := (List.range n).countP fun i => v.testBit i

/-- Disparity after a group of n bits. -/
def disparityAfter (n : Nat) (rd : Bool) (v : Nat) : Bool :=
  if n < 2 * onesOf n v then true else if 2 * onesOf n v < n then false else rd

/-- A sub-block of n bits at a disparity (true: positive): complemented where its negative form is unbalanced or is one of the two
balanced forms that alternate. -/
def atDisparity (n : Nat) (rd alternates : Bool) (v : Nat) : Nat :=
  if rd && (decide (2 * onesOf n v ≠ n) || alternates) then 2 ^ n - 1 - v else v

/-- The alternate form of Dx.7, where five equal bits would meet. -/
def alternate7 (rd : Bool) (x : Nat) : Bool := if rd then [11, 13, 14].contains x else [17, 18, 20].contains x

/-- The 10-bit code abcdeifghj of a symbol at a running disparity, bit a most significant, and the disparity after it. -/
def Symbol.code (rd : Bool) (s : Symbol) : BitVec 10 × Bool :=
  let v := match s with
    | .d b =>
      let x := b.toNat % 32
      let y := b.toNat / 32
      let six := atDisparity 6 rd (x == 7) (code5.getD x 0)
      let r := disparityAfter 6 rd six
      let four := if y = 7 ∧ alternate7 r x then (if r then 0b1000 else 0b0111) else atDisparity 4 r (y == 3) (code3.getD y 0)
      16 * six + four
    | .k b =>
      let x := b.toNat % 32
      let neg := if x = 28 then 0b0011110000 + codeK28.getD (b.toNat / 32) 0 else 16 * code5.getD x 0 + 0b1000
      if rd then 1023 - neg else neg
  (BitVec.ofNat 10 v, disparityAfter 10 rd v)

/-- Symbols coded in order, the disparity carried on (R193). -/
def codeAll (rd : Bool) : List Symbol → List (BitVec 10) × Bool
  | [] => ([], rd)
  | s :: l =>
    let c := s.code rd
    let rest := codeAll c.2 l
    (c.1 :: rest.1, rest.2)

/-- A frame's symbols: SOF, its bytes, EOF (R193). -/
def frameSymbols (body : List Byte) : List Symbol := kxy 27 7 :: body.map Symbol.d ++ [kxy 29 7]

/-- A link message's symbols: the comma, its bytes, the pad (R208). -/
def messageSymbols (bytes : List Byte) : List Symbol := kxy 28 5 :: bytes.map Symbol.d ++ [dxy 21 5]

/-- A TICKSYNC message's symbols (R261). -/
def ticksyncSymbols (bytes : List Byte) : List Symbol := kxy 28 7 :: bytes.map Symbol.d

/-- An idle pair (R198), which turns the disparity; the STOP ordered set (R207). -/
def idlePair : List Symbol := [kxy 28 5, dxy 21 5]
def stopSet : List Symbol := List.replicate 8 (kxy 30 7)

/-- A training sequence's symbols (R223). -/
def tsqSymbols (body : List Byte) : List Symbol := kxy 28 5 :: kxy 28 1 :: body.map Symbol.d

/-- The four pairs before L1 and before L2 (R237). -/
def sleepPairs (l2 : Bool) : List Symbol := (List.replicate 4 [kxy 28 5, kxy 28 (if l2 then 6 else 3)]).flatten

/-- A training sequence's 14 data bytes (R223). -/
def tsqBody (lane group rate phase : Nat) (taps : List Byte) (verifyLog2 : Nat) : List Byte :=
  leBytes 1 lane ++ leBytes 1 group ++ leBytes 1 rate ++ leBytes 1 phase ++ taps ++ leBytes 1 verifyLog2 ++ List.replicate 6 0

/-! ### PRBS patterns (R239) -/

/-- Degree and second tap of a PATTERN code: x^n + x^m + 1. -/
def prbsTaps (pattern : Nat) : Nat × Nat := match pattern with | 0 => (7, 6) | 1 => (15, 14) | _ => (31, 28)

/-- The next bit of a pattern after its last 31 bits, newest in bit 0, and the bits then held. -/
def prbsNext (pattern : Nat) (last : BitVec 31) : Bool × BitVec 31 :=
  let t := prbsTaps pattern
  let b := last.getLsbD (t.1 - 1) ^^ last.getLsbD (t.2 - 1)
  (b, last <<< 1 ||| BitVec.ofNat 31 (if b then 1 else 0))

/-- The first n bits that a generator sends from what it holds, first generated bit first (R239). -/
def prbsBits (pattern : Nat) : Nat → BitVec 31 → List Bool
  | 0, _ => []
  | n + 1, last => let r := prbsNext pattern last
    r.1 :: prbsBits pattern n r.2

end Sys2Proof.Machine
end

