-- ==== Sys2Proof/Machine/Lanes.lean ====
section
/-! DEFINITION. Muash groups (R191, R214, R220 to R237): lanes and spares, states, taps, failures, L2, and the end of Idle
(R433, R435), and what the lanes send (R193, R208, R223, R237, R239). -/
namespace Sys2Proof.Machine

/-! ### Lanes and spares (R191, R214, R221) -/

/-- USED and LANE of a group's spare in FRM_SPARE_MAP (R220). -/
def spareUsed (g : Nat) : Field := ⟨0x0D014 + 4 * (g / 8), 4 * (g % 8) + 3, 1, .ro, 0, .p⟩
def spareLane (g : Nat) : Field := ⟨0x0D014 + 4 * (g / 8), 4 * (g % 8), 3, .ro, 0, .p⟩

/-- The physical slot that carries a logical lane (R191). -/
def State.laneSlot (s : State) (l : Nat) : Nat :=
  if s.flag (spareUsed (l / 8)) ∧ s.reg (spareLane (l / 8)) = l % 8 then 8 else l % 8

/-- A group's state of R225, as MPH_GRP_STATUS.STATE codes it. -/
def grpOff : Nat := 0
def grpCaps : Nat := 1
def grpAlign : Nat := 2
def grpLow : Nat := 3
def grpEq : Nat := 4
def grpVerify : Nat := 5
def grpReady : Nat := 6
def grpOut : Nat := 7

/-- A group's state. -/
def State.grp (s : State) (g : Nat) : Nat := s.reg (Reg.MPH_GRP_STATUS_STATE g)

/-- The lanes that carry a run: those of READY groups. -/
def State.activeLanes (s : State) : List Nat := (List.range 128).filter fun l => s.grp (l / 8) == grpReady

/-- Lane states of MPH_LSTATE (R244). -/
def laneOff : Nat := 0
def laneTrain : Nat := 1
def laneL0 : Nat := 2
def laneL1 : Nat := 3
def laneL2 : Nat := 4
def laneTest : Nat := 5
def laneFailed : Nat := 6

/-- Put slots of a group into a lane state. -/
def State.setLanes (s : State) (g st : Nat) (slots : List Nat) : State :=
  s.setRegs (slots.map fun i => (Reg.MPH_LSTATE_STATE g i, st))

/-- Every stripe action of a group waits for no stripe in BOUND through ABORTING (R208, R234, R237, R239; log 13). -/
def State.stripeBusy (s : State) : Bool := s.stripes.any fun p => p.state != .held && p.state != .idle

/-- A group is in L2: all nine forward lanes are (R237). -/
def State.inL2 (s : State) (g : Nat) : Bool := (List.range 9).all fun i => s.reg (Reg.MPH_LSTATE_STATE g i) == laneL2

/-- A group is in test (R239). -/
def State.inTest (s : State) (g : Nat) : Bool := (List.range 10).any fun i => i != 8 && s.flag (Reg.MPH_PRBS_CTL_GEN_EN g i)

/-- Check 7 of R339: every group READY, out of L2 and of test, with the DEVICE_ID of its last CAPS (R208, R227). -/
def State.groupsTrained (s : State) : Bool :=
  (List.range 16).all fun g => s.grp g == grpReady && !s.inL2 g && !s.inTest g &&
    (match (s.group g).far with | some f => f.device == s.reg Reg.FRM_DEVICE_DEVICE_ID | none => false)

/-- In XK2 mode a group's spare is routed only where SPARE_EN says so; its land is never driven otherwise (R4, R418). -/
def State.spareRouted (s : State) (g : Nat) : Bool := s.native || bitOf (s.reg Reg.XK2_LINK_CTL_SPARE_EN) g

/-- A spare is taken: it carries a lane, or in XK2 mode its land is not routed (R418). -/
def State.spareTaken (s : State) (g : Nat) : Bool := s.flag (spareUsed g) || !s.spareRouted g

/-! ### Sending on a lane (R193, R198, R208, R240) -/

/-- The driver of a forward lane is on: not in near-end loopback, which holds it at electrical idle (R240), and routed (R4). -/
def State.drives (s : State) (g i : Nat) : Bool := !s.flag (Reg.MPH_PRBS_CTL_LOOP g i) && (i != 8 || s.spareRouted g)

/-- Where a transmitter is kept: slot i of group g, and TICKSYNC_OUT. -/
def lineKey (g i : Nat) : Nat := 16 * g + i
def lineTicksync : Nat := 256

/-- A transmitter. -/
def State.line (s : State) (key : Nat) : Line := SMap.get (fun _ => Line.init) s.link.lines key

/-- Change a transmitter. -/
def State.onLine (s : State) (key : Nat) (f : Line → Line) : State :=
  { s with link := { s.link with lines := SMap.set (fun _ => Line.init) s.link.lines key (f (s.line key)) } }

/-- The running disparity at which a lane's next symbol begins: each idle pair since the last one turned it (R193, R198; log 41). -/
def State.disparity (s : State) (key : Nat) : Bool := (s.line key).rd ^^ Config.idlePairs key (s.line key).sent

/-- A lane sends symbols: what leaves is told the disparity at which it begins, and the lane carries the disparity on (R193). -/
def State.sendOn (s : State) (key : Nat) (what : Bool → Out) (symbols : List Symbol) : State :=
  let rd := s.disparity key
  (s.onLine key fun l => { l with sent := l.sent + 1, rd := (codeAll rd symbols).2 }).emit (what rd)

/-- A generator's pattern begins on a lane (R239). -/
def State.sendPattern (s : State) (g i pattern : Nat) : State :=
  let seed := Config.prbsSeed (s.line (lineKey g i)).sent (lineKey g i)
  s.when (s.drives g i) fun s => (s.onLine (lineKey g i) fun l => { l with sent := l.sent + 1 }).emit (.pattern g i pattern seed)

/-- A TICKSYNC message leaves (R261). -/
def State.sendTicksync (s : State) (bytes : List Byte) : State :=
  s.sendOn lineTicksync (fun rd => .ticksync rd bytes) (ticksyncSymbols bytes)

/-! ### Rates and taps (R222, R226, R228 to R230) -/

/-- The rate ceiling of the mode (R226). -/
def State.modeRate (s : State) : Nat := if s.native then 4 else 2

/-- The agreed rate of a group (R226). -/
def State.agreed (s : State) (g : Nat) : Nat :=
  let m := min ((match (s.group g).far with | some f => f.maxRate | none => 0)) (min (s.reg (Reg.MPH_GRP_CTL_MAX_RATE g)) s.modeRate)
  if s.flag (Reg.MPH_GRP_STATUS_STEPPED_DOWN g) then min m (s.reg (Reg.MPH_GRP_STATUS_RATE g)) else m

/-- The rate a group trains at now: 0 up to LOW, then its RATE. -/
def State.trainRate (s : State) (g : Nat) : Nat := if s.grp g ≤ grpLow then 0 else s.reg (Reg.MPH_GRP_STATUS_RATE g)

/-- Taps as the three signed bytes PRE, MAIN, POST. -/
structure Taps where
  pre : Int
  main : Int
  post : Int
  deriving DecidableEq, Repr

/-- Taps of a PRE and a POST: MAIN is what is left (R228). -/
def Taps.of (pre post : Int) : Taps := ⟨pre, 63 - pre.natAbs - post.natAbs, post⟩

/-- The ranges of R228. -/
def Taps.good (t : Taps) : Bool :=
  decide (-15 ≤ t.pre ∧ t.pre ≤ 0 ∧ -31 ≤ t.post ∧ t.post ≤ 0 ∧ 24 ≤ t.main) && t == Taps.of t.pre t.post

/-- The presets of R228. -/
def tapPreset (n : Nat) : Taps :=
  match n with
  | 0 => ⟨0, 63, 0⟩ | 1 => ⟨0, 55, -8⟩ | 2 => ⟨0, 49, -14⟩ | 3 => ⟨0, 43, -20⟩
  | 4 => ⟨-4, 47, -12⟩ | 5 => ⟨-6, 41, -16⟩ | 6 => ⟨-8, 39, -16⟩ | _ => ⟨-4, 35, -24⟩

/-- 24 bits of taps, as EQ_TABLE and MPH_EQ_SAVE hold them. -/
def Taps.word (t : Taps) : Nat := unsignedOf 8 t.pre + 256 * unsignedOf 8 t.main + 65536 * unsignedOf 8 t.post

/-- Their reading. -/
def tapsOf (w : Nat) : Taps := ⟨signed 8 w, signed 8 (w / 256), signed 8 (w / 65536)⟩

/-- A 24-bit entry that R228 allows, or no entry (R230). -/
def tapsWordGood (w : Nat) : Bool := w == 0 || (tapsOf w).good

/-- MPH_EQ_SAVEn of a slot: taps and VALID. -/
def eqSaveTaps (g i n : Nat) : Field := ⟨0x10000 + 0x400 * g + 0x40 * i + 0x14 + 4 * n, 0, 24, .ro, 0, .p⟩
def eqSaveValid (g i n : Nat) : Field := ⟨0x10000 + 0x400 * g + 0x40 * i + 0x14 + 4 * n, 31, 1, .ro, 0, .p⟩

/-- A lane's initial taps at a rate: saved, then EQ_TABLE, then preset 0; in XK2 mode no saved taps (R229, R230). -/
def State.initialTaps (s : State) (g i n : Nat) : Taps :=
  let e := SMap.get (fun _ => 0) s.link.eqTable (45 * g + 5 * i + n)
  if s.native && s.flag (eqSaveValid g i n) then tapsOf (s.reg (eqSaveTaps g i n))
  else if e ≠ 0 then tapsOf e else tapPreset 0

/-- The taps in force on a slot. -/
def State.taps (s : State) (g i : Nat) : Taps :=
  ⟨s.sreg (Reg.MPH_TXEQ_PRE g i), s.reg (Reg.MPH_TXEQ_MAIN g i), s.sreg (Reg.MPH_TXEQ_POST g i)⟩

/-- Put taps in force on a slot. -/
def State.setTaps (s : State) (g i : Nat) (t : Taps) : State :=
  s.setRegs [(Reg.MPH_TXEQ_PRE g i, unsignedOf 8 t.pre), (Reg.MPH_TXEQ_MAIN g i, unsignedOf 8 t.main),
    (Reg.MPH_TXEQ_POST g i, unsignedOf 8 t.post)]

/-- Initial taps on every forward lane at a rate. -/
def State.setInitialTaps (s : State) (g n : Nat) : State :=
  s.forAll (List.range 9) fun i s => s.setTaps g i (s.initialTaps g i n)

/-! ### Events of a group (R351) -/

/-- An EVR LINK entry: lane 0xFF where it concerns the whole group (log 14). -/
def State.linkEvent (s : State) (g kind lane : Nat) : State :=
  s.event 0x02 g kind (lane + 256 * s.reg (Reg.MPH_GRP_STATUS_RATE g) + 4096 * s.reg (Reg.MPH_GRP_STATUS_FAIL_REASON g))

/-- A message of the FX640 on a lane of a group; SEQ counts the messages of that lane (R208). -/
def State.sendLink (s : State) (g slot type : Nat) (body : List Byte) : State :=
  let bytes := linkMessage type (s.line (lineKey g slot)).seq body
  s.when (s.drives g slot) fun s =>
    (s.sendOn (lineKey g slot) (fun rd => .message g slot rd bytes) (messageSymbols bytes)).onLine (lineKey g slot) fun l =>
      { l with seq := (l.seq + 1) % 256 }

/-- The verification window's length in bits, as a power of 2 (R231, R237). -/
def State.verifyLog2 (s : State) (g : Nat) : Nat :=
  if (s.group g).l2Exit then 20 else max 20 (s.reg (Reg.MPH_GRP_CTL_VERIFY_LOG2 g))

/-- The three bytes that report taps (R208, R223). -/
def Taps.bytes (t : Taps) : List Byte :=
  leBytes 1 (unsignedOf 8 t.pre) ++ leBytes 1 (unsignedOf 8 t.main) ++ leBytes 1 (unsignedOf 8 t.post)

/-- PHASE of the training sequence that a group's lanes send (R223, R225, R229; log 42). -/
def State.tsqPhase (s : State) (g : Nat) : Nat :=
  if s.grp g ≤ grpLow then 0 else if (s.group g).fast && s.native then 2 else 1

/-- A lane sends the training sequence with its present taps (R223). -/
def State.sendTsq (s : State) (g phase : Nat) (times : Option Nat) (i : Nat) : State :=
  let body := tsqBody i g (s.trainRate g) phase (s.taps g i).bytes (s.verifyLog2 g)
  s.when (s.drives g i) fun s => s.sendOn (lineKey g i) (fun rd => .training g i rd times body) (tsqSymbols body)

/-- The slots that must be held or verified: those that carry lanes and have not failed (R232, R233). -/
def State.required (s : State) (g : Nat) : List Nat :=
  (List.range 9).filter fun i =>
    !(s.flag (spareUsed g) && s.reg (spareLane g) == i) && !(s.group g).failed.contains i && (i != 8 || s.spareRouted g)

/-- Every lane of a group in training sends the training sequence (R223, R225). -/
def State.train (s : State) (g phase : Nat) (times : Option Nat) : State :=
  s.forAll (s.required g) fun i s => s.sendTsq g phase times i

/-! ### States of R225 -/

/-- A group restarts from OFF: its class V PHY status returns to reset (R225, R436, R438); spares and a held RETRAIN are kept (R234). -/
def State.groupOff (s : State) (g : Nat) (fast : Bool) : State :=
  let t : State := s.setRegs ((List.range 11).flatMap fun i =>
    [(Reg.MPH_LSTATE_STATE g i, 0), (Reg.MPH_LSTATE_TRAINED g i, 0), (Reg.MPH_TXEQ_PRE g i, 0),
     (Reg.MPH_TXEQ_MAIN g i, 0x3F), (Reg.MPH_TXEQ_POST g i, 0), (Reg.MPH_PRBS_CTL_LOCK g i, 0),
     (Reg.MPH_PRBS_BITS g i, 0), (Reg.MPH_PRBS_ERR_ERRORS g i, 0)])
  let u := t.forAll (List.range 11) fun i t => t.onLine (lineKey g i) fun l => { l with bits := 0 }
  (u.setRegs [(Reg.MPH_GRP_STATUS_STATE g, grpOff), (Reg.MPH_GRP_STATUS_FAR_MAX g, 0),
    (Reg.MPH_GRP_STATUS_SPARE_FIT g, 0)]).onGroup g fun k =>
    { k with held := [], results := [], failed := [], reports := [], ready := false, switch := none, switchDue := [],
             l2Exit := false, fast := fast, rateChange := false, restartDue := false, retrainLanes := [], rxSeq := none,
             loss := false, unconfirmed := [], stepDue := false, agreed := 0, stepLater := false }

/-- A BEAM_CHECK runs. -/
def State.checking (s : State) : Bool := s.jobs.any fun j => match j with | .beamCheck _ _ _ => true | _ => false

/-- Mark calibration items due (R403). -/
def State.setDue (s : State) (items : List Nat) : State :=
  s.setReg Reg.CAL_STATUS_DUE (items.foldl (fun v i => v ||| 2 ^ i) (s.reg Reg.CAL_STATUS_DUE))

/-- A retrain of a group: counted, then OFF (R225, R234); lane deskew falls due (R405). -/
def State.retrain (s : State) (g : Nat) : State := ((s.groupOff g true).count 17 5 1).setDue [0]

/-- A group goes out of service (R225, R233). -/
def State.groupOut (s : State) (g reason : Nat) : State :=
  ((((s.setLanes g laneOff (List.range 10)).setRegs [(Reg.MPH_GRP_STATUS_STATE g, grpOut), (Reg.MPH_GRP_STATUS_FAIL_REASON g, reason),
    (Reg.MPH_GRP_STATUS_SPARE_FIT g, 0)]).onGroup g fun k =>
    { k with rateChange := false, stepLater := false }).linkEvent g 5 0xFF).raise 3

/-! ### L2 entry (R237) -/

/-- A group enters L2 (R237): four pairs on all nine forward lanes, electrical idle, and the clock stops. The spare's last reports
stand until they are too old (R242). -/
def State.enterL2 (s : State) (g : Nat) : State :=
  s.when (s.grp g == grpReady && !s.inL2 g) fun s =>
    let a := s.forAll (s.required g) fun i s => s.when (s.drives g i) fun s =>
      s.sendOn (lineKey g i) (fun rd => .sleep g i rd true) (sleepPairs true)
    (a.setLanes g laneL2 (List.range 10)).emit (.clock g none)

/-- A lane enters L1 (R237): four pairs, then electrical idle. -/
def State.sleepLane (s : State) (g i : Nat) : State :=
  (s.when (s.drives g i) fun s => s.sendOn (lineKey g i) (fun rd => .sleep g i rd false) (sleepPairs false)).setLanes g laneL1 [i]

/-- A group that is to be in L2: in Idle, or by L2_REQ between stripes (R237). -/
def State.l2Wanted (s : State) (g : Nat) : Bool :=
  s.power.state == .idle || (s.flag (Reg.MPH_GRP_CTL_L2_REQ g) && !s.stripeBusy)

/-! ### READY, VERIFY, failures (R225 to R233, R242) -/

/-- The spare's standby duty: PRBS31 with its trained taps, while it carries no lane (R242). -/
def State.spareStandby (s : State) (g : Nat) : State :=
  s.when (s.native && !s.flag (spareUsed g) && (s.required g).contains 8) (·.sendPattern g 8 2)

/-- A group reaches READY: taps saved, data lanes to idle, the spare to standby (R225, R229, R242), or on to L2 (R237). The spare's
reports outlive an L2. -/
def State.groupReady (s : State) (g : Nat) : State :=
  let n := s.trainRate g
  let t := s.when s.native fun s => s.setRegs ((s.required g).flatMap fun i =>
    [(eqSaveTaps g i n, (s.taps g i).word), (eqSaveValid g i n, 1)])
  let u := (t.setLanes g laneL0 (s.required g)).setRegs ([(Reg.MPH_GRP_STATUS_STATE g, grpReady), (Reg.MPH_GRP_STATUS_FAIL_REASON g, 0),
    (Reg.MPH_GRP_STATUS_RATE g, n), (Reg.MPH_GRP_STATUS_SPARE_FIT g, if (s.group g).l2Exit then s.reg (Reg.MPH_GRP_STATUS_SPARE_FIT g) else 0)]
    ++ (s.required g).map fun i => (Reg.MPH_LSTATE_TRAINED g i, 1))
  let v := (u.when (s.group g).l2Exit (·.count 17 6 1)).onGroup g fun k =>
    { k with held := [], results := [], reports := if k.l2Exit then k.reports else [], l2Exit := false, fast := false,
             rateChange := false, stepLater := false }
  (v.spareStandby g).when (v.l2Wanted g) (·.enterL2 g)

/-- A group enters VERIFY (R225, R231): the training sequence with VERIFY_LOG2, then in native mode PRBS31. -/
def State.enterVerify (s : State) (g : Nat) : State :=
  let t := (s.setReg (Reg.MPH_GRP_STATUS_STATE g) grpVerify).onGroup g fun k => { k with results := [], stepLater := false }
  (t.train g (t.tsqPhase g) none).when t.native fun t => t.forAll (t.required g) fun i t => t.sendPattern g i 2

/-- Every required lane is held. -/
def State.allHeld (s : State) (g : Nat) : Bool := (s.required g).all fun i => (s.group g).held.contains i

/-- Go on once every required lane is held: ALIGN to LOW, EQ to VERIFY (R225). -/
def State.heldOn (s : State) (g : Nat) : State :=
  if !s.allHeld g then s
  else if s.grp g = grpAlign then s.setReg (Reg.MPH_GRP_STATUS_STATE g) grpLow
  else if s.grp g = grpEq then s.enterVerify g
  else s

/-- The spare takes a data lane in training (R233). -/
def State.spareTakes (s : State) (g i : Nat) : State :=
  ((s.setRegs [(spareUsed g, 1), (spareLane g, i), (Reg.MPH_LSTATE_STATE g i, laneFailed), (Reg.MPH_LSTATE_TRAINED g i, 0)]).onGroup g
    fun k => { k with failed := insertAsc i k.failed }).linkEvent g 6 (8 * g + i)

/-- The spare fails in training: the group goes on without it (R233). -/
def State.spareFails (s : State) (g : Nat) : State :=
  ((s.setRegs [(Reg.MPH_LSTATE_STATE g 8, laneFailed), (Reg.MPH_LSTATE_TRAINED g 8, 0)]).onGroup g fun k =>
    { k with failed := insertAsc 8 k.failed }).linkEvent g 3 0xFF

/-- A group steps down, or is out of service at rate 0 (R216, R233). -/
def State.stepDown (s : State) (g : Nat) : State :=
  let n := s.trainRate g
  if n = 0 then s.groupOut g 4
  else (((s.groupOff g true).setRegs [(Reg.MPH_GRP_STATUS_STEPPED_DOWN g, 1), (Reg.MPH_GRP_STATUS_RATE g, n - 1)]).linkEvent g 2
    0xFF).raise 3

/-- The verification window ends: a change of rate that waited for it restarts the group, one asked for going before the step-down of
a failure (R235); else the group is READY once every required lane has passed. -/
def State.windowEnds (s : State) (g : Nat) : State :=
  if (s.group g).rateChange then s.retrain g
  else if (s.group g).stepLater then s.stepDown g
  else s.when ((s.required g).all fun i => (s.group g).results.contains (i, true)) (·.groupReady g)

/-- The window ends with the last result (R231). -/
def State.verifiedOn (s : State) (g : Nat) : State :=
  s.when (s.grp g == grpVerify && (s.required g).all fun i => (s.group g).results.any fun r => r.1 == i) (·.windowEnds g)

/-- A step-down that failures ask for: in VERIFY it waits for the window to end (R235). -/
def State.lowerRate (s : State) (g : Nat) : State :=
  if s.grp g = grpVerify ∧ s.native then s.onGroup g fun k => { k with stepLater := true } else s.stepDown g

/-- Lanes of a group fail at its present training rate (R233). -/
def State.lanesFail (s : State) (g : Nat) (slots : List Nat) : State :=
  let data := slots.filter (· != 8)
  let spareGone := slots.contains 8 || (s.group g).failed.contains 8 || s.spareTaken g
  match data with
  | [] => s.when (slots.contains 8) fun s => if s.spareTaken g then s.lowerRate g else s.spareFails g
  | [i] => if spareGone then s.lowerRate g else s.spareTakes g i
  | _ => s.lowerRate g

/-! ### L2 exit (R237, R238) -/

/-- The tap exchange is skipped: the far side does not train (R226, R230). -/
def State.skipsTaps (s : State) (g : Nat) : Bool :=
  !s.native || (match (s.group g).far with | some f => !bitOf f.features 0 | none => true)

/-- Slots of a group that carry nothing: failed, or an unrouted spare. -/
def State.restSlots (s : State) (g : Nat) : List Nat := (List.range 9).filter fun i => !(s.required g).contains i

/-- Lanes that went down while they slept are trained again from ALIGN as the group leaves L2 (R238). -/
def State.alignSleepers (s : State) (g : Nat) : State :=
  let down := (s.group g).retrainLanes
  let t := (s.setRegs ((Reg.MPH_GRP_STATUS_STATE g, grpAlign) :: down.map fun i => (Reg.MPH_LSTATE_TRAINED g i, 0))).onGroup g fun k =>
    { k with held := (s.required g).filter fun i => !down.contains i, retrainLanes := [] }
  (t.emit (.clock g (some 0))).train g 0 none

/-- A group leaves L2 (R237): a fast retrain, then in native mode a window of 2^20 bits. -/
def State.leaveL2 (s : State) (g : Nat) : State :=
  s.when (s.inL2 g) fun s =>
    let n := s.reg (Reg.MPH_GRP_STATUS_RATE g)
    let a := (s.setLanes g laneTrain (s.required g)).setLanes g laneL0 [9]
    let b := a.forAll (s.restSlots g) fun i t => t.setLanes g (if i = 8 ∧ !s.spareRouted g then laneOff else laneFailed) [i]
    let t := (b.setInitialTaps g n).onGroup g fun k => { k with held := [], results := [], l2Exit := true, fast := true }
    if (s.group g).retrainLanes.any fun i => (s.required g).contains i then t.alignSleepers g
    else
      let u := (t.setReg (Reg.MPH_GRP_STATUS_STATE g) grpEq).emit (.clock g (some n))
      if u.skipsTaps g then u.enterVerify g else u.train g (u.tsqPhase g) none

/-! ### The blanker temperature (R218, R220) -/

/-- Blanker thresholds in 0.25 °C. -/
def State.blkThr (s : State) (l : Nat) : Nat :=
  4 * (match l with | 1 => s.reg Reg.CAL_THR_BLK_WARN | 2 => s.reg Reg.CAL_THR_BLK_LIMIT | _ => s.reg Reg.CAL_THR_BLK_CRIT)

/-- A group in service: LOW, EQ, VERIFY or READY. -/
def State.inService (s : State) (g : Nat) : Bool :=
  s.grp g == grpLow || s.grp g == grpEq || s.grp g == grpVerify || s.grp g == grpReady

/-- A group's own temperature: its highest valid reading, at the limit while it is hot or stale. -/
def State.groupTemp (s : State) (g : Nat) : Option Int :=
  let k := s.group g
  let read := (k.temp.getD []).max?
  if k.hot || k.stale then some (max (s.blkThr 2 : Int) (read.getD (s.blkThr 2 : Int))) else read

/-- The blanker temperature and the group it comes from. -/
def State.blkTemp (s : State) : Option (Int × Nat) :=
  ((List.range 16).filter s.inService).foldl (fun a g => match s.groupTemp g, a with
    | some t, some (u, m) => if u < t then some (t, g) else some (u, m)
    | some t, none => some (t, g)
    | none, a => a) none

/-- A group in service has sent no TEMP in time (R220). -/
def State.blkStale (s : State) : Bool := (List.range 16).any fun g => s.inService g && (s.group g).stale

/-- FRM_TEMP as it reads: the value in use, the group it came from, and STALE (R220). -/
def State.tempView (s : State) : List (Field × Nat) :=
  (match s.blkTemp with | some (t, g) => [(Reg.FRM_TEMP_VALUE, unsignedOf 16 t), (Reg.FRM_TEMP_GROUP, g)] | none => [])
    ++ [(Reg.FRM_TEMP_STALE, b2n s.blkStale)]

/-! ### The end of Idle (R433, R435) -/

/-- PCIe is up and the registers are live: Active or Idle, from Instar 2 on (R431, R433). -/
def State.linkUp (s : State) : Bool :=
  (s.power.state == .active || s.power.state == .idle) && decide (2 ≤ s.reg Reg.GLB_STATUS_INSTAR)

/-- Idle ends by a wake source, whose bit CAUSE records; the groups leave L2 but where L2_REQ holds them (R237, R435). -/
def State.leaveIdle (s : State) (src : Nat) : State :=
  s.when (s.power.state == .idle) fun s =>
    let a : State := { s.count 2 4 1 with power := { s.power with state := .active } }
    (a.setReg Reg.PWR_WAKE_CAUSE (2 ^ src)).forAll (List.range 16) fun g t =>
      t.when (!t.flag (Reg.MPH_GRP_CTL_L2_REQ g)) (·.leaveL2 g)

/-- A BAR0 access or a doorbell ends Idle: source 0, HOST. -/
def State.touch (s : State) : State := s.leaveIdle 0

/-- A BAR0 access: it ends Idle and is counted (R433, R445). -/
def State.access (s : State) : State := s.touch.count 0 6 1

end Sys2Proof.Machine
end

