-- ==== Sys2Proof/Machine/Access.lean ====
section
/-! DEFINITION. Register writes under the access codes (R11, R12), and what keeps a write out (R410, R412, R460). -/
namespace Sys2Proof.Machine

/-- One field of a written word, under its access code (R11): RW takes the bits, W1C clears where a 1 is written, RO, WO
and RWL hold what they held. -/
def writtenField (s : State) (v : Nat) (m : SMap (BitVec 32)) (f : Field) : SMap (BitVec 32) :=
  match f.acc with
  | .rw => regsSet m f (bits v f.lo f.width)
  | .w1c => regsSet m f (s.reg f - (s.reg f &&& bits v f.lo f.width))
  | .ro | .wo | .rwl => m

/-- Write a word to a register's fields; an offset that lists no register takes nothing (R11, R460). -/
def State.writeFields (s : State) (off v : Nat) : State :=
  { s with regs := (Reg.fieldsAt off).foldl (writtenField s v) s.regs }

/-- A unit absent on the FX632 (R143, R162, R454, R453): slice 4, the DCU, the write-fed engine, snoop unit 5. -/
def absentOn632 (off : Nat) : Bool :=
  (0xA000 ≤ off && off < 0xA800) || (0xC000 ≤ off && off < 0xC100) || (0x16400 ≤ off && off < 0x16600)
    || (0x161A0 ≤ off && off < 0x161C0)

/-- A register the present part and mode leave writable: native blocks in native mode, the XK2 image in XK2 mode
(R410, R412, R460). -/
def State.takesWrite (s : State) (off : Nat) : Bool :=
  (if s.native then off < 0x20000 || 0xFE000 ≤ off else 0x20000 ≤ off && off < 0x30000)
    && !(s.part == .fx632 && absentOn632 off)

/-- A write by the host while the link is up: the access is counted, and Idle ends (R431, R433, R445); `f` follows where the
register takes it. -/
def State.bus (s : State) (off : Nat) (f : State → State) : State :=
  s.when s.linkUp fun s => s.access.when (s.takesWrite off) f

end Sys2Proof.Machine
end

