-- ==== Sys2Proof/Machine/Operands.lean ====
section
/-! DEFINITION. The operands of ring commands: the descriptor at the head of a ring, its header, and the field checks of
R331 and R417. -/
namespace Sys2Proof.Machine

/-- A submission ring beyond its registers. -/
def State.sub (s : State) (ring : Nat) : SubRing := vget s.host.sub ring SubRing.init

/-- Change a submission ring. -/
def State.onSub (s : State) (ring : Nat) (f : SubRing → SubRing) : State :=
  { s with host := { s.host with sub := vmod s.host.sub ring f } }

/-- The next descriptor to take from a ring: ring order (R325, R337). -/
def State.head? (s : State) (ring : Nat) : Option Fetched := (s.sub ring).fetched.head?

/-- Where a fetched descriptor came from; an XK2 descriptor carries its TAG (R333, R416). -/
def Fetched.origin (f : Fetched) (ring : Nat) : Origin := ⟨ring, f.slot, if ring = 9 then leAt f.desc 2 2 else 0⟩

/-- Take the head of a ring when its opcode is `op` and the core runs, and do `f` with its origin, bytes and buffer; otherwise nothing. -/
def State.take (s : State) (ring op : Nat) (f : Origin → List Byte → HostRead → State → State) : State :=
  match s.head? ring with
  | none => s
  | some d =>
    if s.clocked ∧ byteAt d.desc 0 = op then
      f (d.origin ring) d.desc d.buf (s.onSub ring fun r => { r with fetched := r.fetched.drop 1 })
    else s

/-- An opcode the Control Ring or a Layout Submit Ring knows (R331). -/
def opcodeKnown (ring op : Nat) : Bool := if ring = 8 then 1 ≤ op && op ≤ 0x0D else op == 0x10

/-- An opcode of the XK2 ring (R417). -/
def xk2OpKnown (op : Nat) : Bool := 1 ≤ op && op ≤ 7

/-- A check for each byte of a reserved range. -/
def zeroBytes (b : List Byte) (lo hi : Nat) : List (Nat × Bool) :=
  (List.range (hi - lo)).map fun i => (lo + i, byteAt b (lo + i) == 0)

/-- The first check that fails, in byte order (R331): the offset it names. -/
def faultAt (checks : List (Nat × Bool)) : Option Nat := (checks.find? fun c => !c.2).map (·.1)

/-- The header's checks: the flags an opcode defines, and bytes 2 to 7 (R330). -/
def headerChecks (b : List Byte) (flags : Nat) : List (Nat × Bool) :=
  (1, byteAt b 1 &&& (255 - flags) == 0) :: zeroBytes b 2 8

/-- The XK2 header's checks (R416). -/
def xk2HeaderChecks (b : List Byte) (flags : Nat) : List (Nat × Bool) :=
  (1, byteAt b 1 &&& (255 - flags) == 0) :: zeroBytes b 4 8

/-- An integer field. -/
def s64 (b : List Byte) (o : Nat) : Int := signed 64 (leAt b o 8)

/-- Complete a field refusal: ST_BAD_LENGTH with the byte offset (R331, R335). -/
def State.badField (s : State) (o : Origin) (off : Nat) : State := s.complete (Completion.mk' o .badLength off 0 0)

/-- Run a command's body once its field checks pass; a fault completes it with no other effect (R331). -/
def State.checked (s : State) (o : Origin) (checks : List (Nat × Bool)) (f : State → State) : State :=
  match faultAt checks with
  | some off => s.badField o off
  | none => f s

/-- The first refusal of a list of ordered checks, each with whether it holds, its status and its D0 (R339). -/
def firstRefusal (checks : List (Bool × Status × Nat)) : Option (Status × Nat) :=
  (checks.find? fun c => !c.1).map (·.2)

/-- A command that the first failing check completes, or that runs `f`. -/
def State.unless (s : State) (o : Origin) (checks : List (Bool × Status × Nat)) (f : State → State) : State :=
  match firstRefusal checks with
  | some (st, d0) => s.complete (Completion.mk' o st d0 0 0)
  | none => f s

/-- The stripe a command names. -/
def stripeOf (b : List Byte) : Nat := leAt b 8 4

end Sys2Proof.Machine
end

