-- ==== Sys2Proof/Machine/Looper.lean ====
section
/-! DEFINITION. Looper's arithmetic and state changes (R275 to R294): the section cascade, banks and regions, the stage
model, the DAC codes, engagement and disengagement. -/
namespace Sys2Proof.Machine

/-! ### Arithmetic (R278) -/

/-- ⌊(p + 2^27)/2^28⌋. -/
def rnd28 (p : Int) : Int := (p + 134217728) / 268435456

/-- Limit to ±(2^(w−1) − 1). -/
def satTo (w : Nat) (v : Int) : Int := clampInt (-((2 ^ (w - 1) - 1 : Nat) : Int)) ((2 ^ (w - 1) - 1 : Nat) : Int) v

/-- The least signed width of the cascade, and of the model (R278, R290). -/
def cascadeWidth : Nat := 48
def modelWidth : Nat := 64

/-- A section's sample: its new state, ŷ before the clamp, and whether it saturated. `limit` none is the model's (R290). -/
def sectionStep (w : Nat) (limit : Option Nat) (c : Coef) (st : SectionState) (x : Int) : SectionState × Int × Bool :=
  let u := rnd28 (c.b0 * x) + st.s1
  let yu := satTo w u
  let y := match limit with | some l => clampInt (-((l * 65536 : Nat) : Int)) ((l * 65536 : Nat) : Int) yu | none => yu
  let a := rnd28 (c.b1 * x - c.a1 * y) + st.s2
  let b := rnd28 (c.b2 * x - c.a2 * y)
  (⟨satTo w a, satTo w b, x, y⟩, yu, decide (y ≠ yu) || decide (yu ≠ u) || decide (satTo w a ≠ a) || decide (satTo w b ≠ b))

/-- A cascade's result: states, saturation bits by section, ŷ of the last section, and its clamped output. -/
structure CascadeOut where
  states : List SectionState
  sat : List Bool
  yhat : Int
  y : Int

/-- The eight sections in order (R278). -/
def cascade : List Coef → List SectionState → Int → CascadeOut
  | c :: cs, st :: sts, x =>
    let r := sectionStep cascadeWidth (some c.limit) c st x
    let rest := cascade cs sts r.1.y
    ⟨r.1 :: rest.states, r.2.2 :: rest.sat, if cs.isEmpty then r.2.1 else rest.yhat, rest.y⟩
  | _, _, x => ⟨[], [], x, x⟩

/-- A section reset so that its output does not move under new coefficients (R288). -/
def bumpless (w : Nat) (limit : Option Nat) (c : Coef) (st : SectionState) : SectionState :=
  let y := match limit with | some l => clampInt (-((l * 65536 : Nat) : Int)) ((l * 65536 : Nat) : Int) st.y | none => st.y
  ⟨satTo w (y - rnd28 (c.b0 * st.x)), satTo w (rnd28 (c.b2 * st.x - c.a2 * y)), st.x, y⟩

/-- A stage lane. -/
def State.stageLane (s : State) (l : Nat) : StageLane := vget s.stage.lanes l StageLane.init

/-- PATH_NS in force: values below 300 act as 300 (R277, R295). -/
def State.pathNs (s : State) : Nat := max 300 (s.reg Reg.LPR_PATH_PATH_NS)

/-! ### Banks and regions (R284 to R289) -/

/-- The active bank. -/
def State.bank? (s : State) : Option Bank := vget s.looper.banks (s.reg Reg.LPR_STATUS_BANK) none

/-- Bank b is loaded and valid. -/
def State.bankValid (s : State) (b : Nat) : Bool := (vget s.looper.banks b none).isSome

/-- The sections of a region for an axis (0 X, 1 Y). -/
def Bank.axis (b : Bank) (region axis : Nat) : List Coef := (b.sections.drop (16 * region + 8 * axis)).take 8

/-- The eight sections in force for an axis. -/
def State.coefs (s : State) (axis : Nat) : List Coef :=
  match s.bank? with
  | some b => b.axis (s.reg Reg.LPR_STATUS_REGION) axis
  | none => []

/-- Threshold V(ρ) of a bank, ρ from 1 to 3. -/
def Bank.threshold (b : Bank) (r : Nat) : Nat := match r with | 1 => b.v1 | 2 => b.v2 | _ => b.v3

/-- A speed given as the position change over eight samples (R248), against a threshold in µm/s. -/
def fasterThan (d8 : Int) (v : Nat) : Bool := decide (v * 51200 ≤ d8.natAbs * 1000000)

/-- The region whose band holds a speed (R286). -/
def Bank.regionOf (b : Bank) (d8 : Int) : Nat :=
  if fasterThan d8 b.v3 then 3 else if fasterThan d8 b.v2 then 2 else if fasterThan d8 b.v1 then 1 else 0

/-- The region wanted next, with hysteresis, at most one away (R286). -/
def Bank.nextRegion (b : Bank) (r : Nat) (d8 : Int) : Nat :=
  if r < 3 ∧ fasterThan d8 (b.threshold (r + 1) + b.hyst) then r + 1
  else if 0 < r ∧ !fasterThan d8 (b.threshold r - b.hyst) then r - 1
  else r

/-- Every section of an axis reset bumplessly under the coefficients in force (R288). -/
def rebase (cs : List Coef) (sts : List SectionState) : List SectionState :=
  (cs.zip sts).map fun e => bumpless cascadeWidth (some e.1.limit) e.1 e.2

/-- The model's section state when its output is set to a position, Q.16 (R290). -/
def modelAt (c : Coef) (y : Int) : SectionState := bumpless modelWidth none c ⟨0, 0, y, y⟩

/-- Apply what is pending: the other bank, the wanted region, or both, counted once (R287 to R289); under another bank a model
that runs starts again from the measured Y (R290). -/
def State.applySwap (s : State) (forced : Bool) : State :=
  let l := s.looper
  let t : State := (s.setReg Reg.LPR_STATUS_BANK (if l.swap then 1 - s.reg Reg.LPR_STATUS_BANK else s.reg Reg.LPR_STATUS_BANK)).setReg
    Reg.LPR_STATUS_REGION (l.regionWanted.getD (s.reg Reg.LPR_STATUS_REGION))
  let u : State := { t with looper := { t.looper with
    xs := rebase (t.coefs 0) l.xs, ys := rebase (t.coefs 1) l.ys, swap := false, regionWanted := none, expired := false,
    model := match l.swap && l.modelRun, t.bank? with
      | true, some b => modelAt b.model ((t.stageLane 1).hist.headD 0 * 65536)
      | _, _ => l.model } }
  let v := ((u.setReg Reg.LPR_STATUS_SWAP_PENDING 0).addReg Reg.LPR_EVENTS_SWAPS 1).count 7 4 1
  v.when forced fun v =>
    let axis := if s.reg Reg.LPR_STATUS_SAT_X = 0 then 1 else 0
    (((v.setFlag Reg.LPR_STATUS_SWAP_FORCED true).addReg Reg.LPR_EVENTS_FORCED 1).count 7 1 1).event 0x07 axis 3
      (v.reg (if axis = 0 then Reg.LPR_DEMAND_X_D else Reg.LPR_DEMAND_Y_D))

/-- A swap or a region change waits. -/
def LooperUnit.changing (l : LooperUnit) : Bool := l.swap || l.regionWanted.isSome

/-! ### Outputs (R280, R282, R283, R382) -/

/-- The DAC code of an output O in Q32.16 (R282). -/
def dacCode (o : Int) (gain : Nat) (ofs : Int) (inv : Bool) : Int :=
  let c := clampInt (-524287) 524287 ((o * gain + 34359738368) / 68719476736 + ofs)
  if inv then -c else c

/-- The code while Looper is not engaged. -/
def State.restCode (s : State) (axis : Nat) : Int :=
  if axis = 0 then dacCode 0 0 (s.sreg Reg.LPR_DAC_OFS_X_OFS) (s.flag Reg.LPR_CTL_INV_X)
  else dacCode 0 0 (s.sreg Reg.LPR_DAC_OFS_Y_OFS) (s.flag Reg.LPR_CTL_INV_Y)

/-- The DAC codes while Looper is not engaged follow its settings (R282, R283). -/
def State.dacFollows (s : State) : State :=
  s.when (!s.flag Reg.LPR_STATUS_ENGAGED) fun s =>
    { s with looper := { s.looper with codeX := s.restCode 0, codeY := s.restCode 1 } }

/-- The output and demand offset OFS of R280, Q32.16: ox·n_p/8 for X, 0 for Y. -/
def Stripe.dacOffset (p : Stripe) (axis : Nat) : Int :=
  match p.run with
  | some r => if axis = 0 && !r.repair then ((passOffset p.par.p r.index).1 * p.par.np * 65536 / 8 : Nat) else 0
  | none => 0

/-- The output limited to ±2 µm (R280). -/
def outputOf (ofs y : Int) : Int := clampInt (-(128000 * 65536)) (128000 * 65536) (ofs - y)

/-! ### Engagement (R275, R289) -/

/-- Looper disengages: a pending swap applies, a hold lapses, both outputs go to 0 (R275, R283, R289, R395). -/
def State.disengage (s : State) : State :=
  s.when (s.flag Reg.LPR_STATUS_ENGAGED) fun s =>
    let t := if s.looper.swap then s.applySwap false
      else { s with looper := { s.looper with regionWanted := none, expired := false } }.setReg Reg.LPR_STATUS_SWAP_PENDING 0
    { t with looper := { t.looper with
        fresh := true, holdGap := false, holdLock := false,
        codeX := t.restCode 0, codeY := t.restCode 1 } }.setRegs [(Reg.LPR_STATUS_ENGAGED, 0), (Reg.LPR_STATUS_HOLD, 0)]

/-- Looper engages: every section and the model are cleared, and the region is chosen without hysteresis (R275, R286). -/
def State.engage (s : State) (d8 : Int) : State :=
  let z : List SectionState := List.replicate 8 ⟨0, 0, 0, 0⟩
  let region := match s.bank? with | some b => b.regionOf d8 | none => 0
  { s with looper := { s.looper with
      xs := z, ys := z, fresh := false, model := ⟨0, 0, s.looper.model.x, s.looper.model.y⟩, satPostedX := false,
      satPostedY := false, overX := false, overY := false } }.setRegs [(Reg.LPR_STATUS_ENGAGED, 1), (Reg.LPR_STATUS_REGION, region)]

/-! ### The stage model (R290) -/

/-- The set-point in force extrapolated to τ, 1/64 nm, rounded with ties up. -/
def State.setPointAt (s : State) (tau : Nat) : Int :=
  let d : Int := (tau : Int) - (s.stage.spAt : Int)
  let den : Int := 2 * 10 ^ 24
  let num : Int := s.stage.spPos * den + 128 * s.stage.spVel * d * 10 ^ 12 + 64000 * s.stage.spAcc * d * d
  (2 * num + den) / (2 * den)

/-- The role in force: the present stripe's as read at its STRIPE_BEGIN, else the register's (R260). -/
def State.role (s : State) : Nat := match s.active? with | some p => p.bv.role | none => s.reg Reg.STG_CTL_ROLE

/-- The device has a stage model: it drives set-points (R260, R291). -/
def State.hasModel (s : State) : Bool := s.flag Reg.STG_CTL_SP_EN && s.native && s.role != 2

/-- The model runs (R290). -/
def State.modelOn (s : State) : Bool :=
  s.hasModel && s.stage.spActive && bitOf (s.reg Reg.STG_STATUS_LOCK) 1

/-- One sample of the model for a measured Y: reset when it starts, else computed; then the model residual in 1/64 nm,
Q.16, and the count of samples beyond PLAUS_THR (R290, R291). -/
def State.modelSample (s : State) (y : Int) (tau : Nat) : State :=
  match s.bank? with
  | none => s
  | some b =>
    if !s.modelOn then { s with looper := { s.looper with modelRun := false, implausible := 0 } }
    else
      let st := if s.looper.modelRun then (sectionStep modelWidth none b.model s.looper.model (s.setPointAt tau * 65536)).1
        else modelAt b.model (y * 65536)
      let r := y * 65536 - (if s.looper.modelRun then st.y else y * 65536)
      let far := s.flag Reg.LPR_CTL_PLAUS_EN && decide ((s.reg Reg.LPR_PLAUS_THR * 64 * 65536 : Nat) < r.natAbs)
      let nm := s.quotient (r.natAbs : Int) (64 * 65536)
      { s with looper := { s.looper with
          modelRun := true, model := st, implausible := if far then s.looper.implausible + 1 else 0 } }.drawn.setReg
        Reg.LPR_MODEL_PEAK (max (s.reg Reg.LPR_MODEL_PEAK) (min 65535 nm.toNat))

end Sys2Proof.Machine
end

