-- ==== Sys2Proof/Machine/Retain.lean ====
section
/-! DEFINITION. What a soft reset clears and keeps (R11 to R16, R438, R439, R441), and its end (R439). -/
namespace Sys2Proof.Machine

/-- The register table with only the fields that `keep` keeps; the others read their reset values. -/
def keepFields (keep : Field → Bool) (m : SMap (BitVec 32)) : SMap (BitVec 32) :=
  SMap.restrict (fun k => match Reg.fieldOfKey k with | some f => keep f | none => true) m

/-- Read-only fields of class V that show the live state of their unit, not a stored setting (R438; log 19): power and global
status, link speed and width, axes, slices, the grid in progress, ledger and report, blanker and die temperatures, lanes and
groups, HBM, cache, panel, session, calibration, XK2 status. -/
def Field.showsUnit (f : Field) : Bool :=
  let o := f.off
  f.acc == .ro &&
    (decide (o < 0x18) || o == 0x01004 || o == 0x02004 || o == 0x02014 || o == 0x0C204 || o == 0x0C21C || o == 0x0D020
      || o == 0x14004 || o == 0x14020 || o == 0x17010 || (o == 0x1701C && decide (16 ≤ f.lo)) || o == 0x18004 || o == 0x18010
      || o == 0x20008 || o == 0x2F000 || (decide (0x5000 ≤ o ∧ o < 0x5100) && decide (0x18 ≤ o % 0x40))
      || (decide (0x8000 ≤ o ∧ o < 0xA800) && o % 0x800 == 4) || (decide (0xC000 ≤ o ∧ o < 0xC00C) && f.lo != 8)
      || o == 0xC008 || (decide (0x10000 ≤ o ∧ o < 0x14000) && decide (o % 0x40 ≤ 4))
      || decide (0x16004 ≤ o ∧ o ≤ 0x1600C) || decide (0x18020 ≤ o ∧ o < 0x18050))

/-- What a soft reset keeps: every field not of class V, the TIM block, and live status (R436, R438). -/
def Field.softKept (f : Field) : Bool := f.cls != .v || decide (0x3000 ≤ f.off ∧ f.off < 0x4000) || f.showsUnit

/-- The lanes in test (R239). -/
def State.testLanes (s : State) : List (Nat × Nat) :=
  (List.range 16).flatMap fun g => ((List.range 10).filter fun i => i != 8 && s.flag (Reg.MPH_PRBS_CTL_GEN_EN g i)).map fun i => (g, i)

/-- The groups that L2_REQ holds in L2 (R237). -/
def State.askedL2 (s : State) : List Nat := (List.range 16).filter fun g => s.flag (Reg.MPH_GRP_CTL_L2_REQ g)

/-- The counters, slot accumulators and check work of class V cleared; the console's events and snapshot stay (R441, R451). -/
def ObsUnit.cleared (o : ObsUnit) : ObsUnit :=
  { o with counters := [], slots := [], wfQueue := [], consoleSel := 0, host := { o.host with pmc := 0 },
           console := { o.console with pmc := 0 } }

/-- IHOLD of every axis is high (R270). -/
def State.holdAll (s : State) : State := s.setRegs ((List.range 4).map fun n => (Reg.AUX_STATUS_IHOLD n, 1))

/-- Every class V setting but the TIM block returns to its reset value (R436, R439, R441). A group in test or held in L2
leaves it, and HBM follows its reset rate by a sweep (R305). -/
def State.resetSettings (s : State) : State :=
  let a : State := { s with
    regs := keepFields Field.softKept s.regs
    obs := s.obs.cleared
    kernels := Vector.replicate 4 none
    looper := LooperUnit.init
    rot := 0
    ftc := FtcSettings.init
    link := { s.link with naks := [] }
    stage := { StageUnit.init with aux := s.stage.aux } }
  let b := a.forAll s.testLanes fun x t => t.setLanes x.1 (if t.grp x.1 = grpReady then laneL0 else laneOff) [x.2]
  let c := b.forAll s.askedL2 fun g t => t.leaveL2 g
  { c with hbm := { c.hbm with sweepDue := c.hbm.sweepDue || min 2 (c.reg Reg.MEM_CTL_RATE) != c.reg Reg.MEM_STATUS_RATE } }

/-- Every motion is at rest: no stripe in TRANSIT through ABORTING, no Y move, no aux move (R439). -/
def State.motionless (s : State) : Bool :=
  s.active?.isNone && s.stage.yMove.isNone && s.stage.aux.toList.all fun a => a.move.isNone

/-- A soft reset ends once every motion is at rest: the settings are reset, and RST_BUSY clears (R439). -/
def State.softEnds (s : State) : State :=
  s.when (s.flag Reg.PWR_STATUS_RST_BUSY && s.motionless) fun s => s.resetSettings.holdAll.setReg Reg.PWR_STATUS_RST_BUSY 0

end Sys2Proof.Machine
end

