-- ==== Sys2Proof/Machine/AuxAxes.lean ====
section
/-! DEFINITION. The auxiliary axes (R268 to R271): the profile, its steps, retargets, stops, and IHOLD. -/
namespace Sys2Proof.Machine

/-- An axis. -/
def State.auxAxis (s : State) (n : Nat) : AuxAxis := vget s.stage.aux n ⟨none, none, false⟩

/-- Change an axis. -/
def State.onAux (s : State) (n : Nat) (f : AuxAxis → AuxAxis) : State :=
  { s with stage := { s.stage with aux := vmod s.stage.aux n f } }

/-- Change an axis's move. -/
def State.onAuxMove (s : State) (n : Nat) (f : AuxMove → AuxMove) : State := s.onAux n fun a => { a with move := a.move.map f }

/-- AUXn_STATUS.STATE codes. -/
def auxIdle : Nat := 0
def auxAccel : Nat := 1
def auxCruise : Nat := 2
def auxDecel : Nat := 3
def auxReverse : Nat := 4
def auxStopped : Nat := 5

/-- The commanded position. -/
def State.auxPos (s : State) (n : Nat) : Int := s.sreg (Reg.AUX_POS n)

/-! ### The profile (R268) -/

/-- VSTART squared. -/
def State.auxStart2 (s : State) (n : Nat) : Nat := s.reg (Reg.AUX_VEL_VSTART n) ^ 2

/-- VMAX in steps/s, capped while the door is open with the key on (R390). -/
def State.auxMax (s : State) (n : Nat) : Nat :=
  4 * (if s.flag Reg.FLT_OP_DOOR_OPEN then min (s.reg (Reg.AUX_VEL_VMAX n)) (s.reg Reg.FLT_MAINT_VAUX) else s.reg (Reg.AUX_VEL_VMAX n))

/-- ACC and DEC in steps/s². -/
def State.auxAcc (s : State) (n : Nat) : Nat := 16 * s.reg (Reg.AUX_ACC n)
def State.auxDec (s : State) (n : Nat) : Nat := 16 * s.reg (Reg.AUX_ACC_DEC n)

/-- Steps needed to stop; without deceleration a moving axis needs more than any distance. -/
def auxNeed (v2 start2 dec : Nat) : Nat :=
  if v2 ≤ start2 then 0 else if dec = 0 then 2 ^ 64 else (v2 - start2 + 2 * dec - 1) / (2 * dec)

/-- Steps left to where the profile rests. -/
def AuxMove.left (m : AuxMove) (pos : Int) : Nat := (m.target - pos).natAbs

/-- Speed squared for the next interval: decelerating, accelerating, or coming down to a lowered VMAX (R268, R271). -/
def State.auxSpeed2 (s : State) (n : Nat) (m : AuxMove) : Nat :=
  let start2 := s.auxStart2 n
  let max2 := s.auxMax n ^ 2
  if m.first then m.v2
  else if m.left (s.auxPos n) ≤ auxNeed m.v2 start2 m.dec then max (m.v2 - 2 * m.dec) start2
  else if m.v2 < max2 then min (m.v2 + 2 * s.auxAcc n) max2
  else if max2 < m.v2 then max (m.v2 - 2 * m.dec) (max max2 start2)
  else m.v2

/-- The interval before a step, 10 ns units (R268). -/
def auxInterval (v2 : Nat) : Nat := (100000000 + Nat.sqrt v2 / 2) / Nat.sqrt v2

/-- What AUXn_STATUS shows after a step. -/
def AuxMove.phase (m : AuxMove) (v2 : Nat) : Nat :=
  if !m.stopping && m.goal != m.target then auxReverse
  else if m.first || m.v2 < v2 then auxAccel
  else if v2 < m.v2 || m.stopping then auxDecel
  else auxCruise

/-! ### Rest (R270, R271, R347) -/

/-- The AXIS_STOPs and XK2 AUX_STOPs that waited complete at rest; the XK2 form gives the remaining steps (R347, R417). -/
def State.auxStopsDone (s : State) (m : AuxMove) (remain : Int) : State :=
  s.forAll m.stoppedBy fun o s => s.complete (Completion.mk' o .ok (if o.ring = 9 then remain.natAbs else 0) 0 0)

/-- A move stops short of its goal: the distance is kept (R271). -/
def State.auxStop (s : State) (n : Nat) (m : AuxMove) : State :=
  let remain := m.goal - s.auxPos n
  let a := ((s.onAux n fun a => { a with move := none, kept := some m.goal }).setRegs
    [(Reg.AUX_REMAIN_STEPS n, unsignedOf 32 remain), (Reg.AUX_STATUS_STATE n, auxStopped)]).count 6 6 1
  let b := match m.origin with
    | some o => a.complete { Completion.mk' o m.stopStatus m.overshoot (if o.ring = 9 then 0 else remain.natAbs) 0 with
        stopped := m.stopStatus == Status.ok }
    | none => a
  b.auxStopsDone m remain

/-- A move is complete on its target. -/
def State.auxArrive (s : State) (n : Nat) (m : AuxMove) : State :=
  let a := ((s.onAux n fun a => { a with move := none }).setReg (Reg.AUX_STATUS_STATE n) auxIdle).count 6 2 1
  let b := match m.origin with
    | some o => a.complete (Completion.mk' o .ok m.overshoot 0 0)
    | none => a
  b.auxStopsDone m 0

/-- At rest beyond a new target: the overshoot is shown, and the move goes on to its goal (R271). DIR changes only at rest. -/
def State.auxTurn (s : State) (n : Nat) (m : AuxMove) : State :=
  let beyond := (m.goal - s.auxPos n).natAbs
  let up := decide (s.auxPos n < m.goal)
  (((s.auxStopsDone m 0).onAux n fun a =>
    { move := some { m with target := m.goal, up := up, v2 := s.auxStart2 n, first := true, overshoot := beyond, stoppedBy := [] },
      kept := a.kept, dir := up }).setRegs
    [(Reg.AUX_STATUS_OVERSHOOT n, beyond), (Reg.AUX_STATUS_STATE n, auxAccel)]).count 6 1 1

/-- The axis is at rest at its profile's end. -/
def State.auxRest (s : State) (n : Nat) (m : AuxMove) : State :=
  if m.stopping then s.auxStop n m else if m.goal = s.auxPos n then s.auxArrive n m else s.auxTurn n m

/-- Aim the profile at a rest position; one already reached ends it. -/
def State.auxAim (s : State) (n : Nat) (m : AuxMove) : State :=
  if m.target = s.auxPos n then s.auxRest n m else s.onAux n fun a => { a with move := some m }

/-- Where a move comes to rest at once, under a deceleration. -/
def State.auxStopAt (s : State) (n : Nat) (m : AuxMove) (dec : Nat) : Int :=
  let need : Int := if m.waking || m.first then 0 else (auxNeed m.v2 (s.auxStart2 n) dec : Nat)
  if m.up then s.auxPos n + need else s.auxPos n - need

/-- Bring a running move to rest for good (R271): at the DEC in force for it, or at four times that for E-STOP, which no later stop
softens. -/
def State.auxHalt (s : State) (n : Nat) (st : Status) (by_ : List Origin) : State :=
  match (s.auxAxis n).move with
  | none => s
  | some m =>
    let dec := if st = .estop ∧ m.stopStatus ≠ .estop then 4 * m.dec else m.dec
    (s.setReg (Reg.AUX_STATUS_STATE n) auxDecel).auxAim n
      { m with target := s.auxStopAt n m dec, stopping := true, dec := dec,
               stopStatus := if m.stopStatus = .estop then Status.estop else st, stoppedBy := m.stoppedBy ++ by_ }

/-! ### Moves (R268, R270, R271, R347) -/

/-- VSTART and VMAX allow a move (R268). -/
def State.auxVelGood (s : State) (n : Nat) : Bool :=
  let v := s.reg (Reg.AUX_VEL_VSTART n)
  let m := 4 * s.reg (Reg.AUX_VEL_VMAX n)
  decide (v ≠ 0 ∧ v ≤ m ∧ m ≤ 250000)

/-- A position within the soft limits. -/
def State.auxWithin (s : State) (n : Nat) (t : Int) : Bool :=
  decide (s.sreg (Reg.AUX_MIN_LIMIT n) ≤ t ∧ t ≤ s.sreg (Reg.AUX_MAX_LIMIT n))

/-- Start a move from rest: IHOLD goes low and WAKE runs (R270); a move of no distance is done. -/
def State.auxStart (s : State) (n : Nat) (o : Option Origin) (t : Int) : State :=
  let m : AuxMove := ⟨o, t, t, true, decide (s.auxPos n < t), s.auxStart2 n, true, false, .ok, [], s.auxDec n, 0⟩
  ((s.onAux n fun a => { a with kept := none }).setRegs [(Reg.AUX_REMAIN_STEPS n, 0), (Reg.AUX_STATUS_IHOLD n, 0),
    (Reg.AUX_STATUS_STATE n, auxAccel)]).auxAim n m

/-- The replaced move completes with SUPERSEDED (R347). -/
def State.auxSuperseded (s : State) (n : Nat) (m : AuxMove) : State :=
  match m.origin with
  | some o => s.complete { Completion.mk' o .ok m.overshoot (if o.ring = 9 then 0 else (m.goal - s.auxPos n).natAbs) 0 with superseded := true }
  | none => s

/-- A new target ahead, at least the steps needed to stop away. -/
def State.auxAhead (s : State) (n : Nat) (m : AuxMove) (t : Int) : Bool :=
  let stop := s.auxStopAt n m m.dec
  m.waking || (if m.up then decide (stop ≤ t) else decide (t ≤ stop))

/-- Retarget a running move (R271). -/
def State.auxRetarget (s : State) (n : Nat) (m : AuxMove) (o : Option Origin) (t : Int) : State :=
  let a := (s.auxSuperseded n m).count 6 4 1
  let k : AuxMove := { m with origin := o, goal := t, stopping := false, stopStatus := .ok }
  if s.auxAhead n m t then
    (a.setReg (Reg.AUX_STATUS_STATE n) auxAccel).auxAim n
      { k with target := t, up := if m.waking then decide (s.auxPos n < t) else m.up }
  else (a.setReg (Reg.AUX_STATUS_STATE n) auxReverse).auxAim n { k with target := s.auxStopAt n m m.dec }

/-- AXIS_MOVE of an aux axis to a target, past its other checks (R268, R271). -/
def State.auxGo (s : State) (n : Nat) (o : Origin) (t : Int) : State :=
  if !s.auxVelGood n then s.done o .badLength
  else if !s.auxWithin n t then (s.done o .axisLimit).count 6 7 1
  else match (s.auxAxis n).move with
    | none => s.auxStart n (some o) t
    | some m =>
      if s.auxAhead n m t || s.auxWithin n (s.auxStopAt n m m.dec) then s.auxRetarget n m (some o) t
      else (s.done o .axisLimit).count 6 7 1

/-- AXIS_STOP of an aux axis: it completes at rest (R347). -/
def State.auxHaltFor (s : State) (n : Nat) (o : Origin) : State :=
  match (s.auxAxis n).move with
  | some _ => s.auxHalt n .ok [o]
  | none =>
    let remain := match (s.auxAxis n).kept with | some t => (t - s.auxPos n).natAbs | none => 0
    s.complete (Completion.mk' o .ok (if o.ring = 9 then remain else 0) 0 0)

/-- A write to AUXn_ACC: DEC raised, or lowered within the steps left, acts on the running move; else it is deferred (R271). -/
def auxAccWrite (n v : Nat) (s : State) : State :=
  let t := s.writeFields (0x05004 + 0x40 * n) v
  match (s.auxAxis n).move with
  | none => t
  | some m =>
    let dec := t.auxDec n
    if m.dec ≤ dec || decide (auxNeed m.v2 (s.auxStart2 n) dec ≤ m.left (s.auxPos n)) then t.onAuxMove n fun m => { m with dec := dec }
    else (t.setFlag (Reg.AUX_STATUS_ACCEL_DEFERRED n) true).count 6 3 1

/-! ### Commands -/

/-- AUX_STEP (R268, R439): the step timer expires and a step leaves; a soft reset that waited for the axis ends at its rest. -/
def execAuxStep (axis : Fin 4) (s : State) : Host.Outcome State Fault Refusal :=
  answer s (match (s.auxAxis axis).move with
    | none => s
    | some m => s.when (!m.waking) fun s =>
        let v2 := s.auxSpeed2 axis m
        let pos := if m.up then s.auxPos axis + 1 else s.auxPos axis - 1
        let k : AuxMove := { m with v2 := v2, first := false }
        let a := ((s.emit (.step axis m.up)).count 6 0 1).setRegs
          [(Reg.AUX_POS axis, unsignedOf 32 pos), (Reg.AUX_STATUS_STATE axis, m.phase v2)]
        (a.auxAim axis k).softEnds)

/-- AUX_WAKE_EXPIRY (R269, R270): DIR is set and the move starts. -/
def execAuxWakeExpiry (axis : Fin 4) (s : State) : Host.Outcome State Fault Refusal :=
  answer s (match (s.auxAxis axis).move with
    | none => s
    | some m => s.when m.waking (·.onAux axis fun a => { a with dir := m.up, move := some { m with waking := false } }))

/-- AUX_IHOLD_TIMEOUT (R270): HOLD_DELAY ms at rest. -/
def execAuxIholdTimeout (axis : Fin 4) (s : State) : Host.Outcome State Fault Refusal :=
  answer s (s.when ((s.auxAxis axis).move.isNone && !s.flag (Reg.AUX_STATUS_IHOLD axis)) fun s =>
    (s.setReg (Reg.AUX_STATUS_IHOLD axis) 1).count 6 5 1)

end Sys2Proof.Machine
end

