-- ==== Sys2Proof/Machine/HbmCode.lean ====
section
/-! DEFINITION. HBM addresses (R297, R298) and the strong code's arithmetic (R311). -/
namespace Sys2Proof.Machine

/-- The live PCs in map order: by PC number j, stack 0 before stack 1 (R298). `live g` for global index g. -/
def liveMap (live : Nat → Bool) : List Nat :=
  ((List.range 32).flatMap fun j => [j, 32 + j]).filter live

/-- Where a device address lies (R298): global PC and local word. -/
def hbmPlace (map : List Nat) (a : Nat) : Nat × Nat :=
  let n := map.length
  let g := a / 2048
  let q := g / n
  let m := g % n
  let h := (m + (q ^^^ (q / 64) ^^^ (q / 8192)) % n) % n
  (map.getD h 0, 256 * q + a % 2048 / 8)

/-- The key of a local word of a PC. -/
def hbmKey (pc word : Nat) : Nat := pc * 2 ^ 27 + word

/-- Capacity of the shared store in MiB for n live PCs (R297). -/
def cacheCapMib (n : Nat) : Nat := 32768 - 672 * (64 - n)

/-- The device address of a local word (R298 inverted), the least that maps to it. -/
def hbmAddr (map : List Nat) (pc word : Nat) : Nat :=
  let n := map.length
  let q := word / 256
  let x := (q ^^^ (q / 64) ^^^ (q / 8192)) % n
  match firstIndex (fun m => map.getD ((m + x) % n) 64 == pc) 0 n with
  | some m => (q * n + m) * 2048 + word % 256 * 8
  | none => 0

/-- Multiplication in GF(2^8) modulo x^8 + x^4 + x^3 + x^2 + 1 (R311). -/
def gfMul (a b : BitVec 8) : BitVec 8 :=
  ((List.range 8).foldl (fun (acc : BitVec 8 × BitVec 8) i =>
    (if b.getLsbD i then acc.1 ^^^ acc.2 else acc.1,
     if acc.2.getLsbD 7 then (acc.2 <<< 1) ^^^ 0x1D else acc.2 <<< 1)) (0, a)).1

/-- α^i. -/
def gfPow : Nat → BitVec 8
  | 0 => 1
  | n + 1 => gfMul 2 (gfPow n)

/-- Multiply a polynomial, highest coefficient first, by x − α^i. -/
def polyMulRoot (p : List (BitVec 8)) (i : Nat) : List (BitVec 8) :=
  List.zipWith (· ^^^ ·) (p ++ [0]) (0 :: p.map fun c => gfMul c (gfPow i))

/-- The generator ∏ (x − α^i), i = 0 to 15 (R311), highest coefficient first. -/
def rsGenerator : List (BitVec 8) := (List.range 16).foldl polyMulRoot [1]

/-- The 16 check bytes of 128 data bytes of one interleave (R311). -/
def rsChecks (data : List (BitVec 8)) : List (BitVec 8) :=
  data.foldl (fun rem d =>
    let f := d ^^^ rem.headD 0
    List.zipWith (· ^^^ ·) (rem.drop 1 ++ [0]) ((rsGenerator.drop 1).map fun g => gfMul f g))
    (List.replicate 16 0)

/-- The check symbols of a 2 KiB page: interleave b of symbol s at byte 16·s + b (R311). -/
def pageChecks (page : List Byte) : List Byte :=
  let cols := (List.range 16).map fun b => rsChecks ((List.range 128).map fun s => page.getD (16 * s + b) 0)
  (List.range 16).flatMap fun s => cols.map fun c => c.getD s 0

end Sys2Proof.Machine
end

