-- ==== Sys2Proof/Machine/Ledger.lean ====
section
/-! DEFINITION. Residues, the dose ledger, final carries and the wrong-pixel report of one stripe (R178 to R189). -/
namespace Sys2Proof.Machine

/-- The key of stripe pixel (x, y). -/
def pixelKey (x y : Nat) : Nat := 4096 * y + x

/-- The stripe writes in native mode (R33, R165). -/
def Stripe.native (p : Stripe) : Bool := !p.xk2

/-- θ of R165. -/
def Stripe.theta (p : Stripe) : Nat := wrongThreshold p.native

/-- N of R26. -/
def Stripe.ticks (p : Stripe) : Nat := ticksPerPass p.par.len p.par.k

/-- The working copies of the beam table and defect map (R169). -/
def BoundValues.tables (b : BoundValues) : Tables :=
  ⟨fun r c => SMap.get (fun _ => Beam.plain) b.beams (512 * r + c), fun r c => SMap.get (fun _ => false) b.defects (512 * r + c)⟩

/-! ### Cause bits (R179, R188) -/

/-- Ledger causes ABORT, GAP, LOST, CLAMP, REPAIR. -/
def causeAbort : Nat := 1
def causeGap : Nat := 2
def causeLost : Nat := 4
def causeClamp : Nat := 8
def causeRepair : Nat := 16

/-- Report causes EXCESS, DEFICIT, CUT, OVERFLOW, BAND, TRUNC, STUCK. -/
def repExcess : Nat := 1
def repDeficit : Nat := 2
def repCut : Nat := 4
def repOverflow : Nat := 8
def repBand : Nat := 16
def repTrunc : Nat := 32
def repStuck : Nat := 64

/-! ### Report records (R188, R189) -/

/-- PIXEL records one stripe keeps before it merges further pixels into tiles (R189). -/
def pixelRecordMax : Nat := 1048576

/-- Add a record at the end of the report. -/
def Stripe.addRecord (p : Stripe) (r : Record) : Stripe := { p with records := p.records ++ [r] }

/-- A REGION record. -/
def region (cause x0 y0 x1 : Nat) (y1 : Int) : Record := ⟨2, cause, x0, y0, x1, y1⟩

/-- A REGION over columns x0 to x1 of rows lo to hi limited to the stripe; none where no row remains (R187, R212, R213). -/
def Stripe.addRegion (p : Stripe) (cause x0 x1 : Nat) (lo hi : Int) : Stripe :=
  let a := max 0 lo
  let b := min ((p.par.len : Int) - 1) hi
  if b < a then p else p.addRecord (region cause x0 a.toNat x1 b)

/-- The rows under the array at tick t of a pass, limited to the stripe, as a REGION (R187, R212, R213). -/
def Stripe.addTickRegion (p : Stripe) (cause x0 x1 t : Nat) : Stripe :=
  p.addRegion cause x0 x1 ((p.par.k * t : Nat) - 4095) (p.par.k * t : Nat)

/-- A record into which a further pixel of tile (tc, tr) merges. -/
def mergesInto (tc tr : Nat) (r : Record) : Bool :=
  r.kind == 2 && r.x0 == 256 * tc && r.y0 == 256 * tr && r.x1 == 256 * tc + 255 && r.cause &&& 3 != 0

/-- A PIXEL record, or beyond the limit the REGION of its tile (R189). -/
def Stripe.addPixel (p : Stripe) (cause x y : Nat) (delta : Int) : Stripe :=
  if p.pixelRecords < pixelRecordMax then
    { p.addRecord ⟨1, cause, x, y, x, delta⟩ with pixelRecords := p.pixelRecords + 1 }
  else if p.records.any (mergesInto (x / 256) (y / 256)) then
    { p with records := p.records.map fun r =>
        if mergesInto (x / 256) (y / 256) r then { r with cause := r.cause ||| cause } else r }
  else p.addRecord (region cause (256 * (x / 256)) (256 * (y / 256)) (256 * (x / 256) + 255)
    (min (p.par.len - 1) (256 * (y / 256) + 255) : Nat))

/-- A PIXEL record of cause EXCESS at a pixel. -/
def isExcess (x y : Nat) (r : Record) : Bool := r.kind == 1 && r.cause == repExcess && r.x0 == x && r.y0 == y

/-- Withdraw an EXCESS record, giving back the carry it stood for (R211). -/
def Stripe.withdraw (p : Stripe) (x y : Nat) : Stripe × Option Int :=
  match p.records.find? (isExcess x y) with
  | some r => ({ p with records := p.records.filter fun r => !isExcess x y r, pixelRecords := p.pixelRecords - 1 },
      some (-r.last))
  | none => (p, none)

/-! ### Placing a committed value (R174, R180, R182, R183) -/

/-- The residue byte's value: −128 is the ledger mark (R174). -/
def Stripe.residue (p : Stripe) (key : Nat) : Int := SMap.get (fun _ => 0) p.residues key

/-- A pixel's ledger entry. -/
def Stripe.entry? (p : Stripe) (key : Nat) : Option Entry := (p.ledger.find? fun e => e.1 == key).map (·.2)

/-- A pixel's carry (R173). -/
def Stripe.carry (p : Stripe) (key : Nat) : Int :=
  if p.residue key = -128 then (match p.entry? key with | some e => e.carry | none => 0) else p.residue key

/-- Set a residue byte and free the pixel's entry. -/
def Stripe.setResidue (p : Stripe) (key : Nat) (v : Int) : Stripe :=
  { p with residues := SMap.set (fun _ => 0) p.residues key v, ledger := SMap.erase p.ledger key }

/-- Set a pixel's entry and its ledger mark. -/
def Stripe.setEntry (p : Stripe) (key : Nat) (e : Entry) : Stripe :=
  { p with residues := SMap.set (fun _ => 0) p.residues key (-128), ledger := SMap.put p.ledger key e }

/-- The stripe's present run, tick numbers for the overflow region (R182): pass and tick of its latest launch. -/
def Stripe.extendOverflow (p : Stripe) (pass t : Nat) : Stripe :=
  { p with overflow :=
      if p.overflow.any fun o => o.1 == pass then
        p.overflow.map fun o => if o.1 == pass then (pass, min o.2.1 t, max o.2.2 t) else o
      else p.overflow ++ [(pass, t, t)] }

/-- Put a value that needs an entry into one, or under R182 into the residue when the ledger is full. `room` is how many
entries this stripe may hold. -/
def Stripe.toLedger (p : Stripe) (room pass t key : Nat) (new : Int) (cause : Nat) : Stripe :=
  match p.entry? key with
  | some e => p.setEntry key ⟨e.cause, new⟩
  | none =>
    if p.ledger.length < room then p.setEntry key ⟨cause, new⟩
    else (p.setResidue key (clampInt (-127) 127 new)).extendOverflow pass t

/-- A final carry F judged at the closing visit of the last pass or of a repair pass (R183): done, a deficit to repair, or
a surplus reported. The cell of a reported pixel is left at 0 (log 22). -/
def Stripe.judge (p : Stripe) (room pass t x y : Nat) (f : Int) (cause : Nat) : Stripe :=
  let key := pixelKey x y
  if f.natAbs < p.theta then p.setResidue key (clampInt (-127) 127 f)
  else if 0 < f then
    let q := p.toLedger room pass t key f cause
    { q with ledger := q.ledger.map fun e => if e.1 == key then (key, ⟨e.2.cause ||| causeRepair, f⟩) else e }
  else (p.setResidue key 0).addPixel repExcess x y (-f)

/-- A committed value that is not at a closing visit (R180). -/
def Stripe.place (p : Stripe) (room pass t x y : Nat) (new : Int) (cause : Nat) : Stripe :=
  let key := pixelKey x y
  if -127 ≤ new ∧ new ≤ 127 then p.setResidue key new else p.toLedger room pass t key new cause

/-- Change the remainder of a repair pixel (R184). -/
def Stripe.setRem (p : Stripe) (key : Nat) (rem : Int) : Stripe :=
  { p with ledger := p.ledger.map fun e => if e.1 == key then (key, { e.2 with carry := rem }) else e }

/-- The remainder of a pixel in a repair pass: its entry's carry where REPAIR is set, else 0 (R184). -/
def Stripe.rem (p : Stripe) (key : Nat) : Int :=
  match p.entry? key with
  | some e => if e.cause &&& causeRepair ≠ 0 then e.carry else 0
  | none => 0

/-! ### End of a stripe (R182 to R185, R189) -/

/-- Pixels waiting for a repair pass. -/
def Stripe.repairPixels (p : Stripe) : List (Nat × Entry) := p.ledger.filter fun e => e.2.cause &&& causeRepair != 0

/-- The plan holds a STUCK_ON beam with STUCK_Q above 0 (R185). -/
def Stripe.planStuck (p : Stripe) : Bool :=
  p.bv.beams.any fun e => e.2.state == .stuckOn && decide (0 < e.2.stuckQ) && !SMap.get (fun _ => false) p.bv.defects e.1

/-- A repair pass remains (R182, R184, R185, R420). -/
def Stripe.repairRemains (p : Stripe) : Bool :=
  p.native && decide (p.repairs < p.bv.repairMax) && !p.planStuck && p.overflow.isEmpty && !p.repairPixels.isEmpty

/-- The rest of REPAIR entries become PIXEL records of cause DEFICIT (R184, R185). -/
def Stripe.deficits (p : Stripe) : Stripe :=
  p.repairPixels.foldl (fun p e => (p.setResidue e.1 0).addPixel repDeficit (e.1 % 4096) (e.1 / 4096) (-e.2.carry)) p

/-- The overflow region's records (R182). -/
def Stripe.overflowRecords (p : Stripe) : Stripe :=
  p.overflow.foldl (fun p o => p.addRegion repOverflow 0 4095 ((p.par.k * o.2.1 : Nat) - 4095) (p.par.k * o.2.2 : Nat)) p

/-- A band without its matching record gives one REGION each (R30, R188). -/
def Stripe.bandRecords (p : Stripe) : Stripe :=
  let whole (p : Stripe) (x0 x1 : Nat) : Stripe := p.addRegion repBand x0 x1 0 (p.par.len : Int)
  let q := if p.bandMissing.getD 0 false then whole p 0 (p.par.b - 1) else p
  if p.bandMissing.getD 1 false then whole q (4096 - p.par.b) 4095 else q

/-- Capacity of the ledger and of the report pool (R179, R189). -/
def ledgerMax : Nat := 16777216
def poolMax : Nat := 4194304

/-- Entries in use, of every stripe (R179). -/
def State.ledgerUsed (s : State) : Nat := (s.stripes.map fun p => p.ledger.length).sum

/-- The entries a stripe may hold: what the others leave. -/
def State.ledgerRoom (s : State) (p : Stripe) : Nat :=
  ledgerMax - ((s.stripes.filter fun q => q.par.id != p.par.id).map fun q => q.ledger.length).sum

/-- Records the pool has room for: all but what reports hold and four set aside for bound stripes (R189). -/
def State.poolRoom (s : State) : Nat := poolMax - 4 - (s.reports.map fun r => r.records.length).sum

/-- The report a stripe leaves: its records, or those that fit and one TRUNC record for the rest (R189). -/
def State.poolRecords (s : State) (p : Stripe) : List Record :=
  if p.records.length ≤ s.poolRoom then p.records
  else p.records.take s.poolRoom ++ [region repTrunc 0 0 4095 ((p.par.len : Int) - 1)]

/-! ### Lost frames (R42, R178) -/

/-- Lost-frame records a stripe keeps (R178). -/
def lostLogMax : Nat := 65536

/-- Add a lost-frame record; beyond the limit the oldest goes. -/
def Stripe.logLost (p : Stripe) (r : LostRec) : Stripe :=
  let l := p.lostLog ++ [r]
  { p with lostLog := if lostLogMax < l.length then l.drop 1 else l }

/-- Extend the run of lost ticks by a tick at which `lanes` sent blank frames (R178). -/
def Stripe.extendLost (p : Stripe) (tick : Nat) (lanes : List Nat) : Stripe :=
  { p with lostRun := some (match p.lostRun with
      | some r => ⟨r.first, r.count + 1, lanes.foldl (fun a l => insertAsc l a) r.lanes⟩
      | none => ⟨tick, 1, lanes⟩) }

end Sys2Proof.Machine
end

