-- ==== Sys2Proof/Machine/Beams.lean ====
section
/-! DEFINITION. The beam engines: what each beam does at a tick, the gray codes of a lane, and how a launched, lost or
amended frame commits (R170 to R178, R184, R186, R191 to R196, R211). -/
namespace Sys2Proof.Machine

/-- The place of a beam in a frame: its row, column, pixel, and visit set (R22, R170). -/
structure Site where
  r : Nat
  c : Nat
  x : Nat
  y : Nat
  /-- q of row 8q + s -/
  q : Nat
  deriving DecidableEq, Repr

/-- The stripe pixel that beam index b of a lane visits at tick t of a pass; none in run-in and run-out (R22, R26, R191,
R192). -/
def Stripe.site (p : Stripe) (t lane b : Nat) : Option Site :=
  let r := b / 4
  let c := 4 * lane + b % 4
  let y := visitY p.par.k t r
  if 0 ≤ y ∧ y < p.par.len then some ⟨r, c, beamX r c, y.toNat, r / 8⟩ else none

/-- The working tables of a stripe. -/
def Stripe.tables (p : Stripe) : Tables := p.bv.tables

/-- Accounted ticks of a run: its own range, from the resume point on (R186, R206, R263). -/
def Run.accounts (r : Run) (n : Nat) : Bool := decide (r.accounted ≤ n ∧ n ≤ r.accLast)

/-- The closing visit of a site: highest q of its set, in the last pass or in a repair pass (R170, R184). -/
def Stripe.closing (p : Stripe) (run : Run) (v : Site) : Bool :=
  v.q == closingQ p.par.k v.q && (run.repair || run.index + 1 == p.par.p)

/-- The window dose, zero where no dose was written. -/
def Stripe.dose (p : Stripe) (x y : Nat) : Nat := SMap.get (fun _ => 0) p.window (pixelKey x y)

/-- V, visits of a pixel (R23). -/
def Stripe.visits (p : Stripe) : Nat := multiplicity p.par.k * p.par.p

/-- What a live visit asks for, x, in a pass (R171 to R173). -/
def Stripe.askPass (p : Stripe) (run : Run) (t : Nat) (v : Site) : Int :=
  let tb := p.tables
  let b := tb.beam v.r v.c
  let o := passOffset p.par.p run.index
  let tv := visitTarget p.dose p.par.len p.par.k t v.x v.y b.dx b.dy o.1 o.2
  let ds := stuckSum tb p.par.k p.par.p v.c (v.r % 8) v.q
  let w := visitWeights tb p.par.k p.par.p v.c (v.r % 8) v.q run.index v.q
  visitShare w.1 w.2.1 w.2.2 (visitDose p.native p.visits tv ds) + p.carry (pixelKey v.x v.y)

/-- What a live visit asks for in a repair pass, from the remainder (R184). -/
def Stripe.askRepair (p : Stripe) (v : Site) : Int :=
  let tb := p.tables
  let gains := ((setQs p.par.k v.q).filter fun q => decide (v.q ≤ q) && tb.live (8 * q + v.r % 8) v.c).map
    fun q => (tb.beam (8 * q + v.r % 8) v.c).gain
  repairAsk (p.rem (pixelKey v.x v.y)) (tb.beam v.r v.c).gain gains.sum

/-- A live visit is accounted: not a pixel of remainder 0 in a repair pass (R184), nor one of a damaged window word (R318). -/
def Stripe.visitCounts (p : Stripe) (run : Run) (v : Site) : Bool :=
  (!run.repair || p.rem (pixelKey v.x v.y) != 0) && !p.dark.contains (pixelKey v.x v.y)

/-- x of a live visit. -/
def Stripe.ask (p : Stripe) (run : Run) (t : Nat) (v : Site) : Int :=
  if run.repair then p.askRepair v else p.askPass run t v

/-- The gray code beam index b of a lane sends in frame n: 0 in run-in, run-out and unaccounted frames, for beams that are
not live, and for repair pixels of remainder 0 (R26, R173, R176, R184, R186). -/
def Stripe.gray (p : Stripe) (run : Run) (n lane b : Nat) : Nat :=
  match p.site (n - run.base) lane b with
  | none => 0
  | some v =>
    if run.accounts n && p.tables.live v.r v.c && p.visitCounts run v then
      bestGray (grayMax p.native) (p.tables.beam v.r v.c).gain (p.ask run (n - run.base) v)
    else 0

/-- The gray codes of a lane's frame. -/
def Stripe.grays (p : Stripe) (run : Run) (n lane : Nat) : List Nat := (List.range 2048).map (p.gray run n lane)

/-- The cause of an entry a commit creates: of a lost visit, or CLAMP (R180). An entry created at a closing visit that is neither
lost nor saturated takes CLAMP too, with REPAIR (log 39). -/
def entryCause (lost : Option Nat) : Nat := lost.getD causeClamp

/-- Place the value of a live visit: judged at a closing visit, carried otherwise (R180, R183). -/
def Stripe.settle (p : Stripe) (run : Run) (room t : Nat) (v : Site) (new : Int) (cause : Nat) : Stripe :=
  if p.closing run v then p.judge room run.index t v.x v.y new cause
  else if run.repair then p.setRem (pixelKey v.x v.y) new
  else p.place room run.index t v.x v.y new cause

/-- The final carry at a closing visit that is not live: of a set with no live visit, its own target less what stuck beams
deliver (R183, R185, log 21); otherwise the carry as it stands. -/
def Stripe.deadCarry (p : Stripe) (run : Run) (t : Nat) (v : Site) : Int :=
  let tb := p.tables
  if run.repair then p.rem (pixelKey v.x v.y)
  else if (liveGains tb p.par.k v.c (v.r % 8) v.q).isEmpty then
    let o := passOffset p.par.p 0
    visitDose p.native p.visits (visitTarget p.dose p.par.len p.par.k t v.x v.y 0 0 o.1 o.2)
      (stuckSum tb p.par.k p.par.p v.c (v.r % 8) v.q)
  else p.carry (pixelKey v.x v.y)

/-- A set without live visits ends in a deficit at once: it cannot be repaired (R185). -/
def Stripe.emptyDeficit (p : Stripe) (run : Run) (v : Site) : Stripe :=
  let key := pixelKey v.x v.y
  if !run.repair && (liveGains p.tables p.par.k v.c (v.r % 8) v.q).isEmpty && p.rem key != 0 then
    (p.setResidue key 0).addPixel repDeficit v.x v.y (-(p.rem key))
  else p

/-- The closing visit of a repair pixel whose remainder has reached 0: judged with F = 0, its entry is freed (R184). -/
def Stripe.closeDone (p : Stripe) (run : Run) (room t : Nat) (v : Site) : Stripe :=
  let key := pixelKey v.x v.y
  if run.repair && p.closing run v && !p.dark.contains key && (p.repairPixels.any fun e => e.1 == key && e.2.carry == 0) then
    p.judge room run.index t v.x v.y 0 causeClamp
  else p

/-- One beam's commit in an accounted frame (R178, R180, R183): `lost` gives the cause when its lane lost the frame. -/
def Stripe.commitBeam (p : Stripe) (run : Run) (room n lane : Nat) (lost : Option Nat) (b : Nat) : Stripe :=
  let t := n - run.base
  match p.site t lane b with
  | none => p
  | some v =>
    if p.tables.live v.r v.c then
      (if p.visitCounts run v then
        let gain := (p.tables.beam v.r v.c).gain
        let x := p.ask run t v
        let d : Int := doseOf (bestGray (grayMax p.native) gain x) gain
        let rem := p.rem (pixelKey v.x v.y)
        p.settle run room t v
          (if lost.isSome then (if run.repair then rem else x) else if run.repair then rem - d else x - d)
          (entryCause lost)
      else p.closeDone run room t v)
    else if p.closing run v && p.visitCounts run v then
      (p.judge room run.index t v.x v.y (p.deadCarry run t v) causeClamp).emptyDeficit run v
    else p.closeDone run room t v

/-- A lane's commit. -/
def Stripe.commitLane (p : Stripe) (run : Run) (room n lane : Nat) (lost : Option Nat) : Stripe :=
  (List.range 2048).foldl (fun p b => p.commitBeam run room n lane lost b) p

/-- The live, accounted visits of a lane in frame n, as they are launched (R211). -/
def Stripe.laneVisits (p : Stripe) (run : Run) (n lane : Nat) : List Visit :=
  (List.range 2048).filterMap fun b =>
    match p.site (n - run.base) lane b with
    | none => none
    | some v =>
      if p.tables.live v.r v.c && p.visitCounts run v then
        some ⟨lane, v.x, v.y, (p.tables.beam v.r v.c).gain, p.gray run n lane b, p.closing run v⟩
      else none

/-- Amend one launched visit as lost (R211): the dose it was to deliver goes back into the pixel's value, which is placed
or judged again; an EXCESS record no longer justified is withdrawn. -/
def Stripe.amendVisit (p : Stripe) (run : Run) (room t cause : Nat) (v : Visit) : Stripe :=
  let key := pixelKey v.x v.y
  let d : Int := doseOf v.gray v.gain
  if v.closing then
    match p.withdraw v.x v.y with
    | (q, some f) => q.judge room run.index t v.x v.y (f + d) cause
    | (q, none) => q.judge room run.index t v.x v.y (p.carry key + d) cause
  else if run.repair then p.setRem key (p.rem key + d)
  else p.place room run.index t v.x v.y (p.carry key + d) cause

/-- Entries with a cause that a stripe holds and an earlier one did not. -/
def Stripe.madeBy (p old : Stripe) (cause : Nat) : List Nat :=
  (p.ledger.filter fun e => e.2.cause &&& cause != 0 && (old.entry? e.1).isNone).map (·.1)

/-- Amend the frame of tick n on the lanes `sel` that have not lost it (R186, R211). -/
def Stripe.amend (p : Stripe) (run : Run) (room n cause : Nat) (sel : Nat → Bool) : Stripe :=
  match p.frames.find? fun f => f.tick == n && f.accounted with
  | none => p
  | some f =>
    let hit (l : Nat) : Bool := sel l && !f.lost.contains l
    let q := (f.visits.filter fun v => hit v.lane).foldl (fun q v => q.amendVisit run room (n - run.base) cause v) p
    { q with frames := q.frames.map fun g =>
        if g.tick == n then { g with lost := g.lost ++ (List.range 128).filter hit, made := g.made ++ q.madeBy p cause } else g }

/-- Lanes of frame n that an amendment on `sel` would take. -/
def Stripe.amendable (p : Stripe) (n : Nat) (sel : Nat → Bool) : List Nat :=
  match p.frames.find? fun f => f.tick == n && f.accounted with
  | none => []
  | some f => (List.range 128).filter fun l => sel l && !f.lost.contains l

/-- An abort takes frame n: its visits on lanes that had lost it go to ABORT before GAP and LOST, in the entries they created
too (R48, R180, R181). -/
def Stripe.abortFrame (p : Stripe) (n : Nat) : Stripe :=
  let made := (p.frames.filter fun f => f.tick == n && f.accounted).flatMap FrameLog.made
  { p with
    ledger := p.ledger.map fun e => if made.contains e.1 then
        (e.1, { e.2 with cause := (e.2.cause - (e.2.cause &&& (causeGap ||| causeLost))) ||| causeAbort }) else e
    frames := p.frames.map fun f => if f.tick == n then { f with aborted := true } else f }

/-- Lanes of frame n already counted as LOST, and as GAP, that an abort takes over (R48). -/
def Stripe.takenOver (p : Stripe) (n : Nat) : Nat × Nat :=
  match p.frames.find? fun f => f.tick == n && f.accounted && !f.aborted with
  | some f => (f.lost.length - f.gap.length, f.gap.length)
  | none => (0, 0)

/-- Frames each lane keeps (R212). -/
def framesKept : Nat := 48

end Sys2Proof.Machine
end

