-- ==== Sys2Proof/Machine/Engines.lean ====
section
/-! DEFINITION. Tile engines and their slots (R141, R142, R451). -/
namespace Sys2Proof.Machine

/-- A slice's engine. -/
def State.engine (s : State) (i e : Nat) : Engine := vget (s.slice i).engines e ⟨none, true, none⟩

/-- Change an engine. -/
def State.onEngine (s : State) (i e : Nat) (f : Engine → Engine) : State :=
  s.onSlice i fun c => { c with engines := vmod c.engines e f }

/-- Book slots of an engine e in a class (R451). -/
def State.bookSlots (s : State) (e cls n : Nat) : State :=
  let z : Nat → Nat := fun _ => 0
  let v := (SMap.get z s.obs.slots (4 * e + cls) + n) % 2 ^ 64
  { s with obs := { s.obs with slots := SMap.set z s.obs.slots (4 * e + cls) v } }

/-- Book slots of a tile engine and its slice's counter. -/
def State.bookTile (s : State) (i e cls n : Nat) : State := (s.bookSlots (16 * i + e) cls n).count (8 + i) (2 * cls) n

/-- An engine gives up its tile: its working slots are booked WASTED. -/
def State.wasteJob (s : State) (i e : Nat) : State :=
  match (s.engine i e).job with
  | some j => (s.onEngine i e fun k => { k with job := none }).bookTile i e 1 (4 * j.cycles)
  | none => s

/-- Work on a package that goes is given up: its engines are free, its comparisons end (R142). -/
def State.freeWork (s : State) (id : Nat) : State :=
  let t := s.forAll ((List.range 5).flatMap fun i => (List.range 16).map fun e => (i, e)) fun x s =>
    match (s.engine x.1 x.2).job with
    | some j => if j.stripe = id then s.wasteJob x.1 x.2 else s
    | none => s
  { t with shadows := t.shadows.filter fun h => h.stripe != id }

end Sys2Proof.Machine
end

