-- ==== Sys2Proof/Machine/Links.lean ====
section
/-! DEFINITION. The commands that act on a Muash group alone (R208, R214, R225 to R244): bring-up, taps, verification, L1 and
L2, PRBS, and the group registers. -/
namespace Sys2Proof.Machine

/-! ### Bring-up commands (R225 to R236) -/

/-- GROUP_START (R225): clock at rate 0, training sequences with PHASE 0. RATE shows a stepped-down ceiling where one holds. -/
def execGroupStart (g : Fin 16) (s : State) : Host.Outcome State Fault Refusal :=
  answer s (s.when (s.grp g == grpOff && decide (2 ≤ s.reg Reg.GLB_STATUS_INSTAR)) fun s =>
    let t := ((s.setLanes g laneTrain (s.required g)).setLanes g laneL0 [9, 10]).setInitialTaps g 0
    let u := (t.when (!s.flag (Reg.MPH_GRP_STATUS_STEPPED_DOWN g)) (·.setReg (Reg.MPH_GRP_STATUS_RATE g) 0)).setReg
      (Reg.MPH_GRP_STATUS_STATE g) grpCaps
    (u.emit (.clock g (some 0))).train g 0 none)

/-- The FX640's own CAPS body (R208). -/
def State.ownCaps (s : State) (g : Nat) : List Byte :=
  leBytes 1 (min (s.reg (Reg.MPH_GRP_CTL_MAX_RATE g)) s.modeRate) ++ leBytes 1 0x3F
    ++ leBytes 2 (s.reg Reg.FRM_DEVICE_DEVICE_ID) ++ leBytes 1 g ++ leBytes 1 1

/-- A CAPS message in state CAPS (R208, R225, R226): a good one fixes the agreed rate. -/
def State.takeCaps (s : State) (g : Nat) (b : List Byte) : State :=
  s.when (s.grp g == grpCaps) fun s =>
    let t := (s.onGroup g fun k => { k with far := some ⟨byteAt b 2, byteAt b 3, leAt b 4 2⟩ }).setReg
      (Reg.MPH_GRP_STATUS_FAR_MAX g) (byteAt b 2)
    if byteAt b 7 ≠ 1 ∨ leAt b 4 2 ≠ s.reg Reg.FRM_DEVICE_DEVICE_ID then t.groupOut g 1
    else
      let r := (t.setReg (Reg.MPH_GRP_STATUS_STATE g) grpAlign).onGroup g fun k => { k with agreed := t.agreed g }
      let u := r.sendLink g 0 0x01 (t.ownCaps g)
      u.when (u.skipsTaps g) (·.setReg (Reg.MPH_GRP_STATUS_STATE g) grpLow)

/-- CAPS_TIMEOUT (R225). -/
def execCapsTimeout (g : Fin 16) (s : State) : Host.Outcome State Fault Refusal :=
  answer s (s.when (s.grp g == grpCaps) (·.groupOut g 2))

/-- RESULT and taps of a TAP_REQ (R228): lane, tap, action, preset. -/
def tapAnswer (open_ : Bool) (cur : Taps) (lane tap action preset : Nat) : Nat × Taps :=
  let moved := if tap = 0 then Taps.of (if action = 1 then cur.pre + 1 else cur.pre - 1) cur.post
    else Taps.of cur.pre (if action = 1 then cur.post + 1 else cur.post - 1)
  if !open_ || 8 < lane then (2, cur)
  else if action = 0 then (0, cur)
  else if action = 3 then (if preset ≤ 7 then (0, tapPreset preset) else (2, cur))
  else if action ≤ 2 ∧ (tap = 0 ∨ tap = 2) then (if moved.good then (0, moved) else (1, cur))
  else (2, cur)

/-- A TAP_REQ (R228): judged, applied, answered on its lane, and a hold noted; the training sequences that follow report new taps
(R223). -/
def State.tapExchange (s : State) (g : Nat) (b : List Byte) : State :=
  let lane := byteAt b 2
  let open_ := s.grp g == grpEq || s.grp g == grpAlign || s.grp g == grpLow || (s.group g).l2Exit
  let r := tapAnswer open_ (s.taps g lane) lane (byteAt b 3) (byteAt b 4) (byteAt b 5)
  let hold := r.1 = 0 ∧ byteAt b 4 = 0
  let t := (s.setTaps g lane r.2).count 17 (if r.1 = 0 then 2 else 3) 1
  let u := (if lane ≤ 8 then t else s.count 17 3 1).sendLink g (if lane ≤ 8 then lane else 0) 0x03
    (leBytes 1 lane ++ leBytes 1 (byteAt b 3) ++ leBytes 1 r.1 ++ r.2.bytes)
  let v := u.when (lane ≤ 8 && r.2 != s.taps g lane && s.grp g != grpVerify) fun u => u.sendTsq g (u.tsqPhase g) none lane
  v.when (decide hold) fun u => ((u.setReg (Reg.MPH_LSTATE_TRAINED g lane) 1).onGroup g fun k =>
    { k with held := insertAsc lane k.held }).heldOn g

/-- In XK2 mode taps are fixed and no TAP_REQ is answered (R219, R230). -/
def State.takeTapReq (s : State) (g : Nat) (b : List Byte) : State := s.when s.native (·.tapExchange g b)

/-- ALIGN_TIMEOUT (R225, R233). -/
def execAlignTimeout (g : Fin 16) (s : State) : Host.Outcome State Fault Refusal :=
  answer s (s.when (s.grp g == grpAlign) fun s =>
    (s.lanesFail g ((s.required g).filter fun i => !(s.group g).held.contains i)).heldOn g)

/-- GROUP_RATE_RAISE (R225): from LOW at Instar 3 to the agreed rate. -/
def execGroupRateRaise (g : Fin 16) (s : State) : Host.Outcome State Fault Refusal :=
  answer s (s.when (s.grp g == grpLow && decide (3 ≤ s.reg Reg.GLB_STATUS_INSTAR)) fun s =>
    let n := (s.group g).agreed
    let t := (s.setReg (Reg.MPH_GRP_STATUS_RATE g) n).onGroup g fun k => { k with held := [] }
    if n = 0 then t.enterVerify g
    else
      let a := (((t.train g 3 (some 8)).emit (.clock g none)).emit (.clock g (some n))).setInitialTaps g n
      let u := (a.setRegs ((List.range 9).map fun i => (Reg.MPH_LSTATE_TRAINED g i, 0))).setReg (Reg.MPH_GRP_STATUS_STATE g) grpEq
      if u.skipsTaps g then u.enterVerify g else u.train g (u.tsqPhase g) none)

/-- EQ_TIMEOUT (R225, R233). -/
def execEqTimeout (g : Fin 16) (s : State) : Host.Outcome State Fault Refusal :=
  answer s (s.when (s.grp g == grpEq) fun s =>
    (s.lanesFail g ((s.required g).filter fun i => !(s.group g).held.contains i)).heldOn g)

/-- The spare's standby test (R242): fit when its last four reports are clean. -/
def State.spareReport (s : State) (g : Nat) (clean : Bool) : State :=
  let rs := (clean :: (s.group g).reports).take 4
  let fit := rs.length == 4 && rs.all id
  let was := s.flag (Reg.MPH_GRP_STATUS_SPARE_FIT g)
  let t := (s.onGroup g fun k => { k with reports := rs }).setFlag (Reg.MPH_GRP_STATUS_SPARE_FIT g) fit
  (t.when (fit && !was) (·.linkEvent g 4 0xFF)).when (was && !fit) fun t => (t.linkEvent g 3 0xFF).raise 3

/-- A PRBS_RESULT (R231, R242): a lane's verification, or the spare in standby. -/
def State.takePrbsResult (s : State) (g : Nat) (b : List Byte) : State :=
  let lane := byteAt b 2
  let clean := leAt b 8 4 == 0 && byteAt b 12 == 1
  if s.grp g = grpVerify ∧ s.native then
    s.when ((s.required g).contains lane) fun s =>
      let pass := clean && leAt b 4 4 == 2 ^ (s.verifyLog2 g - 20)
      let t := s.onGroup g fun k => { k with results := (lane, pass) :: k.results.filter fun r => r.1 != lane }
      (t.when (!pass) fun t => (t.count 17 7 1).lanesFail g [lane]).verifiedOn g
  else s.when (s.grp g == grpReady && s.native && lane == 8 && !s.flag (spareUsed g) && !s.inL2 g
      && !(s.group g).failed.contains 8) (·.spareReport g clean)

/-- VERIFY_TIMEOUT (R231, R233). -/
def execVerifyTimeout (g : Fin 16) (s : State) : Host.Outcome State Fault Refusal :=
  answer s (s.when (s.grp g == grpVerify && s.native) fun s =>
    let missing := (s.required g).filter fun i => !(s.group g).results.any fun r => r.1 == i
    ((s.count 17 7 missing.length).lanesFail g missing).windowEnds g)

/-- XK2_VERIFY_DONE (R231, R235). -/
def execXk2VerifyDone (g : Fin 16) (s : State) : Host.Outcome State Fault Refusal :=
  answer s (s.when (s.grp g == grpVerify && !s.native) fun s =>
    if (s.group g).rateChange then s.retrain g else s.groupReady g)

/-- SPARE_STALE (R242): no report for 2 ms. -/
def execSpareStale (g : Fin 16) (s : State) : Host.Outcome State Fault Refusal :=
  answer s (s.when (s.native && s.grp g == grpReady && !s.flag (spareUsed g)) fun s =>
    let was := s.flag (Reg.MPH_GRP_STATUS_SPARE_FIT g)
    ((s.onGroup g fun k => { k with reports := [] }).setReg (Reg.MPH_GRP_STATUS_SPARE_FIT g) 0).when was fun t =>
      (t.linkEvent g 3 0xFF).raise 3)

/-! ### L1 and L2 (R237, R238) -/

/-- L1_ENTRY (R237): a lane with no frame of the stripe. -/
def execL1Entry (g : Fin 16) (slot : Fin 8) (s : State) : Host.Outcome State Fault Refusal :=
  answer s (s.when (s.grp g == grpReady && s.reg (Reg.MPH_LSTATE_STATE g slot) == laneL0
      && (s.laneSlot (8 * g + slot) != slot.val || s.active?.isNone)) fun s => s.sleepLane g slot)

/-- L1_EXIT (R237, R238): training sequences with PHASE 0 and then idle; a lane that went down in L1 is retrained from ALIGN, and with
it every other lane of its group that did. -/
def execL1Exit (g : Fin 16) (slot : Fin 8) (s : State) : Host.Outcome State Fault Refusal :=
  answer s (s.when (s.reg (Reg.MPH_LSTATE_STATE g slot) == laneL1) fun s =>
    if (s.group g).retrainLanes.contains slot then
      let down := (s.group g).retrainLanes
      let t := ((s.count 17 4 1).setRegs ((Reg.MPH_GRP_STATUS_STATE g, grpAlign) :: down.flatMap fun i =>
        [(Reg.MPH_LSTATE_STATE g i, laneTrain), (Reg.MPH_LSTATE_TRAINED g i, 0)])).onGroup g fun k =>
        { k with held := (s.required g).filter fun i => !down.contains i, retrainLanes := [] }
      t.forAll down fun i t => t.sendTsq g 0 none i
    else ((s.setLanes g laneL0 [slot.val]).count 17 4 1).sendTsq g 0 none slot)

/-- L2_EXIT_TIMEOUT (R237): a full bring-up from OFF. -/
def execL2ExitTimeout (g : Fin 16) (s : State) : Host.Outcome State Fault Refusal :=
  answer s (s.when (s.group g).l2Exit (·.retrain g))

/-! ### Group and lane registers (R234, R235, R237 to R241, R244) -/

/-- A change of the agreed rate restarts a group: at once, but in VERIFY at the end of the window. A training step of EQ, one TAP_REQ
with its TAP_ACK, is one command here, so that none is under way (R235). -/
def State.rateChanges (s : State) (g : Nat) : State :=
  if s.grp g = grpVerify then s.onGroup g fun k => { k with rateChange := true } else s.retrain g

/-- RETRAIN (R234, R235): between stripes at once, or at the end of the verification window where it changes the agreed rate; during
a stripe held with RATE_PENDING. -/
def State.requestRetrain (s : State) (g : Nat) : State :=
  if s.stripeBusy then s.setReg (Reg.MPH_GRP_STATUS_RATE_PENDING g) 1
  else
    let t := s.setRegs [(Reg.MPH_GRP_STATUS_STEPPED_DOWN g, 0), (Reg.MPH_GRP_STATUS_RATE_PENDING g, 0)]
    if t.agreed g = (s.group g).agreed then t.retrain g else t.rateChanges g

/-- DEFERRED_RETRAIN (R234): a held RETRAIN runs when the stripe completes. -/
def execDeferredRetrain (g : Fin 16) (s : State) : Host.Outcome State Fault Refusal :=
  answer s (s.when (s.flag (Reg.MPH_GRP_STATUS_RATE_PENDING g) && !s.stripeBusy) (·.requestRetrain g))

/-- A group trains: from CAPS taken to READY. -/
def State.training (s : State) (g : Nat) : Bool :=
  s.grp g == grpAlign || s.grp g == grpLow || s.grp g == grpEq || s.grp g == grpVerify

/-- A lowered agreed rate restarts a group that trains (R235). -/
def State.rateLowered (s : State) (g : Nat) : State :=
  s.when (s.training g && decide (s.agreed g < (s.group g).agreed)) (·.rateChanges g)

/-- A write to MPH_GRP_CTL. -/
def grpCtlWrite (g v : Nat) (s : State) : State :=
  let t := s.writeFields (0x10000 + 0x400 * g + 0x3C0) v
  let u := (t.rateLowered g).when (bitOf v 4) (·.requestRetrain g)
  if bitOf v 5 then u.when (!u.stripeBusy) (·.enterL2 g) else u.when (s.flag (Reg.MPH_GRP_CTL_L2_REQ g)) (·.leaveL2 g)

/-- GROUP_RETRAIN (R234). -/
def execGroupRetrain (g : Fin 16) (v : Word) (s : State) : Host.Outcome State Fault Refusal :=
  answer s (s.bus (0x103C0 + 0x400 * g) (grpCtlWrite g v.toNat))

/-- L2_REQUEST (R237). -/
def execL2Request (g : Fin 16) (v : Word) (s : State) : Host.Outcome State Fault Refusal :=
  answer s (s.bus (0x103C0 + 0x400 * g) (grpCtlWrite g v.toNat))

/-- GROUP_MAX_RATE_WRITE (R235). -/
def execGroupMaxRateWrite (g : Fin 16) (v : Word) (s : State) : Host.Outcome State Fault Refusal :=
  answer s (s.bus (0x103C0 + 0x400 * g) (grpCtlWrite g v.toNat))

/-- GEN_EN may be written 1: between stripes, on a data lane or the clock; the spare's is its standby duty, and slot 10 has
no generator (R239, R244). -/
def State.genAllowed (s : State) (i : Nat) : Bool := !s.stripeBusy && decide (i ≤ 9) && i != 8

/-- One bit is inverted on a lane: an error for a locked checker that sees the lane through its loopback (R240, R241). The return lane
transmits nothing. -/
def State.injectBit (s : State) (g i : Nat) : State :=
  s.when (decide (i ≤ 9)) fun s =>
    (s.emit (.inject g i)).when (s.flag (Reg.MPH_PRBS_CTL_LOOP g i) && s.flag (Reg.MPH_PRBS_CTL_LOCK g i))
      (·.addReg (Reg.MPH_PRBS_ERR_ERRORS g i) 1)

/-- A generator that is turned on, or turned to another pattern, sends it (R239). -/
def State.generate (s old : State) (g i : Nat) : State :=
  s.when (!old.flag (Reg.MPH_PRBS_CTL_GEN_EN g i) || old.reg (Reg.MPH_PRBS_CTL_PATTERN g i) != s.reg (Reg.MPH_PRBS_CTL_PATTERN g i))
    fun s => s.sendPattern g i (s.reg (Reg.MPH_PRBS_CTL_PATTERN g i))

/-- A write to MPH_PRBS_CTL (R239 to R241): a GEN_EN that is not accepted makes the write do nothing. -/
def prbsCtlWrite (g i v : Nat) (s : State) : State :=
  if bitOf v 4 && !s.flag (Reg.MPH_PRBS_CTL_GEN_EN g i) && !s.genAllowed i then s
  else
    let t := s.writeFields (0x10000 + 0x400 * g + 0x40 * i + 0x08) v
    let gen := t.flag (Reg.MPH_PRBS_CTL_GEN_EN g i)
    let u := if gen then (t.setLanes g laneTest [i]).generate s g i
      else t.when (s.flag (Reg.MPH_PRBS_CTL_GEN_EN g i)) (·.setLanes g (if s.grp g = grpReady then laneL0 else laneOff) [i])
    let w := if bitOf v 5 then u.when (!s.flag (Reg.MPH_PRBS_CTL_CHK_EN g i)) fun u => (u.setRegs
        [(Reg.MPH_PRBS_BITS g i, 0), (Reg.MPH_PRBS_ERR_ERRORS g i, 0)]).onLine (lineKey g i) fun l => { l with bits := 0 }
      else u.setReg (Reg.MPH_PRBS_CTL_LOCK g i) 0
    w.when (bitOf v 8) (·.injectBit g i)

/-- PRBS_GEN_ENABLE (R239). -/
def execPrbsGenEnable (g : Fin 16) (slot : Fin 11) (v : Word) (s : State) : Host.Outcome State Fault Refusal :=
  answer s (s.bus (0x10008 + 0x400 * g + 0x40 * slot) (prbsCtlWrite g slot v.toNat))

/-- PRBS_CHECKER_ENABLE (R244). -/
def execPrbsCheckerEnable (g : Fin 16) (slot : Fin 11) (v : Word) (s : State) : Host.Outcome State Fault Refusal :=
  answer s (s.bus (0x10008 + 0x400 * g + 0x40 * slot) (prbsCtlWrite g slot v.toNat))

/-- INJ_ONE (R241). -/
def execInjOne (g : Fin 16) (slot : Fin 11) (v : Word) (s : State) : Host.Outcome State Fault Refusal :=
  answer s (s.bus (0x10008 + 0x400 * g + 0x40 * slot) (prbsCtlWrite g slot v.toNat))

/-- PRBS_CHECKER_LOCK (R240). -/
def execPrbsCheckerLock (g : Fin 16) (slot : Fin 11) (s : State) : Host.Outcome State Fault Refusal :=
  answer s (s.when (s.flag (Reg.MPH_PRBS_CTL_CHK_EN g slot)) (·.setReg (Reg.MPH_PRBS_CTL_LOCK g slot) 1))

/-- PRBS_CHECKER_LOCK_LOST (R240): the more than 64 errors that broke the lock were counted, and the checker seeds itself again. -/
def execPrbsCheckerLockLost (g : Fin 16) (slot : Fin 11) (s : State) : Host.Outcome State Fault Refusal :=
  answer s ((s.when (s.flag (Reg.MPH_PRBS_CTL_LOCK g slot)) fun s =>
    (s.addReg (Reg.MPH_PRBS_ERR_ERRORS g slot) (65 + Config.lineErrors s.draw (lineKey g slot) % 960)).drawn).setReg
      (Reg.MPH_PRBS_CTL_LOCK g slot) 0)

/-! ### Device id (R208) -/

/-- Groups whose last CAPS carried another id. -/
def State.mismatched (s : State) : List Nat :=
  (List.range 16).filter fun g => match (s.group g).far with
    | some f => f.device != s.reg Reg.FRM_DEVICE_DEVICE_ID
    | none => false

/-- Set FRM_DEVICE; a change restarts from OFF every group whose last CAPS carried another id, at once or when no stripe is
in BOUND through ABORTING (R208). -/
def deviceIdWrite (v : Nat) (s : State) : State :=
  let t := s.setRegs [(Reg.FRM_DEVICE_DEVICE_ID, v), (Reg.XK2_LINK_CTL_DEVICE_ID, v)]
  t.when (t.reg Reg.FRM_DEVICE_DEVICE_ID != s.reg Reg.FRM_DEVICE_DEVICE_ID) fun t =>
    if t.stripeBusy then t.forAll t.mismatched fun g t => t.onGroup g fun k => { k with restartDue := true }
    else t.forAll t.mismatched fun g t => t.groupOff g false

/-- DEVICE_ID_WRITE (R208). -/
def execDeviceIdWrite (v : Word) (s : State) : Host.Outcome State Fault Refusal :=
  answer s (s.bus 0x0D004 (deviceIdWrite v.toNat))

/-- The step-down after a failed switch-over: the next lower speed, or again 1.25 Gbaud with every lane tried (R216). -/
def State.stepAfter (s : State) (g : Nat) : State :=
  if s.reg (Reg.MPH_GRP_STATUS_RATE g) = 0 then (s.setRegs [(spareUsed g, 0), (spareLane g, 0)]).retrain g else s.stepDown g

/-- What waits for a stripe's end: step-downs under R216 while none is in TRANSIT through ABORTING; restarts under R208 and
L2 requests (R237) while none is in BOUND through ABORTING. -/
def State.between (s : State) : State :=
  let t := s.when s.active?.isNone fun s => s.forAll (List.range 16) fun g s =>
    s.when (s.group g).stepDue (·.stepAfter g)
  t.when (!t.stripeBusy) fun s => s.forAll (List.range 16) fun g s =>
    if (s.group g).restartDue then s.groupOff g false
    else s.when (s.flag (Reg.MPH_GRP_CTL_L2_REQ g)) (·.enterL2 g)

end Sys2Proof.Machine
end

