-- ==== Sys2Proof/Machine/Snoop.lean ====
section
/-! DEFINITION. Frames on their way to the lanes, and the snoop units that watch them (R193, R452, R453). -/
namespace Sys2Proof.Machine

/-- The mode a snoop unit works in: 3 acts as off, and VERIFY on unit 0 too (R453, R458). -/
def State.snoopMode (s : State) (u : Nat) : Nat :=
  let m := s.reg (Reg.CHK_SN_CTL_MODE u)
  if m = 3 ∨ (m = 1 ∧ u = 0) ∨ (s.part = .fx632 ∧ u = 5) then 0 else m

/-- The running value of a unit. -/
def State.snoopVal (s : State) (u : Nat) : Nat :=
  s.reg (Reg.CHK_SN_VAL_LO_WORD u) + 2 ^ 32 * s.reg (Reg.CHK_SN_VAL_HI_WORD u)

/-- Set it. -/
def State.setSnoopVal (s : State) (u v : Nat) : State :=
  s.setRegs [(Reg.CHK_SN_VAL_LO_WORD u, v), (Reg.CHK_SN_VAL_HI_WORD u, v / 2 ^ 32)]

/-- Bytes enter a unit in ACCUM (R453). -/
def State.snoopBytes (s : State) (u : Nat) (bs : List Byte) : State :=
  s.when (s.snoopMode u == 2) fun s =>
    ((s.setSnoopVal u (crcRun (s.reg (Reg.CHK_SN_CTL_POLY u)) (BitVec.ofNat 64 (s.snoopVal u)) bs).toNat).addReg
      (Reg.CHK_SN_COUNT u) bs.length).count 20 2 bs.length

/-- Bytes enter a unit in ACCUM whose FILTER names their source. -/
def State.snoopFrom (s : State) (u src : Nat) (bs : List Byte) : State :=
  s.when (s.reg (Reg.CHK_SN_CTL_FILTER u) == src) (·.snoopBytes u bs)

/-- A unit in VERIFY recomputes `n` check values; the data path made them, so they agree (R453). -/
def State.snoopVerify (s : State) (u n : Nat) : State :=
  s.when (s.snoopMode u == 1) fun s => (s.addReg (Reg.CHK_SN_COUNT u) n).count 20 0 n

/-- A frame of a logical lane, the slot that carries it, and its bytes between SOF and EOF (R193). -/
structure LaneFrame where
  lane : Nat
  slot : Nat
  body : List Byte
  deriving DecidableEq, Repr

/-- One frame passes the unit of its group (R453), header and payload without the check value, and leaves where its lane's driver is
on (R4, R240). -/
def State.sendFrame (s : State) (f : LaneFrame) : State :=
  let u := 6 + f.lane / 8
  ((s.snoopVerify u 1).snoopFrom u f.slot (f.body.take (f.body.length - 4))).when (s.drives (f.lane / 8) f.slot) fun s =>
    s.sendOn (lineKey (f.lane / 8) f.slot) (fun rd => .frame f.lane f.slot rd f.body) (frameSymbols f.body)

/-- Frames leave on their lanes, in order. -/
def State.sendFrames (s : State) (fs : List LaneFrame) : State := s.forAll fs fun f t => t.sendFrame f

end Sys2Proof.Machine
end

