-- ==== Sys2Proof/Machine/Stripes.lean ====
section
/-! DEFINITION. The life of a bound stripe (R266): runs and their ticks, frames on the lanes, abort, HELD, completion and
release (R186, R205, R206, R265, R301, R334 to R342). -/
namespace Sys2Proof.Machine

/-! ### Lanes (R191, R214, R221) -/

/-- One frame on a lane (R193 to R197). -/
def frameOn (p : Stripe) (tick lane slot : Nat) (fl : FrameFlags) (payload : List Byte) : LaneFrame :=
  ⟨lane, slot, frameBody p.native p.bv.device tick p.par.id lane { fl with spare := slot == 8 } payload⟩

/-- The same frame on every active lane (R203, R205, R206). -/
def State.broadcast (s : State) (p : Stripe) (tick : Nat) (fl : FrameFlags) (payload : List Byte) : State :=
  s.sendFrames (s.activeLanes.map fun l => frameOn p tick l (s.laneSlot l) fl payload)

/-- The ANNOUNCE payload of a run (R203). -/
def Stripe.announce (p : Stripe) (r : Run) : List Byte :=
  announcePayload p.par.id p.bv.device (match r.kind with | .pass => 0 | .repair => 1 | .resume => 2) r.index r.first r.last
    p.par.k p.par.p p.bv.dwellDelay p.bv.dwellLen p.par.np

/-! ### Runs (R26, R27, R184, R186, R265) -/

/-- A run about to start. -/
def newRun (kind : RunKind) (repair : Bool) (index base first last accounted : Nat) : Run :=
  { kind := kind, repair := repair, index := index, base := base, first := first, last := last, accounted := accounted,
    accLast := last, next := first, ticked := false, announced := false, fixed := [], ended := false, complete := false,
    rest := false, caps := (0, 0), looped := false, departures := [], vetoed := [], before := none }

/-- The run of pass j (R26, R27). -/
def Stripe.passRun (p : Stripe) (j : Nat) : Run :=
  let base := j * p.ticks
  newRun .pass false j base base (base + lastTickOfPass p.par.len p.par.k) base

/-- The ticks a repair pass covers (R184). -/
def Stripe.repairTicks (p : Stripe) : Nat × Nat :=
  let ys := p.repairPixels.map fun e => e.1 / 4096
  let lo := ys.foldl min (ys.headD 0)
  let hi := ys.foldl max 0
  (lo / p.par.k, (hi + 4094 + p.par.k - 1) / p.par.k)

/-- The run of repair pass m (R184). -/
def Stripe.repairRun (p : Stripe) (m : Nat) : Run :=
  let base := (p.par.p + m) * p.ticks
  let t := p.repairTicks
  newRun .repair true m base (base + t.1) (base + t.2) (base + t.1)

/-- The resume run from resume point a (R186, R265): its run-in starts ⌈4,096/k⌉ ticks before it, in the same pass. -/
def Stripe.resumeRun (p : Stripe) (a : Nat) : Run :=
  let idx := a / p.ticks
  let base := idx * p.ticks
  let back := (4096 + p.par.k - 1) / p.par.k
  let t := p.repairTicks
  if p.par.p ≤ idx then
    newRun .resume true (idx - p.par.p) base (max (base + t.1) (a - back)) (max (base + t.2) a) a
  else newRun .resume false idx base (max base (a - back)) (base + lastTickOfPass p.par.len p.par.k) a

/-- The run after the present one: the next pass, or a repair pass (R184, R266); none where nothing remains. -/
def Stripe.nextRun (p : Stripe) : Option Run :=
  match p.run with
  | none => none
  | some r =>
    let done := if r.repair then p.par.p else r.index + 1
    if done < p.par.p ∧ !r.repair then some (p.passRun (r.index + 1))
    else if p.repairRemains then some (p.repairRun p.repairs)
    else none

/-- Something remains after the present run. -/
def Stripe.remains (p : Stripe) : Bool := p.nextRun.isSome

/-- The row below which no frame of a run reads (R43), on a tile boundary: the filler begins there. -/
def Stripe.fillFrom (p : Stripe) (r : Run) : Int :=
  let lo := p.par.k * (r.first - r.base) - 4095
  256 * (lo / 256 : Nat) - 1

/-- Begin to travel to a run's start position (R266): a repair run counts as one of the repair passes, and the window starts
empty, each tile to be committed again (R130). -/
def Stripe.startRun (p : Stripe) (r : Run) : Stripe :=
  { p with state := .transit, run := some r, repairs := if r.kind == .repair then p.repairs + 1 else p.repairs,
           window := [], dark := [], fill := Vector.replicate 4 (p.fillFrom r) }

/-- Start a run: LDG_STATUS.REPAIR_PASS shows a repair pass (R190). -/
def State.startRun (s : State) (id : Nat) (r : Run) : State :=
  (((s.onStripe id fun p => p.startRun r).onPackage id fun k =>
    { k with tiles := SMap.mapValues (fun _ => Tile.fresh) (fun t => { t with committed := false }) k.tiles }).setReg Reg.LDG_STATUS_REPAIR_PASS
      (if r.repair then r.index + 1 else 0))

/-- Close a run of lost ticks: its record, and the range of its event (R178). -/
def Stripe.closeLost (p : Stripe) : Stripe :=
  match p.lostRun with
  | some r => { p.logLost r with lostRun := none }
  | none => p

/-- A run of lost frames ends: its record and its EVR LOST_FRAMES entry (R178, R351). -/
def State.endLostRun (s : State) (id : Nat) : State :=
  match (s.stripe? id).bind fun p => p.lostRun with
  | some r => (s.onStripe id Stripe.closeLost).event 0x0B 0xFF 1 (r.first + 2 ^ 32 * r.count)
  | none => s

/-! ### Final completions (R334, R335, R336) -/

/-- The command whose final completion a stripe owes: the resume's, else the binding's. -/
def Stripe.owner (p : Stripe) : Origin := p.resumeOrigin.getD p.origin

/-- A stripe's final completion in native mode (R335). -/
def Stripe.final (p : Stripe) (st : Status) (d1 records : Nat) : Completion :=
  { origin := p.owner, status := st, d0 := records, d1 := d1, d2 := min p.lostFrames 0xFFFFFF, start := false,
    records := decide (0 < records), stopped := false, superseded := false }

/-- Write it unless the stripe owes none (R439); in XK2 mode DETAIL is the last tick delivered, and an end other than ST_OK
sets XK2_IRQ.ERR (R413, R417). -/
def State.finish (s : State) (p : Stripe) (st : Status) (d1 records : Nat) : State :=
  if p.silent then s
  else if p.xk2 then
    ((s.complete (Completion.mk' p.owner st d1 0 0)).when (st != .ok) fun s =>
      (s.setFlag Reg.XK2_IRQ_ERR true).when (s.flag Reg.XK2_CTL_IRQ_EN) (·.emit .msi))
  else s.complete (p.final st d1 records)

/-! ### Release (R30, R31, R299, R342) -/

/-- The grid is idle again (R162). -/
def State.gridIdle (s : State) : State :=
  { s with gridJob := none }.setRegs [(Reg.DCU_STATUS_BUSY, 0), (Reg.DCU_STATUS_RECOMPUTE, 0), (Reg.DCU_STATUS_ITER, 0)]

/-- A grid in progress for a stripe id is abandoned (R161). -/
def State.dropGrid (s : State) (id : Nat) : State :=
  s.when (match s.gridJob with | some j => j.stripe == id | none => false) State.gridIdle

/-- Remove a stripe from the bound ones; a grid in progress for it is abandoned (R161). -/
def State.dropStripe (s : State) (id : Nat) : State :=
  { s with stripes := s.stripes.filter fun p => p.par.id != id }.dropGrid id

/-- Release a staged package; a grid in progress for it is abandoned (R161). -/
def State.dropPackage (s : State) (id : Nat) : State :=
  let t := (s.freeWork id).dropGrid id
  { t with packages := t.packages.filter fun p => p.stripe != id }

/-- The residue cells of a band (R30): cell B·Y + i of the columns from x0. -/
def Stripe.bandCells (p : Stripe) (x0 : Nat) : SMap Int :=
  p.residues.foldl (fun m e =>
    let x := e.1 % 4096
    if x0 ≤ x ∧ x < x0 + p.par.b then SMap.set (fun _ => 0) m (p.par.b * (e.1 / 4096) + (x - x0)) e.2 else m) []

/-- The records a completed stripe leaves for its OPEN bands; none where B is 0 or the stripe overflowed (R30). -/
def Stripe.openBands (p : Stripe) : List BandRec :=
  if p.par.b = 0 ∨ !p.overflow.isEmpty then []
  else
    (if p.par.left == .open then
      [⟨p.par.id, false, p.par.leftNbr, p.par.b, p.par.len, p.bandCells 0⟩] else [])
    ++ (if p.par.right == .open then
      [⟨p.par.id, true, p.par.rightNbr, p.par.b, p.par.len, p.bandCells (4096 - p.par.b)⟩] else [])

/-- The record that matches a band of a stripe: left by the neighbour from its facing side, tagged with the stripe (R30). -/
def bandMatches (id nbr : Nat) (left : Bool) (r : BandRec) : Bool := r.stripe == nbr && r.right == left && r.tag == id

/-- The matching record. -/
def State.band? (s : State) (id nbr : Nat) (left : Bool) : Option BandRec := s.bands.find? (bandMatches id nbr left)

/-- The records left after a stripe completes: those its CLOSE bands loaded are freed, its OPEN bands add theirs (R30,
R31). -/
def State.bandsAfter (s : State) (p : Stripe) : List BandRec :=
  (s.bands.filter fun r =>
    !((p.bandLoaded.getD 0 false && bandMatches p.par.id p.par.leftNbr true r)
      || (p.bandLoaded.getD 1 false && bandMatches p.par.id p.par.rightNbr false r))) ++ p.openBands

/-- A stripe at its end: what is left to repair becomes DEFICIT, and overflow and band regions are reported (R182, R184,
R30). -/
def Stripe.atEnd (p : Stripe) : Stripe := p.closeLost.deficits.overflowRecords.bandRecords

/-- The final status of a stripe that ends without an abort (R336). -/
def Stripe.endStatus (p : Stripe) : Status :=
  if !p.overflow.isEmpty then .ledgerOverflow else if p.records.isEmpty then .ok else .wrongPixels

/-- Put a stripe's report into the pool, and show its size (R189, R190, R415). -/
def State.poolReport (s : State) (p : Stripe) : State :=
  let rs := s.poolRecords p
  ({ s with reports := (if p.xk2 then [] else s.reports.filter fun r : Report => r.stripe != p.par.id) ++ [Report.mk p.par.id p.par.len rs p.lostLog] }.setRegs
    [(Reg.LDG_REPORT_RECORDS, rs.length)]).when (!s.native) (·.setReg Reg.XK2X_REPORT_RECORDS rs.length)

/-- The stripe completes without entering HELD (R266, R336, R342): its report and band records stay, all else is released;
every STRIPE_ABORT that waited completes after it, with no resume point (R341). -/
def State.completeStripe (s : State) (p : Stripe) (lastTick : Nat) : State :=
  let e := p.atEnd
  let t := (({ s with bands := s.bandsAfter e }.poolReport e).setReg Reg.LDG_STATUS_REPAIR_PASS 0).finish e e.endStatus lastTick (s.poolRecords e).length
  (((t.forAll p.aborts fun o t => t.complete (Completion.mk' o .ok (if p.xk2 then 0 else 0xFFFFFFFF) 0 0)).dropStripe
    p.par.id).dropPackage p.par.id).between

/-- The stripe enters HELD with a status (R266): final completion first, then the commands that aborted it (R334, R341,
R349). -/
def State.holdStripe (s : State) (p : Stripe) (st : Status) : State :=
  let resume := p.resumeAt.getD 0
  let t := s.finish p st resume p.records.length
  ((t.forAll p.aborts fun o t => t.complete (Completion.mk' o .ok resume 0 0)).onStripe p.par.id fun q =>
    { q with state := .held, run := none, cause := none, abortDue := false, abortAt := none, aborts := [],
             resumeOrigin := none, silent := false }).setReg Reg.LDG_STATUS_REPAIR_PASS 0 |>.between

end Sys2Proof.Machine
end

