-- ==== Sys2Proof/Machine/Abort.lean ====
section
/-! DEFINITION. Putting a stripe's dose work back into the state, lost and cut frames, and aborts (R186, R187, R264, R266,
R336, R341, R422, R439). -/
namespace Sys2Proof.Machine

/-! ### Ledger bookkeeping (R181, R190, R445) -/

/-- Ledger keys of `p` that `q` does not hold. -/
def keysLost (p q : Stripe) : Nat := (p.ledger.filter fun e => !q.ledger.any fun f => f.1 == e.1).length

/-- EXCESS records of a stripe. -/
def Stripe.excessCount (p : Stripe) : Nat := (p.records.filter fun r => r.kind == 1 && r.cause == repExcess).length

/-- Put a stripe's dose work back: LDG counters, LDG_PEAK and OVERFLOW follow (R182, R190, R445). -/
def State.putStripe (s : State) (q : Stripe) : State :=
  match s.stripe? q.par.id with
  | none => s
  | some p =>
    let t := s.onStripe q.par.id fun _ => q
    let u := ((t.count 15 0 (keysLost q p)).count 15 2 (keysLost p q)).count 15 6 (q.records.length - p.records.length)
    let v := (u.count 15 7 (q.excessCount - p.excessCount)).setReg Reg.LDG_PEAK_ENTRIES
      (max (s.reg Reg.LDG_PEAK_ENTRIES) t.ledgerUsed)
    v.when (p.overflow.isEmpty && !q.overflow.isEmpty) fun v => (v.setReg Reg.LDG_STATUS_OVERFLOW 1).count 15 5 1

/-- Undelivered visits of whole lanes, 2,048 each (R48, R181). -/
def State.lostVisits (s : State) (f : Field) (lanes : Nat) : State := (s.addReg f (2048 * lanes)).count 15 1 (2048 * lanes)

/-- Amend frame n on the lanes `sel` (R186, R211). -/
def State.amendFrame (s : State) (id : Nat) (r : Run) (n cause : Nat) (sel : Nat → Bool) : State :=
  match s.stripe? id with
  | none => s
  | some p => s.putStripe (p.amend r (s.ledgerRoom p) n cause sel)

/-- Undelivered visits of whole lanes counted under another cause go to ABORT (R48, R181). -/
def State.moveVisits (s : State) (f : Field) (lanes : Nat) : State :=
  s.setRegs [(f, s.reg f - 2048 * lanes), (Reg.LDG_VIS_ABORT_VISITS, min (2 ^ 32 - 1) (s.reg Reg.LDG_VIS_ABORT_VISITS + 2048 * lanes))]

/-- Amend a launched frame as lost by an abort, on every lane (R186); lanes that had lost it already go to ABORT too (R48). -/
def State.amendAbort (s : State) (p : Stripe) (r : Run) (n : Nat) : State :=
  let lanes := (p.amendable n fun _ => true).length
  let taken := p.takenOver n
  let t := (s.amendFrame p.par.id r n causeAbort fun _ => true).lostVisits Reg.LDG_VIS_ABORT_VISITS lanes
  ((t.moveVisits Reg.LDG_VIS_LOST_VISITS taken.1).moveVisits Reg.LDG_VIS_GAP_VISITS taken.2).onStripe p.par.id fun q => q.abortFrame n

/-- Book slots of beam engine g and their counter (R451). -/
def State.bookBeamSlots (s : State) (g cls n : Nat) : State := (s.bookSlots (80 + g) cls n).count 14 (2 * cls) n

/-- Book the slots of lane frames of beam engine g, 512 for each (R451). -/
def State.bookBeam (s : State) (g cls n : Nat) : State := s.bookBeamSlots g cls (512 * n)

/-- The staged results of the frame that an abort keeps from its launch are discarded (R186; log 39). -/
def State.wasteStaged (s : State) : State :=
  s.forAll (List.range 16) fun g t => t.bookBeam g 1 (s.activeLanes.filter fun l => l / 8 == g).length

/-! ### Cut ticks (R187, R292) -/

/-- The dwell window of a marked tick, ps, flight aside (R187). -/
def Stripe.dwellWindow (p : Stripe) (departure : Nat) : Nat × Nat :=
  (departure + 1000 * p.bv.dwellDelay, departure + 1000 * (p.bv.dwellDelay + p.bv.dwellLen))

/-- Marked ticks of the run whose window overlaps a span, none of those a VETO kept closed. -/
def Stripe.cutTicks (p : Stripe) (r : Run) (lo hi : Nat) : List Nat :=
  ((r.departures.filter fun e => !r.vetoed.contains e.1 && decide ((p.dwellWindow e.2).1 ≤ hi)
    && decide (lo ≤ (p.dwellWindow e.2).2)).map (·.1)).reverse

/-- Marked ticks whose window begins after a span. -/
def Stripe.unexposed (p : Stripe) (r : Run) (hi : Nat) : List Nat :=
  (r.departures.filter fun e => !r.vetoed.contains e.1 && decide (hi < (p.dwellWindow e.2).1)).map (·.1)

/-- Report a cut tick: its REGION, BEM_CUT and its counter (R187). -/
def State.cutTick (s : State) (id : Nat) (tick : Nat) : State :=
  match s.stripe? id with
  | none => s
  | some p => ((s.putStripe (p.addTickRegion repCut 0 4095 (tick % p.ticks))).setReg Reg.BEM_CUT_TICK tick).count 14 7 1

/-- The cut ticks of E-STOP asserted now, and the launched ticks it kept closed (R187). -/
def State.estopCut (s : State) : State :=
  match s.active? with
  | none => s
  | some p => match p.run with
    | none => s
    | some r =>
      let t := s.forAll (p.cutTicks r (s.now - 10000) (s.now + 310000)) fun n t => t.cutTick p.par.id n
      t.forAll (p.unexposed r (s.now + 310000)) fun n t =>
        match t.stripe? p.par.id with
        | some q => t.amendAbort q r n
        | none => t

/-- A hold that begins now cuts a window that is open (R292). -/
def State.holdCut (s : State) : State :=
  match s.active? with
  | none => s
  | some p => match p.run with
    | none => s
    | some r => s.forAll (p.cutTicks r s.now s.now) fun n t => t.cutTick p.par.id n

/-! ### Return-lane losses (R213) -/

/-- Launched frames of groups whose return lane is in loss, by group: their dose is unknown unless a good message comes. -/
def State.inLoss (s : State) : List (Nat × Nat) :=
  (List.range 16).flatMap fun g => if (s.group g).loss then (s.group g).unconfirmed.map fun n => (g, n) else []

/-- One CUT REGION over a group's 256 columns for each such frame (R213). -/
def Stripe.cutGroups (p : Stripe) (l : List (Nat × Nat)) : Stripe :=
  l.foldl (fun q e => q.addTickRegion repCut (256 * e.1) (256 * e.1 + 255) (e.2 % q.ticks)) p

/-- A run that ends has no later good message: the frames of lanes in loss are cut (R213). -/
def State.cutPending (s : State) : State :=
  match s.active? with
  | none => s
  | some p => (s.putStripe (p.cutGroups s.inLoss)).forAll (List.range 16) fun g s =>
      s.onGroup g fun k => { k with unconfirmed := if k.loss then [] else k.unconfirmed }

/-! ### XK2 ends (R415, R421, R422) -/

/-- ARMED, WRITING and DATA_LATE clear (R421, R273). -/
def State.disarm (s : State) : State :=
  s.setRegs [(Reg.XK2_STATUS_ARMED, 0), (Reg.XK2_STATUS_WRITING, 0), (Reg.XK2_STATUS_DATA_LATE, 0)]

/-- The END of an XK2 run's last tick: edges have no effect from then on (R421). -/
def State.passEnd (s : State) : State :=
  let t := s.disarm
  { t with stage := { t.stage with pastEnd := true } }

/-- An XK2 stripe ends at abort tick t_a: CUT region, report, release, completion with DETAIL t_a − 1 (R422). -/
def State.abortXk2 (s : State) (p : Stripe) (st : Status) (ta : Nat) : State :=
  let e := (p.cutGroups s.inLoss).closeLost.deficits.overflowRecords.addRegion repCut 0 4095 ((ta : Int) - 4095) ((ta : Int) - 1)
  let t := (s.putStripe e).poolReport e |>.finish e st ((ta + 0xFFFFFFFF) % 2 ^ 32) 0
  (((t.forAll p.aborts fun o t => t.complete (Completion.mk' o .ok 0 0 0)).dropStripe p.par.id).dropPackage p.par.id).disarm.between

/-! ### Aborts -/

/-- A run that has not ticked gives up its first frame: what it committed is undone (R341, log 24). -/
def Stripe.undo (p : Stripe) : Stripe :=
  match p.run.bind fun r => r.before with
  | some (res, led, recs) =>
    { p with residues := res, ledger := led, records := recs,
             pixelRecords := (recs.filter fun r => r.kind == 1).length, frames := [], older := [], sweeps := [] }
  | none => p

/-- The resume point of a run that never ticked: its first tick, or of a resume run the point already kept (R341). -/
def Stripe.untickedResume (p : Stripe) (r : Run) : Nat := if r.kind == .resume then p.resumeAt.getD r.first else r.first

/-- Mark a stripe ABORTING, at rest soon and nothing due (R266). -/
def State.aborting (s : State) (id : Nat) (st : Status) (resume : Nat) : State :=
  s.onStripe id fun q =>
    { q with state := .aborting, cause := some st, abortDue := false, abortAt := none, causeAt := s.now,
             resumeAt := some resume, run := q.run.map fun r => { r with ended := true } }

/-- Abort a run that has not ticked, at once (R341, R439). -/
def State.abortUnticked (s : State) (p : Stripe) (r : Run) (st : Status) : State :=
  let t := (s.onStripe p.par.id Stripe.undo).when (decide (r.first < r.next)) fun t =>
    (t.broadcast p r.next { endRun := true, veto := true, repair := r.repair } []).wasteStaged
  if p.xk2 then t.abortXk2 p.undo st (r.next - 1) else t.aborting p.par.id st (p.untickedResume r)

/-- END with VETO in place of the frame due next, and the launched frame before it amended (R186, R206). -/
def State.cutRun (s : State) (p : Stripe) (r : Run) (st : Status) : State :=
  let n := r.next
  let t := ((s.broadcast p n { endRun := true, veto := true, repair := r.repair } []).wasteStaged.endLostRun p.par.id)
  match t.stripe? p.par.id with
  | none => t
  | some q =>
    let u := t.amendAbort q r (n - 1)
    if p.xk2 then (match u.stripe? p.par.id with | some q => u.abortXk2 q st (n - 1) | none => u)
    else u.aborting p.par.id st (max n r.accounted)

/-- The abort waits for a tick (R186): the next, or in a lock group the one its TICK message names (R264). -/
def State.abortAtTick (s : State) (p : Stripe) (st : Status) (at_ : Option Nat) : State :=
  s.onStripe p.par.id fun q =>
    { q with state := .aborting, cause := some st, abortDue := true, abortAt := at_, causeAt := s.now }

/-- A cause that blanks at once (R264). -/
def Status.blanks (st : Status) : Bool := st == .estop || st == .blankerHot

/-- The frame launched at the tick whose instant the generator fixes next. -/
def Run.nextFixed (r : Run) : Nat := match r.fixed with | (n, _) :: _ => n + 1 | [] => r.first

/-- An abort of a ticked run: where it takes effect in a lock group (R264). A follower whose cause does not blank at once
asks the master and waits. -/
def State.abortTicked (s : State) (p : Stripe) (r : Run) (st : Status) : State :=
  match p.bv.role with
  | 0 => s.abortAtTick p st none
  | 1 => s.abortAtTick p st (if st.blanks then none else some r.nextFixed)
  | _ =>
    if st.blanks then s.abortAtTick p st none
    else s.onStripe p.par.id fun q => { q with cause := some (q.cause.getD st), causeAt := s.now }

/-- A member of a lock group that meets an abort cause tells the group: the master with ABORT in its next TICK message, a follower
with ABORT_REQ (R264). -/
def State.tellGroup (s : State) (p : Stripe) : State :=
  match p.bv.role with
  | 0 => s
  | 1 => { s with stage := { s.stage with tsAbort := true } }
  | _ => { s with stage := { s.stage with tsAbortReq := true } }

/-- A later cause of the same instant replaces a lower-ranked one (R336). -/
def State.rerank (s : State) (p : Stripe) (st : Status) : State :=
  s.onStripe p.par.id fun q =>
    if q.abortDue && q.causeAt == s.now && (match q.cause with | some c => decide (st.abortRank < c.abortRank) | none => true)
    then { q with cause := some st } else q

/-- An abort cause in RUNOUT (R336): HELD at rest while something remains, nothing otherwise. -/
def State.abortRunout (s : State) (p : Stripe) (st : Status) : State :=
  match p.nextRun with
  | some r => (s.tellGroup p).aborting p.par.id st r.first
  | none => s

/-- An abort cause meets the stripe in TRANSIT through ABORTING (R266, R336, R341, R439). -/
def State.abort (s : State) (st : Status) : State :=
  match s.active? with
  | none => s
  | some p => match p.state, p.run with
    | .transit, some r => (s.tellGroup p).abortUnticked p r st
    | .runup, some r | .write, some r =>
      if r.ticked then (s.tellGroup p).abortTicked p r st else (s.tellGroup p).abortUnticked p r st
    | .pause, some r => if r.rest then (s.tellGroup p).cutRun p r st else (s.tellGroup p).abortTicked p r st
    | .runout, some _ => s.abortRunout p st
    | .aborting, _ => s.rerank p st
    | _, _ => s

end Sys2Proof.Machine
end

