-- ==== Sys2Proof/Machine/Caps.lean ====
section
/-! DEFINITION. Y profiles and their distances (R255, R257, R265), the rate caps (R41, R256, R259), and the start position of a
run (R265, R266). -/
namespace Sys2Proof.Machine

/-! ### Profiles (R255, R257, R265) -/

/-- The integer square root rounded up. -/
def ceilSqrt (n : Nat) : Nat := let r := Nat.sqrt n; if r * r = n then r else r + 1

/-- Speed of a tick rate, nm/s: k·p·f with p = n_p/8 nm (R255). -/
def speedOf (k np : Nat) (f : Rat) : Rat := k * np * f / 8

/-- A jerk-limited stop or start from speed v fits in a distance m, nm (R257); without acceleration or jerk only rest does. -/
def distFits (v a j m : Rat) : Bool :=
  if v ≤ 0 then decide (0 ≤ m)
  else if a ≤ 0 ∨ j ≤ 0 then false
  else if a * a / j ≤ v then decide (v * (v / a + a / j) / 2 ≤ m)
  else decide (0 ≤ m ∧ v * v * v / j ≤ m * m)

/-- A jerk-limited run-up or stop reaches at least `m` nm. -/
def distReaches (v a j m : Rat) : Bool :=
  if m ≤ 0 then true
  else if v ≤ 0 then false
  else if a ≤ 0 ∨ j ≤ 0 then true
  else if a * a / j ≤ v then decide (m ≤ v * (v / a + a / j) / 2)
  else decide (m * m ≤ v * v * v / j)

/-- S: the ticks a stop from speed v consumes, rounded up (R257). -/
def stopTicks (v a j pitch : Rat) : Nat :=
  if v ≤ 0 then 0
  else if a ≤ 0 ∨ j ≤ 0 then 2 ^ 64
  else if a * a / j ≤ v then (v * (v / a + a / j) / 2 / pitch).ceil.toNat
  else ceilSqrt (v * v * v / (j * pitch * pitch)).ceil.toNat

/-- A rational taken to an integer; its rounding is free (log 8). -/
def State.rounded (s : State) (x : Rat) : Int := s.quotient x.num x.den

/-- A run-up distance in 1/64 nm (R257, R265); its rounding is free (log 8), and without acceleration or jerk it is out of reach. -/
def State.runUp (s : State) (v a j : Rat) : Int :=
  if v ≤ 0 then 0
  else if a ≤ 0 ∨ j ≤ 0 then 2 ^ 62
  else if a * a / j ≤ v then s.rounded (32 * v * (v / a + a / j))
  else
    let n := (4096 * v * v * v / j).floor.toNat
    let r := Nat.sqrt n
    if ((r * r : Nat) : Rat) = 4096 * v * v * v / j then r else if Config.roundUp s.draw then r + 1 else r

/-- AMAX, EDEC, JMAX and VMAX of a binding in nm/s², nm/s³ and nm/s (R255, R274). -/
def BoundValues.a (b : BoundValues) : Rat := b.amax * 1000000
def BoundValues.j (b : BoundValues) : Rat := b.jmax * 1000000000
def BoundValues.v (b : BoundValues) : Rat := b.vmax * 100000

/-! ### Ticks from position (R251) -/

/-- c of the tick at which frame n launches, 1/64 nm (R251). -/
def Stripe.crossing (p : Stripe) (r : Run) (n : Nat) : Int :=
  let oy : Nat := if r.repair then 0 else (passOffset p.par.p r.index).2
  p.par.y0 + 8 * p.par.np * p.par.k * ((n : Int) - 1 - r.base) + (p.par.np * oy / 8 : Nat)

/-! ### Rate caps (R41, R256, R259) -/

/-- The link cap of a rate code in native mode, Hz (R41). -/
def linkCap (rate : Nat) : Nat :=
  match rate with | 0 => 77400 | 1 => 193600 | 2 => 387200 | 3 => 774400 | _ => 1200000

/-- The performance-level cap in native mode, Hz (R41). -/
def levelCap (pl : Nat) : Nat := match pl with | 0 => 1200000 | 1 => 1102900 | _ => 735200

/-- The mode maximum, Hz (R41). -/
def State.modeMax (s : State) : Nat := if s.native then 1200000 else 512000

/-- The least rate of any group: all lanes share the tick (R41). -/
def State.leastRate (s : State) : Nat := ((List.range 16).map fun g => s.reg (Reg.MPH_GRP_STATUS_RATE g)).foldl min 4

/-- The link and level caps as they stand now (R41). -/
def State.capsNow (s : State) : Nat × Nat := (linkCap s.leastRate, levelCap (s.reg Reg.PWR_STATUS_PL))

/-- A device's own caps with the causes SKP_STATUS names (R256): `caps` are the link and level caps of the run's start. -/
def State.deviceCaps (s : State) (p : Stripe) (caps : Nat × Nat) : List (Rat × Nat) :=
  let req : Nat := if p.par.fReq = 0 then s.modeMax else p.par.fReq
  [((req : Rat), 0), ((caps.1 : Rat), 1), ((caps.2 : Rat), 2), (p.bv.v * 8 / (p.par.k * p.par.np), 6)]

/-- The caps of R256, the cool write aside: a device's own, and in a master the least that its followers report. -/
def State.rateCaps (s : State) (p : Stripe) (caps : Nat × Nat) : List (Rat × Nat) :=
  s.deviceCaps p caps
    ++ (match s.stage.tsCap with | some c => if p.bv.role = 1 then [(((c * 100 : Nat) : Rat), 5)] else [] | none => [])

/-- The least of a list of caps, the first of equals. -/
def leastCap (l : List (Rat × Nat)) : Rat × Nat :=
  l.foldl (fun a b => if b.1 < a.1 then b else a) (l.headD (0, 0))

/-- f_cap and its cause (R256, R259): under a cool write the rest of the caps times COOL_FRAC/64, which 0 takes as 1. -/
def State.rateCap (s : State) (p : Stripe) (caps : Nat × Nat) : Rat × Nat :=
  let c := leastCap (s.rateCaps p caps)
  if s.stage.cool then (c.1 * (max 1 (s.reg Reg.SKP_TIME_COOL_FRAC) : Nat) / 64, 3) else c

/-- The cap a member reports over TICKSYNC in units of 100 Hz (R259, R262): a follower's with its own cool write; the master's
without, since it applies that to the group's least. -/
def State.reportedCap (s : State) (p : Stripe) (r : Run) : Nat :=
  let c := if p.bv.role = 1 then (leastCap (s.deviceCaps p r.caps)).1 else (s.rateCap p r.caps).1
  min 65535 (c / 100).floor.toNat

/-! ### Start positions (R265, R266) -/

/-- The start position of a run at a cruise speed, 1/64 nm: c of its first tick, less the run-up and the settling time (R265). -/
def State.startOf (s : State) (p : Stripe) (r : Run) (v : Rat) : Int :=
  p.crossing r (r.first + 1) - s.runUp v p.bv.a p.bv.j - s.rounded (64 * v * (p.bv.settle : Nat) / 10000)

/-- Fix the start position of a stripe's run at the rate f (R265, R266). -/
def State.fixStart (s : State) (id : Nat) (f : Rat) : State :=
  (s.onStripe id fun p => match p.run with
    | some r => { p with startPos := s.startOf p r (speedOf p.par.k p.par.np f) }
    | none => p).drawn

/-- Start a further run of a stripe: it holds the link and level caps of its start (R256), and its start position is fixed at
the cruise speed of f_target (R265, R266). -/
def State.nextRun (s : State) (id : Nat) (r : Run) : State :=
  (s.startRun id { r with caps := s.capsNow }).fixStart id s.stage.fTarget

end Sys2Proof.Machine
end

