-- ==== Sys2Proof/Machine/MemLog.lean ====
section
/-! DEFINITION. Words of HBM, and the memory error counters and log that HBM and the window SRAM share (R313, R315, R317, R318,
R321). -/
namespace Sys2Proof.Machine

/-- The PC number of the window SRAM in the log (R318). -/
def pcWindow : Nat := 0x7F

/-- Log an error: the log takes the first event, and later ones of higher KIND; KIND 3 and above raise MEMORY (R321, R461). -/
def State.logMem (s : State) (kind : Nat) (st : Status) (pc addr : Nat) : State :=
  s.when (!s.flag Reg.MEM_ERR_INFO_VALID || decide (s.reg Reg.MEM_ERR_INFO_KIND < kind)) fun s =>
    (s.setRegs [(Reg.MEM_ERR_INFO_STATUS, st.code), (Reg.MEM_ERR_INFO_PC, pc), (Reg.MEM_ERR_INFO_KIND, kind),
      (Reg.MEM_ERR_INFO_VALID, 1), (Reg.MEM_ERR_ADDR_LO_ADDR, addr), (Reg.MEM_ERR_ADDR_HI_ADDR, addr / 2 ^ 32)]).when
        (decide (3 ≤ kind)) (·.raise 4)

/-- An EVR MEMORY entry (R351). -/
def State.memEvent (s : State) (kind : Nat) (st : Status) (pc addr : Nat) : State :=
  s.event 0x03 pc kind (addr % 2 ^ 36 + 2 ^ 40 * st.code)

/-- A single-bit error corrected (R313). -/
def State.corrected (s : State) (pc addr : Nat) : State :=
  ((s.addReg Reg.MEM_CE_COUNT 1).count 18 6 1).logMem 1 .ok pc addr

/-- A word lost: counted, logged with its kind, and posted (R313, R315). -/
def State.wordLost (s : State) (kind : Nat) (st : Status) (pc addr : Nat) : State :=
  ((s.addReg Reg.MEM_UE_COUNT 1).logMem kind st pc addr).memEvent kind st pc addr

/-- An error of a window word: 1 corrected, 3 uncorrectable; it has no device address (R318, log 12). -/
def State.windowError (s : State) (kind : Nat) : State :=
  let addr := Config.hbmWhere s.draw 0 % 2 ^ 36
  (if kind = 1 then s.corrected pcWindow addr else s.wordLost 3 .memUncorrectable pcWindow addr).drawn

/-! ### Words (R315, R317) -/

/-- A word written whole (R315). -/
def HbmWord.of (d : BitVec 64) : HbmWord := ⟨d, d, 0, false⟩

/-- A word: its remap entry, or its cells (R317). -/
def State.memWord (s : State) (key : Nat) : HbmWord :=
  match s.hbm.remap.find? fun e => e.1 == key with
  | some e => e.2
  | none => SMap.get (fun _ => HbmWord.zero) s.hbm.words key

/-- Set a word. -/
def State.setMemWord (s : State) (key : Nat) (w : HbmWord) : State :=
  if s.hbm.remap.any fun e => e.1 == key then
    { s with hbm := { s.hbm with remap := s.hbm.remap.map fun e => if e.1 == key then (key, w) else e } }
  else { s with hbm := { s.hbm with words := SMap.set (fun _ => HbmWord.zero) s.hbm.words key w } }

/-- A word's own data is written whole again: errors and poison go (R161, R315). -/
def State.rewriteWord (s : State) (key : Nat) : State := s.setMemWord key (HbmWord.of (s.memWord key).data)

end Sys2Proof.Machine
end

