-- ==== Sys2Proof/Machine/Tick.lean ====
section
/-! DEFINITION. The time base (R354 to R363): its cycle, slews, steps and corrections; and what its cycle counts. -/
namespace Sys2Proof.Machine

/-- Units of 2^−32 ns in one second. -/
def fracSecond : Nat := 1000000000 * 2 ^ 32

/-- The time base moved by an amount in units of 2^−32 ns; SEC wraps at 2^48 (R354). -/
def TimeUnit.advance (t : TimeUnit) (d : Int) : TimeUnit :=
  let now : Int := (t.sec * fracSecond + t.ns * 2 ^ 32 + t.frac : Nat)
  let n := ((now + d) % ((2 ^ 48 * fracSecond : Nat) : Int)).toNat
  { t with sec := n / fracSecond, ns := n % fracSecond / 2 ^ 32, frac := n % 2 ^ 32 }

/-- The most a slew adds in one cycle, at least one unit (R359, R370: PPB 0 acts as 1). -/
def State.slewMax (s : State) : Int := max 1 (((max 1 (s.reg Reg.TIM_SLEW_PPB)) * 25 * 2 ^ 32 / 10000000000 : Nat) : Int)

/-- What one cycle adds to the rate for a slew in progress. -/
def State.slewNow (s : State) : Int := clampInt (-s.slewMax) s.slewMax s.time.slew

/-- What one cycle of the clock in force adds: 2.5 ns plus TIM_RATE plus a slew; on the crystal 1/32,768 s; nothing without
supply (R354, R356, R428). -/
def State.increment (s : State) : Int :=
  match s.power.state with
  | .off => 0
  | .cocoon => ((30517 * 2 ^ 32 + 0x94000000 : Nat) : Int)
  | _ => ((0x280000000 : Nat) : Int) + s.sreg Reg.TIM_RATE + s.slewNow

/-- One cycle of the time base. -/
def State.timeCycle (s : State) : State :=
  { s with time := { s.time.advance s.increment with
      slew := if s.power.state == .off || s.power.state == .cocoon then s.time.slew else s.time.slew - s.slewNow } }

/-- A step of the counter waits while a stripe is in RUNUP, WRITE, PAUSE, RUNOUT or ABORTING (R360). -/
def State.stepBlocked (s : State) : Bool :=
  s.stripes.any fun p => match p.state with
    | .runup | .write | .pause | .runout | .aborting => true
    | _ => false

/-- Apply a step of the counter, in ns; VALID is set (R357, R360, R361). -/
def State.applyStep (s : State) (ns : Int) : State :=
  (({ s with time := { s.time.advance (ns * (2 ^ 32 : Nat)) with heldStep := none } }.setFlag Reg.TIM_STATUS_VALID true).setFlag
    Reg.TIM_STATUS_STEP_PENDING false).count 3 4 1

/-- Hold a step: a later one replaces it (R360). -/
def State.holdStep (s : State) (ns : Int) : State :=
  { s with time := { s.time with heldStep := some ns } }.setFlag Reg.TIM_STATUS_STEP_PENDING true

/-- Request a step: applied, or held under R360. -/
def State.requestStep (s : State) (ns : Int) : State := if s.stepBlocked then s.holdStep ns else s.applyStep ns

/-- The slew-or-step threshold, ns; 0 acts as 1 (R370). -/
def State.threshold (s : State) : Nat := max 1 (s.reg Reg.TIM_GUARD_THR)

/-- A measured offset as TIM_OFFSET holds it: signed, saturating (R370). -/
def offsetReg (off : Int) : Nat := unsignedOf 32 (clampInt (-2147483648) 2147483647 off)

/-- Begin to slew an offset away (R359). -/
def State.beginSlew (s : State) (off : Int) : State :=
  ({ s with time := { s.time with slew := -off * (2 ^ 32 : Nat), first := false } }.setRegs
    [(Reg.TIM_STATUS_LOCKED, 1), (Reg.TIM_STATUS_HOLDING, 0)]).count 3 2 1

/-- Refuse a correction (R363): GUARD_TRIP, and the TIME cause when it became set. -/
def State.refuseCorrection (s : State) : State :=
  ((s.setFlag Reg.TIM_STATUS_GUARD_TRIP true).count 3 3 1).when (!s.flag Reg.TIM_STATUS_GUARD_TRIP) (·.raise 0)

/-- Correct a measured offset, positive when the counter is ahead (R359, R360, R363): below THR slewed; at or above it
refused under GUARD when it is the first after loss, change or Cocoon, or of PPS; else stepped. -/
def State.correct (s : State) (off : Int) (pps : Bool) : State :=
  if off.natAbs < s.threshold then s.beginSlew off
  else if s.flag Reg.TIM_CTL_GUARD && (s.time.first || pps) then s.refuseCorrection
  else ({ s with time := { s.time with slew := 0, first := false } }.setRegs
    [(Reg.TIM_STATUS_LOCKED, 1), (Reg.TIM_STATUS_HOLDING, 0)]).requestStep (-off)

/-- A measurement: TIM_OFFSET always takes it; nothing is applied while GUARD_TRIP is set (R363). -/
def State.measure (s : State) (off corr : Int) (pps : Bool) : State :=
  let t := s.setReg Reg.TIM_OFFSET_NS (offsetReg off)
  t.when (!s.flag Reg.TIM_STATUS_GUARD_TRIP) (·.correct corr pps)

/-- Loss of master (R363): with HOLD the last rate stays; without it TIM_RATE returns to 0 and the counter runs at nominal rate. -/
def State.loseMaster (s : State) : State :=
  ({ s with time := { s.time with first := true, slew := if s.flag Reg.TIM_CTL_HOLD then s.time.slew else 0 } }.setRegs
    [(Reg.TIM_STATUS_LOCKED, 0), (Reg.TIM_STATUS_HOLDING, 1)]).when (!s.flag Reg.TIM_CTL_HOLD) (·.setReg Reg.TIM_RATE 0)

/-- PTP is the source of phase or of seconds (R362). -/
def State.ptpSource (s : State) : Bool :=
  s.flag Reg.TIM_PTP_CTL_EN && (s.reg Reg.TIM_CTL_SRC == 1 || s.reg Reg.TIM_CTL_SRC == 2)

/-- Capture a tick's stamp, ps, when it is the armed one (R368). -/
def State.captureTick (s : State) (tick ps : Nat) : State :=
  s.when (decide (s.reg Reg.TIM_CAP_TICK = tick % 2 ^ 32 ∧ !s.flag Reg.TIM_CAP_NS_VALID)) fun s => s.setRegs
    [(Reg.TIM_CAP_FRAC_V, ps % 1000 * 2 ^ 32 / 1000), (Reg.TIM_CAP_NS_V, ps / 1000 % 1000000000),
     (Reg.TIM_CAP_SEC_LO_V, ps / 1000000000000), (Reg.TIM_CAP_NS_VALID, 1)]

/-- A rollover of the microsecond: the counters that count µs (R445). -/
def State.microsecond (s : State) : State :=
  let pl := s.reg Reg.PWR_STATUS_PL
  let paused := s.stripes.any fun p => p.state == .pause
  (((((if s.power.state == .idle then s.count 2 1 1
    else if pl = 0 then s.count 2 3 1 else if pl = 1 then s.count 2 5 1 else s.count 2 7 1).when paused (·.count 5 2 1)).when
      s.stage.cool (·.count 5 6 1)).when (s.stripes.any fun p => p.state.moving && decide (s.stage.fTarget < p.fCap))
        (·.count 5 4 1)).when (s.active?.isSome && s.reg Reg.SKP_STATUS_CAUSE == 1) (·.count 5 7 1))

/-- Core clock cycles in one 400 MHz cycle (R442). -/
def State.coreCycles (s : State) : Nat :=
  match s.reg Reg.PWR_STATUS_PL with | 0 => 4 | 1 => 3 | _ => 2

/-- The oldest write-fed entry enters its context (R454). -/
def State.wfEnter (s : State) : State :=
  match s.obs.wfQueue with
  | [] => s
  | (c, bs) :: rest =>
    let code := s.reg (Reg.CHK_WF_CTL_POLY c)
    let val : BitVec 64 := BitVec.ofNat 64 (s.reg (Reg.CHK_WF_VAL_LO_WORD c) + 2 ^ 32 * s.reg (Reg.CHK_WF_VAL_HI_WORD c))
    let v := (crcRun code val bs).toNat
    let r := (BitVec.ofNat 64 v ^^^ crcXorOut code).toNat
    (({ s with obs := { s.obs with wfQueue := rest } }.setRegs
      [(Reg.CHK_WF_VAL_LO_WORD c, v), (Reg.CHK_WF_VAL_HI_WORD c, v / 2 ^ 32), (Reg.CHK_WF_RESULT_LO_WORD c, r),
       (Reg.CHK_WF_RESULT_HI_WORD c, r / 2 ^ 32), (Reg.CHK_WF_CTL_BUSY c, b2n (rest.any fun e => e.1 == c))]).addReg
      (Reg.CHK_WF_BYTES c) bs.length).count 20 4 bs.length

end Sys2Proof.Machine
end

