-- ==== Sys2Proof/Machine/Launch.lean ====
section
/-! DEFINITION. The tick: reserves (R43 to R46), frame launch and commit (R38, R42, R178), sweeps, END and run completion
(R205), the abort tick (R186), and TICK_IN (R272). -/
namespace Sys2Proof.Machine

/-! ### Reserves (R43 to R46, R272) -/

/-- The frame counter a reserve is taken against: t + 2 for the last tick t of the pass (R43). -/
def Run.ahead (r : Run) : Nat := r.next - r.base

/-- The window limit: 2,048 rows beyond the live rows (R44). -/
def Stripe.windowLimit (p : Stripe) (r : Run) : Nat := p.par.k * r.ahead + 2048

/-- Y_fill of a sector: rows from L on count as filled; never beyond the window limit (R43, R44). -/
def Stripe.yFill (p : Stripe) (r : Run) (sector : Nat) : Int :=
  let f := vget p.fill sector (-1)
  let lim : Int := (p.windowLimit r : Nat)
  if (p.par.len : Int) - 1 ≤ f then lim else min f lim

/-- A sector's reserve of rows up to y, in ticks: below 0 where y lies below the live rows (R43). -/
def Stripe.reserveOf (p : Stripe) (r : Run) (y : Int) : Int := (y - (p.par.k * r.ahead : Nat)) / (p.par.k : Nat)

/-- A full window reserve (R44). -/
def Stripe.fullReserve (p : Stripe) : Nat := 2048 / p.par.k

/-- The window reserve (R43). -/
def Stripe.windowReserve (p : Stripe) (r : Run) : Int :=
  ((List.range 4).map fun s => p.reserveOf r (p.yFill r s)).foldl min (p.fullReserve : Nat)

/-- Every sector's window reserve is full (R49). -/
def Stripe.windowFull (p : Stripe) (r : Run) : Bool := decide ((p.fullReserve : Int) ≤ p.windowReserve r)

/-- The slots of a tile's class set are all there: empty, stored, or in bypass finished for this pass (R45, R123, R129). -/
def Tile.complete (t : Tile) (set : List Nat) : Bool :=
  (List.range set.length).all fun i => t.empty.contains i || t.blocks.any (fun b => b.slot == i) || t.direct.any fun d => d.1 == i

/-- A tile holds its current coverage for the pass (R45). -/
def Tile.ready (t : Tile) (set : List Nat) : Bool := t.cached || t.complete set

/-- A tile of a package. -/
def Package.tile (k : Package) (col row : Nat) : Tile := SMap.get (fun _ => Tile.fresh) k.tiles (tileKey col row)

/-- Change a tile of a package. -/
def Package.onTile (k : Package) (col row : Nat) (f : Tile → Tile) : Package :=
  { k with tiles := SMap.set (fun _ => Tile.fresh) k.tiles (tileKey col row) (f (k.tile col row)) }

/-- All four tiles of a sector's tile row hold their coverage. -/
def Package.rowReady (k : Package) (sector row : Nat) : Bool :=
  (List.range 4).all fun i =>
    let t := k.tile (4 * sector + i) row
    t.committed || t.ready (setOf k.sets (4 * sector + i) row)

/-- Y_cache of a sector: the last row of the tile rows ready from tile row `lo` on; `none` once rows to L are (R45). -/
def Package.yCache (k : Package) (len sector lo : Nat) : Option Int :=
  match firstIndex (fun tr => !k.rowReady sector tr) lo (tileRows len - lo) with
  | some tr => some (256 * tr - 1)
  | none => none

/-- The tile row at which the filler begins a run (R43). -/
def Stripe.fillRow (p : Stripe) (r : Run) : Nat := ((p.fillFrom r + 1) / 256).toNat

/-- Y_cache of a sector in a run: in cache bypass only the rows from the run's first count, which the slice rasterizes ahead of
the filler (R45). -/
def Stripe.yCache (p : Stripe) (r : Run) (k : Package) (sector : Nat) : Option Int :=
  k.yCache p.par.len sector (if vget p.bypass sector false then p.fillRow r else 0)

/-- The raster reserve, saturated (R45); never below the window reserve. A repair pass needs no tile, so nothing limits it
there (R184). -/
def State.rasterReserve (s : State) (p : Stripe) (r : Run) : Int :=
  let one (sector : Nat) : Int :=
    if r.repair then 16777215
    else match s.package? p.par.id with
      | none => p.reserveOf r (p.yFill r sector)
      | some k => match p.yCache r k sector with
        | none => 16777215
        | some y => min 16777215 (p.reserveOf r y)
  max (p.windowReserve r) (((List.range 4).map one).foldl min 16777215)

/-- DATA_LATE in XK2 mode: low below 128 ticks, high again at 192 (R273). -/
def State.dataLate (s : State) (p : Stripe) (r : Run) : State :=
  s.when p.xk2 fun s =>
    let w := p.windowReserve r
    if w < 128 then s.setReg Reg.XK2_STATUS_DATA_LATE 1 else s.when (decide (192 ≤ w)) (·.setReg Reg.XK2_STATUS_DATA_LATE 0)

/-! ### What a lane sends (R42, R195, R206, R215, R292) -/

/-- Ways a lane takes part in a launch: its real frame, a blank frame, a GAP frame, nothing in a gap, or nothing because its group is not
READY, which loses its visits as a blank frame does (R8, R42, R215, R485). -/
inductive LaneMode where | real | blank | gap | silent | down
  deriving DecidableEq, Repr

/-- A lane in a launch at an instant. -/
def State.laneMode (s : State) (notReady : List Nat) (at_ lane : Nat) : LaneMode :=
  if s.grp (lane / 8) ≠ grpReady then .down
  else match (s.group (lane / 8)).switch with
  | some sw =>
    if sw.lane = lane ∧ !sw.ready then (if sw.instant + 1500000 ≤ at_ then .gap else .silent)
    else if notReady.contains lane then .blank else .real
  | none => if notReady.contains lane then .blank else .real

/-- A frame's SOF marks a tick whose window stays closed: a resume run-in, a tick outside the run's own range, or a Looper
hold (R206, R263, R292). -/
def State.vetoes (s : State) (r : Run) (n : Nat) : Bool :=
  (decide (r.first < n) && !r.accounts (n - 1)) || s.looper.holdLock

/-- A lane's frame. -/
def State.laneFrame (s : State) (p : Stripe) (r : Run) (n : Nat) (m : LaneMode) (lane : Nat) : Option LaneFrame :=
  let fl : FrameFlags := { veto := s.vetoes r n, repair := r.repair, blank := m == .blank, gap := m == .gap }
  let zeros := List.replicate 2048 0
  match m with
  | .silent | .down => none
  | .real => some (frameOn p n lane (s.laneSlot lane) fl (grayPayload p.native (p.grays r n lane)))
  | .blank | .gap => some (frameOn p n lane (s.laneSlot lane) fl (grayPayload p.native zeros))

/-! ### The tick that a launch marks (R199, R334, R368) -/

/-- The start completion of STRIPE_BEGIN or STRIPE_RESUME, after the first tick of its run (R334, R335). -/
def State.startCompletion (s : State) (p : Stripe) (r : Run) : State :=
  s.when (!p.xk2 && ((r.kind == .pass && r.index == 0 && p.resumeOrigin.isNone) || (r.kind == .resume && p.resumeOrigin.isSome)))
    fun s => s.complete { Completion.mk' p.owner .ok p.par.id r.first 0 with start := true }

/-- What a member of a lock group reports over TICKSYNC: its reserves, none below zero, and its cap (R46, R262). -/
def State.ownReport (s : State) (p : Stripe) (r : Run) : Nat × Nat × Nat :=
  ((p.windowReserve r).toNat, (s.rasterReserve p r).toNat, s.reportedCap p r)

/-- A follower keeps its report as of its last tick (R262). -/
def State.keepReport (s : State) (p : Stripe) (r : Run) : State :=
  s.when (p.bv.role == 2) fun s => { s with stage := { s.stage with own := some (s.ownReport p r) } }

/-- Tick number `t` of the run occurs at its instant: the run ticks, its stamp is captured, and the stripe writes. -/
def State.tickAt (s : State) (p : Stripe) (r : Run) (t instant : Nat) : State :=
  s.when (decide (r.first ≤ t)) fun s =>
    let a := (({ s with lastTick := some t }.captureTick t instant).count 4 0 1).keepReport p r
    let b := a.onStripe p.par.id fun q =>
      { q with state := if q.state == .runup then .write else q.state,
               run := q.run.map fun r => { r with ticked := true, before := none } }
    b.when (t == r.first) fun b => (b.startCompletion p r).when p.xk2 (·.setReg Reg.XK2_STATUS_WRITING 1)

/-- A marker leaves for tick `t`; a VETO on it loses the tick's visits where a Looper hold closed the window (R199, R292). -/
def State.marked (s : State) (p : Stripe) (r : Run) (t departure : Nat) : State :=
  let n := t + 1
  let a := s.onStripe p.par.id fun q => { q with run := q.run.map fun r =>
    { r with departures := (t, departure) :: r.departures.take 47,
             vetoed := if s.vetoes r n then t :: r.vetoed.take 47 else r.vetoed } }
  a.when (s.looper.holdLock && r.accounts t && decide (r.first ≤ t)) fun a =>
    let lanes := (match a.stripe? p.par.id with | some q => (q.amendable t fun _ => true).length | none => 0)
    (a.amendFrame p.par.id r t causeLost fun _ => true).lostVisits Reg.LDG_VIS_LOST_VISITS lanes

/-! ### Commit (R178) -/

/-- Commit the lanes of frame n: real frames as sent, GAP and unsent ones as lost with cause GAP; blank lanes and
those of a group that is not READY wait for their sweep (R178). -/
def Stripe.commitFrame (p : Stripe) (r : Run) (room n : Nat) (lanes : List (Nat × LaneMode)) : Stripe :=
  lanes.foldl (fun p e => match e.2 with
    | .real => p.commitLane r room n e.1 none
    | .blank | .down => p
    | .gap | .silent => p.commitLane r room n e.1 (some causeGap)) p

/-- Frames that a new one pushes out of the 48, with the lanes on which they count for no dose (R212). -/
def Stripe.pushedOut (p : Stripe) (r : Run) : List (Nat × List Nat) :=
  (((p.frames.drop (framesKept - 1)).filter fun f => !f.lost.isEmpty).map fun f => (f.tick, f.lost))
    ++ p.older.filter fun e => decide (r.first ≤ e.1)

/-- Keep the launched frame (R211, R212): 48 of them, its lost lanes, its live visits as launched. -/
def Stripe.keepFrame (p old : Stripe) (r : Run) (n : Nat) (lanes : List (Nat × LaneMode)) : Stripe :=
  let lost := (lanes.filter fun e => e.2 != .real).map (·.1)
  let gap := (lanes.filter fun e => e.2 == .gap || e.2 == .silent).map (·.1)
  let log : FrameLog :=
    { tick := n, lost := lost, accounted := r.accounts n, gap := gap, made := p.madeBy old causeGap, aborted := false
      visits := if r.accounts n then (lanes.filter fun e => e.2 == .real).flatMap fun e => old.laneVisits r n e.1 else [] }
  { p with frames := (log :: p.frames).take framesKept, older := p.pushedOut r }

/-- The dose of pixels x0 to x1 of a row can no longer be known: a CUT region, and residues left open (R300, R318). -/
def State.cutPixels (s : State) (id x0 x1 y : Nat) : State :=
  match s.stripe? id with
  | none => s
  | some p =>
    let q := (List.range (x1 + 1 - x0)).foldl (fun q i =>
      q.setResidue (pixelKey (x0 + i) y) (clampInt (-127) 127 (Config.lostResidue s.draw (pixelKey (x0 + i) y)).toInt))
      (p.addRegion repCut x0 x1 y y)
    (s.putStripe q).drawn

/-- A window word found uncorrectable while the frame was built: its pixels go dark for the pass (R318). -/
def State.windowWord (s : State) (id : Nat) (pixels : List (Nat × Nat)) : State :=
  let a := (s.windowError 3).forAll pixels fun c s => s.cutPixels id c.1 c.1 c.2
  a.onStripe id fun q => { q with dark := q.dark ++ pixels.map fun c => pixelKey c.1 c.2 }

/-- The lost-frame log over frame n (R42, R178): lost lanes, of which `blank` sent blank frames, extend the run of lost ticks; none
ends it. -/
def State.blankLanes (s : State) (p : Stripe) (r : Run) (n : Nat) (lanes : List Nat) (blank : Nat) : State :=
  if lanes.isEmpty then s.endLostRun p.par.id
  else
    let a := (s.onStripe p.par.id fun q =>
      { q.extendLost n lanes with lostFrames := q.lostFrames + lanes.length,
                                  sweeps := if r.accounts n then q.sweeps ++ [(n, lanes)] else q.sweeps }).addReg
      Reg.BEM_LOST_FRAMES lanes.length
    ((a.count 14 3 lanes.length).count 16 1 blank).when (r.accounts n) fun a =>
      a.lostVisits Reg.LDG_VIS_LOST_VISITS lanes.length

/-- Switch-overs whose real frame leaves now end; the others count a launch (R215, R220, R382). -/
def State.switchesEnd (s : State) (at_ : Nat) : State :=
  let t := s.forAll (List.range 16) fun g s =>
    match (s.group g).switch with
    | none => s
    | some sw =>
      if sw.ready then
        ((s.onGroup g fun k => { k with switch := none }).setReg Reg.FRM_GAP_LAST_NS
          (min 65535 (s.quotient ((at_ : Int) - sw.instant) 10000).toNat)).drawn
      else s.onGroup g fun k => { k with switch := some { sw with launches := sw.launches + 1 } }
  { t with looper := { t.looper with
      holdGap := t.looper.holdGap && (List.range 16).any fun g => (t.group g).switch.isSome } }

/-! ### FRAME_LAUNCH (R38, R42, R178, R205) -/

/-- The instant, ps, at which frame n launches, once the tick generator has fixed it. -/
def Run.instantOf (r : Run) (n : Nat) : Option Nat := (r.fixed.find? fun e => e.1 == n).map (·.2)

/-- Lanes whose share of frame n is not complete because the window lacks their rows (R42, R161): a lane's beams lie in one
sector, and frame n reads up to row k·(n − base) of it. -/
def Stripe.starvedLanes (p : Stripe) (r : Run) (n : Nat) : List Nat :=
  (List.range 128).filter fun l =>
    decide (vget p.fill (l / 32) (-1) < ((min (p.par.k * (n - r.base)) (p.par.len - 1) : Nat) : Int))

/-- Every group has answered READY, or none need (R203, R219). -/
def State.allReady (s : State) (p : Stripe) : Bool :=
  p.xk2 || (List.range 16).all fun g => (s.group g).ready

/-- What lanes do in the launch of frame n. -/
def State.laneModes (s : State) (notReady : List Nat) (at_ : Nat) : List (Nat × LaneMode) :=
  (List.range 128).map fun l => (l, s.laneMode notReady at_ l)

/-- Launch data frame n: frames out, visits committed, losses logged. -/
def State.launchData (s : State) (p : Stripe) (r : Run) (n at_ : Nat) (notReady : List Nat) (badWords : List (List (Nat × Nat))) :
    State :=
  let lanes := s.laneModes notReady at_
  let d := s.forAll badWords fun w s => s.windowWord p.par.id w
  match d.stripe? p.par.id with
  | none => d
  | some q =>
    let a := d.sendFrames (lanes.filterMap fun e => d.laneFrame q r n e.2 e.1)
    let folded := if r.repair then 0 else (lanes.filter fun e => e.2 == .real).foldl (fun c e =>
      c + ((q.laneVisits r n e.1).filter fun v => q.residue (pixelKey v.x v.y) == -128).length) 0
    let c := if r.accounts n then q.commitFrame r (a.ledgerRoom q) n lanes else q
    let d := (c.keepFrame q r n lanes)
    let e : Stripe := { d with run := d.run.map fun k =>
      { k with next := n + 1, before := if n = r.first then some (q.residues, q.ledger, q.records) else k.before } }
    let real := (lanes.filter fun x => x.2 == .real).length
    let repairs := if r.repair && r.accounts n then ((lanes.filter fun x => x.2 == .real).map fun x => (q.laneVisits r n x.1).length).sum else 0
    let gaps := (lanes.filter fun x => x.2 == .gap || x.2 == .silent)
    let b := (((((a.putStripe e).count 16 0 (real + (lanes.filter fun x => x.2 == .blank).length)).count 14 1 1).count 15 4
      folded).count 16 7 (lanes.filter fun x => x.2 == .gap).length).count 15 3 repairs
    let b := b.forAll (List.range 16) fun g b =>
      b.bookBeam g 0 (lanes.filter fun x => x.2 == .real && x.1 / 8 == g).length
    let b := b.when (r.accounts n) fun b => b.lostVisits Reg.LDG_VIS_GAP_VISITS gaps.length
    let b := b.forAll (List.range 16) fun g b => b.when (b.grp g == grpReady) fun b =>
      b.onGroup g fun k => { k with unconfirmed := k.unconfirmed ++ [n] }
    (b.blankLanes p r n ((lanes.filter fun x => x.2 == .blank || x.2 == .down).map (·.1))
      (lanes.filter fun x => x.2 == .blank).length).switchesEnd at_

/-- END after the run's last tick (R205): the common blanker closes after that tick's window; RUNOUT begins (R266). -/
def State.launchEnd (s : State) (p : Stripe) (r : Run) (n : Nat) : State :=
  let a := ((s.broadcast p n { endRun := true, veto := s.vetoes r n, repair := r.repair } []).endLostRun p.par.id).onStripe p.par.id
    fun q => { q with state := .runout, run := q.run.map fun k => { k with next := n + 1, ended := true } }
  a.when p.xk2 State.passEnd

/-- The next frame may launch now: run-up or writing with no abort due, or before the tick that a lock group's abort names
(R264). -/
def Stripe.launches (p : Stripe) (r : Run) : Bool :=
  ((p.state == .runup || p.state == .write || p.state == .pause) && !p.abortDue)
    || (p.abortDue && (match p.abortAt with | some n => decide (r.next < n) | none => false))

/-- Lanes that miss a launch: a lane's frame is built after those of the lower lanes of its group, so that with it every higher one
misses (R192). -/
def missing (notReady : List (Fin 128)) : List Nat :=
  (List.range 128).filter fun l => notReady.any fun m => m.val / 8 == l / 8 && decide (m.val ≤ l)

/-- A pair, 20 UI, at a rate code, in ps (R222). -/
def pairPeriod (rate : Nat) : Nat := 20 * ([800, 320, 160, 80, 50].getD rate 800)

/-- The pair of the lane whose SOF is the marker: of the lowest-numbered group with an active lane (R201). -/
def State.markerPair (s : State) : Nat :=
  match s.activeLanes with | l :: _ => pairPeriod (s.reg (Reg.MPH_GRP_STATUS_RATE (l / 8))) | [] => pairPeriod 0

/-- When a marker leaves: 16 ns after the tick instant, or at the first pair boundary after that, `slip` later (R199). -/
def State.departure (s : State) (at_ slip : Nat) : Nat := at_ + 16000 + slip % s.markerPair

/-- FRAME_LAUNCH: at the instant of tick n − 1 frame n leaves 16 ns later, or END after the last (R38, R199, R205). -/
def execFrameLaunch (notReady : List (Fin 128)) (slip fixedWords : Nat) (badWords : List (List (Nat × Nat))) (s : State) :
    Host.Outcome State Fault Refusal :=
  answer s (match s.active? with
    | none => s
    | some p => match p.run with
      | none => s
      | some r => match r.instantOf r.next with
        | none => s
        | some at_ =>
          s.when (p.launches r && (p.xk2 || r.announced) && (r.ticked || s.allReady p) && decide (r.next ≤ r.last + 1)) fun s =>
            let n := r.next
            let a := ((s.forAll (List.range fixedWords) fun _ s => s.windowError 1).tickAt p r (n - 1) at_).when (decide (r.first < n)) fun a => a.marked p r (n - 1) (s.departure at_ slip)
            match a.stripe? p.par.id with
            | none => a
            | some q => match q.run with
              | none => a
              | some k =>
                let b := if n = r.last + 1 then a.launchEnd q k n
                  else a.launchData q k n at_ (missing notReady ++ q.starvedLanes k n) badWords
                match b.stripe? p.par.id with
                | some z => (match z.run with | some k => b.dataLate z k | none => b)
                | none => b)

/-! ### Sweeps (R178) -/

/-- A complete run whose stage is at rest and whose sweeps are finished: the next run, or the stripe completes (R178, R266). -/
def State.settleRun (s : State) (id : Nat) : State :=
  match s.stripe? id with
  | none => s
  | some p => match p.run with
    | none => s
    | some r =>
      s.when (r.complete && (r.rest || p.xk2) && p.state == .runout && p.sweeps.isEmpty) fun s =>
        match p.nextRun with
        | some k => s.nextRun id k
        | none => s.completeStripe p r.last

/-- Commit the lanes of a sweep: lost, with the cause of R48; an abort that took the frame meanwhile goes before LOST (R178). -/
def Stripe.sweepLanes (p : Stripe) (r : Run) (room n : Nat) (lanes : List Nat) : Stripe :=
  let aborted := p.frames.any fun f => f.tick == n && f.aborted
  let q := lanes.foldl (fun q l => q.commitLane r room n l (some (if aborted then causeAbort else causeLost))) p
  { q with frames := q.frames.map fun f => if f.tick == n then { f with made := f.made ++ q.madeBy p causeLost } else f }

/-- The sweeps that remain. -/
def Stripe.withSweeps (p : Stripe) (l : List (Nat × List Nat)) : Stripe := { p with sweeps := l }

/-- LOST_VISIT_SWEEP (R178): the oldest lanes still to sweep commit their visits as lost. -/
def execLostVisitSweep (s : State) : Host.Outcome State Fault Refusal :=
  answer s (match s.active? with
    | none => s
    | some p => match p.run, p.sweeps with
      | some r, (n, lanes) :: rest =>
        let q := (p.sweepLanes r (s.ledgerRoom p) n lanes).withSweeps rest
        ((((s.putStripe q).count 14 5 1)).forAll (List.range 16) fun g t =>
          t.bookBeam g 1 (lanes.filter fun l => l / 8 == g).length).settleRun p.par.id
      | _, _ => s)

/-- Tick periods a run has seen since frame n: launches, and after END those that its completion waited for (R178, R205). -/
def Stripe.ticksSince (p : Stripe) (r : Run) (n : Nat) : Nat := r.next + (if r.complete then p.bv.nakWindow else 0) - n

/-- TICK_OVERRUN (R178): a sweep not finished 48 ticks after its launch aborts the stripe. -/
def execTickOverrun (s : State) : Host.Outcome State Fault Refusal :=
  answer s (match s.active? with
    | none => s
    | some p => match p.run, p.sweeps with
      | some r, (n, _) :: _ => s.when (decide (48 ≤ p.ticksSince r n)) (·.abort .tickOverrun)
      | _, _ => s)

/-! ### ABORT_TICK (R186, R206) -/

/-- ABORT_TICK: at the instant of tick t_a, END with VETO in place of frame t_a + 1; t_a itself occurs. -/
def execAbortTick (s : State) : Host.Outcome State Fault Refusal :=
  answer s (match s.active? with
    | none => s
    | some p => match p.run with
      | none => s
      | some r => match r.instantOf r.next with
        | none => s
        | some at_ =>
          s.when (p.abortDue && (match p.abortAt with | some n => n == r.next | none => true)) fun s =>
            let a := s.tickAt p r (r.next - 1) at_
            match a.stripe? p.par.id with
            | none => a
            | some q => match q.run with
              | none => a
              | some k =>
                let left := a.departure at_ (Config.pairSlip a.draw)
                let b := a.drawn.onStripe p.par.id fun z => { z with run := z.run.map fun k =>
                  { k with departures := (k.next - 1, left) :: k.departures.take 47, vetoed := (k.next - 1) :: k.vetoed.take 47 } }
                (b.cutRun q k (q.cause.getD .stripeAborted)).softEnds)

/-! ### Run completion (R205, R266) -/

/-- RUN_COMPLETE (R205): NAK_WINDOW tick periods after END. -/
def execRunComplete (s : State) : Host.Outcome State Fault Refusal :=
  answer s (match s.active? with
    | none => s
    | some p => s.when (p.state == .runout) fun s =>
        (s.cutPending.onStripe p.par.id fun q => { q with run := q.run.map fun r => { r with complete := true } }).settleRun p.par.id |>.softEnds)

/-! ### TICK_IN (R272, R421) -/

/-- T_min in XK2 mode, ps (R252). -/
def xk2MinPeriod : Nat := 1953125

/-- An edge ignored as an overrun: counted, shown, and its CUT region reported (R272, R413). -/
def State.overrunEdge (s : State) (p : Stripe) (r : Run) : State :=
  let to_ := r.nextFixed - 1
  let a := s.addReg Reg.STG_XK2_OVERRUN 1
  let b := (a.setRegs [(Reg.XK2_STATUS_OVERRUN, 1), (Reg.XK2_OVERRUN_CNT_COUNT, a.reg Reg.STG_XK2_OVERRUN), (Reg.XK2_IRQ_OVERRUN, 1)]).when
    (a.flag Reg.XK2_CTL_IRQ_EN) (·.emit .msi)
  b.putStripe (p.addRegion repCut 0 4095 ((to_ : Int) - 4095) ((p.par.len : Int) - 1))

/-- TICK_IN_EDGE (R272, R421): the next tick's instant, an overrun, or early; ignored after the last tick until the next stripe is armed,
and while a BEAM_CHECK runs (R408). -/
def execTickInEdge (stamp : Nat) (s : State) : Host.Outcome State Fault Refusal :=
  answer s (s.when (!s.native && !s.checking) fun s =>
    match s.active? with
    | none => s.when (!s.stage.pastEnd) (·.setReg Reg.XK2_STATUS_EARLY 1)
    | some p => match p.run with
      | none => s
      | some r =>
        if r.ended ∨ r.last + 1 < r.nextFixed then s
        else if (match s.stage.lastEdge with | some e => decide (stamp < e + xk2MinPeriod) | none => false) then
          s.overrunEdge p r
        else
          let t : State := { s with stage := { s.stage with lastEdge := some stamp } }
          t.onStripe p.par.id fun q =>
            { q with run := q.run.map fun r => { r with fixed := (r.nextFixed, stamp) :: r.fixed.take 127 } })

end Sys2Proof.Machine
end

