-- ==== Sys2Proof/Machine/Sample.lean ====
section
/-! DEFINITION. Interferometer samples (R245 to R248), tick instants (R251 to R254, R262), and Looper at each sample (R275
to R293). -/
namespace Sys2Proof.Machine

/-! ### Lanes (R246 to R248) -/

/-- Change a stage lane. -/
def State.onLane (s : State) (l : Nat) (f : StageLane → StageLane) : State :=
  { s with stage := { s.stage with lanes := vmod s.stage.lanes l f } }

/-- A lane is locked. -/
def State.locked (s : State) (l : Nat) : Bool := bitOf (s.reg Reg.STG_STATUS_LOCK) l

/-- Set or clear a lane's lock bit. -/
def State.setLock (s : State) (l : Nat) (b : Bool) : State :=
  let v := s.reg Reg.STG_STATUS_LOCK
  s.setReg Reg.STG_STATUS_LOCK (if b then v ||| 2 ^ l else v - (v &&& 2 ^ l))

/-- Position change over the last eight samples: 800 ns of velocity (R248); 0 until nine are known. -/
def StageLane.d8 (l : StageLane) : Int :=
  match l.hist[0]?, l.hist[8]? with
  | some a, some b => a - b
  | _, _ => 0

/-- Linear extrapolation by one sample (R247): an eighth of the change over eight; its rounding is free (log 8). -/
def State.extrapolated (s : State) (l : StageLane) : Int := l.hist.headD 0 + s.quotient l.d8 8

/-- A word's SEQ. -/
def wordSeq (w : BitVec 80) : Nat := bits w.toNat 64 8

/-- A word's POS. -/
def wordPos (w : BitVec 80) : Int := signed 48 (bits w.toNat 16 48)

/-- A good word of a locked lane (R246). -/
def StageLane.good (l : StageLane) (w : BitVec 80) : Bool :=
  sampleGood w && wordSeq w == (l.lastSeq + 1) % 256 && bitOf w.toNat 8

/-- What a lane becomes with a position. -/
def StageLane.push (l : StageLane) (pos : Int) (tau : Nat) : StageLane := { l with hist := (pos :: l.hist).take 9, tau := tau }

/-- A missed sample of a locked lane: extrapolated while at most three are missed in a row (R247). -/
def State.missSample (s : State) (l : Nat) (w : BitVec 80) (tau : Nat) : State :=
  let lane := s.stageLane l
  let seq := if sampleGood w then wordSeq w else (lane.lastSeq + 1) % 256
  let t := ((s.onLane l fun k =>
    let k' := { k with missed := k.missed + 1, lastSeq := seq }
    if k.missed < 3 then k'.push (s.extrapolated lane) tau else k').addReg Reg.STG_MISSED_SAMPLES 1).count 4 3 1
  t.drawn

/-- A word of a lane that seeks lock is a missed sample; sixteen good words with consecutive SEQ lock the lane (R246). -/
def State.seekSample (s : State) (l : Nat) (w : BitVec 80) (tau : Nat) : State :=
  let lane := s.stageLane l
  let streak := if !sampleGood w then 0 else if lane.streak = 0 ∨ wordSeq w = (lane.lastSeq + 1) % 256 then lane.streak + 1 else 1
  let t := s.onLane l fun k =>
    ({ k with streak := streak, lastSeq := wordSeq w, missed := k.missed + 1, hist := if streak ≤ 1 then [] else k.hist }).push (wordPos w) tau
  let u := (t.addReg Reg.STG_MISSED_SAMPLES 1).count 4 3 1
  u.when (decide (16 ≤ streak)) fun u => (u.setLock l true).onLane l fun k => { k with streak := 0, missed := 0 }

/-- SIGNAL_LOW and GLITCH of a word that its CRC covers are counted, and do nothing else (R247). -/
def State.countStatus (s : State) (w : BitVec 80) : State :=
  s.when (sampleGood w) fun s => { s with stage := { s.stage with
    signalLow := s.stage.signalLow + b2n (bitOf w.toNat 9), glitches := s.stage.glitches + b2n (bitOf w.toNat 10) } }

/-- A word on a lane: whether a sample, good or extrapolated, came of it. -/
def State.laneWord (s : State) (l : Nat) (w : BitVec 80) (tau : Nat) : State × Bool :=
  let lane := s.stageLane l
  if !s.locked l then (s.seekSample l w tau, false)
  else if lane.good w then
    (((s.onLane l fun k => ({ k with missed := 0, lastSeq := wordSeq w }).push (wordPos w) tau).count 4 2 1), true)
  else (s.missSample l w tau, decide (lane.missed < 3))

/-! ### Tick instants (R251, R252, R262) -/

/-- T_min in native mode, ps (R252). -/
def minPeriod : Nat := 833334

/-- The tick generator works for a stripe: from run-up until the run or an abort has ended it. -/
def Stripe.ticking (p : Stripe) : Bool :=
  (p.state == .runup || p.state == .write || p.state == .pause || (p.state == .aborting && p.abortDue)) &&
    (match p.run with | some r => !r.ended && r.announced | none => false)

/-- The instant fixed for frame n's launch from a Y sample, and whether T_min set it (R252). -/
def State.predicted (s : State) (p : Stripe) (r : Run) (n : Nat) (pos : Int) (tau : Nat) (d8 : Int) : Nat × Bool :=
  let pt := ((tau : Int) + s.quotient ((p.crossing r n - pos) * 800000) d8.toNat).toNat
  match r.fixed with
  | (_, prev) :: _ => if n - 1 ≤ r.first then (pt, false) else if pt < prev + minPeriod then (prev + minPeriod, true) else (pt, false)
  | [] => (pt, false)

/-- A TICK message (R261, R262): TYPE 1 with flags, tick, LEAD, WIN, RAS and FCAP. -/
def tickMessage (flags tick lead win ras fcap seq : Nat) : List Byte :=
  ticksyncBytes (leBytes 1 1 ++ leBytes 1 flags ++ leBytes 4 tick ++ leBytes 2 lead ++ leBytes 2 win ++ leBytes 3 ras
    ++ leBytes 2 fcap ++ leBytes 1 seq)

/-- The master sends the TICK message of the tick it has just fixed, with ABORT where it orders one, and its own reserves and
cap: the members merge theirs in on the way round (R262, R264). -/
def State.sendTick (s : State) (p : Stripe) (tick instant : Nat) : State :=
  s.when (p.bv.role == 1) fun s =>
    let lead := min 65535 (s.quotient ((instant : Int) - s.now) 1000).toNat
    let own := match p.run with | some r => s.ownReport p r | none => (0, 0, 65535)
    let m := tickMessage (b2n s.stage.tsAbort) tick lead own.1 own.2.1 own.2.2 s.stage.tsSeq
    let t := (s.sendTicksync m).drawn
    { t with stage := { t.stage with tsSeq := (s.stage.tsSeq + 1) % 256, tsAbort := false, tsReturned := none } }

/-- Fix one instant if the crossing is within LEAD (R252). -/
def State.fixOne (s : State) (id : Nat) (pos : Int) (tau : Nat) (d8 : Int) : State :=
  match s.stripe? id with
  | none => s
  | some p => match p.run with
    | none => s
    | some r =>
      let n := r.nextFixed
      s.when (p.ticking && decide (n ≤ r.last + 1) && decide (0 < d8)
          && decide ((p.crossing r n - pos) * 800 ≤ d8 * (s.reg Reg.STG_TSYNC_LEAD : Nat))) fun s =>
        let e := s.predicted p r n pos tau d8
        let t := (s.onStripe id fun q => { q with run := q.run.map fun r => { r with fixed := (n, e.1) :: r.fixed.take 127 } }).drawn
        let u := t.when e.2 fun t => (t.addReg Reg.STG_OVERRUN_HELD 1).count 4 1 1
        u.sendTick p (n - 1) e.1

/-- Fix every instant a Y sample allows; a follower takes its instants from TICKSYNC (R252, R262). -/
def State.fixInstants (s : State) (pos : Int) (tau : Nat) (d8 : Int) : State :=
  match s.active? with
  | none => s
  | some p => s.when (p.bv.role != 2) fun s => (List.range 128).foldl (fun s _ => s.fixOne p.par.id pos tau d8) s

/-! ### The tick residual (R253, R254) -/

/-- Ticks whose instant lies between two Y samples: the residual e_t, held in 1/64 nm, and in nm in STG_MAX_LAG (R253, R254). -/
def State.lag (s : State) (p : Stripe) (r : Run) (pos0 pos1 : Int) (t0 t1 : Nat) : State :=
  s.forAll (r.fixed.filter fun e => decide (t0 < e.2 ∧ e.2 ≤ t1) && decide (r.first < e.1)) fun e s =>
    let num := (pos0 - p.crossing r e.1) * ((t1 - t0 : Nat) : Int) + (pos1 - pos0) * ((e.2 - t0 : Nat) : Int)
    let nm := s.quotient num (64 * (t1 - t0))
    let t : State := { s with stage := { s.stage with tickY := some (e.1 - 1, s.quotient num (t1 - t0)) } }
    (t.setReg Reg.STG_MAX_LAG (max (s.reg Reg.STG_MAX_LAG) (min 65535 nm.toNat))).drawn

/-- Ticks whose crossing position lies between two Y samples: the interpolated instant of the crossing, stamped (R253). -/
def State.crossings (s : State) (p : Stripe) (r : Run) (pos0 pos1 : Int) (t0 t1 : Nat) : State :=
  s.forAll (r.fixed.filter fun e => decide (r.first < e.1) && decide (pos0 < p.crossing r e.1 ∧ p.crossing r e.1 ≤ pos1)) fun e s =>
    let at_ := (t0 : Int) + s.quotient ((p.crossing r e.1 - pos0) * ((t1 - t0 : Nat) : Int)) (pos1 - pos0).toNat
    { s with stage := { s.stage with crossAt := some (e.1 - 1, at_.toNat) }, draw := s.draw + 1 }

/-! ### Looper at a sample (R276 to R283, R291, R292) -/

/-- The run and the frame whose launching tick is Looper's reference at a sample: the greatest tick reached by τ′, from the
run's first tick on (R275, R276, R277). -/
def State.looperRef (s : State) (tau : Nat) : Option (Stripe × Run × Nat) :=
  match s.active? with
  | none => none
  | some p => match p.run with
    | none => none
    | some r =>
      let ref := tau + 1000 * s.pathNs
      match r.fixed.find? fun e => decide (e.2 ≤ ref) with
      | some (n, _) => if r.first < n ∧ s.flag Reg.LPR_CTL_EN ∧ s.native then some (p, r, n) else none
      | none => none

/-- Engage at the first sample that reaches the run's first tick, once in a run (R275), in the region of that sample's speed
(R286). -/
def State.mayEngage (s : State) (tau : Nat) : State :=
  match s.looperRef tau with
  | some (p, r, _) => s.when (!s.flag Reg.LPR_STATUS_ENGAGED && !r.looped && !r.ended) fun s =>
      (s.engage (s.stageLane 1).d8).onStripe p.par.id fun q => { q with run := q.run.map fun k => { k with looped := true } }
  | none => s

/-- Y comes to rest at EDEC (R255, R266). -/
def State.stopHard (s : State) : State := { s with stage := { s.stage with hardStop := true } }

/-- A demand beyond full range aborts the run, Y at EDEC, with one entry an axis and run (R254, R266, R281, R336). -/
def State.beyondRange (s : State) (axis type kind : Nat) (d : Int) : State :=
  s.when (decide (128000 * 65536 < d.natAbs) && match s.active? with | some p => p.state != .aborting | none => false) fun s =>
    let posted := if axis = 0 then s.looper.overX else s.looper.overY
    let t := s.when (!posted) (·.event type axis kind (unsignedOf 32 (s.quotient d 65536)))
    let u : State := { t with looper := if axis = 0 then { t.looper with overX := true } else { t.looper with overY := true } }
    u.stopHard.abort .stripeAborted

/-- Nanometres of a Q32.16 value, saturating at 16 bits; its rounding is free (log 8). -/
def State.nm16 (s : State) (v : Int) : Nat := min 65535 (s.quotient v.natAbs (64 * 65536)).toNat

/-- Saturation of an axis at a sample: status, count, and the run's first entry (R279). -/
def State.saturation (s : State) (axis : Nat) (sat : List Bool) (d : Int) : State :=
  let mask := ((List.range 8).map fun i => b2n (sat.getD i false) * 2 ^ i).sum
  let t := s.setReg (if axis = 0 then Reg.LPR_STATUS_SAT_X else Reg.LPR_STATUS_SAT_Y) mask
  t.when (mask != 0) fun t =>
    let posted := if axis = 0 then t.looper.satPostedX else t.looper.satPostedY
    let u := t.addReg (if axis = 0 then Reg.LPR_SAT_X else Reg.LPR_SAT_Y) 1
    let v := u.when (!posted) (·.event 0x07 axis 1 (unsignedOf 32 (s.quotient d 65536)))
    { v with looper := if axis = 0 then { v.looper with satPostedX := true } else { v.looper with satPostedY := true } }

/-- Demand, peak and DAC state of an axis after its cascade (R280, R282, R382). -/
def State.axisOut (s : State) (p : Stripe) (axis : Nat) (c : CascadeOut) : State :=
  let ofs := p.dacOffset axis
  let d := ofs - c.yhat
  let o := outputOf ofs c.y
  let t := s.setRegs (if axis = 0 then
      [(Reg.LPR_DEMAND_X_D, unsignedOf 32 (s.quotient d 65536)), (Reg.LPR_PEAK_X, max (s.reg Reg.LPR_PEAK_X) (s.nm16 d))]
    else [(Reg.LPR_DEMAND_Y_D, unsignedOf 32 (s.quotient d 65536)), (Reg.LPR_PEAK_Y, max (s.reg Reg.LPR_PEAK_Y) (s.nm16 d))])
  let gap := s.looper.holdGap
  let held := gap || s.looper.holdLock
  let drift := s.nm16 (o - (if axis = 0 then s.looper.holdX else s.looper.holdY))
  let f := if axis = 0 then Reg.FLT_HOLD_DRIFT_X else Reg.FLT_HOLD_DRIFT_Y
  let u := t.when gap fun t => t.setReg f (max (t.reg f) drift)
  let code := if axis = 0 then dacCode o (s.reg Reg.LPR_DAC_GAIN_X_GAIN) (s.sreg Reg.LPR_DAC_OFS_X_OFS) (s.flag Reg.LPR_CTL_INV_X)
    else dacCode o (s.reg Reg.LPR_DAC_GAIN_Y_GAIN) (s.sreg Reg.LPR_DAC_OFS_Y_OFS) (s.flag Reg.LPR_CTL_INV_Y)
  let v : State := { u with looper :=
    if axis = 0 then { u.looper with xs := c.states, codeX := if held then u.looper.codeX else code,
                                     holdX := if gap then u.looper.holdX else o }
    else { u.looper with ys := c.states, codeY := if held then u.looper.codeY else code,
                         holdY := if gap then u.looper.holdY else o } }
  (v.saturation axis c.sat d).drawn

/-- The X axis of a sample (R276, R281): beyond the guard one entry a run, beyond full range an abort. -/
def State.looperX (s : State) (p : Stripe) : State :=
  let e := clampInt (-2147483648) 2147483647 ((s.stageLane 0).hist.headD 0 - p.par.x0)
  let c := cascade (s.coefs 0) s.looper.xs (e * 65536)
  let d := p.dacOffset 0 - c.yhat
  let far := decide (96000 * 65536 < d.natAbs)
  let u := s.axisOut p 0 c
  let v := u.when (far && !u.stage.guardX) fun u => u.event 0x07 0 2 (unsignedOf 32 (s.quotient d 65536))
  let w : State := { v with stage := { v.stage with guardX := v.stage.guardX || far } }
  (w.when far (·.count 7 7 1)).beyondRange 0 0x07 2 d

/-- Emergency deceleration from the Y demand (R254, R281). -/
def State.guardY (s : State) (d : Int) : State :=
  if !s.stage.emergency && decide (96000 * 65536 < d.natAbs) && s.stripes.any (fun p => p.state == .write || p.state == .pause) then
    ((({ s with stage := { s.stage with emergency := true } }.addReg Reg.STG_OVERRUN_EMERG 1).setReg Reg.SKP_STATUS_CAUSE 8).count 4 5 1).event
      0x05 1 2 0
  else if s.stage.emergency && decide (d.natAbs < 48000 * 65536) && !s.flag Reg.FLT_OP_ESTOP
      && s.stripes.any (fun p => p.state == .write || p.state == .pause) then
    { s with stage := { s.stage with emergency := false } }.event 0x05 1 3 0
  else s

/-- A lockstep result at a sample starts a hold (R292): codes stay, an open window is cut. -/
def State.lockstep (s : State) (l : Lockstep) : State :=
  let compared := s.reg Reg.LPR_ENGINE_STANDBY == 0
  let hit := (l == .differ && compared) || l == .activeResidue
  s.when (s.native && hit && !s.looper.holdLock) fun s =>
    let t := s.when (l == .differ) fun s => (s.addReg Reg.LPR_EVENTS_MISMATCH 1).count 7 3 1
    let u : State := { t with looper := { t.looper with holdLock := true } }
    ((u.setReg Reg.LPR_STATUS_HOLD 1).event 0x01 0xFF 7 0).holdCut

/-- The region wanted at this sample: asked for, or withdrawn (R286, R289). -/
def State.regionAsk (s : State) (d8 : Int) : State :=
  match s.bank? with
  | none => s
  | some b =>
    let r := s.reg Reg.LPR_STATUS_REGION
    let n := b.nextRegion r d8
    let want := if n = r then none else some n
    let withdrawn := want.isNone && s.looper.regionWanted.isSome && !s.looper.swap
    let t : State := { s with looper := { s.looper with regionWanted := want, expired := s.looper.expired && !withdrawn } }
    t.setReg Reg.LPR_STATUS_SWAP_PENDING (b2n t.looper.changing)

/-- The end of a sample: what waits applies when no section is saturated; one whose timer expired in a hold is forced at the
first sample after it (R287, R289). -/
def State.sampleEnd (s : State) : State :=
  let clear := s.reg Reg.LPR_STATUS_SAT_X == 0 && s.reg Reg.LPR_STATUS_SAT_Y == 0
  let held := s.looper.holdLock || s.looper.holdGap
  s.when (s.looper.changing && !held && (clear || s.looper.expired)) (·.applySwap s.looper.expired)

/-- The Y axis and the end of the sample (R276 to R290). -/
def State.looperY (s : State) (p : Stripe) (r : Run) (n : Nat) : State :=
  let y := (s.stageLane 1).hist.headD 0
  let e := clampInt (-2147483648) 2147483647 (y - p.crossing r n)
  let c := cascade (s.coefs 1) s.looper.ys (e * 65536)
  let d := p.dacOffset 1 - c.yhat
  let b := (s.axisOut p 1 c).count 7 0 1
  let b := b.when (b.reg Reg.LPR_STATUS_SAT_X != 0 || b.reg Reg.LPR_STATUS_SAT_Y != 0) (·.count 7 2 1)
  let b := b.when (b.looper.holdLock || b.looper.holdGap) (·.count 7 6 1)
  let b := b.when (decide (96000 * 65536 < d.natAbs)) (·.count 7 7 1)
  (((b.guardY d).beyondRange 1 0x06 1 d).regionAsk (s.stageLane 1).d8).sampleEnd

/-- One sample of Looper with the axes that have one: it engages, the engines' results are compared, so that a hold keeps both
codes of this sample, then X and Y compute (R275, R276, R283, R292). -/
def State.looperSample (s : State) (x y : Option Nat) (l : Lockstep) : State :=
  match y.or x with
  | none => s
  | some tau =>
    let t := s.mayEngage tau
    match t.looperRef tau with
    | none => t
    | some (p, r, n) => t.when (t.flag Reg.LPR_STATUS_ENGAGED) fun t =>
        ((t.lockstep l).when x.isSome (·.looperX p)).when y.isSome (·.looperY p r n)

/-! ### Commands -/

/-- A stripe is in a run (R247, R291). -/
def State.inRun (s : State) : Bool := s.stripes.any fun p => match p.state with
  | .runup | .write | .pause => true
  | .runout => (match p.run with | some r => !r.ended | none => false)
  | _ => false

/-- The stage-port receivers take words: on, and in native mode (R273, R274). -/
def State.portOn (s : State) : Bool := s.native && s.flag Reg.STG_CTL_EN

/-- What a Y sample does before Looper: it fixes instants, gives ticks their residual and crossing, and moves the stage model
(R252, R253, R290). -/
def State.ySample (s : State) (was : StageLane) (tau : Nat) : State :=
  let now := s.stageLane 1
  let y := now.hist.headD 0
  let a := s.fixInstants y tau now.d8
  let b := match a.active? with
    | some p => (match p.run, was.hist with
      | some r, y0 :: _ => (a.lag p r y0 y was.tau tau).crossings p r y0 y was.tau tau
      | _, _ => a)
    | none => a
  b.modelSample y tau

/-- STAGE_SAMPLE (R245 to R248, R253, R276): `tau` is the arrival of the word's first bit on the time base, ps; the words of
one sample come X, Y, yaw. -/
def execStageSample (lane : Fin 3) (word : BitVec 80) (tau : Nat) (lockstep : Lockstep) (s : State) :
    Host.Outcome State Fault Refusal :=
  answer s (s.when s.portOn fun s =>
    let at_ := tau - s.reg Reg.STG_LAT
    let was := s.stageLane lane
    let r := (s.countStatus word).laneWord lane word at_
    let sample := if r.2 then some at_ else none
    if lane.val = 0 then { r.1 with looper := { r.1.looper with sampleX := sample } }
    else if lane.val = 1 then
      let x := r.1.looper.sampleX
      let a := (r.1.when r.2 (·.ySample was at_)).looperSample x sample lockstep
      let b : State := { a with looper := { a.looper with sampleX := none } }
      b.when (r.2 || x.isSome) fun b => b.emit (.dac b.looper.codeX b.looper.codeY)
    else r.1)

/-- STAGE_PORT_FAULT (R247): a fourth missed sample in a row on a lane, during a run; Y comes to rest at EDEC. -/
def execStagePortFault (lane : Fin 3) (s : State) : Host.Outcome State Fault Refusal :=
  let n := (s.stageLane lane).missed
  answer s (s.when (s.portOn && decide (4 ≤ n) && s.inRun) fun s =>
    ((s.addReg Reg.STG_MISSED_FAULTS 1).event 0x05 lane 1 n).stopHard.abort .stripeAborted)

/-- STAGE_LANE_LOCK_LOST (R246): sixteen in a row. -/
def execStageLaneLockLost (lane : Fin 3) (s : State) : Host.Outcome State Fault Refusal :=
  answer s (s.when (s.portOn && s.locked lane && decide (16 ≤ (s.stageLane lane).missed)) fun s =>
    (s.setLock lane false).onLane lane fun k => { k with streak := 0, hist := [] })

/-- LOOPER_DISENGAGE (R275): 2 µs after a run's last tick or abort tick. -/
def execLooperDisengage (s : State) : Host.Outcome State Fault Refusal :=
  answer s (s.when (!s.stripes.any fun p => p.ticking) State.disengage)

/-- A write to LPR_CTL: SWAP asks for the inactive bank (R287). -/
def lprCtlWrite (v : Nat) (s : State) : State :=
  let t := s.writeFields 0x06000 v
  State.dacFollows <| t.when (bitOf v 1) fun t =>
    if !t.bankValid (1 - t.reg Reg.LPR_STATUS_BANK) then t.setReg Reg.LPR_STATUS_SWAP_BAD 1
    else if t.looper.swap then t
    else if t.flag Reg.LPR_STATUS_ENGAGED then
      { t with looper := { t.looper with swap := true } }.setReg Reg.LPR_STATUS_SWAP_PENDING 1
    else
      { t with looper := { t.looper with swap := true } }.applySwap false

/-- LOOPER_SWAP (R287). -/
def execLooperSwap (v : Word) (s : State) : Host.Outcome State Fault Refusal :=
  answer s (s.bus 0x06000 (lprCtlWrite v.toNat))

/-- LOOPER_SWAP_TIMEOUT (R287, R289): forced at the end of this sample, or once the hold ends. -/
def execLooperSwapTimeout (s : State) : Host.Outcome State Fault Refusal :=
  answer s (s.when (s.looper.changing && s.flag Reg.LPR_STATUS_ENGAGED) fun s =>
    if s.looper.holdLock || s.looper.holdGap then { s with looper := { s.looper with expired := true } } else s.applySwap true)

/-- PLAUS_N in force; 0 acts as 1 (R295). -/
def State.plausN (s : State) : Nat := max 1 (s.reg Reg.LPR_PLAUS_N)

/-- IMPLAUSIBLE (R291): PLAUS_N samples in a row beyond PLAUS_THR, in a run or in a host Y move. -/
def execImplausible (s : State) : Host.Outcome State Fault Refusal :=
  answer s (s.when (s.modelOn && decide (s.plausN ≤ s.looper.implausible)) fun s =>
    let t := ({ s with looper := { s.looper with implausible := 0 } }.addReg Reg.LPR_EVENTS_IMPLAUS 1).count 7 5 1
    if s.inRun then { t.stopHard with stage := { t.stopHard.stage with emergency := true } }.abort .looperImplausible
    else
      let stop := t.stage.yMove.map fun m => { m with stopping := some .looperImplausible }
      { t with stage := { t.stage with
          emergency := t.stage.emergency || stop.isSome, hardStop := t.stage.hardStop || stop.isSome, yMove := stop } })

/-- Fence a Looper engine: FAULT cause and EVR entry (R293, R461). -/
def State.fenceLooper (s : State) : State := ((s.setReg Reg.LPR_ENGINE_STANDBY 1).event 0x01 0xFF 8 0).raise 9

/-- The hold of R292 ends. -/
def State.holdEnds (s : State) : State :=
  { s with looper := { s.looper with holdLock := false } }.setReg Reg.LPR_STATUS_HOLD 0

/-- LOOPER_SELF_CHECK_DONE (R293): fence one engine, or abort; the hold ends. -/
def execLooperSelfCheckDone (activePass standbyPass : Bool) (s : State) : Host.Outcome State Fault Refusal :=
  answer s (s.when s.looper.holdLock fun s =>
    let fenced := s.reg Reg.LPR_ENGINE_STANDBY != 0
    if fenced then s.holdEnds.abort .looperImplausible
    else if !activePass && standbyPass then
      (s.setReg Reg.LPR_ENGINE_ACTIVE (1 - s.reg Reg.LPR_ENGINE_ACTIVE)).fenceLooper.holdEnds
    else if activePass && !standbyPass then s.fenceLooper.holdEnds
    else (s.holdEnds.event 0x01 0xFF 7 0).abort .looperImplausible)

end Sys2Proof.Machine
end

