-- ==== Sys2Proof/Machine/Motion.lean ====
section
/-! DEFINITION. Skipper (R255 to R259), the stripe sequence up to a run's first tick and at every rest (R49, R265, R266),
set-points and their profile (R249, R255) and host Y moves (R267, R347). -/
namespace Sys2Proof.Machine

/-! ### The evaluation (R257, R258) -/

/-- The present rate, Hz, from the speed of the set-point in force (R249, R255). -/
def State.rateNow (s : State) (p : Stripe) : Rat := (s.stage.spVel * 8 : Int) / ((p.par.k * p.par.np : Nat) : Rat)

/-- The filler is running: no grid is being computed again for the stripe and its package is staged (R161, R257). -/
def State.fillerRuns (s : State) (p : Stripe) : Bool :=
  (s.package? p.par.id).isSome && !(match s.gridJob with | some g => g.stripe == p.par.id && g.again | none => false)

/-- The least sector's Y_cache; `none` once the end of the run is cached, or where a repair run needs no tile (R184, R257). -/
def State.leastCache (s : State) (p : Stripe) (r : Run) : Option Int :=
  match s.package? p.par.id with
  | none => none
  | some k => if r.repair then none else ((List.range 4).filterMap fun i => p.yCache r k i).min?

/-- A sector of the stripe works in cache bypass: the least finishing rate its working slices report, tile rows per second
(R140). -/
def State.bypassRate (s : State) (p : Stripe) : Option Nat :=
  ((List.range 5).filterMap fun i =>
    if vget p.bypass i false && !bitOf (s.reg Reg.FLT_STATUS_SLICE_FAILED) i then some (s.slice i).rate else none).min?

/-- f_prod in Hz; none is unlimited (R257). -/
def State.fProd (s : State) (p : Stripe) (r : Run) : Option Rat :=
  match s.leastCache p r with
  | none => none
  | some y => match s.bypassRate p with
    | some rows => some (((256 * rows : Nat) : Rat) / p.par.k)
    | none => some (((y - s.stage.cacheHist.getLastD y : Int) : Rat) * 1000 / p.par.k)

/-- The reserves Skipper plans on: its own, and in a master the least of the group (R46). -/
def State.planReserves (s : State) (p : Stripe) (r : Run) : Int × Int :=
  let w := p.windowReserve r
  let a := s.rasterReserve p r
  let group (own : Int) (least : Option Nat) : Int := match least with | some n => min own n | none => own
  if p.bv.role = 1 then (group w s.stage.tsWin, group a s.stage.tsRas) else (w, a)

/-- The greatest n of 64 down to 1 whose rate the forecast allows (R257); none, or a rate of 0, gives PAUSE. -/
def State.planStep (s : State) (p : Stripe) (r : Run) (cap : Rat) (rr : Int) : Option Nat :=
  if cap ≤ 0 then none else ((List.range 64).map fun i => 64 - i).find? fun n =>
    let f := cap * n / 64
    let surplus := match s.fProd p r with | some g => max 0 (f - g) | none => 0
    let h : Rat := (max 1 (s.reg Reg.SKP_TIME_HORIZON) : Nat) / 1000
    let sf := stopTicks (speedOf p.par.k p.par.np f) p.bv.a p.bv.j (p.par.k * p.par.np / 8)
    decide (((sf + s.reg Reg.SKP_PLAN_LOW : Nat) : Rat) ≤ rr - surplus * h)

/-- R_crit (R257). -/
def State.criticalReserve (s : State) (p : Stripe) (rw rr : Int) : Int :=
  let m : Int := (s.reg Reg.SKP_PLAN_MARGIN : Nat)
  let f : Int := if s.fillerRuns p then rr - rw else 0
  max m (stopTicks (speedOf p.par.k p.par.np (s.rateNow p)) p.bv.a p.bv.j (p.par.k * p.par.np / 8) + m - f)

/-- Show f_target and its cause (R274). -/
def State.showTarget (s : State) (cause : Nat) : State :=
  (s.setRegs [(Reg.SKP_STATUS_F_PLAN, (s.quotient s.stage.fTarget.num s.stage.fTarget.den).toNat), (Reg.SKP_STATUS_CAUSE, cause)]).drawn

/-- A new f_target: EVR SPEED entry and its counter (R257, R351). -/
def State.setTarget (s : State) (f : Rat) (cause : Nat) : State :=
  let old := s.stage.fTarget
  let t : State := { s with stage := { s.stage with fTarget := f, raising := 0 } }
  let u := t.showTarget cause
  let v := u.event 0x08 0xFF cause (u.reg Reg.SKP_STATUS_F_PLAN)
  if f < old then v.count 5 1 1 else v.count 5 5 1

/-- Stop for data (R257, R258): from WRITE to PAUSE; the count toward a raise breaks off. -/
def State.pauseRun (s : State) (p : Stripe) (rw : Nat) : State :=
  let t : State := { s with stage := { s.stage with raising := 0 } }
  t.when (p.state == .write) fun s =>
    (((s.onStripe p.par.id fun q => { q with state := .pause, run := q.run.map fun r => { r with rest := false } }).showTarget 7).event
      0x09 0xFF 1 rw).count 5 3 1

/-- Restart from a pause at rest, every window full (R258). -/
def State.restart (s : State) (p : Stripe) (r : Run) (rw : Nat) : State :=
  s.when (p.state == .pause && r.rest && p.windowFull r) fun s =>
    (s.onStripe p.par.id fun q => { q with state := .write, run := q.run.map fun r => { r with rest := false } }).event 0x09 0xFF 2 rw

/-- The most an emergency deceleration leaves: 0.9/T_min (R254). -/
def emergencyRate : Rat := 9 * 10 ^ 11 / 833334

/-- Follow a plan: lowered at once, raised after 1 ms without break; a plan under the cap is a data forecast (R257). -/
def State.follow (s : State) (cap f : Rat) (cause : Nat) : State :=
  let why := if s.stage.emergency then 8 else if f < cap then 4 else cause
  let goal := if s.stage.emergency then min f emergencyRate else f
  if goal < s.stage.fTarget then s.setTarget goal why
  else if s.stage.fTarget < goal then
    (if 50 ≤ s.stage.raising + 1 then s.setTarget goal why
    else { s with stage := { s.stage with raising := s.stage.raising + 1 } })
  else { s with stage := { s.stage with raising := 0 } }.showTarget why

/-- SKIPPER_EVALUATE (R257 to R259): every 20 µs while a run is written; a follower plans nothing, nor does anything with SP_EN
clear (R250, R260). -/
def execSkipperEvaluate (s : State) : Host.Outcome State Fault Refusal :=
  answer s (s.when (s.native && s.flag Reg.STG_CTL_SP_EN) fun s => match s.active? with
    | none => s
    | some p => match p.run with
      | none => s
      | some r =>
        s.when ((p.state == .runup || p.state == .write || p.state == .pause) && p.bv.role != 2) fun s =>
          let c := s.rateCap p r.caps
          let w := s.planReserves p r
          let hist : List Int := ((match s.leastCache p r with | some y => y | none => (p.par.len : Int)) :: s.stage.cacheHist).take 51
          let a := ((s.onStripe p.par.id fun q => { q with fCap := c.1 }).setRegs
            [(Reg.SKP_RES_WIN, w.1.toNat), (Reg.SKP_RAS, w.2.toNat)]).count 5 0 1
          let b : State := { a with stage := { a.stage with cacheHist := hist } }
          if w.1 < s.criticalReserve p w.1 w.2 then b.pauseRun p w.1.toNat
          else match b.planStep p r c.1 w.2 with
            | none => b.pauseRun p w.1.toNat
            | some n => (b.follow c.1 (c.1 * n / 64) c.2).restart p r w.1.toNat)

/-! ### Start of a stripe or run (R49, R203, R266, R381) -/

/-- The operator conditions (R388). -/
def State.operatorReady (s : State) : Bool :=
  !s.flag Reg.FLT_OP_ESTOP && !s.flag Reg.FLT_OP_DOOR_OPEN && !s.flag Reg.FLT_OP_ACK_WAIT

/-- A sector has a working slice: its own, or the spare in its place (R379, R381). -/
def State.sectorWorks (s : State) (sector : Nat) : Bool :=
  !bitOf (s.reg Reg.FLT_STATUS_SLICE_FAILED) sector || s.reg Reg.FLT_STATUS_MOLT_SECTOR == sector

/-- Every sector does. -/
def State.sectorsWork (s : State) : Bool := (List.range 4).all s.sectorWorks

/-- The grid a stripe asked for is finished; no kernel asks for none (R49, R149). -/
def Stripe.gridReady (p : Stripe) : Bool := p.bv.kernel.isNone || p.grid.isSome

/-- The start reserve: 0 means a full window reserve (R339). -/
def Stripe.startReserve (p : Stripe) : Nat := if p.par.startRes = 0 then p.fullReserve else p.par.startRes

/-- The package of a stripe is settled and its checks are done. -/
def State.packageReady (s : State) (p : Stripe) : Bool :=
  p.checked && (match s.package? p.par.id with | some k => k.settled | none => false)

/-- R49 for a stripe waiting in BOUND, and the die and blanker cool again after a limit (R406). -/
def State.startConditions (s : State) (p : Stripe) (r : Run) : Bool :=
  (!p.xk2 || s.groupsTrained) && !s.cal.dieHot && !s.cal.blkHot && s.packageReady p && p.gridReady && decide ((p.startReserve : Int) ≤ s.rasterReserve p r) && p.windowFull r

/-- A stripe that may start: BOUND, or HELD with an accepted resume. -/
def Stripe.toStart (p : Stripe) : Bool := p.state == .bound || (p.state == .held && p.resumeOrigin.isSome)

/-- The stripe that would start next: the first in the order of binding. Where that is a standalone device's stripe whose package
is not ready, a later one of a standalone device whose package is ready goes before it (log 37). -/
def State.nextToStart (s : State) : Option Stripe :=
  match s.stripes.find? Stripe.toStart with
  | none => none
  | some p =>
    if p.bv.role ≠ 0 ∨ s.packageReady p then some p
    else (s.stripes.find? fun q => q.toStart && q.bv.role == 0 && s.packageReady q).or (some p)

/-- Nothing else moves the stage or the shuttle. -/
def State.stageFree (s : State) : Bool :=
  s.active?.isNone && s.stage.yMove.isNone && !s.checking

/-- A bound stripe whose sector has no working slice does not start: ST_SLICE_FAILED, package staged (R381). -/
def State.noSlice (s : State) (p : Stripe) : State :=
  let t := s.complete (Completion.mk' p.owner .sliceFailed 0 0 0)
  if p.state = .bound then (t.dropStripe p.par.id).between
  else t.onStripe p.par.id fun q => { q with resumeOrigin := none }

/-- A RUN message of the run a master is about to start (R261, R263). -/
def runMessage (flags : Nat) (p : Stripe) (r : Run) (first last seq : Nat) : List Byte :=
  ticksyncBytes (leBytes 1 2 ++ leBytes 1 flags ++ leBytes 4 first ++ leBytes 4 last ++ leBytes 2 p.par.np ++ leBytes 1 p.par.k
    ++ leBytes 1 p.par.p ++ leBytes 1 (match r.kind with | .pass => 0 | .repair => 1 | .resume => 2) ++ leBytes 1 seq)

/-- The master sends a RUN message and keeps when (R262, R263). -/
def State.sendRun (s : State) (flags : Nat) (p : Stripe) (r : Run) (first last : Nat) : State :=
  let m := runMessage flags p r first last s.stage.tsSeq
  let t := s.sendTicksync m
  { t with stage := { t.stage with tsSeq := (t.stage.tsSeq + 1) % 256, tsRun := some (m, t.now), tsRepeat := false } }

/-- Adopt the lock group's range for the run: ticks beyond the own range are unaccounted (R263). -/
def State.adoptRange (s : State) (r : Run) : Run :=
  match s.stage.tsRange with
  | some (a, b) => { r with first := min r.first a, next := min r.first a, last := max r.last b }
  | none => r

/-- Fix the start position of a stripe's present run over another range (R263, R265). -/
def State.fixStartOf (s : State) (id : Nat) (r : Run) (f : Rat) : State :=
  (s.onStripe id fun p => { p with startPos := s.startOf p r (speedOf p.par.k p.par.np f) }).drawn

/-- A stripe becomes the present one: what shows of the present stripe starts afresh (R190, R274). -/
def State.present (s : State) (r : Run) : State :=
  s.when (r.kind == .pass && r.index == 0) (·.setRegs
    [(Reg.LDG_STATUS_OVERFLOW, 0), (Reg.STG_OVERRUN_HELD, 0), (Reg.STG_MAX_LAG, 0)])

/-- Travel begins (R266): the run with the link and level caps of its start (R256), and f_target at the rate cap. A lock group's
range may have moved the start position. -/
def State.depart (s : State) (p : Stripe) (r : Run) : State :=
  let k : Run := { r with caps := s.capsNow }
  let c := s.rateCap p k.caps
  let t := s.onStripe p.par.id fun q => { q with state := .transit, run := some k, fCap := c.1 }
  let u := t.when s.stage.tsRange.isSome fun t => t.fixStartOf p.par.id (s.adoptRange k) c.1
  { u with stage := { u.stage with fTarget := c.1, raising := 0, cacheHist := [] } }.showTarget c.2

/-- An XK2 stripe is armed: TICK_IN edges are taken from now on, and frame 0 may leave (R421). -/
def State.arm (s : State) (p : Stripe) (r : Run) : State :=
  let t := s.onStripe p.par.id fun q => { q with state := .runup, run := some { r with announced := true, fixed := [(r.first, s.now)] } }
  { t with stage := { t.stage with pastEnd := false } }.setReg Reg.XK2_STATUS_ARMED 1

/-- A lock-group member may start its run: standalone, or with a clean FINAL range (R263, R266). -/
def State.groupAgreed (s : State) (p : Stripe) : Bool := p.bv.role == 0 || s.stage.tsRange.isSome

/-- STRIPE_READY_TO_START (R49, R263, R266, R381): the next stripe starts its transit, or is armed in XK2 mode; a master
without an agreed range sends its RUN message first. -/
def execStripeReadyToStart (s : State) : Host.Outcome State Fault Refusal :=
  answer s (match s.nextToStart with
    | none => s
    | some p => match p.run with
      | none => s
      | some r =>
        s.when (s.stageFree && s.operatorReady && s.clocked && s.packageReady p && !s.flag Reg.MEM_STATUS_SWEEPING) fun s =>
          if !s.sectorsWork then s.noSlice p
          else s.when (p.state == .held || s.startConditions p r) fun s =>
            if p.xk2 then (s.present r).arm p r
            else if s.groupAgreed p then (s.present r).depart p r
            else s.when (p.bv.role == 1 && s.stage.tsRun.isNone) fun s => s.sendRun 0 p r r.first r.last)

/-- ANNOUNCE frames leave and the run-up begins, over the range a lock group agreed (R203, R263, R266); every group must
answer READY again. -/
def State.announce (s : State) (p : Stripe) (r : Run) : State :=
  let k : Run := { s.adoptRange r with announced := true, rest := false }
  let f := s.sendFrames (s.activeLanes.map fun l => frameOn p k.first l (s.laneSlot l) { announce := true, repair := k.repair } (p.announce k))
  let t : State := { f with stage := { f.stage with
    tsRange := none, tsAbort := false, tsAbortReq := false, guardX := false
    own := if p.bv.role = 2 then some (s.ownReport p k) else none } }
  (t.forAll (List.range 16) fun g t => t.onGroup g fun k => { k with ready := false, unconfirmed := [] }).onStripe p.par.id fun q =>
    { q with state := .runup, run := some k }

/-- READY_TIMEOUT (R203): a group has not answered when tick −1 would be reached. -/
def execReadyTimeout (s : State) : Host.Outcome State Fault Refusal :=
  answer s (match s.active? with
    | none => s
    | some p => match p.run with
      | none => s
      | some r => s.when (p.state == .runup && r.announced && !r.ticked && !s.allReady p) fun s =>
          s.abortUnticked p r .stripeAborted)

/-! ### Host Y moves (R267, R390) -/

/-- A distance of the Y frame in nm (R335); rounding free (log 8). -/
def State.nmOf (s : State) (d : Int) : Nat := min 0xFFFFFFFF (s.quotient d.natAbs 64).toNat

/-- A host move's completion, and those of the AXIS_STOPs that ended it (R347). -/
def State.moveDone (s : State) (m : YMove) (pos : Int) : State :=
  let st := m.stopping.getD .ok
  let stopped := m.stopping == some .ok
  let t := match m.origin with
    | some o => s.complete { Completion.mk' o st m.overshoot (if stopped then s.nmOf (m.target - pos) else 0) 0 with stopped := stopped }
    | none => s
  let u := t.forAll m.stopCmd fun o t => t.done o .ok
  { u with stage := { u.stage with yMove := none, emergency := false, hardStop := false }, draw := u.draw + 1 }

/-- A host move comes to rest: done, or after an overshoot on to its target (R267). -/
def State.moveRest (s : State) (m : YMove) (pos : Int) : State :=
  if m.stopping.isNone && m.reversing then
    let nm := s.nmOf (pos - m.target)
    let k : YMove := { m with reversing := false, overshoot := nm }
    { s with stage := { s.stage with yMove := some k }, draw := s.draw + 1 }.setReg Reg.SKP_OVERSHOOT_NM nm
  else s.moveDone m pos

/-! ### Rest (R266) -/

/-- The rest of an aborting stripe: a tick that never came aborts now, then HELD with the cause (R266). -/
def State.abortRest (s : State) (p : Stripe) : State :=
  let t := (match p.run with
    | some r => if p.abortDue then s.cutRun p r (p.cause.getD .stripeAborted) else s
    | none => s).cutPending
  match t.stripe? p.par.id with
  | some q =>
    let u : State := { t with stage := { t.stage with emergency := false, hardStop := false } }.endLostRun q.par.id
    u.holdStripe ((u.stripe? q.par.id).getD q) (q.cause.getD .stripeAborted)
  | none => t

/-- A run at its start position is announced: standalone at once, in a lock group once a range is agreed, for which a master
sends its RUN message (R263). -/
def State.mayAnnounce (s : State) (p : Stripe) (r : Run) : State :=
  if s.groupAgreed p then s.announce p r
  else s.when (p.bv.role == 1 && s.stage.tsRun.isNone) fun s => s.sendRun 0 p r r.first r.last

/-- STAGE_AT_REST (R266, R267, R439): `pos` is where the stage came to rest, 1/64 nm; a device that drives the stage announces its
run at rest at the start position only. A soft reset that waited for it ends. -/
def execStageAtRest (pos : Int) (s : State) : Host.Outcome State Fault Refusal :=
  answer s (State.softEnds (match s.stage.yMove with
    | some m => s.moveRest m pos
    | none => match s.active? with
      | none => s
      | some p => match p.run with
        | none => s
        | some r =>
          let rested := s.onStripe p.par.id fun q => { q with run := q.run.map fun r => { r with rest := true } }
          let k : Run := { r with rest := true }
          match p.state with
          | .transit => s.when (p.bv.role == 2 || pos == p.startPos) fun _ => rested.mayAnnounce p k
          | .pause => rested
          | .runout => ({ rested with stage := { rested.stage with hardStop := false } } : State).settleRun p.par.id
          | .aborting => s.abortRest p
          | .idle | .bound | .runup | .write | .held => s))

/-! ### Set-points (R249, R250, R255) -/

/-- Skipper drives the stage: a host move, or a stripe of a master or standalone device on its way (R249, R250). -/
def State.driving (s : State) : Bool :=
  s.stage.yMove.isSome || (match s.active? with | some p => p.bv.role != 2 | none => false)

/-- The limits in force: a host move's as at its start, VMAX capped in maintenance (R390), or the stripe's copies (R255). -/
def State.motionLimits (s : State) : YLimits :=
  match s.stage.yMove, s.active? with
  | some m, _ => { m.limits with vmax := if s.flag Reg.FLT_OP_DOOR_OPEN then min m.limits.vmax (s.reg Reg.FLT_MAINT_VY) else m.limits.vmax }
  | none, some p => ⟨p.bv.vmax, p.bv.amax, p.bv.jmax, p.bv.edec⟩
  | none, none => ⟨0, 0, 0, 0⟩

/-- Deceleration is at EDEC: emergency deceleration, E-STOP, overspeed, a stage-port fault or an implausible stage (R255, R266). -/
def State.hardDecel (s : State) : Bool := s.stage.emergency || s.stage.hardStop

/-- The most acceleration and deceleration in force, µm/s² (R255). -/
def State.accLimit (s : State) : Nat := 1000 * s.motionLimits.amax
def State.decLimit (s : State) : Nat := if s.hardDecel then max s.accLimit (1000 * s.motionLimits.edec) else s.accLimit

/-- The change of acceleration that JMAX allows in a word's 20 µs, µm/s² (R249, R255). -/
def State.jerkStep (s : State) : Nat := 20 * s.motionLimits.jmax

/-- The set-point of the word before: at rest anywhere where the profile only begins (R249). -/
def State.lastPoint (s : State) (pos : Int) : Int × Int × Int :=
  if s.stage.spActive then (s.stage.spPos, s.stage.spVel, s.stage.spAcc) else (pos, 0, 0)

/-- The speed toward which the profile ramps, nm/s: rest for a stop, f_target for a run; none, a profile toward a position
(R257, R258, R265 to R267). -/
def State.goalSpeed (s : State) : Option Rat :=
  match s.stage.yMove, s.active? with
  | some m, _ => if m.stopping.isSome || m.reversing then some 0 else none
  | none, some p => match p.state with
    | .runup | .write => some (speedOf p.par.k p.par.np s.stage.fTarget)
    | .transit => none
    | _ => some 0
  | none, none => none

/-- Far enough from a goal speed that the jerk-limited ramp toward it still builds up or holds its full acceleration: what is
left exceeds the change of speed while the acceleration returns to 0 (R255). -/
def farFrom (gap : Rat) (acc step jmax : Nat) : Bool := decide (((acc + step) ^ 2 : Nat) < gap * (2000 * jmax : Nat))

/-- The acceleration of the next word ramps toward the goal speed: full braking or full acceleration within the jerk limit while
it is far (R255, R257, R258). -/
def State.rampsTo (s : State) (g : Rat) (v a acc : Int) : Bool :=
  let j := s.jerkStep
  let up (lim : Nat) (a acc : Int) : Bool := acc == max a (min (lim : Int) (a + j))
  if farFrom ((v : Rat) - g) a.natAbs j s.motionLimits.jmax then
    (if 0 ≤ v then up s.decLimit (-a) (-acc) else up s.accLimit (-a) (-acc))
  else if farFrom (g - v) a.natAbs j s.motionLimits.jmax then
    (if v < 0 then up s.decLimit a acc else up s.accLimit a acc)
  else true

/-- A word within R255's limits that follows the word before: |v| ≤ VMAX; |a| at most its limit, or falling toward it where a
deceleration at EDEC has just ended; the jerk within JMAX, speed and position continuous; and ramping toward the goal speed. -/
def State.profileAllows (s : State) (pos vel acc : Int) : Bool :=
  let l := s.lastPoint pos
  let j : Int := (s.jerkStep : Nat)
  let lim := if acc * vel < 0 then s.decLimit else s.accLimit
  decide (vel.natAbs ≤ max (100000 * s.motionLimits.vmax) (l.2.1.natAbs)) && decide ((acc.natAbs : Int) ≤ max (lim : Int) (l.2.2.natAbs - j))
    && decide ((acc - l.2.2).natAbs ≤ s.jerkStep)
    && decide ((50 * (vel - l.2.1) - l.2.2).natAbs ≤ s.jerkStep + 50)
    && decide (64 * min vel l.2.1 - 50000 ≤ 50000 * (pos - l.1) ∧ 50000 * (pos - l.1) ≤ 64 * max vel l.2.1 + 50000)
    && (match s.goalSpeed with | some g => s.rampsTo g l.2.1 l.2.2 acc | none => true)

/-- A word of this device's profile; one that drives nothing stands still (R249, R255). -/
def State.setPointAllowed (s : State) (pos vel acc : Int) : Bool :=
  if s.driving then s.profileAllows pos vel acc else vel == 0 && acc == 0

/-- The stage is to rest at POS: in a data pause, or a move or stripe that stops (R249). -/
def State.holdFlag (s : State) (vel acc : Int) : Bool := s.driving && vel == 0 && acc == 0

/-- SET_POINT_WORD (R249): every 20 µs a word with the profile's values leaves; a word that R255's profile does not allow is no word
of this device and does nothing. A follower drives none (R260). -/
def execSetPointWord (pos vel acc : Int) (s : State) : Host.Outcome State Fault Refusal :=
  answer s (s.when (s.native && s.flag Reg.STG_CTL_SP_EN && s.role != 2 && s.setPointAllowed pos vel acc) fun s =>
    let w := setPointBits s.stage.spSeq pos vel acc s.driving s.stage.emergency (s.holdFlag vel acc)
    let t : State := { s with
      out := .setPoint w :: s.out
      stage := { s.stage with spPos := pos, spVel := vel, spAcc := acc, spAt := s.now, spSeq := (s.stage.spSeq + 1) % 256,
                              spActive := s.driving } }
    t.count 4 4 1)

end Sys2Proof.Machine
end

