-- ==== Sys2Proof/Machine/Window.lean ====
section
/-! DEFINITION. Pixel targets and a stripe's share of them (R29, R154 to R157), and the shared store of the raster cache,
residue stores and band records (R109, R112, R299). -/
namespace Sys2Proof.Machine

/-! ### Targets (R121, R154, R157) -/

/-- The coverage of every class of a pixel's tile, from the expanded figures (R116, R121). -/
def Package.covs (k : Package) (figs : List Fig) (x y : Nat) : List (Nat × Nat) :=
  (setOf k.sets (x / 256) (y / 256)).map fun c =>
    (c, coverage k.flx.np k.flx.len (binOf k.flx.np k.flx.len figs (x / 256) (y / 256) c) x y)

/-- A pixel's target before the clamp of R154. -/
def Package.rawTarget (k : Package) (g : Option DcuGrid) (figs : List Fig) (x y : Nat) : Nat :=
  targetRaw (targetSum k.flx g (k.covs figs x y) x y)

/-- T of R154. -/
def clampTarget (raw : Nat) : Nat := min raw 0xFFFF

/-- A stripe's share of a target in column x (R29, R157). -/
def Params.share (p : Params) (x t : Nat) : Nat :=
  if p.left ≠ .none ∧ x < p.b then bandShare true p.b x t
  else if p.right ≠ .none ∧ 4096 - p.b ≤ x then bandShare false p.b (x - (4096 - p.b)) t
  else t

/-! ### The shared store (R109, R299) -/

/-- The bytes a cache block takes (R92, R107). -/
def CacheBlock.size (b : CacheBlock) : Nat := 20 + b.body.length

/-- The bytes a package's cache blocks take. -/
def Package.cacheBytes (k : Package) : Nat := (k.tiles.map fun e => (e.2.blocks.map CacheBlock.size).sum).sum

/-- What a bound stripe reserves (R299): its residue store, and the records of its OPEN bands. -/
def Params.reserved (p : Params) : Nat :=
  (if 2 ≤ p.p then 4096 * p.len else 0) + (b2n (p.left == .open) + b2n (p.right == .open)) * (p.b * p.len)

/-- Bytes of reservations and band records held. -/
def State.storeReserved (s : State) : Nat :=
  (s.stripes.map fun p => p.par.reserved).sum + (s.bands.map fun r => r.b * r.len).sum

/-- Bytes in use in the shared store (R299). -/
def State.storeUsed (s : State) : Nat := s.storeReserved + (s.packages.map Package.cacheBytes).sum

/-- Its capacity in bytes (R297). -/
def State.storeCap (s : State) : Nat := cacheCapMib (s.reg Reg.MEM_STATUS_LIVE0 + s.reg Reg.MEM_STATUS_LIVE1) * 2 ^ 20

/-- The stripe of a package has begun to write and has not been released (R112: its blocks are never evicted). -/
def State.isWriting (s : State) (id : Nat) : Bool :=
  match s.stripe? id with
  | some p => p.state != .bound && p.state != .idle
  | none => false

/-- A tile whose blocks have gone is placed afresh when its package's turn comes (R112), under the epoch it had: an eviction is
none of the cases of R132 (log 39). -/
def Tile.evicted (t : Tile) : Tile := if t.blocks.isEmpty then t else { t with cached := false, blocks := [], empty := [], placed := false }

/-- A package without its cache blocks. -/
def Package.evicted (k : Package) : Package := { k with tiles := SMap.mapValues (fun _ => Tile.fresh) Tile.evicted k.tiles }

/-- The newest package of age `lo` or later that is not writing and has blocks (R112). -/
def State.evictable (s : State) (lo : Nat) : Option Package :=
  (s.packages.filter fun k => !s.isWriting k.stripe && decide (0 < k.cacheBytes) && decide (lo ≤ k.age)).foldl
    (fun a k => match a with | some b => if b.age < k.age then some k else a | none => some k) none

/-- Evict the newest package's blocks; `source` is the unit that needed the space (R112, R351). -/
def State.evictOne (s : State) (source lo : Nat) : State :=
  match s.evictable lo with
  | none => s
  | some k =>
    ((s.onPackage k.stripe Package.evicted).event 0x0A source 2 k.stripe).count 19 6
      (k.tiles.map fun e => e.2.blocks.length).sum

/-- Evict until `need` more bytes fit or nothing of age `lo` or later is left to evict (R112, R299). -/
def State.makeRoom (s : State) (source lo need : Nat) : State :=
  (List.range s.packages.length).foldl (fun t _ => if t.storeUsed + need ≤ t.storeCap then t else t.evictOne source lo) s

/-- Whether `need` more bytes fit. -/
def State.storeFits (s : State) (need : Nat) : Bool := decide (s.storeUsed + need ≤ s.storeCap)

end Sys2Proof.Machine
end

