-- ==== Sys2Proof/Machine/Failover.lean ====
section
/-! DEFINITION. Failing slices (R131 to R137, R376 to R381): placing a tile again, dropping comparisons, Molt, and fencing the
spare. -/
namespace Sys2Proof.Machine

/-! ### Which slice serves which sector (R114, R379) -/

/-- The sector a slice serves: a live slice its own until it fails, the spare the one it took over. -/
def State.sectorOf (s : State) (i : Nat) : Option Nat :=
  if i < 4 then (if bitOf (s.reg Reg.FLT_STATUS_SLICE_FAILED) i || (s.slice i).returns then none else some i)
  else if s.reg Reg.FLT_STATUS_MOLT_SECTOR < 4 then some (s.reg Reg.FLT_STATUS_MOLT_SECTOR) else none

/-- An engine may work: present, not fenced, not disabled (R128, R135). -/
def State.engineServes (s : State) (i e : Nat) : Bool :=
  !(s.part == .fx632 && i == 4) && !bitOf (s.reg (Reg.SLC_STATUS_ENG_FENCED i)) e && !(s.slice i).disabled.getLsbD e

/-- Packages in the order the slices work on them: the writing stripe's first, then oldest first (R127). -/
def State.packageOrder (s : State) : List Package :=
  match s.active? with
  | some p => (s.packages.filter fun k => k.stripe == p.par.id) ++ s.packages.filter fun k => k.stripe != p.par.id
  | none => s.packages

/-- FAULT detail of a tile and an engine (R351). -/
def faultDetail (engine col row : Nat) : Nat := engine + 256 * col + 4096 * row

/-! ### Comparisons dropped (R138, R375, R379) -/

/-- The comparison of a tile. -/
def Shadow.isOf (h : Shadow) (stripe col row : Nat) : Bool := h.stripe == stripe && h.col == col && h.row == row

/-- Engines at work on a comparison's tile. -/
def Job.isShadowOf (j : Job) (h : Shadow) : Bool := j.kind != .own && h.isOf j.stripe j.col j.row

/-- Free every engine at work on a comparison. -/
def State.freeShadow (s : State) (h : Shadow) : State :=
  s.forAll ((List.range 5).flatMap fun i => (List.range 16).map fun e => (i, e)) fun x s =>
    match (s.engine x.1 x.2).job with
    | some j => if j.isShadowOf h then s.wasteJob x.1 x.2 else s
    | none => s

/-- A comparison ends: its engines are free, its hold is released. -/
def State.endShadow (s : State) (h : Shadow) : State :=
  let t := s.freeShadow h
  ({ t with shadows := t.shadows.filter fun x => !x.isOf h.stripe h.col h.row }).onPackage h.stripe fun k =>
    k.onTile h.col h.row fun x => { x with hold := false }

/-- Drop a comparison (R138): counted at its owner, its tile to be sampled again. Drops that a Molt or a fence of the spare
causes count too (log 39). -/
def State.dropShadow (s : State) (h : Shadow) : State :=
  ((s.endShadow h).addReg (Reg.SLC_DROPS_SHADOW_DROPPED h.owner) 1).onPackage h.stripe fun k =>
    k.onTile h.col h.row fun x => { x with sampled := false }

/-- Drop the comparisons of one tile. -/
def State.dropShadowsOf (s : State) (stripe col row : Nat) : State :=
  s.forAll (s.shadows.filter fun h => h.isOf stripe col row) fun h s => s.dropShadow h

/-! ### Placing again (R132 to R137) -/

/-- A tile that would pass epoch 511 aborts its stripe (R137). -/
def State.epochLimit (s : State) (i stripe col row : Nat) : State :=
  let t := s.event 0x01 i 6 (faultDetail 0 col row)
  t.when (match t.active? with | some p => p.par.id == stripe | none => false) (·.abort .sliceFailed)

/-- The directory of slice i places a tile again: its epoch rises, and nothing produced so far counts (R131 to R135). A tile
committed for the pass is not placed again (R134). -/
def State.replaceTile (s : State) (i stripe col row : Nat) : State :=
  match s.package? stripe with
  | none => s
  | some k =>
    let t := k.tile col row
    if t.committed then s.addReg (Reg.SLC_DROPS_MIG_DROPPED i) 1
    else if t.epoch = 511 then s.epochLimit i stripe col row
    else
      ((s.dropShadowsOf stripe col row).onPackage stripe fun k => k.onTile col row fun t =>
        { t with epoch := t.epoch + 1, placed := false, cached := false, empty := [], blocks := [], direct := [] }).count (8 + i) 3 1

/-! ### Slices fail; Molt (R136, R379 to R381) -/

/-- The spare may take a sector: in standby, or untested in XK2 mode (R379). -/
def State.spareFree (s : State) : Bool :=
  s.part == .fx640 && s.reg Reg.FLT_STATUS_MOLT_SECTOR == 7
    && (s.reg Reg.FLT_STATUS_SPARE_STATE == 0 || (s.reg Reg.FLT_STATUS_SPARE_STATE == 3 && !s.native))

/-- The tiles of a sector in ascending row, then column. -/
def Package.sectorTiles (k : Package) (sector : Nat) : List (Nat × Nat) :=
  (List.range (tileRows k.flx.len)).flatMap fun r => (List.range 4).map fun c => (4 * sector + c, r)

/-- Tiles of a sector with a class set that are neither cached nor committed, placed before or not (R136). -/
def Package.unfinished (k : Package) (sector : Nat) : List (Nat × Nat) :=
  (k.sectorTiles sector).filter fun x => !(setOf k.sets x.1 x.2).isEmpty && !(k.tile x.1 x.2).cached && !(k.tile x.1 x.2).committed

/-- Engines of a slice that completed a tile at this very instant: the migration asked of each is dropped (R131). -/
def State.justDone (s : State) (i : Nat) : Nat :=
  (List.range 16).countP fun e => match (s.engine i e).done with | some d => d.1 == s.now | none => false

/-- A slice's engines stop (R379). -/
def State.stopEngines (s : State) (i : Nat) : State := s.forAll (List.range 16) fun e s => s.wasteJob i e

/-- The spare takes over a sector (R136, R379, R380): it abandons its shadow work, and every unfinished tile of the sector is
placed on it with its epoch raised; a migration that meets a completion is dropped (R131). A sector in cache bypass stays in it. -/
def State.molt (s : State) (i : Nat) : State :=
  let a := s.forAll s.shadows fun h s => s.dropShadow h
  let b := ((((a.stopEngines 4).setRegs [(Reg.FLT_STATUS_MOLT_SECTOR, i), (Reg.FLT_STATUS_SPARE_STATE, 2)]).event 0x01 i 4 0).count
    21 4 1).onSlice 4 fun c => { c with bands := [], refenced := [], suspects := [] }
  let b := b.addReg (Reg.SLC_DROPS_MIG_DROPPED i) (s.justDone i)
  let c : State := { b with stripes := b.stripes.map fun p =>
    { p with bypass := (vmod p.bypass 4 fun _ => vget p.bypass i false) } }
  c.forAll c.packages fun k c => c.forAll (k.unfinished i) fun x c => c.replaceTile 4 k.stripe x.1 x.2

/-- The spare slice is fenced (R376): shadowing stops, and it takes no sector. -/
def State.fenceSpare (s : State) : State :=
  let a := (s.forAll s.shadows fun h s => s.dropShadow h).stopEngines 4
  ((a.setRegs [(Reg.FLT_STATUS_SPARE_STATE, 1), (Reg.FLT_STATUS_MOLT_SECTOR, 7)]).event 0x01 4 3 0).raise 9

/-- A slice fails (R379, R381). -/
def State.failSlice (s : State) (i : Nat) : State :=
  if i = 4 then
    s.fenceSpare.when (decide (s.reg Reg.FLT_STATUS_MOLT_SECTOR < 4)) (·.abort .sliceFailed)
  else
    let t := (((s.stopEngines i).setReg Reg.FLT_STATUS_SLICE_FAILED (s.reg Reg.FLT_STATUS_SLICE_FAILED ||| 2 ^ i)).event 0x01 i 3 0).raise 9
    if s.spareFree then t.molt i else t.abort .sliceFailed

/-- A slice that still serves. -/
def State.sliceUp (s : State) (i : Nat) : Bool :=
  if i = 4 then s.part == .fx640 && s.reg Reg.FLT_STATUS_SPARE_STATE != 1
  else !bitOf (s.reg Reg.FLT_STATUS_SLICE_FAILED) i

/-- Slices that passed their self-test own their sectors again from this binding, and the spare returns to standby (R384). -/
def State.takeBack (s : State) : State :=
  s.forAll (List.range 4) fun i s => s.when (s.slice i).returns fun s =>
    (s.onSlice i fun c => { c with returns := false }).when (s.reg Reg.FLT_STATUS_MOLT_SECTOR == i) fun s =>
      ({ s with stripes := s.stripes.map fun p => { p with bypass := vmod p.bypass 4 fun _ => false } } : State).setRegs
        [(Reg.FLT_STATUS_MOLT_SECTOR, 7), (Reg.FLT_STATUS_SPARE_STATE, 0)]

/-- Slices whose engines a binding found all disabled fail then, the spare too (R143, R379). -/
def State.failDisabled (s : State) : State :=
  s.forAll (List.range 5) fun i s => s.when ((s.slice i).disabled == 0xFFFF && s.sliceUp i) (·.failSlice i)

end Sys2Proof.Machine
end

