-- ==== Sys2Proof/Machine/Bind.lean ====
section
/-! DEFINITION. Binding a stripe (R339): the ordered checks, the working copies, the checks on its package (R59, R80, R82,
R265, R177), and STRIPE_BEGIN and the XK2's STRIPE_START. -/
namespace Sys2Proof.Machine

/-! ### The body of STRIPE_BEGIN (R339) -/

/-- A band mark's code. -/
def BandMark.ofCode (n : Nat) : BandMark := match n with | 1 => .open | 2 => .close | _ => .none

/-- The parameters a descriptor carries; with B 0 the band marks are ignored (R30). -/
def Params.ofDesc (b : List Byte) : Params :=
  let bw := byteAt b 20
  { id := leAt b 8 4, len := leAt b 12 4, np := leAt b 16 2, k := byteAt b 18, p := byteAt b 19, b := bw,
    left := if bw = 0 then .none else BandMark.ofCode (bits (byteAt b 21) 0 2),
    right := if bw = 0 then .none else BandMark.ofCode (bits (byteAt b 21) 2 2),
    kernel := if bitOf (byteAt b 22) 7 then some (byteAt b 22 % 4) else none,
    leftNbr := leAt b 24 4, rightNbr := leAt b 28 4, fReq := leAt b 32 4, startRes := leAt b 36 4,
    y0 := s64 b 40, x0 := s64 b 48, leftDy := signed 32 (leAt b 56 4), rightDy := signed 32 (leAt b 60 4) }

/-- The parameters of an XK2 STRIPE_START (R417). -/
def Params.xk2 (b : List Byte) : Params :=
  { id := leAt b 20 4, len := leAt b 24 4, np := 80, k := 1, p := 1, b := 0, left := .none, right := .none, kernel := none,
    leftNbr := 0, rightNbr := 0, fReq := 512000, startRes := 0, y0 := 0, x0 := 0, leftDy := 0, rightDy := 0 }

/-- A value within 48 bits, signed. -/
def in48 (v : Int) : Bool := decide (-140737488355328 ≤ v ∧ v < 140737488355328)

/-- A band distance within its range; it is read only for a CLOSE band (R339). -/
def dyGood (m : BandMark) (v : Int) : Bool := m != .close || decide (-33554431 ≤ v ∧ v ≤ 33554431)

/-- Check 1 of R339: body fields in byte order; the FX632 has no unit for a kernel (R1). -/
def bodyCheck (s : State) (b : List Byte) : List (Bool × Status × Nat) :=
  let p := Params.ofDesc b
  let kn := byteAt b 22
  [(lengthOk p.len p.np, .badLength, 12), (decide (40 ≤ p.np ∧ p.np ≤ 160), .badLength, 16),
   (p.k == 1 || p.k == 2 || p.k == 4 || p.k == 8, .badLength, 18), (p.p == 1 || p.p == 2 || p.p == 4, .badLength, 19),
   (p.b == 0 || p.b == 8 || p.b == 16 || p.b == 32 || p.b == 64, .badLength, 20),
   (bits (byteAt b 21) 0 2 != 3 && bits (byteAt b 21) 2 2 != 3 && byteAt b 21 < 16, .badLength, 21),
   (bits kn 2 5 == 0 && (bitOf kn 7 || kn == 0), .badLength, 22), (!(bitOf kn 7 && s.part == .fx632), .notInMode, 22),
   (byteAt b 23 == 0, .badLength, 23), (decide (p.fReq ≤ s.modeMax), .badLength, 32),
   (decide (p.startRes ≤ 16777215), .badLength, 36), (in48 p.y0, .badLength, 40), (in48 p.x0, .badLength, 48),
   (dyGood p.left p.leftDy, .badLength, 56), (dyGood p.right p.rightDy, .badLength, 60)]

/-! ### Checks 2 to 9 (R339) -/

/-- Memory is in service (R304); a sweep that runs makes a stripe wait, not fail (R305). -/
def State.memoryServes (s : State) : Bool :=
  (s.flag Reg.MEM_STATUS_TRAINED || s.flag Reg.MEM_STATUS_SWEEPING) && !s.flag Reg.MEM_STATUS_REHASH_PENDING && decide (28 ≤ s.reg Reg.MEM_STATUS_LIVE0)
    && decide (28 ≤ s.reg Reg.MEM_STATUS_LIVE1)

/-- Tables loaded and Looper ready (R149, R169, R285); in XK2 mode Looper is off (R424). -/
def State.tablesReady (s : State) (_ : Params) : Bool :=
  s.flag Reg.BEM_STATUS_BT_VALID && s.flag Reg.BEM_STATUS_DM_VALID
    && (!s.native || (s.bankValid (s.reg Reg.LPR_STATUS_BANK) && s.flag Reg.LPR_CTL_EN))

/-- The kernel slot a stripe names is loaded (R149). -/
def State.kernelReady (s : State) (p : Params) : Bool :=
  match p.kernel with
  | some i => (vget s.kernels i none).isSome
  | none => true

/-- The dwell bounds of R202. -/
def State.dwellGood (s : State) : Bool :=
  decide (32 ≤ s.reg Reg.FRM_DWELL_DELAY)
    && decide (s.reg Reg.FRM_DWELL_DELAY + s.reg Reg.FRM_DWELL_LEN ≤ if s.native then 817 else 1937)

/-- LEAD against PATH_NS (R277). -/
def State.leadGood (s : State) : Bool :=
  !s.native || decide (s.pathNs + 100 < s.reg Reg.STG_TSYNC_LEAD)

/-- The tick range with two repair passes (R27, R185). -/
def Params.ticksFit (p : Params) : Bool := decide ((p.p + 2) * ticksPerPass p.len p.k ≤ 2 ^ 32)

/-- A bound stripe that shares a band with this one on its left (`left`) or right, and marks it as this one does. -/
def Params.clashes (p : Params) (left : Bool) (q : Params) : Bool :=
  if left then q.id == p.leftNbr && q.rightNbr == p.id && q.right == p.left && p.left != .none
  else q.id == p.rightNbr && q.leftNbr == p.id && q.left == p.right && p.right != .none

/-- Check 6 (R30): no OPEN band whose matching record is held, and no shared band marked alike by both. -/
def State.bandsGood (s : State) (p : Params) : Bool :=
  !(p.left == .open && s.bands.any (bandMatches p.id p.leftNbr true))
    && !(p.right == .open && s.bands.any (bandMatches p.id p.rightNbr false))
    && !(s.stripes.any fun q => p.clashes true q.par || p.clashes false q.par)

/-- Checks 2 to 8 of R339 that apply in the mode, in order; `at_` is the offset of the stripe id field. -/
def State.midChecks (s : State) (p : Params) (at_ lenAt : Nat) : List (Bool × Status × Nat) :=
  [((s.stripe? p.id).isNone, .badAddress, at_),
   (s.flag Reg.BEM_STATUS_BT_VALID && s.flag Reg.BEM_STATUS_DM_VALID, .badAddress, 0), (s.kernelReady p, .badAddress, 22),
   (s.tablesReady p, .badAddress, 0),
   (!s.native || s.reg Reg.STG_CTL_ROLE == 2 || s.flag Reg.STG_CTL_SP_EN, .notInMode, 0),
   (s.dwellGood, .badLength, 0), (s.leadGood, .badLength, 0), (p.ticksFit, .badLength, lenAt),
   (s.bandsGood p, .badAddress, 21), (s.groupsTrained, .linkTrainFail, 0), (s.memoryServes, .memTrainFail, 0)]

/-! ### Package checks (checks 10 to 12) -/

/-- Bind checks (R59, R80, R82), first in byte order. -/
def bindError (p : Params) (kern : Option Kernel) (f : Flx) : Option (Status × Nat) :=
  firstRefusal
    [(f.np == p.np, .flxBadRecord, 10), (f.len == p.len, .flxBadRecord, 16),
     ((match kern with | some k => decide (k.radius ≤ f.gw) | none => true), .flxBadRecord, f.guardOff + 8),
     (kern.isSome || f.firstMap.isNone, .notInMode, f.firstMap.getD 0)]

/-- The start position of pass 0 and the rest position after the last pass lie within the soft limits (R265): cruise speed
from the rate cap at the present link rate. -/
def State.withinLimits (s : State) (p : Stripe) : Bool :=
  let r := p.passRun 0
  let last := p.passRun (p.par.p - 1)
  let f := (s.rateCap p s.capsNow).1
  let v := speedOf p.par.k p.par.np f
  let a := p.bv.a
  let j := p.bv.j
  let lo : Rat := (s.sreg Reg.SKP_YMIN_Y * 1000 : Int)
  let hi : Rat := (s.sreg Reg.SKP_YMAX_Y * 1000 : Int)
  let c0 : Rat := (p.crossing r (r.first + 1) : Rat) / 64 - v * (p.bv.settle : Nat) / 10000
  let c1 : Rat := (p.crossing last (last.last + 1) : Rat) / 64
  distFits v a j (c0 - lo) && distReaches v a j (c0 - hi) && distReaches v a j (lo - c1) && distFits v a j (hi - c1)

/-- Rows of a visit set below the stripe's end. -/
def Params.setRows (p : Params) (q0 : Nat) : List Nat := (List.range p.len).filter fun y => (y + q0) % p.k == 0

/-- A pixel whose target is too low for the dose D_s of its set's stuck beams (R177). -/
def tooLow (native : Bool) (visits t ds : Nat) : Bool :=
  if native then decide (((visits * t : Nat) : Int) < 8 * ((ds : Int) - 8)) else decide (((15 * t : Nat) : Int) < 4 * ((ds : Int) - 16))

/-- The STUCK records of a stripe (R177, R188): one for each offending set, with its first and last offending row. -/
def Stripe.stuckRecords (p : Stripe) (k : Package) (g : Option DcuGrid) : List Record :=
  let figs := k.flx.figures
  ((visitSets p.par.k).filter fun e => decide (p.theta ≤ stuckSum p.tables p.par.k p.par.p e.1 e.2.1 e.2.2)).filterMap fun e =>
    let x := 8 * e.1 + e.2.1
    let ds := stuckSum p.tables p.par.k p.par.p e.1 e.2.1 e.2.2
    let ys := (p.par.setRows e.2.2).filter fun y =>
      tooLow p.native p.visits (p.par.share x (clampTarget (k.rawTarget g figs x y))) ds
    match ys.head?, ys.getLast? with
    | some a, some b => some ⟨3, repStuck, x, a, x, (b : Int)⟩
    | _, _ => none

/-- Unbind a stripe whose checks failed: it returns to IDLE, its package stays staged (R88, R339). -/
def State.unbind (s : State) (p : Stripe) (c : Completion) : State := ((s.complete c).dropStripe p.par.id).between

/-- An end of STRIPE_START other than ST_OK sets XK2_IRQ.ERR (R413). -/
def State.xk2Err (s : State) (xk2 : Bool) : State :=
  s.when xk2 fun s => (s.setFlag Reg.XK2_IRQ_ERR true).when (s.flag Reg.XK2_CTL_IRQ_EN) (·.emit .msi)

/-- The checks that need the settled package (R339 items 10 to 12): run at binding or at settlement. -/
def State.packageChecks (s : State) (id : Nat) : State :=
  match s.stripe? id, s.package? id with
  | some p, some k =>
    s.when (!p.checked && k.settled) fun s =>
      match bindError p.par p.bv.kernel k.flx with
      | some (st, off) => (s.unbind p (Completion.mk' p.origin st off 0 0)).xk2Err p.xk2
      | none =>
        if !p.xk2 && !s.withinLimits p then s.unbind p (Completion.mk' p.origin .axisLimit 40 0 0)
        else
          let g := p.bv.kernel.map fun kn => dcuGrid kn k.flx k.rho
          let recs := p.stuckRecords k g
          if recs.isEmpty then s.onStripe id fun q => { q with checked := true }
          else
            let e : Stripe := { p with records := recs }
            let n := (s.poolRecords e).length
            ((s.poolReport e).unbind p { Completion.mk' p.origin .stuckOnUnwritable (if p.xk2 then 0 else n) 0 0 with
              records := true }).xk2Err p.xk2
  | _, _ => s

/-! ### The binding (R149, R169, R202, R255, R339, R373) -/

/-- The copies a binding makes. -/
def State.boundValues (s : State) (p : Params) : BoundValues :=
  { beams := s.beams, defects := s.defects, kernel := p.kernel.bind fun i => vget s.kernels i none,
    dwellDelay := s.reg Reg.FRM_DWELL_DELAY, dwellLen := s.reg Reg.FRM_DWELL_LEN,
    nakWindow := min 48 (s.reg Reg.FRM_NAK_CTL_NAK_WINDOW), device := s.reg Reg.FRM_DEVICE_DEVICE_ID,
    repairMax := min 2 (s.reg Reg.LDG_CTL_REPAIR_MAX), role := if s.native then s.reg Reg.STG_CTL_ROLE else 0,
    vmax := s.reg Reg.SKP_VA_VMAX, amax := s.reg Reg.SKP_VA_AMAX, jmax := s.reg Reg.SKP_JE_JMAX,
    edec := s.reg Reg.SKP_JE_EDEC, settle := s.reg Reg.SKP_TIME_SETTLE, rot := s.rot,
    shadowLog2 := s.reg Reg.FLT_CTL_SHADOW_LOG2, spareLimit := s.reg Reg.FLT_CTL_SPARE_LIMIT,
    selfmisLimit := s.reg Reg.FTC_CTL_SELFMIS_LIMIT, rawOnly := s.flag Reg.FTC_CTL_RAW_ONLY }

/-- The starting residues a CLOSE band takes from its record (R30). -/
def loadBand (p : Params) (x0 : Nat) (dy : Int) (r : BandRec) (m : SMap Int) : SMap Int :=
  r.cells.foldl (fun m e =>
    let y := ((e.1 / r.b : Nat) : Int) + dy
    let i := e.1 % r.b
    if 0 ≤ y ∧ y < (p.len : Int) ∧ i < p.b then SMap.set (fun _ => 0) m (pixelKey (x0 + i) y.toNat) e.2 else m) m

/-- Starting residues of a stripe from its CLOSE bands' records, and which of the two bands has one. -/
def State.startResidues (s : State) (p : Params) : SMap Int × List Bool :=
  let l := if p.left = .close then s.band? p.id p.leftNbr true else none
  let r := if p.right = .close then s.band? p.id p.rightNbr false else none
  let a := match l with | some b => loadBand p 0 p.leftDy b [] | none => []
  (match r with | some b => loadBand p (4096 - p.b) p.rightDy b a | none => a,
   [l.isSome, r.isSome])

/-- The filler starts the window of a stripe's pass 0: T_CLAMP clears (R162), and the CLOSE bands take the records that their
neighbours have left by now (R30, R174). -/
def State.beginFill (s : State) (p : Stripe) (r : Run) : State :=
  s.when (!p.begun && r.kind == .pass && r.index == 0) fun s =>
    let start := s.startResidues p.par
    (s.onStripe p.par.id fun q => { q with
      begun := true, residues := start.1, bandLoaded := start.2
      bandMissing := [q.par.left == .close && !start.2.getD 0 false, q.par.right == .close && !start.2.getD 1 false] }).setReg
      Reg.DCU_SAT_T_CLAMP 0

/-- A stripe as it is bound. -/
def State.newStripe (s : State) (p : Params) (o : Origin) (xk2 : Bool) : Stripe :=
  let q : Stripe :=
    { par := p, bv := s.boundValues p, state := .bound, origin := o, resumeOrigin := none, xk2 := xk2, run := none,
      resumeAt := none, repairs := 0, cause := none, abortDue := false, abortAt := none, causeAt := 0, aborts := [],
      silent := false, checked := false, needPkg := none, residues := [], ledger := [], window := [],
      fill := Vector.replicate 4 (-1), filledMax := Vector.replicate 4 (-1), begun := false, grid := none, gridFailed := false,
      gridStall := [], gridWords := [], frames := [], older := [],
      sweeps := [], dark := [], records := [], pixelRecords := 0, lostLog := [], lostRun := none, lostFrames := 0, overflow := [],
      spareWrong := 0, bypass := Vector.replicate 5 false, bandMissing := [false, false],
      bandLoaded := [false, false], fCap := 0, startPos := 0 }
  let r := q.passRun 0
  { q with run := some r, fill := Vector.replicate 4 (q.fillFrom r) }

/-- What shows of the present stripe returns to 0 at a binding (R143, R190, R220, R274, R295). -/
def State.clearShown (s : State) : State :=
  s.setRegs ([(Reg.BEM_LOST_FRAMES, 0), (Reg.LDG_PEAK_ENTRIES, s.ledgerUsed), (Reg.LDG_VIS_ABORT_VISITS, 0), (Reg.LDG_VIS_GAP_VISITS, 0),
    (Reg.LDG_VIS_LOST_VISITS, 0), (Reg.FRM_NAK_COUNT, 0), (Reg.LPR_PEAK_X, 0), (Reg.LPR_PEAK_Y, 0),
    (Reg.LPR_SAT_X, 0), (Reg.LPR_SAT_Y, 0), (Reg.LPR_MODEL_PEAK, 0)]
    ++ (List.range 5).flatMap fun i => [(Reg.SLC_DROPS_MIG_DROPPED i, 0), (Reg.SLC_DROPS_SHADOW_DROPPED i, 0)])

/-- A slice takes its settings at a binding (R128, R135, R143). -/
def State.bindSlice (s : State) (i : Nat) : State :=
  s.onSlice i fun c =>
    { c with disabled := BitVec.ofNat 16 (s.reg (Reg.SLC_ENG_DISABLE i)), wdog := s.reg (Reg.SLC_CTL_WDOG_CYCLES i),
             fenceLimit := s.reg (Reg.SLC_CTL_FENCE_LIMIT i), suspects := [] }

/-- Plan counts of a binding (R170, R175). -/
def State.showPlan (s : State) (p : Stripe) : State :=
  let sets := visitSets p.par.k
  s.setRegs [(Reg.BEM_PLAN_UNTRIMMED, min 0xFFFF (sets.countP fun e => untrimmed p.tables p.native p.par.k e.1 e.2.1 e.2.2)),
    (Reg.BEM_PLAN_EMPTY, min 0xFFFF (sets.countP fun e => (liveGains p.tables p.par.k e.1 e.2.1 e.2.2).isEmpty))]

/-- Bind a stripe: earlier reports and band records of its id are freed (R31, R189), copies are made, settings read, and
the package checks run if the package has settled (R339). -/
def State.bindStripe (s : State) (p : Params) (o : Origin) (xk2 : Bool) : State :=
  let a : State := { s with
    reports := if xk2 then [] else s.reports.filter fun r => r.stripe != p.id
    bands := s.bands.filter fun r => r.stripe != p.id
    rot := s.rot + 1
    ftc := ⟨s.reg Reg.FTC_CTL_SELFMIS_LIMIT, s.flag Reg.FTC_CTL_RAW_ONLY⟩ }
  let q := a.newStripe p o xk2
  let b := ({ a with stripes := a.stripes ++ [q] } : State).fixStart p.id (a.rateCap q a.capsNow).1
  let b := b.onPackage p.id fun k => { k with
    tiles := SMap.mapValues (fun _ => Tile.fresh) (fun t => { t with committed := false, everCommitted := false }) k.tiles }
  let c := ((b.takeBack.forAll (List.range 5) fun i b => b.bindSlice i).clearShown.showPlan q).failDisabled
  c.packageChecks p.id

/-- A package refused before this command names it (check 10): its refusal, unless it is staged or arriving again. -/
def State.refusalOf (s : State) (id : Nat) : Option PkgRefusal :=
  if (s.package? id).isSome || s.channels.toList.any (fun c => match c.pkg with | some a => a.stripe == id | none => false) then none
  else s.refused.find? fun r => r.stripe == id

/-- Checks 2 to 10, then the binding. -/
def State.begin (s : State) (o : Origin) (p : Params) (xk2 : Bool) (at_ lenAt : Nat) : State :=
  let err (t : State) (st : Status) (d0 d1 d2 : Nat) : State := (t.complete (Completion.mk' o st d0 d1 d2)).xk2Err xk2
  match firstRefusal (s.midChecks p at_ lenAt) with
  | some (st, d0) => err s st d0 0 0
  | none =>
    let t := s.makeRoom 0xFF 0 p.reserved
    if !t.storeFits p.reserved then err t .badLength lenAt 0 0
    else match t.refusalOf p.id with
      | some r => err t r.status r.d0 r.d1 r.d2
      | none => t.bindStripe p o xk2

/-- The ring waits: a fifth stripe is not taken (R337). -/
def State.fourBound (s : State) : Bool := decide (4 ≤ s.stripes.length)

/-- STRIPE_BEGIN (R339). While four stripes are bound it stays at the head of the ring. -/
def execStripeBegin (s : State) : Host.Outcome State Fault Refusal :=
  answer s (s.when (s.native && !s.fourBound) fun s => s.take 8 0x03 fun o b _ s =>
    s.checked o (headerChecks b 0) fun s =>
      match firstRefusal (bodyCheck s b) with
      | some (st, d0) => s.complete (Completion.mk' o st d0 0 0)
      | none => s.begin o (Params.ofDesc b) false 8 12)

/-- STRIPE_START (R417). -/
def execStripeStart (s : State) : Host.Outcome State Fault Refusal :=
  answer s (s.when (!s.native && !s.fourBound) fun s => s.take 9 0x02 fun o b _ s =>
    match faultAt (xk2HeaderChecks b 0 ++ zeroBytes b 28 32) with
    | some off => (s.badField o off).xk2Err true
    | none =>
      let p := Params.xk2 b
      if !lengthOk p.len 80 then (s.badField o 24).xk2Err true
      else s.begin o p true 20 24)

end Sys2Proof.Machine
end

