-- ==== Sys2Proof/Machine/Ftc.lean ====
section
/-! DEFINITION. FTC: the block header and its checks in order, the tokens, and decoding (R92 to R97, R100). -/
namespace Sys2Proof.Machine

/-- A decoding failure (R97): status, block error offset, and the output produced before the token at fault. -/
structure FtcErr where
  status : Status
  offset : Nat
  output : List Byte
  deriving DecidableEq, Repr

/-- A decoded block: its output, and how many buffer bytes the block takes. -/
structure FtcBlock where
  output : List Byte
  length : Nat
  deriving DecidableEq, Repr

/-- Append a copy of `n` bytes from distance `d` to an output kept newest first (R95). -/
def ftcCopy (d : Nat) : Nat → List Byte → List Byte
  | 0, out => out
  | n + 1, out => ftcCopy d n (out.getD (d - 1) 0 :: out)

/-- A token's kind: literal bytes, or a copy of a length from a distance. -/
inductive FtcToken where
  | lit (n : Nat)
  | copy (len dist : Nat)
  deriving DecidableEq, Repr

/-- The operand byte count of a token, none for an illegal control byte (R94, R97). -/
def ftcOperands (rowPitch : Nat) (c : Nat) : Option Nat :=
  if c < 0x40 then some (c + 1)
  else if c < 0x80 then (if rowPitch = 0 then none else some 0)
  else if c < 0xC0 then some 2
  else if c = 0xC0 then some 3
  else if c = 0xC1 then (if rowPitch = 0 then none else some 1)
  else if c = 0xC2 then some 2
  else none

/-- What a legal token outputs, from its control byte and the bytes behind it (R94). -/
def ftcToken (rowPitch : Nat) (c : Nat) (ops : List Byte) : FtcToken :=
  if c < 0x40 then .lit (c + 1)
  else if c < 0x80 then .copy (c - 0x40 + 3) rowPitch
  else if c < 0xC0 then .copy (c - 0x80 + 3) (leAt ops 0 2 + 1)
  else if c = 0xC0 then .copy (byteAt ops 0 + 3) (leAt ops 1 2 + 1)
  else if c = 0xC1 then .copy (byteAt ops 0 + 3) rowPitch
  else .lit (leAt ops 0 2 + 1)

/-- Decode tokens (R94 to R97). `pos` is the block offset of the next body byte, `out` the output, newest first. -/
def ftcTokens (rowPitch orig : Nat) : Nat → Nat → List Byte → List Byte → Except FtcErr (List Byte)
  | 0, pos, _, out => if out.length = orig then .ok out.reverse else .error ⟨.ftcTruncated, pos, out.reverse⟩
  | fuel + 1, pos, body, out =>
    match body with
    | [] => if out.length = orig then .ok out.reverse else .error ⟨.ftcTruncated, pos, out.reverse⟩
    | cb :: rest =>
      let c := cb.toNat
      if out.length = orig then .error ⟨.ftcLenOverrun, pos, out.reverse⟩
      else match ftcOperands rowPitch c with
      | none => .error ⟨.ftcIllegalCode, pos, out.reverse⟩
      | some n =>
        if rest.length < n then .error ⟨.ftcTruncated, pos + 1 + rest.length, out.reverse⟩
        else
          let long := c = 0xC2
          let lits := if long then leAt rest 0 2 + 1 else n
          let skip := if long then 2 + lits else n
          match ftcToken rowPitch c rest with
          | .lit k =>
            if rest.length < skip then .error ⟨.ftcTruncated, pos + 1 + rest.length, out.reverse⟩
            else if orig < out.length + k then .error ⟨.ftcLenOverrun, pos, out.reverse⟩
            else ftcTokens rowPitch orig fuel (pos + 1 + skip) (rest.drop skip)
              (((rest.drop (skip - k)).take k).reverse ++ out)
          | .copy len dist =>
            if out.length < dist then .error ⟨.ftcDistBeyondHistory, pos, out.reverse⟩
            else if orig < out.length + len then .error ⟨.ftcLenOverrun, pos, out.reverse⟩
            else ftcTokens rowPitch orig fuel (pos + 1 + n) (rest.drop n) (ftcCopy dist len out)

/-- The longest body of a block without RAW (R92). -/
def ftcMaxComp (orig : Nat) : Nat := orig + (orig + 63) / 64

/-- The header checks of R97 as (bytes needed, holds, status, offset), in field order. -/
def ftcHeaderChecks (b : List Byte) : List (Nat × Bool × Status × Nat) :=
  let flags := byteAt b 3
  let raw := bitOf flags 1
  let orig := leAt b 4 4
  let comp := leAt b 8 4
  [(2, decide (leAt b 0 2 = 0x5446), .ftcIllegalCode, 0),
   (3, decide (byteAt b 2 = 1), .ftcIllegalCode, 2),
   (4, decide (flags < 4), .ftcIllegalCode, 3),
   (8, decide (1 ≤ orig ∧ orig ≤ 1048576), .badLength, 4),
   (12, if raw then decide (comp = orig) else decide (1 ≤ comp ∧ comp ≤ ftcMaxComp orig), .badLength, 8),
   (14, decide (!raw ∨ leAt b 12 2 = 0), .ftcIllegalCode, 12),
   (16, decide (leAt b 14 2 = 0), .ftcIllegalCode, 14)]

/-- The first header check that fails among those whose field lies wholly within the buffer (R97). -/
def ftcHeaderError (b : List Byte) : Option FtcErr :=
  ((ftcHeaderChecks b).find? fun (need, good, _, _) => decide (need ≤ b.length) && !good).map
    fun (_, _, st, off) => ⟨st, off, []⟩

/-- Decode the block at the front of a buffer (R92 to R97); the check value is judged by `ftcCheck`. -/
def ftcDecode (b : List Byte) : Except FtcErr FtcBlock :=
  match ftcHeaderError b with
  | some e => .error e
  | none =>
    let hdr := if bitOf (byteAt b 3) 0 then 20 else 16
    let comp := leAt b 8 4
    if b.length < 16 ∨ b.length < hdr + comp then .error ⟨.ftcTruncated, b.length, []⟩
    else
      let body := (b.drop hdr).take comp
      if bitOf (byteAt b 3) 1 then .ok ⟨body, hdr + comp⟩
      else match ftcTokens (leAt b 12 2) (leAt b 4 4) comp hdr body [] with
        | .ok out => .ok ⟨out, hdr + comp⟩
        | .error e => .error e

/-- Whether the check value a block carries agrees (R100); a block without CHECK agrees. -/
def ftcCheckGood (seed : Nat) (b : List Byte) (out : List Byte) : Bool :=
  !bitOf (byteAt b 3) 0 || leAt b 16 4 == crc32cSeeded seed out

/-- The seed word of a raster cache block (R110). -/
def cacheSeed (stripe row col slot epoch : Nat) : Nat :=
  stripe * 2 ^ 32 + row % 2 ^ 17 * 2 ^ 15 + col % 16 * 2 ^ 11 + slot % 4 * 2 ^ 9 + epoch % 512

/-- A cache block's bytes (R92, R105, R107): header, check value, body. -/
def cacheBlock (seed : Nat) (raw : Bool) (plane body : List Byte) : List Byte :=
  [0x46, 0x54, 1, if raw then 3 else 1] ++ leBytes 4 plane.length ++ leBytes 4 body.length
    ++ leBytes 2 (if raw then 0 else 256) ++ [0, 0] ++ leBytes 4 (crc32cSeeded seed plane) ++ body

end Sys2Proof.Machine
end

