-- ==== Sys2Proof/Machine/Ingest.lean ====
section
/-! DEFINITION. Ingest (R51 to R62, R87, R88, R98 to R104, R332, R334): LAYOUT descriptors, FTC blocks, FLX records,
refusals of a package, the density pre-pass and settlement. -/
namespace Sys2Proof.Machine

/-! ### Channels (R99) -/

/-- An ingest channel. -/
def State.channel (s : State) (ch : Nat) : Channel := vget s.channels ch Channel.init

/-- Change an ingest channel. -/
def State.onChannel (s : State) (ch : Nat) (f : Channel → Channel) : State :=
  { s with channels := vmod s.channels ch f }

/-- The bytes of a buffer. -/
def LayoutBuf.bytes (b : LayoutBuf) : List Byte := match b.buf with | .ok l => l | .error => []

/-- The output length of a sequence of FTC blocks, by the ORIG_LEN of their headers, damaged blocks included (log 38). -/
def ftcLength : Nat → List Byte → Nat
  | 0, _ => 0
  | fuel + 1, b =>
    if b.length < 16 then 0
    else leAt b 4 4 + ftcLength fuel (b.drop ((if bitOf (byteAt b 3) 0 then 20 else 16) + leAt b 8 4))

/-- The stream bytes a buffer still carries. -/
def LayoutBuf.streamLeft (b : LayoutBuf) : Nat :=
  let l := b.bytes.drop b.taken
  if b.ftc then ftcLength l.length l else b.len - b.taken

/-- A descriptor begins a new package after a refused one (R103): another id, or the package's last byte has passed. -/
def Drain.newPackage (d : Drain) (b : LayoutBuf) : Bool :=
  b.stripe != d.refusal.stripe || (match d.pkgBytes with | some n => decide (n ≤ d.seen) | none => false)

/-- The completion of a descriptor after the fault of a refused or released package (R335). -/
def PkgRefusal.later (r : PkgRefusal) (o : Origin) : Completion := Completion.mk' o r.status 0xFFFFFFFF r.laterD1 0xFFFFFF

/-- Buffers of a refused package taken from the front of a queue: those, the rest, and whether the drain goes on. -/
def drainSplit : Drain → List LayoutBuf → List LayoutBuf × List LayoutBuf × Option Drain
  | d, [] => ([], [], some d)
  | d, b :: rest =>
    if d.newPackage b then ([], b :: rest, none)
    else
      let (gone, left, e) := drainSplit { d with seen := d.seen + b.streamLeft } rest
      (b :: gone, left, e)

/-! ### LAYOUT (R104, R331, R332, R417) -/

/-- Field checks of LAYOUT. -/
def layoutChecks (b : List Byte) : List (Nat × Bool) :=
  headerChecks b 1 ++ [(16, decide (1 ≤ leAt b 16 4 ∧ leAt b 16 4 ≤ 16777216))] ++ zeroBytes b 24 64

/-- Field checks of the XK2 LAYOUT. -/
def xk2LayoutChecks (b : List Byte) : List (Nat × Bool) :=
  xk2HeaderChecks b 1 ++ [(16, decide (1 ≤ leAt b 16 4 ∧ leAt b 16 4 ≤ 16777216))] ++ zeroBytes b 24 32

/-- A buffer joins its channel's queue, or completes as a later descriptor of a refused package (R103). -/
def State.queueLayout (s : State) (ch : Nat) (b : LayoutBuf) : State :=
  match (s.channel ch).drain with
  | some d =>
    if d.newPackage b then s.onChannel ch fun c => { c with drain := none, queue := c.queue ++ [b] }
    else (s.onChannel ch fun c => { c with drain := some { d with seen := d.seen + b.streamLeft } }).complete (d.refusal.later b.origin)
  | none => s.onChannel ch fun c => { c with queue := c.queue ++ [b] }

/-- LEN bytes of what the read returned. -/
def readUpTo (r : HostRead) (n : Nat) : HostRead := match r with | .ok l => .ok (l.take n) | .error => .error

/-- LAYOUT (R332) on Layout Submit Ring `ring`. -/
def execLayout (ring : Fin 8) (s : State) : Host.Outcome State Fault Refusal :=
  answer s (s.when s.native fun s => s.take ring 0x10 fun o b buf s =>
    s.checked o (layoutChecks b) fun s =>
      s.queueLayout ring ⟨o, leAt b 20 4, bitOf (byteAt b 1) 0, leAt b 16 4, readUpTo buf (leAt b 16 4), 0⟩)

/-- The XK2 LAYOUT (R417): FLX version 1 bytes only; a descriptor marked as compressed is refused (R104). -/
def execXk2Layout (s : State) : Host.Outcome State Fault Refusal :=
  answer s (s.when (!s.native) fun s => s.take 9 0x01 fun o b buf s =>
    s.checked o (xk2LayoutChecks b) fun s =>
      if bitOf (byteAt b 1) 0 then s.done o .notInMode
      else s.queueLayout 0 ⟨o, leAt b 20 4, false, leAt b 16 4, readUpTo buf (leAt b 16 4), 0⟩)

/-! ### Refusing a package (R87, R88, R103, R302, R332, R342) -/

/-- PKG_BYTES where PKG_BEGIN was read whole. -/
def Assembly.pkgBytes (a : Assembly) : Option Nat :=
  if 32 ≤ a.bytes.length ∧ byteAt a.bytes 0 = 1 then some (leAt a.bytes 28 4) else none

/-- Completions of a refused package's taken descriptors: ST_OK before the fault, the refusal at it, the later form after
it (R334, R335). `fault` none: every one takes the later form (R342). -/
def refusalCompletions (r : PkgRefusal) (fault : Option Nat) (descs : List LayoutDesc) : List Completion :=
  match fault with
  | none => descs.map fun d => r.later d.origin
  | some off =>
    let upTo := descs.filter fun d => decide (d.start ≤ off)
    let after := descs.filter fun d => !decide (d.start ≤ off)
    (upTo.dropLast.map fun d => Completion.mk' d.origin .ok d.start d.blocks 0)
      ++ (upTo.getLast?.toList.map fun d => Completion.mk' d.origin r.status r.d0 r.d1 r.d2) ++ after.map fun d => r.later d.origin

/-- The stripe that waits for a package is refused with it (R87), unless another package of its id is staged or arriving: that
one it waits for (R52). -/
def State.refuseBound (s : State) (r : PkgRefusal) : State :=
  match s.stripe? r.stripe with
  | some p =>
    s.when (p.state == .bound && !p.checked && (s.refusalOf r.stripe).isSome) fun s =>
      (s.unbind p (Completion.mk' p.origin r.status r.d0 r.d1 r.d2)).xk2Err p.xk2
  | none => s

/-- The stream bytes of a package before the block or buffer that ended it: what a faulty block put out is not counted, since
its buffer still carries the block whole (R103). -/
def Assembly.seen (a : Assembly) : Nat := match a.ftcErr with | some r => r.d0 | none => a.bytes.length

/-- End a channel's assembly: its descriptors complete, its later ones drain (R103). -/
def State.endAssembly (s : State) (ch : Nat) (a : Assembly) (r : PkgRefusal) (fault : Option Nat) : State :=
  let c := s.channel ch
  let part := match c.queue with
    | b :: _ => (match a.descs.getLast? with | some d => d.origin == b.origin | none => false)
    | [] => false
  let front := if part then (c.queue.headD ⟨⟨0, 0, 0⟩, 0, false, 0, .error, 0⟩).streamLeft else 0
  let sp := drainSplit ⟨r, a.pkgBytes, a.seen + front⟩ (if part then c.queue.drop 1 else c.queue)
  let t := s.onChannel ch fun _ => ⟨sp.2.1, none, sp.2.2⟩
  (t.forAll (refusalCompletions r fault a.descs) fun k t => t.complete k).forAll sp.1 fun b t => t.complete (r.later b.origin)

/-- Refuse the package of a channel at a package offset (R87, R88, R103). -/
def State.refusePackage (s : State) (ch : Nat) (a : Assembly) (off : Nat) (r : PkgRefusal) : State :=
  let t := s.endAssembly ch a r (some off)
  ({ t with refused := t.refused.filter (fun q : PkgRefusal => q.stripe != r.stripe) ++ [r] }).refuseBound r

/-- An FLX or address refusal (R87, R332). -/
def flxRefusal (stripe : Nat) (st : Status) (off tile : Nat) : PkgRefusal := ⟨stripe, st, off, tile, 0, 0⟩

/-! ### Taking buffers into a package (R98, R99, R332) -/

/-- A package's first state on its channel. -/
def Assembly.begin (stripe : Nat) : Assembly := ⟨stripe, [], Flx.empty, [], 0, none⟩

/-- The assembly a buffer enters: the present one, or a new one. -/
def Channel.assembly (c : Channel) (b : LayoutBuf) : Assembly := c.pkg.getD (Assembly.begin b.stripe)

/-- List a descriptor as the last of the package. -/
def Assembly.list (a : Assembly) (o : Origin) : Assembly :=
  if (match a.descs.getLast? with | some d => d.origin == o | none => false) then a
  else { a with descs := a.descs ++ [⟨o, a.bytes.length, 0⟩] }

/-- A new package of an id begins: an earlier refusal of it is forgotten. -/
def State.forget (s : State) (c : Channel) (id : Nat) : State :=
  if c.pkg.isNone then { s with refused := s.refused.filter fun r => r.stripe != id } else s

/-- Take the front buffer into the package: plain bytes whole, an FTC buffer block by block; a buffer that names another id
or could not be read refuses the package at its first byte (R332). -/
def State.takeIn (s : State) (ch : Nat) : State :=
  let c := s.channel ch
  match c.queue with
  | [] => s
  | b :: rest =>
    let a := (c.assembly b).list b.origin
    let t := s.forget c a.stripe
    if b.stripe ≠ a.stripe ∨ b.buf = .error then
      (t.onChannel ch fun c => { c with pkg := some a }).refusePackage ch a a.bytes.length
        (flxRefusal a.stripe .badAddress a.bytes.length 0)
    else if b.ftc then t.onChannel ch fun c => { c with pkg := some a }
    else t.onChannel ch fun _ => ⟨rest, some { a with bytes := a.bytes ++ b.bytes }, c.drain⟩

/-- What the parser is told from outside (R51, R52). A package that still arrives on another ring counts as staged once its
PKG_BEGIN is accepted (log 38). -/
def State.flxEnv (s : State) (ch : Nat) (a : Assembly) : FlxEnv :=
  { native := s.native, fx632 := s.part == .fx632, named := a.stripe,
    staged := s.packages.map (·.stripe) ++ (((List.range 8).filter (· != ch)).filterMap fun i =>
      (s.channel i).pkg.bind fun k => if k.flx.phase = .start then none else some k.stripe) }

/-- The parser's next step on a package. -/
def State.parse (s : State) (ch : Nat) (a : Assembly) : FlxStep :=
  flxStep (s.flxEnv ch a) a.flx (a.bytes.drop a.flx.offset) a.bytes

/-- The front buffer is partly taken. -/
def Channel.partly (c : Channel) : Bool := match c.queue with | b :: _ => decide (0 < b.taken) | [] => false

/-- Every byte taken so far is judged and more may be taken: the parser waits, or PKG_END is behind it and the same buffer
goes on. -/
def State.wantsMore (s : State) (ch : Nat) : Bool :=
  let c := s.channel ch
  match c.pkg with
  | none => true
  | some a =>
    a.ftcErr.isNone &&
      (if a.flx.phase = .done then a.flx.offset == a.bytes.length && c.partly
       else match s.parse ch a with | .wait => true | _ => false)

/-- The front buffer holds FTC blocks. -/
def Channel.frontFtc (c : Channel) : Bool := match c.queue with | b :: _ => b.ftc | [] => false

/-! ### FTC blocks (R97, R100 to R103) -/

/-- Log the first ingest FTC error, and count it (R103, R113). -/
def State.logFtc (s : State) (ch : Nat) (st : Status) (off index : Nat) : State :=
  (s.when (!s.flag Reg.FTC_ERR_STATUS_VALID) (·.setRegs
    [(Reg.FTC_ERR_STATUS, st.code), (Reg.FTC_ERR_STATUS_CHANNEL, ch), (Reg.FTC_ERR_STATUS_VALID, 1),
     (Reg.FTC_ERR_OFFSET_BLOCK_OFFSET, off), (Reg.FTC_ERR_BLOCK_BLOCK_INDEX, index)])).count 19 7 1

/-- An FTC error: refused at once on a check-carrying channel, held until the parser has judged every earlier byte on the
others (R102, R103). It is logged and counted when it is met, even where an FLX error of a lower offset is then reported
(log 38). -/
def State.ftcFault (s : State) (ch : Nat) (a : Assembly) (st : Status) (off : Nat) (out : List Byte) : State :=
  let start := a.bytes.length
  let r : PkgRefusal := ⟨a.stripe, st, start, a.blockIndex, off, a.blockIndex⟩
  let t := s.logFtc ch st off a.blockIndex
  if ch < 2 then t.refusePackage ch a start r
  else t.onChannel ch fun c => { c with pkg := some { a with bytes := a.bytes ++ out, ftcErr := some r } }

/-- A block decoded and accepted: its output joins the stream (R99, R101). Only a block that decodes counts as a check skipped
(log 38). -/
def State.takeBlock (s : State) (ch : Nat) (a : Assembly) (b : LayoutBuf) (k : FtcBlock) (skipped : Bool) : State :=
  let descs := a.descs.dropLast ++ (a.descs.getLast?.toList.map fun d => { d with blocks := d.blocks + 1 })
  let taken := b.taken + k.length
  let t := s.onChannel ch fun c =>
    { c with pkg := some { a with bytes := a.bytes ++ k.output, descs := descs, blockIndex := a.blockIndex + 1 },
             queue := if b.bytes.length ≤ taken then c.queue.drop 1 else { b with taken := taken } :: c.queue.drop 1 }
  (t.count 19 0 1).when skipped (·.count 19 1 1)

/-- Decode the next block of the front buffer of a package (R97, R101). -/
def State.decodeBlock (s : State) (ch : Nat) (a : Assembly) (b : LayoutBuf) : State :=
  let data := b.bytes.drop b.taken
  match ftcDecode data with
  | .error e => s.ftcFault ch a e.status e.offset e.output
  | .ok k =>
    if ch < 2 ∧ !ftcCheckGood (a.stripe * 2 ^ 32 + a.blockIndex) data k.output then s.ftcFault ch a .ftcCheckMismatch 16 []
    else s.takeBlock ch a b k (decide (2 ≤ ch) && bitOf (byteAt data 3) 0)

/-- FTC_BLOCK_DECODE (R97, R100 to R103). -/
def execFtcBlockDecode (ch : Fin 8) (s : State) : Host.Outcome State Fault Refusal :=
  answer s (s.when (s.clocked && (s.channel ch).frontFtc && s.wantsMore ch) fun s =>
    let t := s.takeIn ch
    match (t.channel ch).pkg, (t.channel ch).queue with
    | some a, b :: _ => t.decodeBlock ch a b
    | _, _ => t)

/-! ### FLX records (R55, R62, R88, R301) -/

/-- A HELD stripe whose package was released takes only a package of the same check value (R301). -/
def State.checkKept (s : State) (a : Assembly) (f : Flx) : Bool :=
  match (s.stripe? a.stripe).bind fun p => p.needPkg with
  | some v => f.phase != .done || leAt a.bytes (f.offset - 4) 4 == v
  | none => true

/-- The stream of a channel has ended: its ring is disabled, and all that it had fetched is in the package (R62, log 36). -/
def State.streamEnded (s : State) (ch : Nat) : Bool :=
  (if s.native then !s.flag (Reg.HIF_SQ_CTL_EN ch) && (s.sub ch).fetched.isEmpty
   else !s.flag Reg.XK2_CTL_RING_EN && (s.sub 9).fetched.isEmpty) && (s.channel ch).queue.isEmpty

/-- Refuse a package whose stream ended before a complete PKG_END, at the first missing byte (R62); none of its descriptors is
left to drain. -/
def State.truncated (s : State) (ch : Nat) (a : Assembly) : State :=
  (s.refusePackage ch a a.bytes.length (flxRefusal a.stripe .flxBadRecord a.bytes.length 0)).onChannel ch fun c =>
    { c with drain := none }

/-- One record of the package, or the error that ends it. -/
def State.takeRecord (s : State) (ch : Nat) (a : Assembly) : State :=
  match s.parse ch a with
  | .wait =>
    match a.ftcErr with
    | some r => s.refusePackage ch a r.d0 r
    | none => s.when (s.streamEnded ch) (·.truncated ch a)
  | .refuse e =>
    match a.ftcErr with
    | some r => if a.bytes.length ≤ e.offset then s.refusePackage ch a r.d0 r
      else s.refusePackage ch a e.offset (flxRefusal a.stripe e.status e.offset e.tile)
    | none => s.refusePackage ch a e.offset (flxRefusal a.stripe e.status e.offset e.tile)
  | .next f _ =>
    if s.checkKept a f then s.onChannel ch fun c => { c with pkg := some { a with flx := f } }
    else s.refusePackage ch a (f.offset - 4) (flxRefusal a.stripe .badAddress (f.offset - 4) 0)

/-- A package past its PKG_END: bytes behind it refuse it at the first of them (R62); an FTC error placed exactly there refuses
it with that error (R102). -/
def State.takeTrailer (s : State) (ch : Nat) (a : Assembly) : State :=
  if a.flx.offset < a.bytes.length then
    s.refusePackage ch a a.flx.offset (flxRefusal a.stripe .flxBadRecord a.flx.offset 0)
  else s.whenSome a.ftcErr fun r s => s.refusePackage ch a r.d0 r

/-- FLX_RECORD (R55, R62): one record, or what follows PKG_END. -/
def execFlxRecord (ch : Fin 8) (s : State) : Host.Outcome State Fault Refusal :=
  answer s (s.when s.clocked fun s =>
    let t := s.when (!(s.channel ch).frontFtc && s.wantsMore ch) (·.takeIn ch)
    match (t.channel ch).pkg with
    | none => t
    | some a =>
      if a.flx.phase = .done then t.takeTrailer ch a else t.takeRecord ch a)

/-! ### Settlement (R86, R124, R125, R334) -/

/-- The package is whole: PKG_END taken, nothing behind it, its last buffer finished. -/
def Channel.whole (c : Channel) : Bool :=
  match c.pkg with
  | some a => a.flx.phase == .done && a.flx.offset == a.bytes.length && a.ftcErr.isNone && !c.partly
  | none => false

/-- The expander of slice i has tile work of the writing stripe: bin bands to fill for tiles of its sector (R50, R117, R124). -/
def State.expanderBusy (s : State) (i : Nat) : Bool :=
  match s.active?.bind (fun p => s.package? p.par.id), s.sectorOf i with
  | some k, some sector =>
    !(k.unfinished sector).isEmpty
      && decide (((s.slice i).bands.filter fun b => b.1 == k.stripe).length < (tileRows k.flx.len + 3) / 4)
  | _, _ => false

/-- A stripe in BOUND waits for the package that arrives on a channel (R339). -/
def State.namedByWaiting (s : State) (ch : Nat) : Bool :=
  match (s.channel ch).pkg with
  | some a => s.stripes.any fun p => p.par.id == a.stripe && p.state == .bound && !p.checked
  | none => false

/-- Slice i's expander runs the pre-pass of some channel's package: it yields to tile work of the writing stripe (R124, R143). -/
def State.prepassOn (s : State) (i : Nat) : Bool :=
  (s.sectorOf i).isSome && !s.expanderBusy i && s.channels.toList.any Channel.whole

/-- It is a channel's turn to end its pre-pass (R124): no expander is busy with the writing stripe, and a package that a waiting
STRIPE_BEGIN names goes before all others. -/
def State.prepassTurn (s : State) (ch : Nat) : Bool :=
  (s.channel ch).whole && !(List.range 5).any s.expanderBusy
    && (s.namedByWaiting ch || !(List.range 8).any fun i => (s.channel i).whole && s.namedByWaiting i)

/-- Stage a settled package; its descriptors complete with ST_OK, and a stripe that waits for it is checked (R334, R339). -/
def State.settle (s : State) (ch : Nat) (a : Assembly) (sets : SMap (List Nat)) : State :=
  let k : Package :=
    { stripe := a.stripe, flx := a.flx, descs := [], settled := true, sets := sets, rho := densityMap a.flx,
      check := leAt a.bytes (a.flx.offset - 4) 4, tiles := [], selfmis := Vector.replicate 5 0,
      age := s.ages }
  let t : State := { s with packages := s.packages ++ [k], ages := s.ages + 1 }
  let u := (t.onChannel ch fun c => { c with pkg := none }).forAll a.descs fun d u =>
    u.complete (Completion.mk' d.origin .ok d.start d.blocks 0)
  (u.onStripe a.stripe fun p => { p with needPkg := none }).packageChecks a.stripe

/-- PREPASS_DONE (R86, R124, R334). -/
def execPrepassDone (ch : Fin 8) (s : State) : Host.Outcome State Fault Refusal :=
  answer s (s.when (s.clocked && s.prepassTurn ch) fun s =>
    match (s.channel ch).pkg with
    | none => s
    | some a => match classSets a.flx.np a.flx.len a.flx.figures [] with
      | .error e => s.refusePackage ch a e.offset (flxRefusal a.stripe e.status e.offset e.tile)
      | .ok sets => s.settle ch a sets)

end Sys2Proof.Machine
end

