-- ==== Sys2Proof/Machine/Slices.lean ====
section
/-! DEFINITION. Raster slices (R105 to R112, R114 to R142): placing tiles, finished planes and the cache, engine watchdogs
and fences, Molt (R379 to R381), bins, and cache bypass. -/
namespace Sys2Proof.Machine

/-! ### Placing tiles (R127, R128, R139, R373) -/

/-- An engine works on a tile under its present epoch. -/
def State.busy (s : State) (k : Package) (col row : Nat) : Bool :=
  (List.range 5).any fun i => (List.range 16).any fun e =>
    match (s.engine i e).job with
    | some j => j.kind == .own && j.stripe == k.stripe && j.col == col && j.row == row && j.epoch == (k.tile col row).epoch
    | none => false

/-- A stripe's sector, served by slice i, is in cache bypass. -/
def State.bypassed (s : State) (i stripe : Nat) : Bool :=
  match s.stripe? stripe with
  | some p => vget p.bypass i false
  | none => false

/-- The pass in progress still needs a tile in cache bypass: its row lies above what the filler has filled, and the run is no
repair pass (R45, R139, R184). -/
def State.passNeeds (s : State) (stripe col row : Nat) : Bool :=
  match s.stripe? stripe with
  | some p => decide (vget p.fill (col / 4) (-1) < ((256 * row : Nat) : Int)) && (match p.run with | some r => !r.repair | none => true)
  | none => true

/-- A tile waits for an engine. -/
def State.wantsTile (s : State) (i : Nat) (k : Package) (col row : Nat) : Bool :=
  let t := k.tile col row
  !(setOf k.sets col row).isEmpty && !t.cached && !s.busy k col row
    && !(s.bypassed i k.stripe && (t.committed || t.ready (setOf k.sets col row) || !s.passNeeds k.stripe col row))

/-- A tile the current pass of the writing stripe needs: re-rasterization, or cache bypass (R127, item 1). -/
def State.urgent (s : State) (i : Nat) (k : Package) (col row : Nat) : Bool := (k.tile col row).redo || s.bypassed i k.stripe

/-- A tile that a fence of one of slice i's engines put back: it goes to the next free engine (R135). -/
def State.refenced (s : State) (i : Nat) : Option (Package × Nat × Nat) :=
  (s.slice i).refenced.findSome? fun e => (s.package? e.1).bind fun k =>
    if s.wantsTile i k (e.2 % 16) (e.2 / 16) then some (k, e.2 % 16, e.2 / 16) else none

/-- The next tile of slice i's queue (R127). -/
def State.nextTile (s : State) (i sector : Nat) : Option (Package × Nat × Nat) :=
  let want (k : Package) (u : Bool) : Option (Package × Nat × Nat) :=
    ((k.sectorTiles sector).find? fun x => s.wantsTile i k x.1 x.2 && (!u || s.urgent i k x.1 x.2)).map fun x => (k, x.1, x.2)
  let first := match s.active? with
    | some p => (s.package? p.par.id).bind fun k => want k true
    | none => none
  match (s.refenced i).or first with
  | some x => some x
  | none => s.packageOrder.findSome? fun k => want k false

/-- A tile of a bound stripe is sampled for a comparison (R373, R375, R378): native mode, spare in standby, not in bypass,
its sector not taken over. -/
def State.samples (s : State) (i : Nat) (k : Package) (col row : Nat) : Bool :=
  s.native && s.part == .fx640 && s.reg Reg.FLT_STATUS_SPARE_STATE == 0 && decide (i < 4) && !s.bypassed i k.stripe
    && !(k.tile col row).sampled &&
    (match s.stripe? k.stripe with
      | some p => (k.tile col row).disputed ||
          (p.bv.shadowLog2 != 0 && (col + 17 * row + p.bv.rot) % 2 ^ p.bv.shadowLog2 == 0)
      | none => false)

/-- Engine e of slice i takes a tile (R127, R132, R374). -/
def State.placeTile (s : State) (i e : Nat) (k : Package) (col row : Nat) : State :=
  let t := k.tile col row
  if t.placed ∧ t.epoch = 511 then s.epochLimit i k.stripe col row
  else
    let epoch := if t.placed then t.epoch + 1 else t.epoch
    let samp := s.samples i k col row
    let a := s.onPackage k.stripe fun k => k.onTile col row fun t =>
      { t with epoch := epoch, placed := true, empty := [], blocks := [], direct := [], hold := t.hold || samp,
               sampled := t.sampled || samp }
    let b := (a.onEngine i e fun g => { g with
      job := some ⟨k.stripe, col, row, epoch, .own, List.range (setOf k.sets col row).length, s.bypassed i k.stripe, 0, false⟩
      gated := false }).onSlice i fun c => { c with refenced := c.refenced.filter (· != (k.stripe, tileKey col row)) }
    let c := b.when t.placed (·.count (8 + i) 3 1)
    { c with shadows := if samp then c.shadows ++ [⟨k.stripe, col, row, epoch, i, [], .queued, 0⟩] else c.shadows }

/-- The first comparison in a phase. -/
def State.shadowIn (s : State) (ph : ShadowPhase) (i : Nat) : Option Shadow :=
  s.shadows.find? fun h => h.phase == ph && (ph != .thirdQueued || h.third == i)

/-- Put a comparison into a phase. -/
def State.setShadow (s : State) (h : Shadow) (f : Shadow → Shadow) : State :=
  { s with shadows := s.shadows.map fun x => if x.isOf h.stripe h.col h.row then f x else x }

/-- An engine takes a comparison's tile as shadow work (R138, R374, R376). -/
def State.takeShadow (s : State) (i e : Nat) (h : Shadow) (kind : JobKind) (ph : ShadowPhase) : State :=
  (s.setShadow h fun x => { x with phase := ph }).onEngine i e fun g =>
    { g with job := some ⟨h.stripe, h.col, h.row, h.epoch, kind, [], false, 0, false⟩, gated := false }

/-- TILE_PLACE (R127, R128): a free engine takes a third opinion that waits for its slice, the spare in standby a sampled
tile, and any other slice the next tile of its queue. A gated engine wakes. -/
def execTilePlace (slice : Fin 5) (engine : Fin 16) (s : State) : Host.Outcome State Fault Refusal :=
  answer s (s.when (s.engineServes slice engine && (s.engine slice engine).job.isNone && s.clocked) fun s =>
    match s.shadowIn .thirdQueued slice with
    | some h => s.takeShadow slice engine h .third .third
    | none =>
      match s.sectorOf slice with
      | some sector =>
        (match s.nextTile slice sector with
          | some (k, c, r) => s.placeTile slice engine k c r
          | none => s)
      | none =>
        if slice.val = 4 then
          (match s.shadowIn .queued 4 with
            | some h => s.takeShadow 4 engine h .shadow .spare
            | none => s)
        else s)

/-! ### Finished planes (R105 to R109, R112, R129, R133, R139) -/

/-- What the compressor hands on for a plane: the stored form, whether self-verification failed, and whether it gained. -/
structure Encoded where
  raw : Bool
  body : List Byte
  mismatch : Bool
  noGain : Bool

/-- The compressor's result for a plane and the tokens its encoder chose (R105 to R108). Tokens that decode to another plane and
do not shrink either count as a self-verify mismatch alone (log 38). -/
def encodePlane (rawOnly : Bool) (plane tokens : List Byte) : Encoded :=
  if rawOnly then ⟨true, plane, false, false⟩
  else match ftcTokens 256 plane.length tokens.length 16 tokens [] with
    | .ok out =>
      if out ≠ plane then ⟨true, plane, true, false⟩
      else if plane.length ≤ tokens.length then ⟨true, plane, false, true⟩
      else ⟨false, tokens, false, false⟩
    | .error _ => ⟨true, plane, true, false⟩

/-- The plane of a slot of a tile (R116, R121). -/
def Package.plane (k : Package) (col row slot : Nat) : List Byte :=
  let cls := (setOf k.sets col row).getD slot 0
  coveragePlane k.flx.np k.flx.len (binOf k.flx.np k.flx.len k.flx.figures col row cls) col row

/-- Storage rules in force for a package: RAW_ONLY of its stripe's binding, else as the last STRIPE_BEGIN found it (R108,
R113). -/
def State.rawOnly (s : State) (stripe : Nat) : Bool :=
  match s.stripe? stripe with
  | some p => p.bv.rawOnly
  | none => s.ftc.rawOnly

/-- Counts and entries of an encoded plane (R106, R107). -/
def State.noteEncoded (s : State) (i e : Nat) (j : Job) (x : Encoded) (rawOnly : Bool) : State :=
  let a := (s.when (!rawOnly) (·.count 19 2 1)).when x.noGain (·.count (8 + i) 5 1)
  a.when x.mismatch fun a =>
    ((a.count (8 + i) 7 1).event 0x01 i 2 (faultDetail e j.col j.row)).onPackage j.stripe fun k =>
      { k with selfmis := vmod k.selfmis i (· + 1) }

/-- A slice's sector enters cache bypass (R112): where the spare serves it, both show it (R113). -/
def State.enterBypass (s : State) (i stripe : Nat) : State :=
  ((s.onStripe stripe fun p => { p with bypass := vmod (vmod p.bypass i fun _ => true) ((s.sectorOf i).getD i) fun _ => true }).event 0x0A i 1 0).count 19 5 1

/-- A finished plane goes straight to the filler (R139). -/
def State.directPlane (s : State) (j : Job) (slot : Nat) (plane : List Byte) : State :=
  s.onPackage j.stripe fun k => k.onTile j.col j.row fun t => { t with direct := t.direct ++ [(slot, plane)] }

/-- The cache writer stores a block (R109, R129). -/
def State.storeBlock (s : State) (j : Job) (slot : Nat) (plane : List Byte) (x : Encoded) : State :=
  let crc := crc32cSeeded (cacheSeed j.stripe j.row j.col slot j.epoch) plane
  s.onPackage j.stripe fun k => k.onTile j.col j.row fun t =>
    { t with blocks := t.blocks ++ [⟨slot, j.epoch, x.raw, x.body, crc⟩] }

/-- The engine is through with a slot; with the last one the tile is complete and its slots are booked RETIRED (R129,
R142). A tile whose every non-empty plane is stored is cached: one that lost a block to an eviction meanwhile is not. -/
def State.endSlot (s : State) (i e : Nat) (j : Job) (slot : Nat) : State :=
  let left := j.slots.filter (· != slot)
  let a := s.onEngine i e fun k => { k with job := some { j with slots := left, waits := false } }
  if !left.isEmpty then a
  else
    let b := ((a.onEngine i e fun k => { k with job := none, done := some (s.now, j.col, j.row) }).bookTile i e 0 (4 * j.cycles)).count
      (8 + i) 1 1
    let c := b.onPackage j.stripe fun k => k.onTile j.col j.row fun t =>
      { t with cached := t.direct.isEmpty && !j.direct && t.complete (setOf k.sets j.col j.row), redo := false }
    c.onSlice i fun k => { k with suspects := (j.stripe, tileKey j.col j.row) :: k.suspects }

/-- Tiles of a sector that wait in the filler's working store (R139). -/
def Package.directTiles (k : Package) (sector : Nat) : Nat :=
  (k.tiles.filter fun e => e.1 % 16 / 4 == sector && !e.2.direct.isEmpty).length

/-- The working store takes another plane of this tile. -/
def Package.directRoom (k : Package) (j : Job) : Bool :=
  !(k.tile j.col j.row).direct.isEmpty || decide (k.directTiles (j.col / 4) < 16)

/-- A finished plane waits in its engine (R139, R141). -/
def State.holdPlane (s : State) (i e : Nat) (j : Job) : State := s.onEngine i e fun k => { k with job := some { j with waits := true } }

/-- In bypass a finished plane goes to the filler's working store, or waits in its engine while that is full (R139). -/
def State.passPlane (s : State) (i e : Nat) (k : Package) (j : Job) (slot : Nat) (plane : List Byte) : State :=
  if k.directRoom j then (s.directPlane j slot plane).endSlot i e { j with direct := true } slot
  else s.holdPlane i e { j with direct := true }

/-- A plane with content of a current tile goes to the cache, or on to the filler in bypass; with no room in either it waits
in its engine (R112, R129, R139). A plane of a package that is not yet writing evicts only newer packages' blocks, and else
waits in its engine without its sector entering bypass (log 38). -/
def State.keepPlane (s : State) (i e : Nat) (k : Package) (j : Job) (slot : Nat) (plane tokens : List Byte) : State :=
  if j.direct || s.bypassed i j.stripe then s.passPlane i e k j slot plane
  else
    let raw := s.rawOnly j.stripe
    let x := encodePlane raw plane tokens
    let writing := s.isWriting j.stripe
    let need := 20 + x.body.length
    let t := s.makeRoom i (if writing then 0 else k.age + 1) need
    if t.storeFits need then ((t.noteEncoded i e j x raw).storeBlock j slot plane x).endSlot i e j slot
    else if writing then ((t.noteEncoded i e j x raw).enterBypass i j.stripe).passPlane i e k j slot plane
    else t.holdPlane i e j

/-- A result of an old epoch, or of a package that has gone, is discarded whole (R133). -/
def State.stalePlane (s : State) (i e : Nat) (j : Job) (slot : Nat) : State :=
  let left := j.slots.filter (· != slot)
  let a := s.onEngine i e fun k => { k with job := some { j with slots := left } }
  if left.isEmpty then a.wasteJob i e else a

/-- The bins of a job's band are filled (R117). -/
def State.bandFilled (s : State) (i : Nat) (j : Job) : Bool := (s.slice i).bands.contains (j.stripe, j.row / 4)

/-- PLANE_DONE (R105 to R109, R129, R133): planes come in slot order (R126); one whose bytes are all 0 is marked empty. -/
def execPlaneDone (slice : Fin 5) (engine : Fin 16) (body : PlaneBody) (s : State) : Host.Outcome State Fault Refusal :=
  answer s (match (s.engine slice engine).job with
    | none => s
    | some j =>
      s.when (s.clocked && j.kind == .own && j.slots.head? == some body.slot && s.bandFilled slice j) fun s =>
        match s.package? j.stripe with
        | none => s.stalePlane slice engine j body.slot
        | some k =>
          if (k.tile j.col j.row).epoch ≠ j.epoch then s.stalePlane slice engine j body.slot
          else
            let plane := k.plane j.col j.row body.slot
            if plane.all (· == 0) then
              (s.onPackage j.stripe fun k => k.onTile j.col j.row fun t => { t with empty := insertAsc body.slot t.empty }).endSlot
                slice engine j body.slot
            else s.keepPlane slice engine k j body.slot plane body.tokens)

/-- SELFMIS_LIMIT in force for a package; 0 means 16 (R106, R113). -/
def State.selfmisLimit (s : State) (stripe : Nat) : Nat :=
  let v := match s.stripe? stripe with | some p => p.bv.selfmisLimit | none => s.ftc.selfmisLimit
  if v = 0 then 16 else v

/-- SELFMIS_LIMIT_REACHED (R106, R379). -/
def execSelfmisLimitReached (slice : Fin 5) (s : State) : Host.Outcome State Fault Refusal :=
  answer s (s.when (s.sliceUp slice && s.packages.any fun k => decide (s.selfmisLimit k.stripe ≤ vget k.selfmis slice.val 0))
    (·.failSlice slice))

/-! ### Watchdog, fences, clock gating (R128, R135, R136) -/

/-- Fence an engine; its tile is placed again with its epoch raised, and a tile in shadow work goes to another engine. -/
def State.fenceEngine (s : State) (i e : Nat) (j : Job) : State :=
  let f := Reg.SLC_STATUS_ENG_FENCED i
  let a := (((s.setReg f (s.reg f ||| 2 ^ e)).event 0x01 i 1 (faultDetail e j.col j.row)).wasteJob i e).onEngine i e fun k =>
    { k with gated := true }
  match j.kind with
  | .own =>
    if (match s.package? j.stripe with | some k => (k.tile j.col j.row).epoch == j.epoch | none => false) then
      (a.replaceTile i j.stripe j.col j.row).onSlice i fun c => { c with refenced := c.refenced ++ [(j.stripe, tileKey j.col j.row)] }
    else a
  | .shadow => { a with shadows := a.shadows.map fun h => if h.isOf j.stripe j.col j.row then { h with phase := .queued } else h }
  | .third => { a with shadows := a.shadows.map fun h => if h.isOf j.stripe j.col j.row then { h with phase := .thirdQueued } else h }

/-- An engine fenced in the very cycle in which it completed its tile: the completion stands, and the tile's migration is dropped
and counted (R131). -/
def State.fenceDone (s : State) (i e : Nat) (d : Nat × Nat × Nat) : State :=
  let f := Reg.SLC_STATUS_ENG_FENCED i
  (((s.setReg f (s.reg f ||| 2 ^ e)).event 0x01 i 1 (faultDetail e d.2.1 d.2.2)).onEngine i e fun k => { k with gated := true }).addReg
    (Reg.SLC_DROPS_MIG_DROPPED i) 1

/-- ENGINE_WATCHDOG (R131, R135). -/
def execEngineWatchdog (slice : Fin 5) (engine : Fin 16) (s : State) : Host.Outcome State Fault Refusal :=
  answer s (match (s.engine slice engine).job, (s.engine slice engine).done with
    | some j, _ => s.fenceEngine slice engine j
    | none, some d => s.when (d.1 == s.now) (·.fenceDone slice engine d)
    | none, none => s)

/-- Fenced engines of a slice. -/
def State.fencedCount (s : State) (i : Nat) : Nat :=
  (List.range 16).countP fun e => bitOf (s.reg (Reg.SLC_STATUS_ENG_FENCED i)) e

/-- FENCE_LIMIT_EXCEEDED (R136). -/
def execFenceLimitExceeded (slice : Fin 5) (s : State) : Host.Outcome State Fault Refusal :=
  answer s (s.when (s.sliceUp slice && decide ((s.slice slice).fenceLimit < s.fencedCount slice)) (·.failSlice slice))

/-- ENGINE_CLOCK_GATE (R128). -/
def execEngineClockGate (slice : Fin 5) (engine : Fin 16) (s : State) : Host.Outcome State Fault Refusal :=
  answer s (s.when (s.engine slice engine).job.isNone (·.onEngine slice engine fun k => { k with gated := true }))

/-! ### Bins and bypass rates (R117, R140) -/

/-- The package whose next bin band on slice i is `band`: bands come in ascending order (R117). -/
def State.bandOf (s : State) (i band : Nat) : Option Package :=
  s.packageOrder.find? fun k =>
    let done := (s.slice i).bands.filter fun x => x.1 == k.stripe
    decide (4 * band < tileRows k.flx.len) && !done.any (fun x => x.2 == band)
      && (List.range band).all fun b => done.any fun x => x.2 == b

/-- BIN_BAND_EXPAND (R117 to R119). -/
def execBinBandExpand (slice : Fin 5) (band : Nat) (s : State) : Host.Outcome State Fault Refusal :=
  answer s (s.when (s.clocked && (decide (slice.val ≠ 4) || s.part == .fx640)) fun s =>
    match s.bandOf slice band with
    | some k => s.onSlice slice fun c => { c with bands := c.bands ++ [(k.stripe, band)] }
    | none => s)

/-- BYPASS_RATE_REPORT (R140). -/
def execBypassRateReport (slice : Fin 5) (rate : Nat) (s : State) : Host.Outcome State Fault Refusal :=
  answer s (s.when (match s.active? with | some p => vget p.bypass slice.val false | none => false)
    (·.onSlice slice fun c => { c with rate := rate }))

end Sys2Proof.Machine
end

