-- ==== Sys2Proof/Machine/Commit.lean ====
section
/-! DEFINITION. The window filler (R111, R130, R154 to R157), shadow comparisons and third opinions (R374 to R378), self-tests
(R294, R384, R385), and the grids of the DCU (R158 to R161). -/
namespace Sys2Proof.Machine

/-! ### The window filler (R43, R111, R130, R139, R154 to R157) -/

/-- The stripe whose window is being filled: the one that moves toward or through a run, else the next to start. -/
def State.filling (s : State) : Option Stripe :=
  match s.active? with
  | some p => if p.state == .aborting || p.state == .runout then none else some p
  | none => s.nextToStart

/-- A cache block as the filler decodes it; none where decoding or the check value fails (R111). -/
def decodeBlock (seed : Nat) (b : CacheBlock) : Option (List Byte) :=
  let plane := if b.raw then some b.body
    else match ftcTokens 256 65536 b.body.length 16 b.body [] with
      | .ok out => some out
      | .error _ => none
  match plane with
  | some out => if crc32cSeeded seed out = b.crc ∧ out.length = 65536 then some out else none
  | none => none

/-- The plane the filler holds for a slot of a tile: none is an empty plane; `some none` a block that fails, one of an old epoch
among them, since the check is seeded with the tile's present epoch (R110, R111, R123). -/
def Package.filledPlane (k : Package) (col row slot : Nat) : Option (Option (List Byte)) :=
  let t := k.tile col row
  match t.blocks.find? fun b => b.slot == slot with
  | some b => some (decodeBlock (cacheSeed k.stripe row col slot t.epoch) b)
  | none => (t.direct.find? fun d => d.1 == slot).map fun d => some d.2

/-- Some block of a tile fails its check. -/
def Package.tileFails (k : Package) (col row : Nat) : Bool :=
  (List.range (setOf k.sets col row).length).any fun i => k.filledPlane col row i == some none

/-- The unclamped target of pixel i of a tile, from its planes (R154). -/
def Package.pixelTarget (k : Package) (g : Option DcuGrid) (planes : List (Nat × List Byte)) (col row i : Nat) : Nat :=
  targetRaw (targetSum k.flx g (planes.map fun e => (e.1, byteAt e.2 i)) (256 * col + i % 256) (256 * row + i / 256))

/-- The planes with content of a tile, by class. -/
def Package.planes (k : Package) (col row : Nat) : List (Nat × List Byte) :=
  ((setOf k.sets col row).zipIdx).filterMap fun e => match k.filledPlane col row e.2 with
    | some (some b) => some (e.1, b)
    | _ => none

/-- Pixels of a tile inside the stripe. -/
def tilePixels (len row : Nat) : Nat := 256 * min 256 (len - 256 * row)

/-- A tile's rows as the window takes them: shares of the clamped targets (R154, R157). -/
def Stripe.fillRows (p : Stripe) (k : Package) (col row : Nat) : Stripe :=
  let planes := k.planes col row
  { p with window := (List.range (tilePixels p.par.len row)).foldl (fun w i =>
      let x := 256 * col + i % 256
      SMap.set (fun _ => 0) w (pixelKey x (256 * row + i / 256))
        (p.par.share x (clampTarget (k.pixelTarget p.grid planes col row i)))) p.window }

/-- Pixels of a tile that the clamp limits, in rows of pass 0 not filled before, each once (R155). -/
def Stripe.clamped (p : Stripe) (k : Package) (r : Run) (col row sector : Nat) : Nat :=
  if r.repair || r.index != 0 || (k.tile col row).everCommitted then 0
  else
    let planes := k.planes col row
    (List.range (tilePixels p.par.len row)).countP fun i =>
      decide (vget p.filledMax sector (-1) < ((256 * row + i / 256 : Nat) : Int)) && decide (0xFFFF < k.pixelTarget p.grid planes col row i)

/-- Commit a tile: its planes are accepted whole and its rows written (R130). -/
def State.commitTile (s : State) (p : Stripe) (k : Package) (r : Run) (col row sector : Nat) : State :=
  let n := p.clamped k r col row sector
  let a := (s.onStripe p.par.id fun q => q.fillRows k col row).onPackage k.stripe fun k =>
    k.onTile col row fun t => { t with committed := true, everCommitted := true, redo := false, direct := [] }
  let b := (a.count 19 4 (k.tile col row).blocks.length).when (p.bv.kernel.isSome) (·.count 13 6 (tilePixels p.par.len row))
  (b.count 13 7 n).when (s.part == .fx640) (·.addReg Reg.DCU_SAT_T_CLAMP n)

/-- A tile of the filler's row that has a class set and is not committed. -/
def Package.nextCommit (k : Package) (sector row : Nat) : Option Nat :=
  ((List.range 4).map fun i => 4 * sector + i).find? fun c => !(setOf k.sets c row).isEmpty && !(k.tile c row).committed

/-- A row of tiles is filled: Y_fill rises, and rows below the live ones retire (R43). -/
def State.rowFilled (s : State) (p : Stripe) (r : Run) (sector row : Nat) : State :=
  let y : Int := 256 * (row + 1) - 1
  s.onStripe p.par.id fun q =>
    { q with fill := vmod q.fill sector fun _ => y, window := SMap.restrict (fun k => decide (p.par.k * r.ahead ≤ k / 4096 + 4095)) q.window,
             filledMax := if r.repair || r.index != 0 then q.filledMax else vmod q.filledMax sector fun f => max f y }

/-- After a tile: the row is filled once none of its tiles waits. -/
def State.rowDone (s : State) (p : Stripe) (r : Run) (sector row : Nat) : State :=
  match s.package? p.par.id with
  | some k => s.when (k.nextCommit sector row).isNone (·.rowFilled p r sector row)
  | none => s

/-- The next tile of a sector: it waits for its comparison and its planes; one whose block fails is rasterized again (R111,
R375). A tile counts one cache-check failure, however many of its blocks fail (log 38). -/
def State.fillNext (s : State) (p : Stripe) (k : Package) (r : Run) (sector row : Nat) : State :=
  match k.nextCommit sector row with
  | none => s.rowFilled p r sector row
  | some col =>
    let t := k.tile col row
    if t.hold || !t.ready (setOf k.sets col row) then s
    else if k.tileFails col row then
      let slice := if s.reg Reg.FLT_STATUS_MOLT_SECTOR = sector then 4 else sector
      ((s.count 19 3 1).onPackage k.stripe fun k => k.onTile col row fun t => { t with redo := true }).replaceTile slice k.stripe col row
    else (s.commitTile p k r col row sector).rowDone p r sector row

/-- The filler may work on a sector's next tile row: inside the window limit and the stripe, its sector not waiting for a
recomputed grid (R44, R49, R161). A tile row is filled whole once its first row lies at or below the window limit: up to 255
rows beyond it are held, and count only as the limit rises (log 38). -/
def Stripe.mayFill (p : Stripe) (r : Run) (sector row : Nat) : Bool :=
  p.checked && p.gridReady && !p.gridStall.contains sector && decide (row < tileRows p.par.len) && decide (256 * row ≤ p.windowLimit r)

/-- The filler's next work in a sector: in a repair pass a row of remainders, taken from the ledger (R184), else the next
tile. -/
def State.fillSector (s : State) (p : Stripe) (r : Run) (sector row : Nat) : State :=
  if r.repair then s.rowFilled p r sector row
  else s.whenSome (s.package? p.par.id) fun k s => s.fillNext p k r sector row

/-- TILE_COMMIT (R111, R130, R139): the filler's next tile of a sector; in XK2 mode DATA_LATE follows the reserve (R273). -/
def execTileCommit (sector : Fin 4) (s : State) : Host.Outcome State Fault Refusal :=
  answer s (match s.filling with
    | none => s
    | some p => match p.run with
      | some r =>
        let row := ((vget p.fill sector.val (-1) + 1) / 256).toNat
        s.when (s.clocked && p.mayFill r sector row) fun s =>
          let t := (s.beginFill p r).fillSector p r sector row
          (match t.active?.bind fun q => q.run.map fun k => (q, k) with
            | some (q, k) => t.dataLate q k
            | none => t)
      | none => s)

/-! ### Comparisons (R374 to R378) -/

/-- What a slice found for a slot: the plane's CRC, or none for an empty plane (R374). -/
def crcOf (l : List PlaneCrc) (slot : Nat) : Option Nat := (l.find? fun c => c.slot == slot).bind fun c => c.crc

/-- The owner's value for a slot: its block's CHECK_VALUE, or none for an empty plane. -/
def Tile.crcOf (t : Tile) (slot : Nat) : Option Nat := (t.blocks.find? fun b => b.slot == slot).map CacheBlock.crc

/-- Owner and another slice agree on every slot of the class set (R374). -/
def Tile.agrees (t : Tile) (slots : Nat) (l : List PlaneCrc) : Bool := (List.range slots).all fun i => t.crcOf i == Sys2Proof.Machine.crcOf l i

/-- Two results agree on every slot. -/
def crcsAgree (slots : Nat) (a b : List PlaneCrc) : Bool := (List.range slots).all fun i => crcOf a i == crcOf b i

/-- The tile of a comparison, once its owner has cached it under the comparison's epoch: the tile and its slots. -/
def State.comparable (s : State) (h : Shadow) : Option (Tile × Nat) :=
  match s.package? h.stripe with
  | some k =>
    let t := k.tile h.col h.row
    if t.cached && t.epoch == h.epoch then some (t, (setOf k.sets h.col h.row).length) else none
  | none => none

/-- A comparison is settled: counted, its hold released, its tile no longer disputed (R374, R375). -/
def State.settled (s : State) (h : Shadow) : State :=
  ((((s.addReg Reg.FLT_SHADOW_COMPARES 1).count 21 0 1).endShadow h).onPackage h.stripe fun k =>
    k.onTile h.col h.row fun t => { t with disputed := false })

/-- An agreement clears the owner of suspicion up to this tile (R377). -/
def State.trusted (s : State) (h : Shadow) : State :=
  s.onSlice h.owner fun c => { c with suspects := c.suspects.takeWhile fun e => e != (h.stripe, tileKey h.col h.row) }

/-- The third slice: the next after the owner that is live and not failed (R376). -/
def State.thirdSlice (s : State) (owner : Nat) : Option Nat :=
  ([1, 2, 3].map fun d => (owner + d) % 4).find? fun i => !bitOf (s.reg Reg.FLT_STATUS_SLICE_FAILED) i && !(s.slice i).returns

/-- No majority (R376, R378): the tile's blocks are discarded, the tile is disputed, and its writing stripe aborts. Its epoch
stays: this is none of the cases of R132 (log 39). -/
def State.noMajority (s : State) (h : Shadow) : State :=
  let a := ((s.addReg Reg.FLT_THIRD_NO_MAJORITY 1).count 21 5 1).endShadow h
  let b := a.onPackage h.stripe fun k => k.onTile h.col h.row fun t =>
    { t with placed := false, cached := false, empty := [], blocks := [], sampled := false, disputed := true }
  b.when (match b.active? with | some p => p.par.id == h.stripe | none => false) (·.abort .sliceFailed)

/-- A third opinion is asked for, or there is no slice to give it (R376). -/
def State.askThird (s : State) (h : Shadow) (crcs : List PlaneCrc) : State :=
  match s.thirdSlice h.owner with
  | some i => (s.freeShadow h).setShadow h fun x => { x with spare := crcs, phase := .thirdQueued, third := i }
  | none => s.noMajority h

/-- SHADOW_COMPARE (R374 to R376): the spare's result of the oldest comparison whose owner has finished too. A disputed tile
always asks a third slice (R378). -/
def execShadowCompare (crcs : List PlaneCrc) (s : State) : Host.Outcome State Fault Refusal :=
  answer s (match s.shadows.find? fun h => h.phase == .spare with
    | none => s
    | some h => match s.comparable h, s.package? h.stripe with
      | some (t, n), some k =>
        let same := t.agrees n crcs
        if same && !(k.tile h.col h.row).disputed then (s.settled h).trusted h
        else (s.when (!same) fun s => (s.addReg Reg.FLT_SHADOW_MISMATCH 1).count 21 1 1).askThird h crcs
      | _, _ => s)

/-- Suspect tiles of a failing owner (R377): one committed in any pass is reported CUT, every other has its blocks discarded
and is placed on the spare. -/
def State.suspectTile (s : State) (e : Nat × Nat) : State :=
  match s.package? e.1 with
  | none => s
  | some k =>
    let col := e.2 % 16
    let row := e.2 / 16
    let t := k.tile col row
    if t.everCommitted then
      (match s.stripe? e.1 with
        | some p => s.putStripe (p.addRegion repCut (256 * col) (256 * col + 255) (256 * row : Nat) (256 * row + 255 : Nat))
        | none => s)
    else s.when t.cached (·.replaceTile 4 e.1 col row)

/-- The owner was wrong: its suspects are reported or placed again, then it fails (R376, R377). -/
def State.ownerWrong (s : State) (h : Shadow) : State :=
  let a := ((s.addReg Reg.FLT_THIRD_OWNER_WRONG 1).event 0x01 h.owner 5 (faultDetail 0 h.col h.row)).settled h
  (a.forAll (a.slice h.owner).suspects.reverse fun e a => a.suspectTile e).failSlice h.owner

/-- The spare was wrong: the owner's blocks stand (R376). -/
def State.spareWrong (s : State) (h : Shadow) : State :=
  ((((s.addReg Reg.FLT_THIRD_SPARE_WRONG 1).count 21 3 1).event 0x01 4 5 (faultDetail 0 h.col h.row)).onStripe h.stripe fun p =>
    { p with spareWrong := p.spareWrong + 1 }).settled h |>.trusted h

/-- THIRD_OPINION (R376, R378). -/
def execThirdOpinion (crcs : List PlaneCrc) (s : State) : Host.Outcome State Fault Refusal :=
  answer s (match s.shadows.find? fun h => h.phase == .third with
    | none => s
    | some h => match s.comparable h with
      | none => s
      | some (t, n) =>
        let a := s.count 21 2 1
        if t.agrees n h.spare then (a.settled h).trusted h
        else if t.agrees n crcs then a.spareWrong h
        else if crcsAgree n h.spare crcs then a.ownerWrong h
        else a.noMajority h)

/-- SPARE_LIMIT_REACHED (R376); a limit of 0 acts as 1 (R397). -/
def execSpareLimitReached (s : State) : Host.Outcome State Fault Refusal :=
  answer s (s.when (s.reg Reg.FLT_STATUS_SPARE_STATE != 1 && s.part == .fx640
      && s.stripes.any fun p => decide (max 1 p.bv.spareLimit ≤ p.spareWrong)) State.fenceSpare)

/-! ### Self-tests (R294, R384, R385) -/

/-- A slice's self-test passes: all comparisons agree, nothing fenced, and fences within the limit (R384). -/
def State.selfTestPass (s : State) (i : Nat) (agreed fenced : Bool) : Bool :=
  agreed && !fenced && decide (s.fencedCount i ≤ s.reg (Reg.SLC_CTL_FENCE_LIMIT i))

/-- Complete the SWITCH_BACK of a slice. -/
def State.endSliceJob (s : State) (i : Nat) (st : Status) : State :=
  let mine (j : CmdJob) : Bool := match j with | .switchSlice _ k => k == i | _ => false
  ({ s with jobs := s.jobs.filter fun j => !mine j }).forAll (s.jobs.filter mine) fun j t => t.done j.origin st

/-- SLICE_SELF_TEST_DONE (R384, R385): a slice that passes owns its sector again from the next STRIPE_BEGIN; a fenced spare
returns to standby. -/
def execSliceSelfTestDone (slice : Fin 5) (agreed fenced : Bool) (s : State) : Host.Outcome State Fault Refusal :=
  answer s (s.when (s.slice slice).testing fun s =>
    let pass := s.selfTestPass slice agreed fenced
    let a := s.onSlice slice fun c => { c with testing := false }
    if slice.val = 4 then a.when (pass && s.reg Reg.FLT_STATUS_SPARE_STATE == 1) (·.setReg Reg.FLT_STATUS_SPARE_STATE 0)
    else if pass then
      ((a.onSlice slice fun c => { c with returns := true }).setReg Reg.FLT_STATUS_SLICE_FAILED
        (s.reg Reg.FLT_STATUS_SLICE_FAILED - (s.reg Reg.FLT_STATUS_SLICE_FAILED &&& 2 ^ slice.val))).endSliceJob slice .ok
    else a.endSliceJob slice .sliceFailed)

/-- LOOPER_ENGINE_CHECK_DONE (R294, R346): the fenced engine returns to standby, or stays fenced. -/
def execLooperEngineCheckDone (pass : Bool) (s : State) : Host.Outcome State Fault Refusal :=
  let mine (j : CmdJob) : Bool := match j with | .switchLooper _ => true | _ => false
  answer s (s.when (s.jobs.any mine) fun s =>
    let a : State := { s with jobs := s.jobs.filter fun j => !mine j }
    (a.when pass (·.setReg Reg.LPR_ENGINE_STANDBY 0)).forAll (s.jobs.filter mine) fun j t =>
      t.done j.origin (if pass then .ok else .looperImplausible))

/-! ### Grids (R158 to R161) -/

/-- Columns and rows of a package's grid (R145). -/
def Package.gridSize (k : Package) : Nat × Nat := (32 + 2 * k.flx.gw, coarseRows k.flx.len + 2 * k.flx.gw)

/-- The DCU begins a grid from its first iteration (R158, R162). -/
def State.startGrid (s : State) (k : Package) (again : Bool) : State :=
  { s with gridJob := some ⟨k.stripe, again⟩ }.setRegs
    [(Reg.DCU_STATUS_BUSY, 1), (Reg.DCU_STATUS_RECOMPUTE, b2n again), (Reg.DCU_STATUS_ITER, 1), (Reg.DCU_STRIPE_STRIPE_ID, k.stripe),
     (Reg.DCU_GRID_COLS, k.gridSize.1), (Reg.DCU_GRID_ROWS, k.gridSize.2)]

/-- The DCU computes a stripe's grid again. -/
def State.recomputes (s : State) (id : Nat) : Bool := match s.gridJob with | some j => j.stripe == id && j.again | none => false

/-- A sector's read of a stripe's grid met a damaged word (R161): its filler stops and the grid is computed again from the
density map. The writing stripe's recomputation pre-empts any other grid (R158), and one in progress goes on; a recomputed grid
that fails aborts the stripe. -/
def State.gridDamaged (s : State) (id sector key : Nat) : State :=
  match s.stripe? id, s.package? id with
  | some p, some k =>
    if p.gridFailed then s.when p.state.moving (·.abort .memUncorrectable)
    else
      let t := s.onStripe id fun q => { q with gridStall := insertAsc sector q.gridStall, gridWords := insertAsc key q.gridWords }
      t.when (p.state.moving && !s.recomputes id) fun t => ((t.when s.gridJob.isSome (·.count 13 3 1)).count 13 1 1).startGrid k true
  | _, _ => s

/-- A stripe whose grid is still to be computed, or computed again (R158, R161). -/
def Stripe.wantsGrid (p : Stripe) : Bool := p.bv.kernel.isSome && (p.grid.isNone || !p.gridStall.isEmpty)

/-- The next grid to compute: that of the first stripe in the order of binding that names a kernel and has none, once its
package's pre-pass is done; no later one goes before it (R158). -/
def State.nextGrid (s : State) : Option (Stripe × Package) :=
  (s.stripes.find? Stripe.wantsGrid).bind fun p =>
    match s.package? p.par.id with
    | some k => if k.settled then some (p, k) else none
    | none => none

/-- The DCU is free: idle, or its grid's stripe or package has gone (R161). -/
def State.dcuFree (s : State) : Bool :=
  match s.gridJob with
  | some j => (s.stripe? j.stripe).isNone || (s.package? j.stripe).isNone
  | none => true

/-- DCU_GRID_START (R158). -/
def execDcuGridStart (s : State) : Host.Outcome State Fault Refusal :=
  answer s (s.when (s.clocked && s.dcuFree && s.native && s.part == .fx640) fun s => s.whenSome s.nextGrid fun x s =>
    let again := x.1.grid.isSome
    (s.when again (·.count 13 1 1)).startGrid x.2 again)

/-- The words of a grid that were damaged are written whole again: their poison goes (R161). -/
def State.rewriteGrid (s : State) (p : Stripe) : State :=
  s.forAll p.gridWords fun key s => s.rewriteWord key

/-- A finished grid is stored, and the registers show it (R160, R162); the sectors that waited for it fill on (R161). -/
def State.storeGrid (s : State) (p : Stripe) (k : Package) (kn : Kernel) (cycles : Nat) : State :=
  let g := dcuGrid kn k.flx k.rho
  let again := p.grid.isSome
  let a := ((s.rewriteGrid p).onStripe p.par.id fun q =>
    { q with grid := some g, gridFailed := q.gridFailed || again, gridStall := [], gridWords := [] }).gridIdle.setRegs
    [(Reg.DCU_RESID_MAX_STEP, g.step), (Reg.DCU_SAT_F_SAT, min 0xFFFF g.sat), (Reg.DCU_TIME_CYCLES, (s.quotient cycles 1024).toNat)]
  ((((a.drawn.count 13 0 1).count 13 2 cycles).count 13 4 (g.cols * g.rows)).count 13 5 g.sat)

/-- DCU_GRID_DONE (R159, R160); a grid whose stripe has gone is abandoned. -/
def execDcuGridDone (cycles : Nat) (s : State) : Host.Outcome State Fault Refusal :=
  answer s (match s.gridJob with
    | none => s
    | some j => match s.stripe? j.stripe, s.package? j.stripe with
      | some p, some k => (match p.bv.kernel with
        | some kn => s.when (s.clocked && decide (cycles ≤ gridCycles kn (k.gridSize.1 * k.gridSize.2))) (·.storeGrid p k kn cycles)
        | none => s.gridIdle)
      | _, _ => s.gridIdle)

end Sys2Proof.Machine
end

