-- ==== Sys2Proof/Machine/HostRings.lean ====
section
/-! DEFINITION. Rings and doorbells: R324 to R334, R352, and the XK2 ring of R413 and R416. -/
namespace Sys2Proof.Machine

/-! ### Doorbells (R329) -/

/-- Set HIF_STATUS.DB_ERR; the HOST cause follows when it became set (R461). -/
def State.setDbErr (s : State) : State :=
  (s.setFlag Reg.HIF_STATUS_DB_ERR true).when (!s.flag Reg.HIF_STATUS_DB_ERR) (·.raise 5)

/-- Set HIF_STATUS.CFG_ERR likewise. -/
def State.setCfgErr (s : State) : State :=
  (s.setFlag Reg.HIF_STATUS_CFG_ERR true).when (!s.flag Reg.HIF_STATUS_CFG_ERR) (·.raise 5)

/-- A doorbell value a ring takes: enabled, below its size, bits [31:16] clear. -/
def doorbellGood (enabled : Bool) (log2 v : Nat) : Bool := enabled && decide (v < 2 ^ 16) && decide (v < ringSize log2)

/-- An ignored doorbell: DB_ERR and an EVR HOST entry (R329). -/
def State.badDoorbell (s : State) (source v : Nat) : State := s.setDbErr.event 0x0E source 1 (v % 2 ^ 16)

/-- A new tail for a submission ring. -/
def State.newTail (s : State) (ring v : Nat) : State :=
  (s.onSub ring fun r => { r with tail := v }).setReg (Reg.HIF_SQ_STATUS_TAIL_LO ring) v

/-- SUBMISSION_DOORBELL (R329). There is no BAR2 in XK2 mode (R411). -/
def execSubmissionDoorbell (ring : Fin 9) (v : Word) (s : State) : Host.Outcome State Fault Refusal :=
  answer s (s.when (s.native && s.linkUp) fun s =>
    let t := s.touch
    if doorbellGood (s.flag (Reg.HIF_SQ_CTL_EN ring)) (s.reg (Reg.HIF_SQ_CTL_LOG2_SIZE ring)) v.toNat then
      t.newTail ring v.toNat
    else t.badDoorbell ring v.toNat)

/-- Ring c of 0 to 3 a CPR, 4 the EVR: enabled, and its size. -/
def State.cplGood (s : State) (c v : Nat) : Bool :=
  if c = evr then doorbellGood (s.flag Reg.HIF_EVR_CTL_EN) (s.reg Reg.HIF_EVR_CTL_LOG2_SIZE) v
  else doorbellGood (s.flag (Reg.HIF_CPR_CTL_EN c)) (s.reg (Reg.HIF_CPR_CTL_LOG2_SIZE c)) v

/-- The head field of such a ring. -/
def headField (c : Nat) : Field := if c = evr then Reg.HIF_EVR_IDX_HEAD else Reg.HIF_CPR_IDX_HEAD c

/-- COMPLETION_HEAD_DOORBELL (R326, R329): a new head frees room. -/
def execCompletionHeadDoorbell (ring : Fin 5) (v : Word) (s : State) : Host.Outcome State Fault Refusal :=
  answer s (s.when (s.native && s.linkUp) fun s =>
    let t := s.touch
    if s.cplGood ring v.toNat then t.setReg (headField ring) v.toNat
    else t.badDoorbell (if ring.val = evr then 13 else 9 + ring.val) v.toNat)

/-- XK2_RING_TAIL (R413): the register takes the tail, and it acts as the doorbell. -/
def execXk2RingTail (v : Word) (s : State) : Host.Outcome State Fault Refusal :=
  answer s (s.bus 0x2001C fun s => s.setReg Reg.XK2_RING_TAIL (v.toNat % 2 ^ 16))

/-- XK2_CPL_HEAD_WRITE (R413, R416): completions consumed by the host; W is read only. -/
def execXk2CplHeadWrite (v : Word) (s : State) : Host.Outcome State Fault Refusal :=
  answer s (s.bus 0x20030 fun s => s.setReg Reg.XK2_CPL_HEAD (v.toNat % 2 ^ 16))

/-! ### Enabling a ring (R324) -/

/-- A ring's set-up is good: its LOG2_SIZE in range, its base on 4 KiB. -/
def ringSetUp (lo log2 baseLo : Nat) : Bool := decide (lo ≤ log2 ∧ log2 ≤ 16) && decide (baseLo % 4096 = 0)

/-- What a write to a ring's CTL does to EN and LOG2_SIZE (R324): an enabled ring that stays enabled keeps its size; any
other write applies the size it carries, and an enable is then checked. -/
structure RingWrite where
  log2 : Nat
  en : Bool
  opened : Bool
  closed : Bool
  bad : Bool

/-- The write's effect on a ring that is `en` now. -/
def ringWrite (en : Bool) (log2 lo baseLo v : Nat) : RingWrite :=
  let want := bitOf v 0
  let size := if en && want then log2 else bits v 8 5
  let good := ringSetUp lo size baseLo
  ⟨size, want && (en || good), !en && want && good, en && !want, !en && want && !good⟩

/-- The refusal of an enable: CFG_ERR and an EVR HOST entry of kind 3 (R324, R351). -/
def State.refuseEnable (s : State) (source v : Nat) : State := s.setCfgErr.event 0x0E source 3 (v % 2 ^ 16)

/-- A write to HIF_SQn_CTL. Enabling sets the indices to 0; disabling clears STOPPED (R324, R353). -/
def sqCtlWrite (r v : Nat) (s : State) : State :=
  let w := ringWrite (s.flag (Reg.HIF_SQ_CTL_EN r)) (s.reg (Reg.HIF_SQ_CTL_LOG2_SIZE r)) 4 (s.reg (Reg.HIF_SQ_BASE_LO_ADDR r)) v
  let t := s.setRegs [(Reg.HIF_SQ_CTL_EN r, b2n w.en), (Reg.HIF_SQ_CTL_LOG2_SIZE r, w.log2), (Reg.HIF_SQ_CTL_CPR r, bits v 16 2)]
  ((t.when w.opened fun t => (t.setRegs [(Reg.HIF_SQ_STATUS_CONS r, 0), (Reg.HIF_SQ_STATUS_TAIL_LO r, 0)]).onSub r
      fun k => { k with tail := 0 }).when w.closed
    (·.setReg (Reg.HIF_SQ_STATUS_STOPPED r) 0)).when w.bad (·.refuseEnable r v)

/-- A write to HIF_CPRn_CTL: enabling sets W, head and the expected phase (R324). -/
def cprCtlWrite (c v : Nat) (s : State) : State :=
  let w := ringWrite (s.flag (Reg.HIF_CPR_CTL_EN c)) (s.reg (Reg.HIF_CPR_CTL_LOG2_SIZE c)) 4
    (s.reg (Reg.HIF_CPR_BASE_LO_ADDR c)) v
  let t := s.setRegs [(Reg.HIF_CPR_CTL_EN c, b2n w.en), (Reg.HIF_CPR_CTL_LOG2_SIZE c, w.log2),
    (Reg.HIF_CPR_CTL_VECTOR c, bits v 16 6), (Reg.HIF_CPR_CTL_HOLDOFF c, bits v 24 8)]
  (t.when w.opened fun t => (t.setRegs [(Reg.HIF_CPR_IDX_W c, 0), (Reg.HIF_CPR_IDX_HEAD c, 0)]).onCpl c
    fun k => { k with phase := true }).when w.bad (·.refuseEnable (9 + c) v)

/-- A write to HIF_EVR_CTL. -/
def evrCtlWrite (v : Nat) (s : State) : State :=
  let w := ringWrite (s.flag Reg.HIF_EVR_CTL_EN) (s.reg Reg.HIF_EVR_CTL_LOG2_SIZE) 6 (s.reg Reg.HIF_EVR_BASE_LO_ADDR) v
  let t := s.setRegs [(Reg.HIF_EVR_CTL_EN, b2n w.en), (Reg.HIF_EVR_CTL_LOG2_SIZE, w.log2),
    (Reg.HIF_EVR_CTL_VECTOR, bits v 16 6), (Reg.HIF_EVR_CTL_HOLDOFF, bits v 24 8)]
  (t.when w.opened fun t => { t.setRegs [(Reg.HIF_EVR_IDX_W, 0), (Reg.HIF_EVR_IDX_HEAD, 0)] with
    host := { t.host with cpl := vmod t.host.cpl evr fun k => { k with phase := true } } }).when w.bad (·.refuseEnable 13 v)

/-- RING_CTL_WRITE (R324, R353): rings 0 to 8 submission, 9 to 12 CPR, 13 the EVR. -/
def execRingCtlWrite (ring : Fin 14) (v : Word) (s : State) : Host.Outcome State Fault Refusal :=
  answer s (s.bus 0x01108 fun s =>
    if ring.val < 9 then sqCtlWrite ring v.toNat s
    else if ring.val < 13 then cprCtlWrite (ring.val - 9) v.toNat s
    else evrCtlWrite v.toNat s)

/-! ### Fetching (R325, R327, R329, R332, R416) -/

/-- Bytes of packages staged or on their way into staging (R332). -/
def State.stagingUsed (s : State) : Nat :=
  (s.packages.map fun k => k.flx.pkgBytes).sum + (s.channels.toList.map fun c =>
    (match c.pkg with | some a => a.bytes.length | none => 0)
      + (c.queue.map fun b => match b.buf with | .ok l => l.length | .error => 0).sum).sum

/-- Staging has room: 8,192 MiB (R297, R332). -/
def State.stagingRoom (s : State) : Bool := decide (s.stagingUsed < 8589934592)

/-- The FX640 fetches from a ring now: enabled, not stopped, a descriptor pending, and room for its completion (R325,
R327, R329). -/
def State.fetches (s : State) (ring : Nat) : Bool :=
  s.clocked && decide ((s.heldCpl (s.cprOf ring)).length < 64) &&
    (if ring = 9 then
      !s.native && s.flag Reg.XK2_CTL_RING_EN && !(s.sub 9).stopped && s.reg Reg.XK2_RING_HEAD_CONS != s.reg Reg.XK2_RING_TAIL
        && decide (s.reg Reg.XK2_RING_TAIL < ringSize (s.reg Reg.XK2_RING_CTL_LOG2_SIZE))
    else
      s.native && s.flag (Reg.HIF_SQ_CTL_EN ring) && !s.flag (Reg.HIF_SQ_STATUS_STOPPED ring)
        && s.reg (Reg.HIF_SQ_STATUS_CONS ring) != (s.sub ring).tail && (ring == 8 || s.stagingRoom))

/-- The consumed index of a ring. -/
def consField (ring : Nat) : Field := if ring = 9 then Reg.XK2_RING_HEAD_CONS else Reg.HIF_SQ_STATUS_CONS ring

/-- Its size. -/
def State.subSize (s : State) (ring : Nat) : Nat :=
  ringSize (s.reg (if ring = 9 then Reg.XK2_RING_CTL_LOG2_SIZE else Reg.HIF_SQ_CTL_LOG2_SIZE ring))

/-- A fetch error stops the ring, with no completion (R329). -/
def State.stopRing (s : State) (ring : Nat) : State :=
  if ring = 9 then s.onSub 9 fun r => { r with stopped := true }
  else ((s.setRegs [(Reg.HIF_SQ_STATUS_STOPPED ring, 1), (Reg.HIF_SQ_STATUS_ERR ring, 1)]).raise 5).event 0x0E ring 2 0

/-- A descriptor and, for LAYOUT, its buffer are held, and CONS passes it (R325). -/
def State.holdDesc (s : State) (ring : Nat) (desc : List Byte) (buf : HostRead) : State :=
  let cons := s.reg (consField ring)
  let layout := byteAt desc 0 == (if ring = 9 then 0x01 else 0x10) && ring != 8
  let units := match buf with | .ok b => if layout then (b.length + 63) / 64 else 0 | .error => 0
  ((({ s with host := { s.host with sub := vmod s.host.sub ring fun r =>
      { r with fetched := r.fetched ++ [Fetched.mk cons desc (if layout then buf else .ok [])] } } }).setReg (consField ring)
        ((cons + 1) % s.subSize ring)).count 1 0 1).count 1 4 (1 + units)

/-- Snoop unit 0 sees the bytes of a LAYOUT buffer as they are fetched (R453). -/
def State.snoopFetch (s : State) (ring : Nat) (desc : List Byte) (buf : HostRead) : State :=
  match buf with
  | .ok b => s.when (ring != 8 && byteAt desc 0 == (if ring = 9 then 0x01 else 0x10)) (·.snoopFrom 0 (ring % 9) b)
  | .error => s

/-- DESCRIPTOR_FETCH (R325, R327, R329, R332): `desc` and `buf` are what the reads of host memory returned. -/
def execDescriptorFetch (ring : Fin 10) (desc buf : HostRead) (s : State) : Host.Outcome State Fault Refusal :=
  answer s (s.when (s.fetches ring) fun s =>
    match desc with
    | .error => s.stopRing ring
    | .ok b => (s.holdDesc ring b buf).snoopFetch ring b buf)

/-- UNKNOWN_OPCODE (R331): ST_BAD_OPCODE for the descriptor at the head. -/
def execUnknownOpcode (ring : Fin 9) (s : State) : Host.Outcome State Fault Refusal :=
  answer s (match s.head? ring with
    | none => s
    | some d =>
      (s.when (!opcodeKnown ring (byteAt d.desc 0)) fun s =>
        (s.onSub ring fun r => { r with fetched := r.fetched.drop 1 }).done (d.origin ring) .badOpcode))

/-! ### Writing completions (R326, R333, R352, R416, R486) -/

/-- A completion entry's 16 bytes (R333). -/
def Completion.bytes (c : Completion) (phase : Bool) : List Byte :=
  leBytes 4 c.d0 ++ leBytes 4 c.d1 ++ leBytes 3 (min c.d2 0xFFFFFF) ++ leBytes 1 c.status.code ++ leBytes 2 c.origin.slot
    ++ leBytes 1 c.origin.ring
    ++ leBytes 1 (b2n c.start + 2 * b2n c.records + 4 * b2n c.stopped + 8 * b2n c.superseded + 128 * b2n phase)

/-- An XK2 completion entry's 8 bytes (R416). -/
def Completion.xk2Bytes (c : Completion) (phase : Bool) : List Byte :=
  leBytes 2 c.origin.tag ++ leBytes 1 c.status.code ++ leBytes 1 (128 * b2n phase) ++ leBytes 4 c.d0

/-- Set a bit of XK2_IRQ; the one MSI follows while IRQ_EN is set (R411, R413). -/
def State.xk2Irq (s : State) (f : Field) : State :=
  (s.setFlag f true).when (s.flag Reg.XK2_CTL_IRQ_EN && !s.native) (·.emit .msi)

/-- Write one entry of a CPR at W. -/
def State.writeCpr (s : State) (c : Nat) (k : Completion) : State :=
  let w := s.reg (Reg.HIF_CPR_IDX_W c)
  let w' := (w + 1) % ringSize (s.reg (Reg.HIF_CPR_CTL_LOG2_SIZE c))
  let base := s.reg (Reg.HIF_CPR_BASE_LO_ADDR c) + 2 ^ 32 * s.reg (Reg.HIF_CPR_BASE_HI_ADDR c)
  let phase := (vget s.host.cpl c CplRing.init).phase
  let t : State := { s with
    out := .hostWrite (base + 16 * w) (k.bytes phase) :: s.out
    regs := regsSet s.regs (Reg.HIF_CPR_IDX_W c) w'
    host := { s.host with cpl := vmod s.host.cpl c fun r =>
      { r with held := r.held.drop 1, phase := if w' = 0 then !r.phase else r.phase } } }
  ((t.count 1 2 1).count 1 5 1).ringMessage c

/-- Write one entry of the XK2 completion ring at W. -/
def State.writeXk2 (s : State) (k : Completion) : State :=
  let w := s.reg Reg.XK2_CPL_HEAD_W
  let w' := (w + 1) % ringSize (s.reg Reg.XK2_CPL_CTL_LOG2_SIZE)
  let base := s.reg Reg.XK2_CPL_BASE_LO_ADDR + 2 ^ 32 * s.reg Reg.XK2_CPL_BASE_HI_ADDR
  let t : State := { s with
    out := .hostWrite (base + 8 * w) (k.xk2Bytes s.host.xk2Cpl.phase) :: s.out
    regs := regsSet s.regs Reg.XK2_CPL_HEAD_W w'
    host := { s.host with xk2Cpl := { s.host.xk2Cpl with
      held := s.host.xk2Cpl.held.drop 1, phase := if w' = 0 then !s.host.xk2Cpl.phase else s.host.xk2Cpl.phase } } }
  ((t.count 1 2 1).count 1 5 1).xk2Irq Reg.XK2_IRQ_CPL

/-- COMPLETION_WRITE (R326, R327): the oldest held completion of a CPR, or for 4 of the XK2 ring, is written when there is
room. -/
def execCompletionWrite (ring : Fin 5) (s : State) : Host.Outcome State Fault Refusal :=
  answer s (match (s.heldCpl ring).head? with
    | none => s
    | some k => s.when (s.cplRoom ring && s.clocked) fun s =>
        if ring.val = 4 then s.writeXk2 k else s.writeCpr ring k)

/-- MSIX_HOLDOFF_EXPIRY (R352): the interval ends; entries written since the last message are signalled. -/
def execMsixHoldoffExpiry (ring : Fin 5) (s : State) : Host.Outcome State Fault Refusal :=
  let k := vget s.host.cpl ring.val CplRing.init
  let t : State := { s with host := { s.host with cpl := vmod s.host.cpl ring.val fun r =>
    { r with holding := false, dirty := false } } }
  answer s (t.when (k.holding && k.dirty) (·.ringMessage ring))

end Sys2Proof.Machine
end

