-- ==== Sys2Proof/Machine/Commands.lean ====
section
/-! DEFINITION. Control Ring commands other than STRIPE_BEGIN (R338 to R347, R408), and their XK2 forms (R417, R419). -/
namespace Sys2Proof.Machine

/-- NOP (R347). -/
def execNop (s : State) : Host.Outcome State Fault Refusal :=
  answer s (s.when s.native fun s => s.take 8 0x01 fun o b _ s =>
    s.checked o (headerChecks b 0 ++ zeroBytes b 8 64) fun s => s.done o .ok)

/-! ### TABLE_LOAD (R338) -/

/-- The payload lengths of R338. -/
def tableLen (table : Nat) : Nat :=
  match table with | 0 => 2097152 | 1 => 32768 | 2 => 412 | 3 => 2880 | _ => 1584

/-- Indices a table has. -/
def tableIndices (table : Nat) : Nat := match table with | 2 => 4 | 4 => 2 | _ => 1

/-- The first fault of a BEAM_TABLE payload (R167). -/
def beamTableBad (b : List Byte) : Option Nat :=
  (List.range 262144).findSome? fun i => (beamBad ((b.drop (8 * i)).take 8)).map fun o => 8 * i + o

/-- The beams a payload holds, listed where they differ from a plain beam. -/
def beamTable (b : List Byte) : SMap Beam :=
  ((List.range 262144).map fun i => (i, Beam.ofBytes ((b.drop (8 * i)).take 8))).filter fun e => e.2 != Beam.plain

/-- The set bits of a DEFECT_MAP payload (R168). -/
def defectTable (b : List Byte) : SMap Bool :=
  ((List.range 262144).map fun i => (i, bitOf (byteAt b (i / 8)) (i % 8))).filter fun e => e.2

/-- Faults of one EQ_TABLE entry, in byte order (R228, R230). -/
def eqEntryBad (b : List Byte) : Option Nat :=
  let t := tapsOf (leAt b 0 3)
  if leAt b 0 4 = 0 then none
  else ([(0, decide (-15 ≤ t.pre ∧ t.pre ≤ 0) && t == Taps.of t.pre t.post), (1, decide (24 ≤ t.main)),
    (2, decide (-31 ≤ t.post ∧ t.post ≤ 0)), (3, byteAt b 3 == 0)].find? fun c : Nat × Bool => !c.2).map (·.1)

/-- The first fault of an EQ_TABLE payload. -/
def eqTableBad (b : List Byte) : Option Nat :=
  (List.range 720).findSome? fun i => (eqEntryBad ((b.drop (4 * i)).take 4)).map fun o => 4 * i + o

/-- The entries of an EQ_TABLE payload. -/
def eqTableOf (b : List Byte) : SMap Nat :=
  ((List.range 720).map fun i => (i, leAt b (4 * i) 3)).filter fun e => e.2 != 0

/-- A section's coefficients. -/
def coefAt (b : List Byte) (o limit : Nat) : Coef :=
  ⟨signed 32 (leAt b o 4), signed 32 (leAt b (o + 4) 4), signed 32 (leAt b (o + 8) 4), signed 32 (leAt b (o + 12) 4),
   signed 32 (leAt b (o + 16) 4), limit⟩

/-- The offset of section j of 64 (R284). -/
def sectionOff (j : Nat) : Nat := 48 + 24 * j

/-- A section's limit is 1 to 0x7FFFFFFF (R285). -/
def limitGood (l : Nat) : Bool := decide (1 ≤ l ∧ l ≤ 0x7FFFFFFF)

/-- The first fault of a LOOPER_BANK payload (R285). -/
def looperBad (b : List Byte) : Option Nat :=
  let v1 := leAt b 0 4
  let v2 := leAt b 4 4
  let v3 := leAt b 8 4
  let h := leAt b 12 4
  let checks : List (Nat × Bool) := [(0, decide (h < v1) && decide (v1 + 2 * h < v2)), (4, decide (v2 + 2 * h < v3))]
    ++ zeroBytes b 36 48 ++ (List.range 64).map fun j => (sectionOff j + 20, limitGood (leAt b (sectionOff j + 20) 4))
  (checks.find? fun c => !c.2).map (·.1)

/-- The bank a payload holds, with its CRC-32C (R284, R285). -/
def bankOf (b : List Byte) : Bank :=
  { v1 := leAt b 0 4, v2 := leAt b 4 4, v3 := leAt b 8 4, hyst := leAt b 12 4, model := coefAt b 16 0,
    sections := (List.range 64).map fun j => coefAt b (sectionOff j) (leAt b (sectionOff j + 20) 4), crc := crc32c b }

/-- The first field at fault in a payload. -/
def tableBad (table : Nat) (b : List Byte) : Option Nat :=
  match table with
  | 0 => beamTableBad b
  | 1 => none
  | 2 => kernelBad b
  | 3 => eqTableBad b
  | _ => looperBad b

/-- Put a good payload in force. -/
def State.loadTable (s : State) (table index : Nat) (b : List Byte) : State :=
  match table with
  | 0 => { s with beams := beamTable b }.setReg Reg.BEM_STATUS_BT_VALID 1
  | 1 => { s with defects := defectTable b }.setReg Reg.BEM_STATUS_DM_VALID 1
  | 2 => { s with kernels := vmod s.kernels index fun _ => some (kernelOf b) }.setReg Reg.DCU_STATUS_SLOT_VALID
      (s.reg Reg.DCU_STATUS_SLOT_VALID ||| 2 ^ index)
  | 3 => { s with link := { s.link with eqTable := eqTableOf b } }
  | _ => { s with looper := { s.looper with banks := vmod s.looper.banks index fun _ => some (bankOf b) } }.setReg
      Reg.LPR_STATUS_BANK_VALID (s.reg Reg.LPR_STATUS_BANK_VALID ||| 2 ^ index)

/-- A LOOPER_BANK that may not be loaded: active, or the target of a pending swap (R285). -/
def State.bankBusy (s : State) (index : Nat) : Bool := s.reg Reg.LPR_STATUS_BANK == index || s.looper.swap

/-- Checks of TABLE_LOAD before its payload is read: table and index, part, bank, length (R1, R149, R285, R338). -/
def State.tableChecks (s : State) (b : List Byte) : List (Bool × Status × Nat) :=
  let table := byteAt b 8
  let index := byteAt b 9
  [(decide (table ≤ 4) && decide (index < tableIndices table), .badAddress, 0),
   (!(table == 2 && s.part == .fx632), .notInMode, 0), (!(table == 4 && s.bankBusy index), .badAddress, 0),
   (leAt b 24 4 == tableLen table, .badLength, 24)]

/-- Load a payload that was read: its content is judged, then it is in force (R338). -/
def State.takeTable (s : State) (o : Origin) (table index : Nat) (payload : HostRead) : State :=
  match payload with
  | .error => s.done o .badAddress
  | .ok l =>
    let b := l.take (tableLen table)
    let t := s.count 1 4 ((b.length + 63) / 64)
    match tableBad table b with
    | some off => t.complete (Completion.mk' o .badLength off 0 0)
    | none => (t.loadTable table index b).done o .ok

/-- TABLE_LOAD (R338). -/
def execTableLoad (payload : HostRead) (s : State) : Host.Outcome State Fault Refusal :=
  answer s (s.when s.native fun s => s.take 8 0x02 fun o b _ s =>
    s.checked o (headerChecks b 0 ++ zeroBytes b 10 16 ++ [(16, leAt b 16 8 % 8 == 0)] ++ zeroBytes b 28 64) fun s =>
      s.unless o (s.tableChecks b) fun s => s.takeTable o (byteAt b 8) (byteAt b 9) payload)

/-! ### XK2 TABLE_LOAD (R419) -/

/-- The beam of an XK2 entry. -/
def xk2Beam (b : List Byte) : Beam :=
  if bitOf (byteAt b 2) 0 then ⟨leAt b 0 2, 0, 0, .dead, 0⟩
  else if bitOf (byteAt b 2) 1 then ⟨leAt b 0 2, 0, 0, .stuckOn, 60⟩
  else ⟨leAt b 0 2, 0, 0, .ok, 0⟩

/-- The first byte at fault in an XK2 entry. -/
def xk2BeamBad (b : List Byte) : Option Nat :=
  ([(0, bitOf (byteAt b 2) 0 || decide (0x100 ≤ leAt b 0 2)), (2, decide (byteAt b 2 < 3)), (3, byteAt b 3 == 0)].find?
    fun c : Nat × Bool => !c.2).map (·.1)

/-- The first fault of an XK2 beam table. -/
def xk2TableBad (b : List Byte) : Option Nat :=
  (List.range 262144).findSome? fun i => (xk2BeamBad ((b.drop (4 * i)).take 4)).map fun o => 4 * i + o

/-- Put an XK2 beam table in force: beam table and defect map are replaced. -/
def State.loadXk2Table (s : State) (b : List Byte) : State :=
  { s with
    beams := ((List.range 262144).map fun i => (i, xk2Beam ((b.drop (4 * i)).take 4))).filter fun e => e.2 != Beam.plain
    defects := ((List.range 262144).map fun i => (i, bitOf (byteAt b (4 * i + 2)) 0)).filter fun e => e.2 }.setRegs
    [(Reg.BEM_STATUS_BT_VALID, 1), (Reg.BEM_STATUS_DM_VALID, 1)]

/-- XK2_TABLE_LOAD (R417, R419). -/
def execXk2TableLoad (payload : HostRead) (s : State) : Host.Outcome State Fault Refusal :=
  answer s (s.when (!s.native) fun s => s.take 9 0x04 fun o b _ s =>
    s.checked o (xk2HeaderChecks b 0 ++ [(16, leAt b 16 4 == 1048576)] ++ zeroBytes b 20 32) fun s =>
      match payload with
      | .error => s.done o .badAddress
      | .ok l =>
        let t := s.count 1 4 16384
        match xk2TableBad (l.take 1048576) with
        | some off => t.badField o off
        | none => (t.loadXk2Table (l.take 1048576)).done o .ok)

/-! ### STRIPE_RESUME (R340) -/

/-- Checks of STRIPE_RESUME, in order (R340, R381, R388, R406, R440). -/
def State.resumeChecks (s : State) (p : Stripe) : List (Bool × Status × Nat) :=
  [(p.needPkg.isNone, .badAddress, 0), (p.state == .held && p.resumeOrigin.isNone, .notInMode, 0), (s.operatorReady, .estop, 0),
   (!s.cal.dieHot, .notInMode, 0), (!s.cal.blkHot, .blankerHot, 0), (p.bv.role == 2 || s.flag Reg.STG_CTL_SP_EN, .notInMode, 0),
   (s.bankValid (s.reg Reg.LPR_STATUS_BANK) && s.flag Reg.LPR_CTL_EN, .badAddress, 0), (s.groupsTrained, .linkTrainFail, 0),
   (s.memoryServes, .memTrainFail, 0), (s.sectorsWork, .sliceFailed, 0)]

/-- A tile as a resume run finds it: to be committed again, and placed again from epoch 0 where its epoch is 511 and it needs
another placement (R137). -/
def resumedTile (t : Tile) : Tile :=
  if t.epoch = 511 ∧ (!t.cached || t.redo) then { Tile.fresh with everCommitted := t.everCommitted, disputed := t.disputed }
  else { t with committed := false }

/-- Plan the resume run (R137, R265): the window starts empty, and a tile at epoch 511 starts again at 0. -/
def State.planResume (s : State) (p : Stripe) (o : Origin) (fReq : Nat) : State :=
  let r := p.resumeRun (p.resumeAt.getD 0)
  let t := s.onStripe p.par.id fun q =>
    { q.startRun r with state := .held, resumeOrigin := some o, par := { q.par with fReq := fReq } }
  let c := match t.stripe? p.par.id with | some q => (t.rateCap q t.capsNow).1 | none => 0
  let t := t.fixStart p.par.id c
  let u := t.onPackage p.par.id fun k => { k with tiles := SMap.mapValues (fun _ => Tile.fresh) resumedTile k.tiles }
  u.setReg Reg.LDG_STATUS_REPAIR_PASS (if r.repair then r.index + 1 else 0)

/-- STRIPE_RESUME (R340). -/
def execStripeResume (s : State) : Host.Outcome State Fault Refusal :=
  answer s (s.when s.native fun s => s.take 8 0x04 fun o b _ s =>
    s.checked o (headerChecks b 0 ++ [(12, decide (leAt b 12 4 ≤ s.modeMax))] ++ zeroBytes b 16 64) fun s =>
      match s.stripe? (stripeOf b) with
      | none => s.done o .badAddress
      | some p => s.unless o (s.resumeChecks p) fun s => s.planResume p o (leAt b 12 4))

/-! ### STRIPE_ABORT, STRIPE_END, STRIPE_STOP (R341, R342, R417) -/

/-- A stripe id is known though no stripe of it is bound: a staged package, a report, or a band record (R341). -/
def State.idle? (s : State) (id : Nat) : Bool :=
  (s.package? id).isSome || s.reports.any (fun r => r.stripe == id) || s.bands.any fun r => r.stripe == id

/-- Cancel a BOUND stripe: it returns to IDLE with its package staged (R341). -/
def State.cancel (s : State) (p : Stripe) : State :=
  (s.unbind p (Completion.mk' p.origin .stripeAborted 0 0 0)).xk2Err p.xk2

/-- No resume point (R335). -/
def noTick : Nat := 0xFFFFFFFF

/-- Abort a stripe on command (R341). -/
def State.abortFor (s : State) (o : Origin) (p : Stripe) : State :=
  match p.state with
  | .bound => (s.cancel p).complete (Completion.mk' o .ok (if p.xk2 then 0 else noTick) 0 0)
  | .held => s.complete (Completion.mk' o .ok (p.resumeAt.getD noTick) 0 0)
  | _ => (s.onStripe p.par.id fun q => { q with aborts := q.aborts ++ [o] }).abort .stripeAborted

/-- STRIPE_ABORT (R341). -/
def execStripeAbort (s : State) : Host.Outcome State Fault Refusal :=
  answer s (s.when s.native fun s => s.take 8 0x05 fun o b _ s =>
    s.checked o (headerChecks b 0 ++ zeroBytes b 12 64) fun s =>
      match s.stripe? (stripeOf b) with
      | some p => s.abortFor o p
      | none => s.complete (Completion.mk' o (if s.idle? (stripeOf b) then .ok else .badAddress) noTick 0 0))

/-- The channel on which a package of an id is arriving. -/
def State.arriving (s : State) (id : Nat) : Option (Nat × Assembly) :=
  (List.range 8).findSome? fun ch => match (s.channel ch).pkg with
    | some a => if a.stripe = id then some (ch, a) else none
    | none => none

/-- End the assembly of a package still arriving (R342). -/
def State.dropArriving (s : State) (id : Nat) : State :=
  s.whenSome (s.arriving id) fun x s => s.endAssembly x.1 x.2 ⟨id, .stripeAborted, noTick, 0, 0xFFFFFF, 0⟩ none

/-- Release a HELD stripe (R266, R342): a resume that waits ends, the report stays. -/
def State.releaseHeld (s : State) (p : Stripe) : State :=
  let a := match p.resumeOrigin with | some r => s.done r .stripeAborted | none => s
  let e := p.overflowRecords
  let b := a.when (!e.records.isEmpty || !e.lostLog.isEmpty) (·.poolReport e)
  ((b.dropStripe p.par.id).dropPackage p.par.id).between

/-- STRIPE_END on an id (R342). -/
def State.endId (s : State) (o : Origin) (id : Nat) : State :=
  match s.stripe? id with
  | some p =>
    if p.state = .held then ((s.releaseHeld p).dropArriving id).done o .ok
    else if p.state = .bound then (((s.cancel p).dropPackage id).dropArriving id).done o .ok
    else s.done o .notInMode
  | none =>
    if (s.package? id).isNone && (s.arriving id).isNone && !s.bands.any (fun r => r.stripe == id) then s.done o .badAddress
    else
      let t : State := { s with bands := s.bands.filter fun r => r.stripe != id }
      ((t.dropPackage id).dropArriving id).done o .ok

/-- STRIPE_END (R342). -/
def execStripeEnd (s : State) : Host.Outcome State Fault Refusal :=
  answer s (s.when s.native fun s => s.take 8 0x06 fun o b _ s =>
    s.checked o (headerChecks b 0 ++ zeroBytes b 12 64) fun s => s.endId o (stripeOf b))

/-- STRIPE_STOP (R417): a BOUND stripe is cancelled and its package released, a writing one aborts. -/
def execStripeStop (s : State) : Host.Outcome State Fault Refusal :=
  answer s (s.when (!s.native) fun s => s.take 9 0x03 fun o b _ s =>
    s.checked o (xk2HeaderChecks b 0 ++ zeroBytes b 8 20 ++ zeroBytes b 24 32) fun s =>
      let id := leAt b 20 4
      match s.stripe? id with
      | some p => if p.state = .bound then ((s.cancel p).dropPackage id).done o .ok else s.abortFor o p
      | none => s.done o (if s.idle? id then .ok else .badAddress))

/-! ### LEDGER_READ (R188, R343) -/

/-- A report record's 16 bytes (R188). -/
def Record.bytes (r : Record) : List Byte :=
  leBytes 1 r.kind ++ leBytes 1 r.cause ++ leBytes 2 r.x0 ++ leBytes 4 r.y0 ++ leBytes 2 r.x1 ++ [0, 0]
    ++ leBytes 4 (unsignedOf 32 r.last)

/-- A lost-frame record's 32 bytes (R343). -/
def LostRec.bytes (r : LostRec) : List Byte :=
  leBytes 4 r.first ++ leBytes 4 r.count ++ leBytes 16 ((r.lanes.map fun l => 2 ^ l).sum) ++ leBytes 8 0

/-- The report of a stripe id: a completed stripe's, or what a HELD stripe holds. -/
def State.reportOf (s : State) (id : Nat) : Option Report :=
  match s.stripe? id with
  | some p => if p.state = .held then some ⟨id, p.par.len, p.records, p.lostLog⟩ else none
  | none => s.reports.find? fun r => r.stripe == id

/-- The records of a source, as bytes. -/
def Report.source (r : Report) (src : Nat) : List (List Byte) :=
  if src = 0 then r.records.map Record.bytes else r.lost.map LostRec.bytes

/-- Free a stripe's report and lost-frame log (R189, R343). -/
def State.freeReport (s : State) (id : Nat) : State :=
  ({ s with reports := s.reports.filter fun r => r.stripe != id }).onStripe id fun p =>
    { p with records := [], pixelRecords := 0, lostLog := [] }

/-- LEDGER_READ (R343). -/
def execLedgerRead (s : State) : Host.Outcome State Fault Refusal :=
  answer s (s.when s.native fun s => s.take 8 0x07 fun o b _ s =>
    s.checked o (headerChecks b 1 ++ [(12, decide (byteAt b 12 ≤ 1))] ++ zeroBytes b 13 16
        ++ [(20, decide (1 ≤ leAt b 20 4)), (24, leAt b 24 8 % 16 == 0)] ++ zeroBytes b 32 64) fun s =>
      match s.reportOf (stripeOf b) with
      | none => s.done o .badAddress
      | some r =>
        let all := r.source (byteAt b 12)
        if all.isEmpty then s.done o .badAddress
        else
          let out := (all.drop (leAt b 16 4)).take (leAt b 20 4)
          let t := (s.when (!out.isEmpty) (·.emit (.hostWrite (leAt b 24 8) out.flatten))).count 1 5 ((out.flatten.length + 63) / 64)
          (t.when (bitOf (byteAt b 1) 0) (·.freeReport (stripeOf b))).complete (Completion.mk' o .ok out.length all.length 0))

/-! ### COUNTER_SNAPSHOT, CAL_RUN, BEAM_CHECK (R344, R345, R403, R408) -/

/-- The snapshot's size (R450). -/
def snapshotSize : Nat := 4672

/-- The stripe whose run ticks (R449). -/
def State.ticking (s : State) : Option (Stripe × Run) :=
  s.active?.bind fun p => p.run.bind fun r => if p.state == .write && r.ticked && !r.ended then some (p, r) else none

/-- COUNTER_SNAPSHOT (R344, R449): it waits for its capture, during a run at a tick fixed from now on. -/
def execCounterSnapshot (s : State) : Host.Outcome State Fault Refusal :=
  answer s (s.when s.native fun s => s.take 8 0x08 fun o b _ s =>
    s.checked o (headerChecks b 0 ++ [(8, leAt b 8 8 % 64 == 0), (16, decide (snapshotSize ≤ leAt b 16 4))] ++ zeroBytes b 20 64) fun s =>
      { s with jobs := s.jobs ++ [.snapshot o (leAt b 8 8) (s.ticking.map fun x => x.2.nextFixed)] })

/-- A calibration item. -/
def State.calItem (s : State) (i : Nat) : CalItem := vget s.cal.items i ⟨none, []⟩

/-- Change a calibration item. -/
def State.onCalItem (s : State) (i : Nat) (f : CalItem → CalItem) : State :=
  { s with cal := { s.cal with items := vmod s.cal.items i f } }

/-- CAL_DT in 0.01 °C; 0 acts as 1 (R409). -/
def State.calDt (s : State) : Nat := 10 * max 1 (s.reg Reg.CAL_CTL_DT)

/-- An item's readings have drifted: a valid sensor differs from its reference by more than DT, or none was ever taken
(R403). -/
def State.drifted (s : State) (i : Nat) : Bool :=
  match (s.calItem i).ref with
  | none => true
  | some ref => (List.range 12).any fun n =>
      s.flag (Reg.CAL_SENSOR_VALID n) && decide (s.calDt < 25 * (s.cal.readings.getD n 0 - ref.getD n 0).natAbs)

/-- Items that a mask names. -/
def itemsOf (mask : Nat) : List Nat := (List.range 4).filter fun i => bitOf mask i

/-- Any stripe is in TRANSIT through ABORTING. -/
def State.stripeMoving (s : State) : Bool := s.stripes.any fun p => p.state.moving

/-- CAL_RUN (R345, R403): named items fall due, forced or by their drift; the others keep their result at once. -/
def execCalRun (s : State) : Host.Outcome State Fault Refusal :=
  answer s (s.when s.native fun s => s.take 8 0x09 fun o b _ s =>
    s.checked o (headerChecks b 1 ++ [(8, decide (byteAt b 8 < 16))] ++ zeroBytes b 9 64) fun s =>
      let named := itemsOf (byteAt b 8)
      if named.any (· != 0) && s.stripeMoving then s.done o .notInMode
      else
        let due := named.filter fun i => bitOf (byteAt b 1) 0 || s.drifted i
        let kept := named.length - due.length
        if due.isEmpty then s.complete (Completion.mk' o .ok 0 kept 0)
        else
          let t := s.setDue due
          { t with jobs := t.jobs ++ [.calRun o due 0 kept] })

/-- A host move is running: not while E-STOP or ACK_WAIT stands, nor with the door open and the key off (R388, R390). -/
def State.moveBlocked (s : State) : Option Status :=
  if s.flag Reg.FLT_OP_ESTOP || s.flag Reg.FLT_OP_ACK_WAIT then some .estop
  else if s.flag Reg.FLT_OP_DOOR_OPEN && !s.flag Reg.FLT_OP_KEY_ON then some .notInMode
  else none

/-- The shuttle's axis. -/
def State.shuttleAxis (s : State) : Nat := s.reg Reg.CAL_EYE_CTL_AXIS

/-- Checks of BEAM_CHECK (R345, R388, R390, R408, R409). -/
def State.beamChecks (s : State) : List (Bool × Status × Nat) :=
  let n := s.shuttleAxis
  let park := s.sreg Reg.CAL_EYE_PARK_POS
  [(s.reg Reg.CAL_EYE_REF != 0, .badLength, 0), (!s.stripeMoving, .notInMode, 0), (!s.checking, .notInMode, 0),
   ((s.auxAxis n).move.isNone, .notInMode, 0), (s.moveBlocked != some .estop, .estop, 0), (s.moveBlocked.isNone, .notInMode, 0),
   (s.auxVelGood n, .badLength, 0), (s.auxWithin n park, .axisLimit, 0)]

/-- Eyespot's own ANNOUNCE, in native mode (R408): RUN_KIND 3, STRIPE_ID 0. -/
def State.eyespotAnnounce (s : State) : State :=
  let f (i : Nat) : Nat := Config.eyespotRun s.draw i
  let dev := s.reg Reg.FRM_DEVICE_DEVICE_ID
  let body := announcePayload 0 dev 3 0 (f 0) (f 1) (f 2) (f 3) (s.reg Reg.FRM_DWELL_DELAY) (s.reg Reg.FRM_DWELL_LEN) (f 4)
  (s.sendFrames (s.activeLanes.map fun l => ⟨l, s.laneSlot l,
    frameBody true dev (f 0) 0 l { announce := true, spare := s.laneSlot l == 8 } body⟩)).drawn

/-- An item may start (R403, R404): due, not measuring, the core running, and all but deskew with no stripe in TRANSIT through
ABORTING. -/
def State.mayMeasure (s : State) (item : Nat) : Bool :=
  bitOf (s.reg Reg.CAL_STATUS_DUE) item && !bitOf (s.reg Reg.CAL_STATUS_RUNNING) item && s.clocked
    && decide (3 ≤ s.reg Reg.GLB_STATUS_INSTAR) && (item == 0 || !s.stripeMoving)

/-- An item starts to measure, with the readings of the moment (R403, R405). -/
def State.startItem (s : State) (item : Nat) : State :=
  (s.onCalItem item fun c => { c with begun := s.cal.readings }).setRegs
    [(Reg.CAL_STATUS_DUE, s.reg Reg.CAL_STATUS_DUE - 2 ^ item), (Reg.CAL_STATUS_RUNNING, s.reg Reg.CAL_STATUS_RUNNING ||| 2 ^ item)]

/-- Eyespot begins: the shuttle goes to its park position, and the ADC-offset item runs if it is due (R408). -/
def State.startBeamCheck (s : State) (o : Origin) (addr : Nat) (load : Bool) : State :=
  let n := s.shuttleAxis
  let a : State := { s with jobs := s.jobs ++ [.beamCheck o addr load], cal := { s.cal with shuttle := s.auxPos n } }
  (((a.auxStart n none (s.sreg Reg.CAL_EYE_PARK_POS)).count 22 7 1).when (s.mayMeasure 3) (·.startItem 3)).when s.native
    State.eyespotAnnounce

/-- BEAM_CHECK (R345, R408). -/
def execBeamCheck (s : State) : Host.Outcome State Fault Refusal :=
  answer s (s.when s.native fun s => s.take 8 0x0A fun o b _ s =>
    s.checked o (headerChecks b 1 ++ [(8, leAt b 8 8 % 8 == 0), (16, leAt b 16 4 == 2129920)] ++ zeroBytes b 20 64) fun s =>
      s.unless o s.beamChecks fun s => s.startBeamCheck o (leAt b 8 8) (bitOf (byteAt b 1) 0))

/-- XK2_BEAM_CHECK (R417): it always loads its result. -/
def execXk2BeamCheck (s : State) : Host.Outcome State Fault Refusal :=
  answer s (s.when (!s.native) fun s => s.take 9 0x05 fun o b _ s =>
    s.checked o (xk2HeaderChecks b 0 ++ [(16, leAt b 16 4 == 1048576)] ++ zeroBytes b 20 32) fun s =>
      s.unless o s.beamChecks fun s => s.startBeamCheck o (leAt b 8 8) true)

/-! ### SWITCH_BACK (R346) -/

/-- Something at INDEX can be switched back. -/
def State.switched (s : State) (what index : Nat) : Bool :=
  match what with
  | 0 => s.flag (spareUsed index)
  | 1 => s.reg Reg.LPR_ENGINE_STANDBY == 1
  | _ => bitOf (s.reg Reg.FLT_STATUS_SLICE_FAILED) index

/-- A spare lane is given back: its data lane carries itself again, and the spare is in standby (R217). -/
def State.laneBack (s : State) (g : Nat) : State :=
  let i := s.reg (spareLane g)
  ((s.setRegs [(spareUsed g, 0), (spareLane g, 0), (Reg.MPH_LSTATE_STATE g i, laneL0), (Reg.MPH_LSTATE_TRAINED g i, 1),
    (Reg.MPH_GRP_STATUS_SPARE_FIT g, 0)]).onGroup g fun k =>
    { k with reports := [], failed := k.failed.filter (· != i) }).spareStandby g

/-- Start or finish what SWITCH_BACK asks for. -/
def State.startSwitch (s : State) (o : Origin) (what index : Nat) (lanePass : Bool) : State :=
  match what with
  | 0 => if lanePass then (s.laneBack index).done o .ok else s.done o .linkTrainFail
  | 1 => { s with jobs := s.jobs ++ [.switchLooper o] }
  | _ =>
    let t : State := s.onSlice index fun c => { c with testing := true, bands := [] }
    let u : State := { t with jobs := t.jobs ++ [CmdJob.switchSlice o index] }
    u.setRegs [(Reg.SLC_DROPS_MIG_DROPPED index, 0), (Reg.SLC_DROPS_SHADOW_DROPPED index, 0)]

/-- INDEX within its range: groups 0 to 15, 0 for the Looper, slices 0 to 3. -/
def switchIndexGood (what index : Nat) : Bool := match what with | 0 => index < 16 | 1 => index == 0 | _ => index < 4

/-- SWITCH_BACK (R346): `lanePass` is whether the named data lane passed training and verification. -/
def execSwitchBack (lanePass : Bool) (s : State) : Host.Outcome State Fault Refusal :=
  answer s (s.when s.native fun s => s.take 8 0x0B fun o b _ s =>
    let what := byteAt b 8
    s.checked o (headerChecks b 0 ++ [(8, decide (what ≤ 2)), (9, switchIndexGood what (byteAt b 9))] ++ zeroBytes b 10 64) fun s =>
      s.unless o [(!s.stripeMoving, .notInMode, 0), (!(what == 2 && s.part == .fx632), .notInMode, 0),
          (s.switched what (byteAt b 9), .badAddress, 0)] fun s => s.startSwitch o what (byteAt b 9) lanePass)

/-! ### AXIS_MOVE, AXIS_STOP (R267, R347, R388, R390) -/

/-- A new Y target can be reached without reversing from the present set-point (R267). -/
def State.yAhead (s : State) (l : YLimits) (target : Int) : Bool :=
  let v := s.stage.spVel
  let m : Rat := ((if 0 ≤ v then target - s.stage.spPos else s.stage.spPos - target : Int) : Rat) / 64
  v == 0 || distFits ((v.natAbs : Nat) : Rat) ((l.amax : Nat) * 1000000) ((l.jmax : Nat) * 1000000000) m

/-- A Y move replaced by a retarget completes with SUPERSEDED (R347). -/
def State.ySuperseded (s : State) (m : YMove) : State :=
  match m.origin with
  | some o => (s.complete { Completion.mk' o .ok m.overshoot (s.nmOf (m.target - s.stage.spPos)) 0 with superseded := true }).drawn
  | none => s

/-- A Y target within the soft limits, µm (R267). -/
def State.yWithin (s : State) (t : Int) : Bool := decide (s.sreg Reg.SKP_YMIN_Y * 64000 ≤ t ∧ t ≤ s.sreg Reg.SKP_YMAX_Y * 64000)

/-- Checks of a Y move in order. -/
def State.yChecks (s : State) (resume : Bool) (t : Int) : List (Bool × Status × Nat) :=
  [(!resume, .notInMode, 0), (!s.stripes.any (fun p => p.state != .held), .notInMode, 0), (s.flag Reg.STG_CTL_SP_EN, .notInMode, 0),
   (s.moveBlocked != some .estop, .estop, 0), (s.moveBlocked.isNone, .notInMode, 0), (s.yWithin t, .axisLimit, 0)]

/-- The limits of a Y move: a running move's, else SKP_VA and SKP_JE as they stand (R255, R267). -/
def State.yLimits (s : State) : YLimits :=
  match s.stage.yMove with
  | some m => m.limits
  | none => ⟨s.reg Reg.SKP_VA_VMAX, s.reg Reg.SKP_VA_AMAX, s.reg Reg.SKP_JE_JMAX, s.reg Reg.SKP_JE_EDEC⟩

/-- Start or retarget the Y move. -/
def State.yGo (s : State) (o : Origin) (t : Int) : State :=
  let a := match s.stage.yMove with | some m => s.ySuperseded m | none => s
  let stops := match s.stage.yMove with | some m => m.stopCmd | none => []
  let m : YMove := ⟨some o, t, !s.yAhead s.yLimits t, none, stops, 0, s.yLimits⟩
  { a with stage := { a.stage with yMove := some m } }

/-- Checks of an aux move before its profile's. -/
def State.auxChecks (s : State) (n : Nat) (resume : Bool) : List (Bool × Status × Nat) :=
  [(!resume || ((s.auxAxis n).kept.isSome && (s.auxAxis n).move.isNone), .notInMode, 0), (!(s.checking && s.shuttleAxis == n), .notInMode, 0),
   (s.moveBlocked != some .estop, .estop, 0), (s.moveBlocked.isNone, .notInMode, 0)]

/-- An aux move: to a target, or on to the kept one. -/
def State.auxMoveTo (s : State) (o : Origin) (n : Nat) (resume : Bool) (t : Int) : State :=
  s.unless o (s.auxChecks n resume) fun s => s.auxGo n o (if resume then (s.auxAxis n).kept.getD t else t)

/-- TARGET is in the axis's range, and 0 with RESUME (R347). -/
def targetGood (axis : Nat) (resume : Bool) (t : Int) : Bool :=
  (!resume || t == 0) && (axis == 0 || decide (-2147483648 ≤ t ∧ t ≤ 2147483647))

/-- AXIS_MOVE (R347). -/
def execAxisMove (s : State) : Host.Outcome State Fault Refusal :=
  answer s (s.when s.native fun s => s.take 8 0x0C fun o b _ s =>
    let axis := byteAt b 8
    let resume := bitOf (byteAt b 1) 0
    let t := s64 b 16
    s.checked o (headerChecks b 1 ++ [(8, decide (axis ≤ 4))] ++ zeroBytes b 9 16 ++ [(16, targetGood axis resume t)] ++ zeroBytes b 24 64) fun s =>
      if axis = 0 then s.unless o (s.yChecks resume t) fun s => s.yGo o t else s.auxMoveTo o (axis - 1) resume t)

/-- Stop the host's Y move (R267, R347). -/
def State.yHalt (s : State) (o : Origin) : State :=
  match s.stage.yMove with
  | some m => { s with stage := { s.stage with yMove := some { m with stopping := some (m.stopping.getD .ok), stopCmd := m.stopCmd ++ [o] } } }
  | none => s.done o .ok

/-- AXIS_STOP (R347). -/
def execAxisStop (s : State) : Host.Outcome State Fault Refusal :=
  answer s (s.when s.native fun s => s.take 8 0x0D fun o b _ s =>
    let axis := byteAt b 8
    s.checked o (headerChecks b 0 ++ [(8, decide (axis ≤ 4))] ++ zeroBytes b 9 64) fun s =>
      if axis = 0 then (if s.stripeMoving then s.done o .notInMode else s.yHalt o) else s.auxHaltFor (axis - 1) o)

/-- AUX_MOVE (R417): TARGET is signed steps; a value beyond 32 bits is out of range. -/
def execAuxMove (s : State) : Host.Outcome State Fault Refusal :=
  answer s (s.when (!s.native) fun s => s.take 9 0x06 fun o b _ s =>
    let n := byteAt b 24
    let resume := bitOf (byteAt b 1) 0
    s.checked o (xk2HeaderChecks b 1 ++ [(8, targetGood 1 resume (s64 b 8))] ++ zeroBytes b 16 24 ++ [(24, decide (n < 4))]
        ++ zeroBytes b 25 32) fun s => s.auxMoveTo o n resume (s64 b 8))

/-- AUX_STOP (R417). -/
def execAuxStop (s : State) : Host.Outcome State Fault Refusal :=
  answer s (s.when (!s.native) fun s => s.take 9 0x07 fun o b _ s =>
    let n := byteAt b 24
    s.checked o (xk2HeaderChecks b 0 ++ zeroBytes b 8 24 ++ [(24, decide (n < 4))] ++ zeroBytes b 25 32) fun s => s.auxHaltFor n o)

/-- XK2_UNKNOWN_OP (R417). -/
def execXk2UnknownOp (s : State) : Host.Outcome State Fault Refusal :=
  answer s (match s.head? 9 with
    | none => s
    | some d => s.when (!xk2OpKnown (byteAt d.desc 0) && !s.native) fun s =>
        (s.onSub 9 fun r => { r with fetched := r.fetched.drop 1 }).done (d.origin 9) .badOpcode)

end Sys2Proof.Machine
end

