-- ==== Sys2Proof/Machine/Sweep.lean ====
section
/-! DEFINITION. What a sweep makes of its scans (R303 to R305): eyes, centres, repair lanes, and the regions of HBM (R297). -/
namespace Sys2Proof.Machine

/-! ### Regions (R297) -/

/-- The regions of device addresses. -/
inductive MemRegion where | staging | grids | images | ledger | reports | tables | store
  deriving DecidableEq, Repr

/-- The region of a device address. -/
def memRegion (a : Nat) : MemRegion :=
  if a < 0x200000000 then .staging else if a < 0x220000000 then .grids else if a < 0x260000000 then .images
  else if a < 0x270000000 then .ledger else if a < 0x274000000 then .reports else if a < 0x280000000 then .tables else .store

/-- The regions in which a requester's data lies. -/
def regionsOf : Requester → List MemRegion
  | .ingest | .staging | .bins => [.staging]
  | .cache => [.store]
  | .grid => [.grids]
  | .residue | .band => [.store, .images]
  | .ledger => [.ledger]
  | .report => [.reports]
  | .tables => [.tables]
  | .tableLoad => [.tables, .grids]

/-! ### Eyes (R303) -/

/-- The run of passing taps that begins at a tap. -/
def runFrom (v : BitVec 64) (tap : Nat) : Nat := (firstIndex (fun i => !v.getLsbD (tap + i)) 0 64).getD 64

/-- The longest run of passing taps, the first of equals: its first tap and its length. -/
def longestRun (v : BitVec 64) : Nat × Nat :=
  (List.range 64).foldl (fun best i => if best.2 < runFrom v i then (i, runFrom v i) else best) (0, 0)

/-- The centre of an eye, rounded down. -/
def eyeCentre (v : BitVec 64) : Nat := let r := longestRun v; (2 * r.1 + r.2 - 1) / 2

/-- An eye narrower than 16 taps. -/
def eyeNarrow (v : BitVec 64) : Bool := decide ((longestRun v).2 < 16)

/-- The delays a scan asks for. -/
def scanCentres (e : EyeScan) : Nat × Nat := (eyeCentre e.read, eyeCentre e.write)

/-- An eye of a scan is too narrow. -/
def scanNarrow (e : EyeScan) : Bool := eyeNarrow e.read || eyeNarrow e.write

/-- A DQ fails at a lane's chosen centres, or its own eye is too narrow. -/
def dqFails (c : Nat × Nat) (e : EyeScan) : Bool := scanNarrow e || !e.read.getLsbD c.1 || !e.write.getLsbD c.2

/-- The taps within 8 of a saved centre, which a fast sweep searches (R305). -/
def nearTaps (c : Nat) (v : BitVec 64) : BitVec 64 :=
  BitVec.ofNat 64 (((List.range 64).map fun i => if v.getLsbD i ∧ i ≤ c + 8 ∧ c ≤ i + 8 then 2 ^ i else 0).sum)

/-- A scan that searches only around saved centres. -/
def scanNear (c : Nat × Nat) (e : EyeScan) : EyeScan := ⟨nearTaps c.1 e.read, nearTaps c.2 e.write⟩

/-- What a byte lane comes to: its delays, the repair lanes it takes, and whether it still fails after repair. -/
structure LaneResult where
  delays : Nat × Nat
  repairs : Nat
  failed : Bool
  deriving DecidableEq, Repr

/-- A byte lane's part of a full sweep (R303): the centres of its eyes; a narrow one is tested DQ by DQ, the failing ones are steered
onto repair lanes, and the lane is swept again. -/
def fullSweep (l : LaneScan) : LaneResult :=
  let bad := l.dqs.countP (dqFails (scanCentres l.lane))
  if !scanNarrow l.lane || bad == 0 then ⟨scanCentres l.lane, 0, false⟩ else ⟨scanCentres l.again, bad, scanNarrow l.again⟩

/-- A byte lane's part of a sweep: a fast one searches around the saved centres, and is full for a lane that fails there (R305). -/
def laneSweep (l : LaneScan) (saved : Option (Nat × Nat)) : LaneResult :=
  match saved with
  | some c => if scanNarrow (scanNear c l.lane) then fullSweep l else ⟨scanCentres (scanNear c l.lane), 0, false⟩
  | none => fullSweep l

/-- What a PC's lanes come to, `saved` being the delays that a fast sweep starts from. -/
def pcSweep (r : SweepPc) (saved : List (Nat × Nat)) : List LaneResult := r.lanes.mapIdx fun i l => laneSweep l saved[i]?

end Sys2Proof.Machine
end

