-- ==== Sys2Proof/Machine/Hbm.lean ====
section
/-! DEFINITION. HBM (chapter 12): words and their codes, requests, strong decodes, hard words, what a lost word costs its
requester (R300 to R302), retry buffers, sweeps, refresh, and the flip mask. -/
namespace Sys2Proof.Machine

/-! ### Words (R310, R314, R317) -/

/-- Ones in the low `n` bits of a number. -/
def onesIn (v : Nat) : Nat → Nat
  | 0 => 0
  | n + 1 => b2n (bitOf v n) + onesIn v n

/-- The bits a word's cells hold. -/
def HbmWord.stored (w : HbmWord) : BitVec 64 := w.word ^^^ w.err.setWidth 64

/-- What the light code finds (R310). -/
inductive Light where
  | clean
  | fix (bit : Nat)
  | bad
  | poisoned
  deriving DecidableEq, Repr

/-- The light code's finding where the manual does not determine it. -/
def lightFree (n : Nat) : Light :=
  match n with | 0 => .clean | 1 => .bad | 2 => .poisoned | k + 3 => .fix (k % 72)

/-- The light code over a word: clean, a single-bit error, a double-bit error, or the poison pattern (R310, R314). -/
def HbmWord.light (w : HbmWord) : Light :=
  let n := onesIn w.err.toNat 72
  if w.poison then (if n = 0 then .poisoned else lightFree (Config.lightCode true w.err))
  else if n = 0 then .clean
  else if n = 1 then .fix (((List.range 72).find? fun i => w.err.getLsbD i).getD 0)
  else if n = 2 then .bad
  else lightFree (Config.lightCode false w.err)

/-- The data after the correction of a bit; check bits lie above bit 63. -/
def HbmWord.fixed (w : HbmWord) (bit : Nat) : BitVec 64 :=
  if bit < 64 then w.stored ^^^ (1 <<< bit : BitVec 64) else w.stored

/-- What a word reads as, where the light code alone delivers it. -/
def HbmWord.reads (w : HbmWord) : Option (BitVec 64) :=
  match w.light with
  | .clean => some w.stored
  | .fix b => some (w.fixed b)
  | .bad | .poisoned => none

/-- A word written with the poison pattern (R314). -/
def HbmWord.poisonOf (d : BitVec 64) : HbmWord := ⟨d, d, 0, true⟩

/-- PC and local page of a word key. -/
def keyPc (key : Nat) : Nat := key / 2 ^ 27
def keyPage (key : Nat) : Nat := key % 2 ^ 27 / 256

/-- The keys of the words of a page. -/
def pageKeys (pc page : Nat) : List Nat := (List.range 256).map fun i => hbmKey pc (256 * page + i)

/-- The key of the word at a device address (R298). -/
def State.memKey (s : State) (addr : Nat) : Nat := let p := hbmPlace s.hbm.map addr; hbmKey p.1 p.2

/-! ### What a lost word costs (R300 to R302) -/

/-- A package of an id goes before tick 0 of its stripe: refused with the memory status (R302). A stripe already travelling
gives up its launched frame with END and VETO. -/
def State.refuseStaged (s : State) (k : Package) (r : PkgRefusal) : State :=
  let a := (match s.stripe? k.stripe with
    | none => s
    | some p =>
      let b := (match p.run with
        | some run => s.when (run.announced && decide (run.first < run.next)) fun s => s.broadcast p run.next { endRun := true, veto := true } []
        | none => s)
      (b.unbind p (Completion.mk' p.owner r.status r.d0 r.d1 r.d2)).xk2Err p.xk2)
  let b := a.dropPackage k.stripe
  { b with refused := b.refused.filter (fun q : PkgRefusal => q.stripe != r.stripe) ++ [r] }

/-- The stripe of a package has ticked (R301, R302). -/
def Stripe.hasTicked (p : Stripe) : Bool :=
  p.state == .held || (match p.run with | some r => r.ticked || r.repair || decide (0 < r.index) || r.kind == .resume | none => false)

/-- A staged package is damaged (R301, R302): during its stripe it is released and the stripe aborts. -/
def State.stagedLost (s : State) (k : Package) (st : Status) (off : Nat) : State :=
  match s.stripe? k.stripe with
  | some p =>
    if p.hasTicked then
      ((s.when p.state.moving (·.abort .memUncorrectable)).onStripe k.stripe fun q => { q with needPkg := some k.check }).dropPackage k.stripe
    else s.refuseStaged k (flxRefusal k.stripe st off 0)
  | none => s.refuseStaged k (flxRefusal k.stripe st off 0)

/-- Packages being assembled, by channel. -/
def State.assemblies (s : State) : List (Nat × Assembly) :=
  (List.range 8).filterMap fun ch => ((s.channel ch).pkg).map fun a => (ch, a)

/-- The package offset of the first byte of a staged word: where in staging a package lies is free (R297, R302; log 12). -/
def stagedOffset (stripe addr len : Nat) : Nat := (8 * (addr / 8) + Config.stagingBase stripe) % len

/-- A damaged word of staging (R301, R302), logged whatever its status; which package it belongs to is a free value. -/
def State.stagingLost (s : State) (st : Status) (addr : Nat) : State :=
  let n := s.assemblies.length
  let i := Config.hbmWhere s.draw 0 % (n + s.packages.length)
  let t := s.drawn.logMem 3 st (keyPc (s.memKey addr)) addr
  if i < n then
    (match s.assemblies[i]? with
      | some (ch, a) =>
        let off := stagedOffset a.stripe addr a.bytes.length
        t.refusePackage ch a off (flxRefusal a.stripe st off 0)
      | none => t)
  else
    match s.packages[i - n]? with
    | some k => t.stagedLost k st (stagedOffset k.stripe addr k.flx.offset)
    | none => t

/-- The element of a list that a free value names. -/
def pick {α : Type} (l : List α) (n : Nat) : Option α := l[n % l.length]?

/-- A slice expands one of its bands again. -/
def State.binsLost (s : State) : State :=
  let w := Config.hbmWhere s.draw
  let i := (pick ((List.range 5).filter fun i => !(s.slice i).bands.isEmpty) (w 0)).getD 0
  (s.onSlice i fun c => { c with bands := c.bands.eraseIdx (w 1 % c.bands.length) }).drawn

/-- A tile of the cache is rasterized again, a cache-check failure (R111). -/
def State.cacheLost (s : State) : State :=
  let w := Config.hbmWhere s.draw
  let t := s.drawn.count 19 3 1
  match pick (s.packages.flatMap fun k => (k.tiles.filter fun e => !e.2.blocks.isEmpty).map fun e => (k.stripe, e.1)) (w 0) with
  | some (id, key) =>
    let col := key % 16
    let row := key / 16
    let slice := if s.reg Reg.FLT_STATUS_MOLT_SECTOR = col / 4 then 4 else col / 4
    (t.onPackage id fun k => k.onTile col row fun x => { x with redo := true }).replaceTile slice id col row
  | none => t

/-- A finished grid is computed again, its word at an address having failed a sector's filler (R161); which sector read it is a
free value. -/
def State.gridLost (s : State) (addr : Nat) : State :=
  let w := Config.hbmWhere s.draw
  match pick (s.stripes.filter fun p => p.grid.isSome) (w 0) with
  | some p => s.drawn.gridDamaged p.par.id (w 1 % 4) (s.memKey addr)
  | none => s.drawn

/-- Eight residues of a row are lost (R300). -/
def State.residueLost (s : State) : State :=
  let w := Config.hbmWhere s.draw
  match pick s.stripes (w 0) with
  | some p => s.drawn.cutPixels p.par.id (8 * (w 1 % 512)) (8 * (w 1 % 512) + 7) (w 2 % p.par.len)
  | none => s.drawn

/-- Eight cells of a band residue record that a bound stripe reads are lost (R300). -/
def State.bandLost (s : State) : State :=
  let w := Config.hbmWhere s.draw
  match pick (s.stripes.filter fun p => p.par.left == .close || p.par.right == .close) (w 0) with
  | some p =>
    let left := p.par.left == .close && (p.par.right != .close || w 3 % 2 == 0)
    let x := (if left then 0 else 4096 - p.par.b) + 8 * (w 1 % (p.par.b / 8))
    s.drawn.cutPixels p.par.id x (x + 7) (w 2 % p.par.len)
  | none => s.drawn

/-- A ledger entry is lost: its pixel is reported CUT and the entry freed (R300). -/
def State.entryLost (s : State) : State :=
  let w := Config.hbmWhere s.draw
  match pick (s.stripes.flatMap fun p => p.ledger.map fun e => (p.par.id, e.1)) (w 0) with
  | some (id, key) => s.drawn.cutPixels id (key % 4096) (key % 4096) (key / 4096)
  | none => s.drawn

/-- A report with one of its records replaced by a TRUNC region of the whole stripe. -/
def Report.lose (r : Report) (n : Nat) : Report :=
  let whole := region repTrunc 0 0 4095 ((r.len : Int) - 1)
  { r with records := r.records.mapIdx fun j x => if j == n % r.records.length then whole else x }

/-- A report record is lost: one TRUNC region for the whole stripe stands in its place (R300). -/
def State.reportLost (s : State) : State :=
  let w := Config.hbmWhere s.draw
  let t := s.drawn
  { t with reports := t.reports.mapIdx fun i r => if i == w 0 % t.reports.length then r.lose (w 1) else r }

/-- The beam table and the defect map stand in the persistent area (R296, R300). -/
def State.tablesHeld (s : State) : Bool := s.flag Reg.BEM_STATUS_BT_VALID && s.flag Reg.BEM_STATUS_DM_VALID

/-- A bound copy of a table is lost (R300): its original is read, and where both mirrors of that are gone too the STRIPE_BEGIN that
waits on it completes with ST_BAD_ADDRESS; which stripe it is, is a free value. -/
def State.tableLost (s : State) : State :=
  s.when (!s.tablesHeld) fun s =>
    match pick (s.stripes.filter fun p => p.state == .bound) (Config.hbmWhere s.draw 0) with
    | some p => s.drawn.unbind p (Completion.mk' p.owner .badAddress 0 0 0)
    | none => s.drawn

/-- A requester meets ST_MEM_UNCORRECTABLE or ST_MEM_POISONED in a region of its own (R297, R300). -/
def State.wordMissed (s : State) (who : Requester) (st : Status) (addr : Nat) : State :=
  if !(regionsOf who).contains (memRegion addr) then s
  else match who with
  | .staging => s.stagingLost st addr
  | .bins => s.binsLost
  | .cache => s.cacheLost
  | .grid => s.gridLost addr
  | .residue => s.residueLost
  | .band => s.bandLost
  | .ledger => s.entryLost
  | .report => s.reportLost
  | .tables => s.tableLost
  | .ingest | .tableLoad => s

/-- What a requester receives. -/
def State.answerMem (s : State) (r : HbmReq) (st : Status) (data : BitVec 64) : State :=
  let t := s.emit (.memory st r.addr (if st = .ok then data else 0))
  if st = .ok then t else t.wordMissed r.who st r.addr

/-! ### Commands to the stacks (R300, R307, R308) -/

/-- A channel. -/
def State.hbmChannel (s : State) (ch : Nat) : HbmChannel := vget s.hbm.channels ch ⟨[], false, 0⟩

/-- Change a channel. -/
def State.onHbmChannel (s : State) (ch : Nat) (f : HbmChannel → HbmChannel) : State :=
  { s with hbm := { s.hbm with channels := vmod s.hbm.channels ch f } }

/-- A command of a PC enters its channel's retry buffer of 64 (R308). -/
def State.issue (s : State) (pc : Nat) (c : HbmCmd) : State :=
  s.onHbmChannel (pc / 2) fun k => { k with retry := let l := k.retry ++ [c]; l.drop (l.length - 64) }

/-- RD_N in force: 1 to 3 act as 4 (R321). -/
def State.rdN (s : State) : Nat := let n := s.reg Reg.MEM_CTL_RD_N; if n = 0 then 0 else max 4 n

/-- Activate a page's row: the row-disturb draw, and the refresh of its neighbours where it hits (R307). -/
def State.activate (s : State) (pc page : Nat) : State :=
  let n := s.rdN
  let a := (s.issue pc (.activate pc page)).count 18 4 1
  if n = 0 then a
  else
    let x := Config.hbmLfsr n (vget s.hbm.lfsr pc 0)
    let b : State := { a with hbm := { a.hbm with lfsr := vmod a.hbm.lfsr pc fun _ => x } }
    b.when (decide (x.toNat % 2 ^ n = 0)) fun b =>
      (((b.issue pc (.refresh pc)).emit (.refresh pc true)).addReg Reg.MEM_RD_REFRESH_COUNT 1).count 18 5 1

/-- The bank of a word: of its PC, by its page. -/
def wordBank (key : Nat) : Nat := 64 * Config.hbmBank (keyPage key) + keyPc key

/-- Another requester waits on a bank (R300). -/
def State.bankWanted (s : State) (bank : Nat) (who : Requester) : Bool :=
  s.hbm.waiting.any fun q => q.who != who && wordBank (s.memKey q.addr) == bank

/-- Open a word's row where it is not open; it closes after a CLOSE request, and after 64 accesses in a row while another requester
waits on its bank (R300). -/
def State.openRow (s : State) (key : Nat) (who : Requester) (hint : PageHint) : State :=
  let bank := wordBank key
  let served := (s.hbm.openRows.find? fun r => r.1 == bank && r.2.1 == keyPage key).map fun r => r.2.2
  let a := s.when served.isNone (·.activate (keyPc key) (keyPage key))
  let n := served.getD 0 + 1
  let kept := if hint = PageHint.openRow ∧ !(decide (64 ≤ n) && s.bankWanted bank who) then [(bank, keyPage key, n)] else []
  { a with hbm := { a.hbm with openRows := (a.hbm.openRows.filter fun r => r.1 != bank) ++ kept } }

/-! ### Hard words (R316, R317) -/

/-- A word whose error came back after its write-back: moved into the remap table with its corrected data, or left in place
with its error when the table is full (R317). -/
def State.harden (s : State) (key addr : Nat) (good bad : HbmWord) : State :=
  let pc := keyPc key
  let t := s.logMem 5 .ok pc addr
  if s.hbm.remap.length < 32 then
    { t with hbm := { t.hbm with remap := t.hbm.remap ++ [(key, good)],
                                 words := SMap.set (fun _ => HbmWord.zero) t.hbm.words key HbmWord.zero } }.setReg
      Reg.MEM_REMAP_USED (s.hbm.remap.length + 1)
  else
    let u := t.setMemWord key bad
    if s.hbm.hard.contains key then u
    else ({ u with hbm := { u.hbm with hard := key :: u.hbm.hard } }.setReg Reg.MEM_REMAP_FULL 1).memEvent 5 .ok pc addr

/-- A corrected word is written back and read once more (R316). -/
def State.writeBack (s : State) (key addr : Nat) (good bad : HbmWord) (hard : Bool) : State :=
  if hard && !s.hbm.remap.any (fun e => e.1 == key) then s.harden key addr good bad else s.setMemWord key good

/-! ### The flip mask (R320) -/

/-- The mask of 72 bits. -/
def State.flipMask (s : State) : BitVec 72 :=
  BitVec.ofNat 72 (s.reg Reg.MEM_FLIP_LO_MASK + 2 ^ 32 * s.reg Reg.MEM_FLIP_MID_MASK + 2 ^ 64 * s.reg Reg.MEM_FLIP_HI_MASK)

/-- MEM_FLIP_ADDR, a byte address of a word. -/
def State.flipAddr (s : State) : Nat := 8 * s.reg Reg.MEM_FLIP_ADDR_LO_ADDR + 2 ^ 32 * s.reg Reg.MEM_FLIP_ADDR_HI_ADDR

/-- The armed mask meets this write. -/
def State.flips (s : State) (addr : Nat) : Bool :=
  s.flag Reg.MEM_FLIP_CTL_ARM && (!s.flag Reg.MEM_FLIP_CTL_ADDR_MATCH || s.flipAddr == 8 * (addr / 8))

/-! ### The check area (R296, R311 to R313) -/

/-- The key of word j, 0 to 31, of a page's check symbols. -/
def checkKey (pc page j : Nat) : Nat := hbmKey pc (32 * page + j)

/-- A word of check symbols as it reads: its error alone matters. -/
def State.checkWord (s : State) (pc page j : Nat) : HbmWord := ⟨0, 0, SMap.get (fun _ => 0) s.hbm.checkErr (checkKey pc page j), false⟩

/-- A page's check symbols are computed afresh, or rewritten: their words have no error then. -/
def State.freshChecks (s : State) (pc page : Nat) : State :=
  { s with hbm := { s.hbm with checkErr := (List.range 32).foldl (fun m j => SMap.erase m (checkKey pc page j)) s.hbm.checkErr } }

/-- What has befallen the words of a page's check symbols since they were last read. -/
def State.upsetChecks (s : State) (pc page : Nat) (l : List (Fin 32 × BitVec 72)) : State :=
  { s with hbm := { s.hbm with checkErr := l.foldl (fun m e => SMap.set (fun _ => 0) m (checkKey pc page e.1)
      (SMap.get (fun _ => 0) m (checkKey pc page e.1) ^^^ e.2)) s.hbm.checkErr } }

/-- A whole word is stored, with the flip mask where it is armed for it (R315, R320). -/
def State.storeWhole (s : State) (key addr : Nat) (d : BitVec 64) : State :=
  if s.flips addr then (s.setMemWord key { HbmWord.of d with err := s.flipMask }).setReg Reg.MEM_FLIP_CTL_ARM 0
  else s.setMemWord key (HbmWord.of d)

/-! ### Serving a request (R305, R308, R312 to R316) -/

/-- The eight bytes of a word with a write's bytes put in. -/
def mergeBytes (old : BitVec 64) (addr : Nat) (bs : List Byte) : BitVec 64 :=
  BitVec.ofNat 64 (ofLe ((List.range 8).map fun i =>
    if addr % 8 ≤ i ∧ i < addr % 8 + bs.length then bs.getD (i - addr % 8) 0 else BitVec.ofNat 8 (old.toNat / 256 ^ i)))

/-- The request writes a whole word. -/
def HbmReq.wholeWord (r : HbmReq) : Bool := match r.bytes with | some b => b.length == 8 | none => false

/-- A request of a later place waits on the same word with a full write, so that a write-back is dropped (R316). -/
def State.overtaken (s : State) (key : Nat) : Bool := s.hbm.waiting.any fun q => q.wholeWord && s.memKey q.addr == key

/-- The page of a word is locked by a strong decode (R313). -/
def State.pageLocked (s : State) (key : Nat) : Bool :=
  s.hbm.decodes.any fun d => let k := s.memKey d.addr; keyPc k == keyPc key && keyPage k == keyPage key

/-- A request that must wait (R305, R308, R313). -/
def State.mustWait (s : State) (key : Nat) : Bool :=
  s.flag Reg.MEM_STATUS_SWEEPING || (s.hbmChannel (keyPc key / 2)).alert || s.pageLocked key

/-- A PC in service. -/
def State.pcLive (s : State) (pc : Nat) : Bool := bitOf (s.reg (Reg.MEM_PC_LIVE (pc / 32))) (pc % 32)

/-- A page's strong decode begins (R313). -/
def State.beginDecode (s : State) (r : HbmReq) : State :=
  { s with hbm := { s.hbm with decodes := s.hbm.decodes ++ [r] } }.count 18 1 1

/-- A read (R313). -/
def State.readWord (s : State) (key : Nat) (r : HbmReq) : State :=
  let w := { s.memWord key with err := (s.memWord key).err ^^^ r.upset }
  let t := s.setMemWord key w
  match w.light with
  | .clean => t.answerMem r .ok w.stored
  | .fix b =>
    let good : HbmWord := { HbmWord.of (w.fixed b) with data := w.data }
    ((t.corrected (keyPc key) r.addr).when (!s.overtaken key) (·.writeBack key r.addr good w r.hard)).answerMem r .ok (w.fixed b)
  | .bad | .poisoned => t.beginDecode r

/-- A write (R312, R315): whole words of a page written whole need no old data; any other finds its old word decoded. -/
def State.writeWord (s : State) (key : Nat) (r : HbmReq) (bs : List Byte) : State :=
  let w := { s.memWord key with err := (s.memWord key).err ^^^ r.upset }
  let d := mergeBytes (w.reads.getD 0) r.addr bs
  if r.whole then ((s.storeWhole key r.addr d).freshChecks (keyPc key) (keyPage key)).answerMem r .ok 0
  else
    match w.light with
    | .clean => if r.wholeWord then (s.storeWhole key r.addr d).answerMem r .ok 0
      else (s.setMemWord key (HbmWord.of d)).answerMem r .ok 0
    | .fix _ =>
      let t := s.corrected (keyPc key) r.addr
      (if r.wholeWord then t.storeWhole key r.addr d else t.setMemWord key (HbmWord.of d)).answerMem r .ok 0
    | .bad | .poisoned => (s.setMemWord key w).beginDecode r

/-- Serve a request, or let it wait; a word of a PC out of service is lost (R304). -/
def State.serve (s : State) (r : HbmReq) : State :=
  let key := s.memKey r.addr
  if s.mustWait key then { s with hbm := { s.hbm with waiting := s.hbm.waiting ++ [r] } }
  else if !s.pcLive (keyPc key) then s.answerMem r .memUncorrectable 0
  else
    match r.bytes with
    | none => (((s.openRow key r.who r.hint).issue (keyPc key) (.read key)).count 18 0 1).readWord key r
    | some bs => ((s.openRow key r.who r.hint).issue (keyPc key) (.write key)).writeWord key r bs

/-- Requests that waited are served in their order. -/
def State.serveWaiting (s : State) : State :=
  let t : State := { s with hbm := { s.hbm with waiting := [] } }
  t.forAll s.hbm.waiting fun r t => t.serve r

/-- Data addresses end at 672 MiB for each PC of the map (R297). -/
def State.hbmEnd (s : State) : Nat := 672 * 2 ^ 20 * s.hbm.map.length

/-- HBM_READ (R313): `upset` is what has befallen the word's cells since it was last read, `hard` whether a write-back's
read-back finds the error again. -/
def execHbmRead (who : Requester) (hint : PageHint) (addr : Nat) (upset : BitVec 72) (hard : Bool) (s : State) :
    Host.Outcome State Fault Refusal :=
  answer s (s.when (s.clocked && decide (addr < s.hbmEnd)) (·.serve ⟨who, hint, addr, none, false, upset, hard⟩))

/-- A write cut into words: byte address and bytes of each. -/
def wordPieces : Nat → Nat → List Byte → List (Nat × List Byte)
  | 0, _, _ => []
  | fuel + 1, a, bs =>
    if bs.isEmpty then []
    else let n := 8 - a % 8; (a, bs.take n) :: wordPieces fuel (a + n) (bs.drop n)

/-- HBM_WRITE (R312, R315). -/
def execHbmWrite (who : Requester) (hint : PageHint) (addr : Nat) (data : List Byte) (s : State) :
    Host.Outcome State Fault Refusal :=
  answer s (s.when (s.clocked && !data.isEmpty && decide (addr + data.length ≤ s.hbmEnd)) fun s =>
    let wholePage (a : Nat) : Bool := decide (addr ≤ 2048 * (a / 2048) ∧ 2048 * (a / 2048) + 2048 ≤ addr + data.length)
    (s.count 18 2 ((data.length + 63) / 64)).forAll (wordPieces data.length addr data) fun p s =>
      s.serve ⟨who, hint, p.1, some p.2, wholePage p.1, 0, false⟩)

/-! ### Strong decode (R311, R313 to R315) -/

/-- A word is an erasure for the strong code. -/
def HbmWord.erased (w : HbmWord) : Bool := w.reads.isNone

/-- A word that enters a decode with other data than the code protects. -/
def HbmWord.wrong (w : HbmWord) : Bool := match w.reads with | some v => v != w.data | none => false

/-- The decoder succeeds: 2t + e at most 16 over the page's 144 symbols of two words, check symbols included (R311, R313). -/
def State.decodes (s : State) (pc page : Nat) : Bool :=
  let ws := ((List.range 128).map fun i =>
      (s.memWord (hbmKey pc (256 * page + 2 * i)), s.memWord (hbmKey pc (256 * page + 2 * i + 1))))
    ++ (List.range 16).map fun i => (s.checkWord pc page (2 * i), s.checkWord pc page (2 * i + 1))
  let e := ws.countP fun w => w.1.erased || w.2.erased
  let t := ws.countP fun w => !(w.1.erased || w.2.erased) && (w.1.wrong || w.2.wrong)
  decide (2 * t + e ≤ 16)

/-- STRONG_FAIL is armed for a page (R320). -/
def State.strongFail (s : State) (pc page : Nat) : Bool :=
  s.flag Reg.MEM_FLIP_CTL_STRONG_FAIL && decide (s.flipAddr < s.hbmEnd) && keyPc (s.memKey s.flipAddr) == pc
    && keyPage (s.memKey s.flipAddr) == page

/-- A word that a successful decode rewrites: any that did not read as the data the code protects; one confirmed poisoned
keeps its pattern (R313). -/
def HbmWord.repaired (w : HbmWord) : HbmWord :=
  if w.light = .poisoned ∧ w.stored = w.data then w else if w.err = 0 ∧ !w.poison ∧ w.word = w.data then w else HbmWord.of w.data

/-- A successful decode writes its repairs back, check symbols included (R313, R316). -/
def State.repairPage (s : State) (pc page key addr : Nat) (hard : Bool) : State :=
  (s.freshChecks pc page).forAll (pageKeys pc page) fun k s =>
    let w := s.memWord k
    if k = key then s.writeBack k addr w.repaired w hard else s.when (w.repaired != w) (·.setMemWord k w.repaired)

/-- The checks of a page are recomputed from the page as it stands, every other unreadable word poisoned first (R315). -/
def State.recompute (s : State) (pc page key : Nat) : State :=
  (s.freshChecks pc page).forAll ((pageKeys pc page).filter (· != key)) fun k s =>
    let w := s.memWord k
    match w.reads with
    | none => (s.setMemWord k (HbmWord.poisonOf w.stored)).when (w.light == .bad) fun s =>
        (s.addReg Reg.MEM_UE_COUNT 1).count 18 3 1
    | some v => s.setMemWord k { w with data := v }

/-- The decode returned the stored data of a word with the poison syndrome: a confirmed poisoned word (R313, R315). -/
def State.metPoison (s : State) (key : Nat) (r : HbmReq) (w : HbmWord) : State :=
  match r.bytes with
  | none => (s.addReg Reg.MEM_UE_POISON_HITS 1).answerMem r .memPoisoned 0
  | some bs =>
    if r.wholeWord then (s.storeWhole key r.addr (mergeBytes w.stored r.addr bs)).answerMem r .ok 0
    else
      (((s.addReg Reg.MEM_UE_POISON_HITS 1).setMemWord key (HbmWord.poisonOf (mergeBytes w.stored r.addr bs))).count 18 3 1).answerMem
        r .memPoisoned 0

/-- The decode recovered the word (R313, R315). -/
def State.recovered (s : State) (key : Nat) (r : HbmReq) (w : HbmWord) (hard : Bool) : State :=
  let a := (((s.addReg Reg.MEM_STRONG_COUNT 1).logMem 2 .ok (keyPc key) r.addr).repairPage (keyPc key) (keyPage key) key r.addr hard)
  match r.bytes with
  | none => a.answerMem r .ok w.data
  | some bs =>
    let d := mergeBytes w.data r.addr bs
    (if r.wholeWord then a.storeWhole key r.addr d else a.setMemWord key { a.memWord key with data := d, word := d }).answerMem r .ok 0

/-- The decode failed: the word is poisoned, or a write stores what it can (R313 to R315). -/
def State.unrecovered (s : State) (key : Nat) (r : HbmReq) (w : HbmWord) : State :=
  match r.bytes with
  | none => ((s.setMemWord key (HbmWord.poisonOf w.stored)).wordLost 3 .memUncorrectable (keyPc key) r.addr).count 18 3 1 |>.answerMem r
      .memUncorrectable 0
  | some bs =>
    let d := mergeBytes w.stored r.addr bs
    if r.wholeWord then ((s.recompute (keyPc key) (keyPage key) key).storeWhole key r.addr d).answerMem r .ok 0
    else ((s.setMemWord key (HbmWord.poisonOf d)).wordLost 4 .memPoisoned (keyPc key) r.addr).count 18 3 1 |>.answerMem r .memPoisoned 0

/-- STRONG_DECODE_DONE (R313 to R316, R320): the oldest decode ends, its page unlocks, and what waited goes on. `run.checks`
are upsets of the page's check symbols. -/
def execStrongDecodeDone (run : DecodeRun) (s : State) : Host.Outcome State Fault Refusal :=
  answer s (s.when s.clocked fun s => match s.hbm.decodes with
    | [] => s
    | r :: rest =>
      let key := s.memKey r.addr
      let s := s.upsetChecks (keyPc key) (keyPage key) run.checks
      let w := s.memWord key
      let pc := keyPc key
      let page := keyPage key
      let t : State := { s with hbm := { s.hbm with decodes := rest } }
      let u := if s.strongFail pc page then (t.setReg Reg.MEM_FLIP_CTL_STRONG_FAIL 0).unrecovered key r w
        else if !s.decodes pc page then t.unrecovered key r w
        else if w.light = .poisoned ∧ w.data = w.stored then (t.freshChecks pc page).metPoison key r w
        else t.recovered key r w run.hard
      u.serveWaiting)

/-! ### Disabled PCs (R298, R304, R309) -/

/-- LIVE0 and LIVE1 follow the live bits. -/
def State.countLive (s : State) : State :=
  s.setRegs [(Reg.MEM_STATUS_LIVE0, onesIn (s.reg (Reg.MEM_PC_LIVE 0)) 32), (Reg.MEM_STATUS_LIVE1, onesIn (s.reg (Reg.MEM_PC_LIVE 1)) 32)]

/-- With the second of the two PCs that mirror the persistent area, the beam table and the defect map are lost (R296). -/
def State.persistentLost (s : State) : State :=
  s.when (!s.pcLive 0 && !s.pcLive 32) fun s =>
    { s with beams := [], defects := [] }.setRegs [(Reg.BEM_STATUS_BT_VALID, 0), (Reg.BEM_STATUS_DM_VALID, 0)]

/-- A PC goes out of service: its live bit clears, and its words, its check area, its reserve and its remap entries go (R296, R304,
R317). -/
def State.disablePc (s : State) (pc : Nat) : State :=
  let f := Reg.MEM_PC_LIVE (pc / 32)
  let a := (s.setReg f (s.reg f - (s.reg f &&& 2 ^ (pc % 32)))).countLive
  let b : State := { a with hbm := { a.hbm with
    remap := a.hbm.remap.filter fun e => keyPc e.1 != pc
    words := a.hbm.words.filter fun e => keyPc e.1 != pc
    checkErr := a.hbm.checkErr.filter fun e => keyPc e.1 != pc
    hard := a.hbm.hard.filter fun k => keyPc k != pc } }
  (b.setReg Reg.MEM_REMAP_USED b.hbm.remap.length).persistentLost

/-- A PC is disabled after the map was built (R304): its contents are lost, and a warm reset must rebuild the map. -/
def State.losePc (s : State) (pc kind : Nat) : State :=
  s.when (s.pcLive pc) fun s =>
    (((s.disablePc pc).setReg Reg.MEM_STATUS_REHASH_PENDING 1).memEvent kind .ok pc 0).raise 4

/-- The map of R298 is built from the live PCs. -/
def State.buildMap (s : State) : State :=
  { s with hbm := { s.hbm with map := liveMap s.pcLive } }.setRegs
    [(Reg.MEM_STATUS_REHASH_PENDING, 0), (Reg.MEM_CAP_DATA_MIB, 672 * (liveMap s.pcLive).length)]

/-! ### Command and address parity (R308, R309) -/

/-- CA_PARITY_ALERT (R308, R309): the channel stops; an alert during the replay starts it again. -/
def execCaParityAlert (ch : Fin 32) (s : State) : Host.Outcome State Fault Refusal :=
  answer s ((s.when (s.hbmChannel ch).alert fun s => (s.addReg Reg.MEM_CA_REPLAYS 1).count 18 7 1).onHbmChannel ch fun k =>
    { k with alert := true, alerts := k.alerts + 1 })

/-- CA_ALERT_CLEAR (R308): precharge-all, the buffered commands in their order, and normal issue. -/
def execCaAlertClear (ch : Fin 32) (s : State) : Host.Outcome State Fault Refusal :=
  answer s (s.when (s.hbmChannel ch).alert fun s =>
    let a := ((s.emit (.hbmCommand ch .prechargeAll)).forAll (s.hbmChannel ch).retry fun c s => s.emit (.hbmCommand ch c))
    let b : State := { a with hbm := { a.hbm with openRows := a.hbm.openRows.filter fun r => r.1 % 64 / 2 != ch.val } }
    (((b.addReg Reg.MEM_CA_REPLAYS 1).count 18 7 1).onHbmChannel ch fun k => { k with alert := false, alerts := 0 }).serveWaiting)

/-- CHANNEL_FAIL (R309): a fourth alert within one replay disables both PCs; what waits on the channel is lost, and a stripe
aborts. -/
def execChannelFail (ch : Fin 32) (s : State) : Host.Outcome State Fault Refusal :=
  answer s (s.when (decide (4 ≤ (s.hbmChannel ch).alerts)) fun s =>
    let mine (r : HbmReq) : Bool := keyPc (s.memKey r.addr) / 2 == ch.val
    let a := (s.addReg Reg.MEM_CA_FAILED 1).onHbmChannel ch fun _ => ⟨[], false, 0⟩
    let lost := (s.hbm.decodes ++ s.hbm.waiting).filter mine
    let b := ((a.logMem 6 (if lost.isEmpty then .ok else .memUncorrectable) (2 * ch) 0).losePc (2 * ch) 6).losePc (2 * ch + 1) 6
    let c : State := { b with hbm := { b.hbm with waiting := b.hbm.waiting.filter fun r => !mine r } }
    (c.forAll lost fun r c => c.answerMem r .memUncorrectable 0).abort .memTrainFail)

/-! ### Sweeps, rate and refresh (R303 to R307) -/

/-- The rate MEM_CTL asks for; 3 acts as 2 (R321). -/
def State.rateAsked (s : State) : Nat := min 2 (s.reg Reg.MEM_CTL_RATE)

/-- HBM_SWEEP (R303, R305, R306, R431): a due sweep starts between stripes at the rate asked for, so that no change of rate waits for it;
the first from Instar 2. -/
def execHbmSweep (s : State) : Host.Outcome State Fault Refusal :=
  answer s (s.when (s.hbm.sweepDue && !s.flag Reg.MEM_STATUS_SWEEPING && !s.stripes.any (fun p => p.state.moving)
      && decide (2 ≤ s.reg Reg.GLB_STATUS_INSTAR) && s.power.state == .active) fun s =>
    { s with hbm := { s.hbm with sweepDue := false } }.setRegs
      [(Reg.MEM_STATUS_SWEEPING, 1), (Reg.MEM_STATUS_TRAINED, 0), (Reg.MEM_STATUS_RATE, s.rateAsked), (Reg.MEM_STATUS_RATE_PENDING, 0)])

/-- Repair lanes of a PC in MEM_REPAIR (R321). -/
def repairUsed (pc : Nat) : Field := ⟨0x14010 + 4 * (pc / 16), 2 * (pc % 16), 2, .ro, 0, .p⟩

/-- A PC fails a sweep: after a cold reset, up to Instar 3, the map is built without it; at any later time its contents are lost
(R304). -/
def State.failPc (s : State) (pc : Nat) : State :=
  if s.power.cold then s.when (s.pcLive pc) fun s => (s.disablePc pc).raise 4 else s.losePc pc 0

/-- What a PC's lanes come to in the present sweep. -/
def State.sweepResults (s : State) (r : SweepPc) : List LaneResult :=
  pcSweep r (if s.hbm.sweepFast then SMap.get (fun _ => []) s.hbm.delays r.pc else [])

/-- Repair lanes of a PC after the present sweep, those of earlier sweeps among them (R303, R305). -/
def State.repairsAfter (s : State) (r : SweepPc) : Nat := s.reg (repairUsed r.pc) + ((s.sweepResults r).map (·.repairs)).sum

/-- A PC fails the present sweep (R304): a third repair lane, or a lane that still fails after repair. -/
def State.sweepFails (s : State) (r : SweepPc) : Bool := decide (2 < s.repairsAfter r) || (s.sweepResults r).any (·.failed)

/-- A PC's part of a sweep: its repairs and delays, or its loss (R303, R304). -/
def State.sweepPc (s : State) (r : SweepPc) : State :=
  let t : State := { s with hbm := { s.hbm with
    delays := SMap.set (fun _ => []) s.hbm.delays r.pc ((s.sweepResults r).map (·.delays)) } }
  let u := t.setReg (repairUsed r.pc) (min 2 (s.repairsAfter r))
  u.when (s.sweepFails r) (·.failPc r.pc)

/-- A stack's temperature: sensors 6 and 7 (R398). -/
def State.stackTemps (s : State) : Vector Int 2 := #v[s.cal.readings.getD 6 0, s.cal.readings.getD 7 0]

/-- HBM_SWEEP_DONE (R303, R304, R306): a rate asked for meanwhile takes a fresh sweep. -/
def execHbmSweepDone (results : List SweepPc) (s : State) : Host.Outcome State Fault Refusal :=
  answer s (s.when (s.flag Reg.MEM_STATUS_SWEEPING) fun s =>
    let a := s.forAll (results.filter fun r => decide (r.pc < 64)) fun r s => s.sweepPc r
    let again := s.rateAsked != s.reg Reg.MEM_STATUS_RATE
    let b := a.setRegs [(Reg.MEM_STATUS_SWEEPING, 0), (Reg.MEM_STATUS_TRAINED, 1), (Reg.MEM_STATUS_RATE_PENDING, b2n again)]
    let c : State := { b with hbm := { b.hbm with sweepDue := b.hbm.sweepDue || again, sweepFast := false, sweepTemps := s.stackTemps } }
    c.serveWaiting)

/-- A write to MEM_CTL (R305, R306): a second SWEEP during a sweep is ignored; a rate change asks for a sweep at the new
rate, after the one that runs. -/
def memCtlWrite (v : Nat) (s : State) : State :=
  let t := s.writeFields 0x14000 v
  let busy := s.flag Reg.MEM_STATUS_SWEEPING
  let change := t.rateAsked != s.reg Reg.MEM_STATUS_RATE
  let due := (bitOf v 8 && !busy) || (change && !busy)
  let u : State := { t with hbm := { t.hbm with sweepDue := t.hbm.sweepDue || due } }
  u.when (busy && change) (·.setReg Reg.MEM_STATUS_RATE_PENDING 1)

/-- HBM_SWEEP_REQUEST (R305). -/
def execHbmSweepRequest (v : Word) (s : State) : Host.Outcome State Fault Refusal :=
  answer s (s.bus 0x14000 (memCtlWrite v.toNat))

/-- HBM_RATE_REQUEST (R306). -/
def execHbmRateRequest (v : Word) (s : State) : Host.Outcome State Fault Refusal :=
  answer s (s.bus 0x14000 (memCtlWrite v.toNat))

/-- FLIP_ARM (R320). -/
def execFlipArm (v : Word) (s : State) : Host.Outcome State Fault Refusal :=
  answer s (s.bus 0x14054 fun s => s.writeFields 0x14054 v.toNat)

/-- ROW_REFRESH (R300, R307): the PC's open rows close. -/
def execRowRefresh (pc : Fin 64) (s : State) : Host.Outcome State Fault Refusal :=
  answer s (s.when (decide (1 ≤ s.reg Reg.GLB_STATUS_INSTAR)) fun s =>
    let a := (s.issue pc (.refresh pc)).emit (.refresh pc false)
    { a with hbm := { a.hbm with openRows := a.hbm.openRows.filter fun r => r.1 % 64 != pc.val } })

end Sys2Proof.Machine
end

