-- ==== Sys2Proof/Machine/Thermal.lean ====
section
/-! DEFINITION. Temperatures and their thresholds (R218, R259, R398, R399, R405 to R407, R423), performance levels (R442,
R443), calibration items (R400 to R404) and Eyespot's result (R408, R419). -/
namespace Sys2Proof.Machine

/-! ### Performance levels (R407, R442, R443) -/

/-- Change the performance level: the core is gated while the divider switches (R443). -/
def State.setLevel (s : State) (pl : Nat) : State :=
  let t := s.setReg Reg.PWR_STATUS_PL_PENDING 0
  t.when (s.reg Reg.PWR_STATUS_PL != pl) fun t =>
    (((t.setReg Reg.PWR_STATUS_PL pl).count 0 4 1).count 0 1 (Config.switchCycles s.draw)).drawn

/-- Measurements under way are given up; their items run again from the start (R405). -/
def State.abandonItems (s : State) : State :=
  let r := itemsOf (s.reg Reg.CAL_STATUS_RUNNING)
  ((s.setDue r).setReg Reg.CAL_STATUS_RUNNING 0).count 22 3 r.length

/-- The thermal-emergency reduction to a level: never held; groups in EQ or VERIFY restart, and measurements are given up
(R236, R405, R407). -/
def State.emergencyTo (s : State) (pl : Nat) : State :=
  s.when (decide (s.reg Reg.PWR_STATUS_PL < pl)) fun s =>
    let t : State := { s with power := { s.power with emergency := pl } }
    let u := t.forAll (List.range 16) fun g t => t.when (t.grp g == grpEq || t.grp g == grpVerify) (·.retrain g)
    u.abandonItems.setLevel pl

/-! ### Levels of a temperature (R406) -/

/-- A level left when the temperature is below its threshold less HYST; `thr` gives a level's threshold, all in 0.25 °C. -/
def levelDown (t : Int) (thr : Nat → Nat) (hyst : Nat) : Nat → Nat
  | 0 => 0
  | l + 1 => if t < (thr (l + 1) : Int) - hyst then levelDown t thr hyst l else l + 1

/-- The highest level whose threshold is reached. -/
def levelUp (t : Int) (thr : Nat → Nat) : Nat :=
  if (thr 3 : Int) ≤ t then 3 else if (thr 2 : Int) ≤ t then 2 else if (thr 1 : Int) ≤ t then 1 else 0

/-- The level after a reading. -/
def nextLevel (cur : Nat) (t : Int) (thr : Nat → Nat) (hyst : Nat) : Nat :=
  max (levelUp t thr) (levelDown t thr hyst cur)

/-- Die thresholds in 0.25 °C; LIMIT above 100 °C acts as 100, CRIT above 104 as 104 (R407). -/
def State.dieThr (s : State) (l : Nat) : Nat :=
  4 * (match l with | 1 => s.reg Reg.CAL_THR_DIE_WARN | 2 => min 100 (s.reg Reg.CAL_THR_DIE_LIMIT) | _ => min 104 (s.reg Reg.CAL_THR_DIE_CRIT))

/-- EVR THERMAL entries for the levels entered from `lo` up to `hi` (R406). -/
def State.levelEvents (s : State) (source lo hi : Nat) (t : Int) : State :=
  (s.forAll ((List.range (hi - lo)).map fun i => lo + 1 + i) fun l s => s.event 0x04 source l (unsignedOf 16 t)).when
    (decide (hi = 0 ∧ 0 < lo)) (·.event 0x04 source 4 (unsignedOf 16 t))

/-- The cool write stands while the die or the blanker is at warn or above; never in XK2 mode (R259, R407, R423). -/
def State.coolFollows (s : State) : State :=
  { s with stage := { s.stage with cool := s.native && (s.flag Reg.CAL_THERM_DIE_LEVEL || s.flag Reg.CAL_THERM_BLK_LEVEL) } }

/-- The die temperature and the sensor that sets it: the highest valid reading of sensors 0 to 8, no lower than warn while
one of them is invalid (R398, R399). -/
def State.dieTemp (s : State) : Option (Int × Nat) :=
  let valid := (List.range 9).filter fun n => s.flag (Reg.CAL_SENSOR_VALID n)
  let top := valid.foldl (fun a n =>
    let t := s.cal.readings.getD n 0
    match a with | some (u, m) => if u < t then some (t, n) else some (u, m) | none => some (t, n)) (none : Option (Int × Nat))
  match (List.range 9).find? fun n => !s.flag (Reg.CAL_SENSOR_VALID n) with
  | none => top
  | some n => match top with
    | some (u, m) => if u < (s.dieThr 1 : Int) then some ((s.dieThr 1 : Int), n) else some (u, m)
    | none => some ((s.dieThr 1 : Int), n)

/-- The thermal-emergency reduction of a die temperature, with its entry where a slower level is left (R406; log 30). -/
def State.reduceTo (s : State) (pl : Nat) (t : Int) (src : Nat) : State :=
  (s.when (decide (s.reg Reg.PWR_STATUS_PL < pl)) (·.event 0x04 src 5 (unsignedOf 16 t))).emergencyTo pl

/-- What entering a die level does beyond its entry (R406, R407). -/
def State.dieRises (s : State) (lo hi : Nat) (t : Int) (src : Nat) : State :=
  s.when (decide (lo < 2 ∧ 2 ≤ hi)) (fun s =>
    let a := ({ s with cal := { s.cal with dieHot := true } } : State).abort .stripeAborted
    a.reduceTo (if hi = 3 then 2 else min 2 (s.reg Reg.PWR_STATUS_PL + 1)) t src)
  |>.when (decide (2 ≤ lo ∧ lo < 3 ∧ hi = 3)) (·.reduceTo 2 t src)

/-- The die's level follows its temperature (R406). -/
def State.dieFollows (s : State) : State :=
  match s.dieTemp with
  | none => s
  | some (t, src) =>
    let lo := s.reg Reg.CAL_THERM_DIE_LEVEL
    let hi := nextLevel lo t s.dieThr (4 * max 1 (s.reg Reg.CAL_THR_DIE_HYST))
    let a := s.setRegs [(Reg.CAL_THERM_DIE_LEVEL, hi), (Reg.CAL_THERM_HOT_SENSOR, src)]
    let b := (a.levelEvents src lo hi t).when (decide (lo < hi)) (·.raise 1)
    let c : State := if hi = 0 then { b with cal := { b.cal with dieHot := false }, power := { b.power with emergency := 0 } } else b
    ((c.dieRises lo hi t src).coolFollows).when (decide (lo = 3 ∧ hi < 3)) State.serveWaiting

/-! ### The blanker (R218) -/

/-- What entering a blanker level does beyond its entry (R218, R406): at critical every group goes to L1. -/
def State.blkRises (s : State) (lo hi : Nat) : State :=
  let a := s.when (decide (lo < 2 ∧ 2 ≤ hi)) fun s =>
    ({ s with cal := { s.cal with blkHot := true } } : State).abort .blankerHot
  a.when (decide (lo < 3 ∧ hi = 3)) fun a => a.forAll (List.range 16) fun g a => a.when (a.grp g == grpReady) fun a =>
    a.forAll ((List.range 8).filter fun i => a.reg (Reg.MPH_LSTATE_STATE g i) == laneL0) fun i a => a.sleepLane g i

/-- FRM_TEMP shows the value in use, and the blanker's level follows it (R218, R220, R406). -/
def State.blkFollows (s : State) : State :=
  let a := s.setFlag Reg.FRM_TEMP_STALE s.blkStale
  match s.blkTemp with
  | none => a
  | some (t, g) =>
    let lo := s.reg Reg.CAL_THERM_BLK_LEVEL
    let hi := nextLevel lo t s.blkThr (4 * max 1 (s.reg Reg.CAL_THR_BLK_HYST))
    let b := a.setRegs [(Reg.FRM_TEMP_VALUE, unsignedOf 16 t), (Reg.FRM_TEMP_GROUP, g), (Reg.CAL_THERM_BLK_LEVEL, hi)]
    let c := (b.levelEvents 0xFE lo hi t).when (decide (lo < hi)) (·.raise 1)
    let d : State := if hi = 0 then { c with cal := { c.cal with blkHot := false } } else c
    (d.blkRises lo hi).coolFollows

/-- The service set or a threshold has moved the value in use (R218): the level follows with it. -/
def State.tempMoves (s : State) : State := s.when (s.tempView.any fun e => s.reg e.1 != e.2) State.blkFollows

/-! ### SENSOR_SAMPLE (R305, R398, R399, R403) -/

/-- A reading a sensor may give: −40 °C to 150 °C, its self-check good (R399). -/
def readingGood (r : SensorReading) : Bool := r.selfCheck && decide (-160 ≤ r.temp ∧ r.temp ≤ 600)

/-- One sensor's conversion: a sensor that becomes invalid is marked and posted once, with its last valid reading. -/
def State.takeReading (s : State) (n : Nat) (r : SensorReading) : State :=
  let bad := !readingGood r
  let inv := s.reg Reg.CAL_THERM_INVALID
  let last := s.cal.readings.getD n 0
  let a := s.setRegs [(Reg.CAL_SENSOR_TEMP n, unsignedOf 16 r.temp), (Reg.CAL_SENSOR_VALID n, b2n (readingGood r)),
    (Reg.CAL_THERM_INVALID, if bad then inv ||| 2 ^ n else inv - (inv &&& 2 ^ n))]
  let b : State := if bad then a else { a with cal := { a.cal with readings := a.cal.readings.set n r.temp } }
  b.when (bad && !bitOf inv n) fun b => (b.event 0x04 n 6 (unsignedOf 16 last)).count 22 5 1

/-- A stack has drifted since its last sweep (R305). -/
def State.stackDrifted (s : State) (i : Nat) : Bool :=
  s.flag (Reg.CAL_SENSOR_VALID (6 + i)) &&
    decide (s.calDt < 25 * (s.cal.readings.getD (6 + i) 0 - vget s.hbm.sweepTemps i 0).natAbs)

/-- Drift makes items due, and a sweep (R305, R403). -/
def State.driftFollows (s : State) : State :=
  let items := (List.range 4).filter fun i => s.drifted i && !bitOf (s.reg Reg.CAL_STATUS_RUNNING) i
  let a := s.when (s.flag Reg.CAL_CTL_AUTO) (·.setDue items)
  { a with hbm := { a.hbm with sweepDue := a.hbm.sweepDue || (decide (3 ≤ s.reg Reg.GLB_STATUS_INSTAR) &&
      (List.range 2).any fun i => s.stackDrifted i) } }

/-- The housekeeper runs: Active or Idle, and bring-up has reached Instar 1 (R431, R433). -/
def State.housekeeper (s : State) : Bool :=
  (s.power.state == .active || s.power.state == .idle) && decide (1 ≤ s.reg Reg.GLB_STATUS_INSTAR)

/-- SENSOR_SAMPLE (R398, R399, R403, R406). -/
def execSensorSample (readings : Vector SensorReading 12) (s : State) : Host.Outcome State Fault Refusal :=
  answer s (s.when s.housekeeper fun s =>
    let a := s.forAll (List.range 12) fun n s => s.takeReading n (vget readings n ⟨0, false⟩)
    ((a.count 22 4 12).driftFollows.blkFollows).dieFollows)

/-! ### PL_CHANGE (R442) -/

/-- The plan that a level must carry, Hz: of the stripe in a data pause or the one that starts next, its other caps (R256). -/
def State.levelPlan (s : State) : Option Rat :=
  (s.active?.orElse fun _ => s.nextToStart).map fun p =>
    (leastCap ((s.rateCaps p s.capsNow).filter fun c => c.2 != 2)).1

/-- The slowest level whose cap carries a plan. -/
def slowestLevel (f : Rat) : Nat := if f ≤ levelCap 2 then 2 else if f ≤ levelCap 1 then 1 else 0

/-- The level the housekeeper picks: no faster than PL_LIMIT, nor than an emergency left; with no plan the present one, and
PL2 in XK2 mode (R407, R424, R442). -/
def State.levelWanted (s : State) : Nat :=
  let limit := min 2 (s.reg Reg.PWR_CTL_PL_LIMIT)
  let plan := if !s.native then 2 else match s.levelPlan with | some f => slowestLevel f | none => s.reg Reg.PWR_STATUS_PL
  max (max plan limit) s.power.emergency

/-- A change may apply: between stripes or in a data pause (R442). -/
def State.levelBoundary (s : State) : Bool := match s.active? with | some p => p.state == .pause | none => true

/-- What holds a change: a sweep, a group in EQ or VERIFY, a measurement (R236, R306, R405). -/
def State.levelHeld (s : State) : Bool :=
  s.flag Reg.MEM_STATUS_SWEEPING || s.flag Reg.CAL_STATUS_RUNNING
    || (List.range 16).any fun g => s.grp g == grpEq || s.grp g == grpVerify

/-- PL_CHANGE (R442): the level wanted applies, or is held with PL_PENDING. -/
def execPlChange (s : State) : Host.Outcome State Fault Refusal :=
  answer s (s.when (s.housekeeper && s.levelWanted != s.reg Reg.PWR_STATUS_PL) fun s =>
    if s.levelBoundary && !s.levelHeld then s.setLevel s.levelWanted
    else
      let a := (s.setReg Reg.PWR_STATUS_PL_PENDING 1).when (!s.flag Reg.PWR_STATUS_PL_PENDING) (·.count 0 5 1)
      a.when (s.flag Reg.MEM_STATUS_SWEEPING) (·.setReg Reg.MEM_STATUS_RATE_PENDING 1))

/-! ### Calibration items (R400 to R405) -/

/-- CAL_ITEM_START (R403 to R405): a due item measures; all but deskew only with no stripe in TRANSIT through ABORTING. -/
def execCalItemStart (item : Fin 4) (s : State) : Host.Outcome State Fault Refusal :=
  answer s (s.when (s.mayMeasure item) (·.startItem item))

/-- A bit of CAL_STATUS's item masks set or cleared. -/
def withBit (v i : Nat) (b : Bool) : Nat := if b then v ||| 2 ^ i else v - (v &&& 2 ^ i)

/-- A CAL_RUN job as an item of it goes through. -/
def CmdJob.ranItem (item : Nat) (good : Bool) : CmdJob → CmdJob
  | .calRun o left c k =>
    if left.contains item then .calRun o (left.filter (· != item)) (c + b2n good) (k + b2n !good) else .calRun o left c k
  | j => j

/-- A CAL_RUN job with no item left. -/
def CmdJob.ranAll : CmdJob → Bool
  | .calRun _ left _ _ => left.isEmpty
  | _ => false

/-- The completion of a CAL_RUN: D0 items committed, D1 items kept (R345). -/
def State.calRunDone (s : State) : CmdJob → State
  | .calRun o _ c k => s.complete (Completion.mk' o .ok c k 0)
  | _ => s

/-- A CAL_RUN whose last item is through completes with its counts (R335, R345). -/
def State.runItem (s : State) (item : Nat) (good : Bool) : State :=
  let js := s.jobs.map (CmdJob.ranItem item good)
  let u : State := { s with jobs := js.filter fun j => !j.ranAll }
  u.forAll (js.filter CmdJob.ranAll) fun j t => t.calRunDone j

/-- An item ends its measurement: RUNNING clears, and commands that waited for it go on. -/
def State.itemEnds (s : State) (item : Nat) (good : Bool) : State :=
  (s.setReg Reg.CAL_STATUS_RUNNING (withBit (s.reg Reg.CAL_STATUS_RUNNING) item false)).runItem item good

/-- An item commits (R403, R404): its snapshot is the one of its start. -/
def State.itemCommits (s : State) (item : Nat) : State :=
  let a := s.setRegs [(Reg.CAL_STATUS_VALID, withBit (s.reg Reg.CAL_STATUS_VALID) item true),
    (Reg.CAL_STATUS_FAIL, withBit (s.reg Reg.CAL_STATUS_FAIL) item false)]
  (((a.onCalItem item fun c => { c with ref := some c.begun }).event 0x0F item 1 0).count 22 0 1).itemEnds item true

/-- An item fails: its previous result is kept (R402). -/
def State.itemFails (s : State) (item : Nat) : State :=
  let had := bitOf (s.reg Reg.CAL_STATUS_FAIL) item
  let a := ((s.setReg Reg.CAL_STATUS_FAIL (withBit (s.reg Reg.CAL_STATUS_FAIL) item true)).event 0x0F item 2 0).count 22 2 1
  (a.when (!had) (·.raise 8)).itemEnds item false

/-- A deskew code, or none for a group that failed (R401). -/
def goodCode (t : Option Nat) : Option Nat := t.bind fun c => if c ≤ 255 then some c else none

/-- Deskew targets of the groups that measured (R401, R404). -/
def State.takeTargets (s : State) (ts : List (Option Nat)) : State :=
  let new : Vector (Option Nat) 16 := Vector.ofFn fun g : Fin 16 =>
    (goodCode (ts.getD g none)).orElse fun _ => vget s.cal.targets g.val none
  { s with cal := { s.cal with targets := new } }

/-- CAL_ITEM_DONE (R400 to R402, R404): the measurement of the item that runs. -/
def execCalItemDone (item : Fin 4) (m : CalMeasure) (s : State) : Host.Outcome State Fault Refusal :=
  answer s (s.when (bitOf (s.reg Reg.CAL_STATUS_RUNNING) item) fun s =>
    match item.val, m with
    | 0, .deskew ts =>
      let t := s.takeTargets ts
      if (List.range 16).all fun g => (goodCode (ts.getD g none)).isSome then t.itemCommits 0 else t.itemFails 0
    | 1, .dac x y limited => (s.setRegs [(Reg.CAL_DAC_SPARES_X, x), (Reg.CAL_DAC_SPARES_Y, y),
        (Reg.CAL_STATUS_DAC_LIMITED, b2n limited)]).itemCommits 1
    | 2, .interpolator lat pps ptp => (s.setRegs [(Reg.STG_LAT, lat), (Reg.CAL_TSD_PPS_PS, pps), (Reg.CAL_TSD_PTP_PS, ptp)]).itemCommits 2
    | 3, .adc c0 c1 => (s.setRegs [(Reg.CAL_ADC_OFS_CH0, unsignedOf 16 c0), (Reg.CAL_ADC_OFS_CH1, unsignedOf 16 c1)]).itemCommits 3
    | n, .failed => s.itemFails n
    | _, _ => s)

/-- A group's deskew code (R409). -/
def deskewCode (g : Nat) : Field := ⟨0x18060 + 4 * (g / 4), 8 * (g % 4), 8, .ro, 0, .p⟩

/-- CAL_DESKEW_STEP (R404): a group's code moves one step toward its target, at the first idle pair after an EOF. -/
def execCalDeskewStep (g : Fin 16) (s : State) : Host.Outcome State Fault Refusal :=
  answer s (match vget s.cal.targets g.val none with
    | none => s
    | some t =>
      let c := s.reg (deskewCode g)
      let n := if c < t then c + 1 else c - b2n (decide (t < c))
      let a : State := { s with cal := { s.cal with targets := vmod s.cal.targets g fun _ => if n = t then none else some t } }
      (a.setReg (deskewCode g) n).when (n != c) (·.count 22 1 1))

/-! ### Eyespot (R345, R408, R419) -/

/-- A of R408, Q2.14, rounded to nearest and held in 16 bits. -/
def eyeGain (native : Bool) (ref : Nat) (r : EyeReading) : Nat :=
  min 0xFFFF (roundDiv (r.sigMax * 2 ^ 14 : Nat) (grayMax native * ref)).toNat

/-- A landing offset in 1/64 px; the edge that one scan did not find is a free value (log 16). -/
def eyeEdge (i : Nat) (d : Option Int) : Int := clampInt (-512) 512 (d.getD (Config.missingEdge i))

/-- The entry of one beam (R408). -/
def eyeBeam (native : Bool) (ref weak i : Nat) (r : EyeReading) : Beam :=
  let a := eyeGain native ref r
  let dx := if native then eyeEdge (2 * i) r.dx else 0
  let dy := if native then eyeEdge (2 * i + 1) r.dy else 0
  if ref < 4 * r.sig0 then ⟨0x4000, dx, dy, .stuckOn, min 255 (roundDiv (4 * r.sig0 : Nat) ref).toNat⟩
  else if a < 0x100 ∨ (native ∧ r.dx.isNone ∧ r.dy.isNone) then ⟨a, 0, 0, .dead, 0⟩
  else if a < weak then ⟨a, dx, dy, .weak, 0⟩
  else ⟨a, dx, dy, .ok, 0⟩

/-- An XK2 entry: WEAK appears as OK with its gain (R419). -/
def Beam.xk2Bytes (b : Beam) : List Byte :=
  leBytes 2 b.gain ++ leBytes 1 (if b.state = .dead then 1 else if b.state = .stuckOn then 2 else 0) ++ [0]

/-- The defect map of a list of beams, as bytes (R168). -/
def defectBytes (l : List Beam) : List Byte := (List.range 32768).map fun i =>
  BitVec.ofNat 8 (((l.drop (8 * i)).take 8).mapIdx fun k b => b2n (b.state == .dead) * 2 ^ k).sum

/-- Eyespot's beams are loaded as TABLE_LOAD would load them (R345, R419). -/
def State.loadBeams (s : State) (l : List Beam) : State :=
  ({ s with
    beams := (l.mapIdx fun i b => (i, b)).filter fun e => e.2 != Beam.plain
    defects := (l.mapIdx fun i b => (i, b.state == .dead)).filter fun e => e.2 } : State).setRegs
    [(Reg.BEM_STATUS_BT_VALID, 1), (Reg.BEM_STATUS_DM_VALID, 1)]

/-- Beams of a state. -/
def beamCount (l : List Beam) (st : BeamState) : Nat := l.countP fun b => b.state == st

/-- The beams of the cells of 8 × 8 in turn (R408); log 10 has the order of cells and of a cell's beams. -/
def eyeOrder : List Nat :=
  (List.range 4096).flatMap fun k => (List.range 64).map fun j => 512 * (8 * (k / 64) + j / 8) + 8 * (k % 64) + j % 8

/-- What Eyespot fires (R408): each beam alone, 16 dwell windows at gray 0 and 16 at the largest gray; in native mode then its two
scans. -/
def eyeWindows (native : Bool) : List Out :=
  eyeOrder.flatMap fun b => [.eyespot b 0 16, .eyespot b (grayMax native) 16] ++ if native then [.eyeScan b false, .eyeScan b true] else []

/-- BEAM_CHECK_DONE (R345, R408, R419): one reading for each of the 262,144 beams. The shuttle goes back. -/
def execBeamCheckDone (readings : List EyeReading) (s : State) : Host.Outcome State Fault Refusal :=
  let job? := s.jobs.findSome? fun j => match j with | .beamCheck o addr load => some (o, addr, load) | _ => none
  answer s (match job? with
    | none => s
    | some (o, addr, load) =>
      let n := s.shuttleAxis
      s.when (decide (readings.length = 262144) && (s.auxAxis n).move.isNone && s.clocked) fun s =>
        let l := readings.mapIdx fun i r => eyeBeam s.native (s.reg Reg.CAL_EYE_REF) (s.reg Reg.CAL_EYE_CTL_WEAK) i r
        let out := if s.native then l.flatMap Beam.bytes ++ defectBytes l else l.flatMap Beam.xk2Bytes
        let a : State := { s with jobs := s.jobs.filter fun j => j.origin != o, out := (eyeWindows s.native).reverse ++ s.out }
        let b := ((a.emit (.hostWrite addr out)).count 1 5 ((out.length + 63) / 64)).count 22 6 262144
        let c := (b.when load (·.loadBeams l)).auxStart n none s.cal.shuttle
        c.complete (if s.native then Completion.mk' o .ok (beamCount l .weak) (beamCount l .dead) (beamCount l .stuckOn)
          else Completion.mk' o .ok (beamCount l .dead) 0 0))

end Sys2Proof.Machine
end

