-- ==== Sys2Proof/Machine/LinkRuns.lean ====
section
/-! DEFINITION. Return-lane messages, refused frames, losses and switch-overs (R203, R207 to R218, R225, R238, R485). -/
namespace Sys2Proof.Machine

/-! ### Return-lane losses (R213) -/

/-- The frames of a group whose dose is unknown: one CUT REGION each over the group's 256 columns (R213, R485). -/
def State.cutFrames (s : State) (g : Nat) (frames : List Nat) : State :=
  match s.active? with
  | none => s
  | some p => s.putStripe (p.cutGroups (frames.map fun n => (g, n)))

/-- A loss is logged: GROUP holds the first until VALID is cleared (R220). -/
def State.logLoss (s : State) (g : Nat) : State :=
  ((s.addReg Reg.FRM_RET_ERR_LOSSES 1).when (!s.flag Reg.FRM_RET_ERR_VALID) (·.setRegs
    [(Reg.FRM_RET_ERR_GROUP, g), (Reg.FRM_RET_ERR_VALID, 1)])).count 16 5 1

/-- A message that cannot be used: it counts as one in SEQ, and the lane is in loss until the next good one. -/
def State.badMessage (s : State) (g : Nat) : State :=
  (s.logLoss g).onGroup g fun k => { k with loss := true, rxSeq := k.rxSeq.map fun q => (q + 1) % 256 }

/-- Messages skipped in SEQ before this one. -/
def State.seqGap (s : State) (g : Nat) (m : LinkMsg) : Bool :=
  match (s.group g).rxSeq with | some q => q != byteAt m.bytes 1 | none => false

/-- The return lanes are received: Active or Idle, and the group has been started (R225, R433). -/
def State.hears (s : State) (g : Nat) : Bool := (s.power.state == .active || s.power.state == .idle) && s.grp g != grpOff

/-- A message arrives on a return lane (R208, R213): framing, CRC and SEQ are judged, frames between good messages are cut
where something was lost, and a good message has its own effect `f`. -/
def State.receive (s : State) (g : Nat) (m : LinkMsg) (f : State → State) : State :=
  s.when (s.hears g) fun s =>
    if !linkCrcGood m.bytes m.padOk then s.badMessage g
    else
      let k := s.group g
      let lost := k.loss || s.seqGap g m
      let a := (s.when (s.seqGap g m) (·.logLoss g)).when lost (·.cutFrames g k.unconfirmed)
      f ((a.onGroup g fun k => { k with rxSeq := some ((byteAt m.bytes 1 + 1) % 256), loss := false, unconfirmed := [] }).count
        16 4 1)

/-- A message is a STATUS of a kind (R209). -/
def isStatus (m : LinkMsg) (kind : Nat) : Bool := byteAt m.bytes 0 == 0x06 && byteAt m.bytes 2 == kind

/-- LANE and TICK of a STATUS. -/
def msgLane (m : LinkMsg) : Nat := byteAt m.bytes 3
def msgTick (m : LinkMsg) : Nat := leAt m.bytes 4 4

/-! ### Refused frames (R211, R212) -/

/-- The instant of tick t has not passed at `now`, ps: fixed, yet to be fixed, or reckoned on in periods of the run's last
rate after END (R205, R211). -/
def Run.notPast (r : Run) (t now : Nat) : Bool :=
  match r.instantOf (t + 1) with
  | some i => decide (now ≤ i)
  | none => match r.fixed with
    | (n, i) :: (n', i') :: _ =>
      decide (n ≤ t) && (!r.ended || decide ((now - i) * (n - n') ≤ (t + 1 - n) * (i - i')))
    | _ => true

/-- A NAK amended: the frame's dose on that lane goes back (R211). -/
def State.nakAmend (s : State) (p : Stripe) (r : Run) (n lane : Nat) : State :=
  let a := (s.amendFrame p.par.id r n causeLost fun l => l == lane).lostVisits Reg.LDG_VIS_LOST_VISITS 1
  let b := a.onStripe p.par.id fun q => { q.logLost ⟨n, 1, [lane]⟩ with lostFrames := q.lostFrames + 1 }
  (((b.addReg Reg.BEM_LOST_FRAMES 1).addReg Reg.FRM_NAK_COUNT 1).count 14 3 1).count 16 2 1

/-- A NAK too late to amend: a DEFICIT REGION over the lane's 32 columns (R212). -/
def State.nakLate (s : State) (p : Stripe) (n lane : Nat) : State :=
  (s.putStripe (p.addTickRegion repDeficit (32 * lane) (32 * lane + 31) (n % p.ticks))).count 16 3 1

/-- A NAK that names no accounted dose (R212). -/
def State.nakBogus (s : State) : State := (s.addReg Reg.FRM_NAK_BOGUS 1).count 16 3 1

/-- Frame n was launched in the run and its dose was to be accounted. -/
def Run.launched (r : Run) (n : Nat) : Bool := decide (r.first ≤ n ∧ n < r.next ∧ n ≤ r.last) && r.accounts n

/-- A NAK for frame n of a lane (R211, R212). -/
def State.nakFrame (s : State) (lane n : Nat) : State :=
  match s.active? with
  | none => s.nakBogus
  | some p => match p.run with
    | none => s.nakBogus
    | some r =>
      if !r.launched n || decide (128 ≤ lane) then s.nakBogus
      else match p.frames.find? fun f => f.tick == n with
        | none => if p.older.any fun e => e.1 == n && e.2.contains lane then s.nakBogus else s.nakLate p n lane
        | some f =>
          if f.lost.contains lane || !f.accounted then s.nakBogus
          else if r.notPast (n + p.bv.nakWindow) s.now then s.nakAmend p r n lane
          else s.nakLate p n lane

/-- One millisecond, ps. -/
def millisecond : Nat := 1000000000

/-- A NAK is kept for NAK_LIMIT (R214). -/
def State.keepNak (s : State) (lane : Nat) : State :=
  { s with link := { s.link with naks := (lane, s.now) :: s.link.naks.filter fun e => decide (s.now ≤ e.2 + millisecond) } }

/-- A NAK. -/
def State.takeNak (s : State) (m : LinkMsg) : State := (s.keepNak (msgLane m)).nakFrame (msgLane m) (msgTick m)

/-- STATUS_NAK (R211, R212, R214). -/
def execStatusNak (g : Fin 16) (m : LinkMsg) (s : State) : Host.Outcome State Fault Refusal :=
  answer s (s.receive g m fun s => s.when (isStatus m 1) (·.takeNak m))

/-! ### What decides a switch-over (R214, R238) -/

/-- A lane of a READY group is to be switched onto the spare at the next tick (R214). -/
def State.askSwitch (s : State) (lane : Nat) : State :=
  s.when (s.grp (lane / 8) == grpReady && !(s.group (lane / 8)).switchDue.contains lane) fun s =>
    s.onGroup (lane / 8) fun k => { k with switchDue := k.switchDue ++ [lane] }

/-- NAK_LIMIT_REACHED (R214): NAK_LIMIT NAKs of a lane within 1 ms. -/
def execNakLimitReached (lane : Fin 128) (s : State) : Host.Outcome State Fault Refusal :=
  let limit := s.reg Reg.FRM_SPARE_CTL_NAK_LIMIT
  let own (e : Nat × Nat) : Bool := e.1 == lane.val
  let recent := s.link.naks.filter fun e => own e && decide (s.now ≤ e.2 + millisecond)
  answer s (s.when (decide (0 < limit ∧ limit ≤ recent.length)) fun s =>
    let t : State := { s with link := { s.link with naks := s.link.naks.filter fun e => !own e } }
    t.askSwitch lane)

/-- TRANSMITTER_FAULT (R214): the logical lane that the transmitter carries, if any. -/
def execTransmitterFault (g : Fin 16) (slot : Fin 9) (s : State) : Host.Outcome State Fault Refusal :=
  answer s (s.whenSome ((List.range 8).find? fun i => s.laneSlot (8 * g + i) == slot.val) fun i s => s.askSwitch (8 * g + i))

/-! ### Group messages (R203, R208, R210, R215, R218) -/

/-- STATUS_ALIVE (R210): a good message, and nothing else. -/
def execStatusAlive (g : Fin 16) (m : LinkMsg) (s : State) : Host.Outcome State Fault Refusal :=
  answer s (s.receive g m id)

/-- A group accepts the announced run (R203). -/
def State.takeReady (s : State) (g : Nat) : State :=
  s.when (match s.active?.bind fun p => p.run with | some r => r.announced && !r.ended | none => false) fun s =>
    s.onGroup g fun k => { k with ready := true }

/-- STATUS_READY (R203). -/
def execStatusReady (g : Fin 16) (m : LinkMsg) (s : State) : Host.Outcome State Fault Refusal :=
  answer s (s.receive g m fun s => s.when (isStatus m 2) (·.takeReady g))

/-- The spare carries the lane (R215): its real frames go on the spare from the next launch. -/
def State.takeSpareReady (s : State) (g lane : Nat) : State :=
  s.onGroup g fun k => { k with switch := k.switch.map fun w => if w.lane = lane then { w with ready := true } else w }

/-- STATUS_SPARE_READY (R215). -/
def execStatusSpareReady (g : Fin 16) (m : LinkMsg) (s : State) : Host.Outcome State Fault Refusal :=
  answer s (s.receive g m fun s => s.when (isStatus m 3) (·.takeSpareReady g (msgLane m)))

/-- The group's forwarded clock is lost (R225, R232, R485): READY restarts from OFF, and a run aborts with the frames since
the last good message cut; in training the group goes out of service. -/
def State.clockLost (s : State) (g : Nat) (frames : List Nat) : State :=
  if s.grp g = grpReady then
    ((s.cutFrames g frames).retrain g).when s.active?.isSome (·.abort .linkTrainFail)
  else s.when (s.grp g != grpOff && s.grp g != grpOut) (·.groupOut g 3)

/-- A lane that went down in L1 or L2 is logged, and retrained at its next exit (R238; log 17). -/
def State.sleepingLaneDown (s : State) (g slot lane : Nat) : State :=
  (s.onGroup g fun k => { k with retrainLanes := insertAsc slot k.retrainLanes }).linkEvent g 6 lane

/-- A LANE_DOWN for a lane (R214, R233, R238). -/
def State.laneDown (s : State) (lane : Nat) : State :=
  let g := lane / 8
  let slot := s.laneSlot lane
  let st := s.reg (Reg.MPH_LSTATE_STATE g slot)
  if s.grp g = grpReady then
    (if st = laneL1 ∨ st = laneL2 then s.sleepingLaneDown g slot lane else s.askSwitch lane)
  else s.when (s.grp g == grpAlign || s.grp g == grpLow || s.grp g == grpEq || s.grp g == grpVerify) fun s =>
    ((s.lanesFail g [slot]).heldOn g).verifiedOn g

/-- A LANE_DOWN message; `frames` are those launched since the good message before it. -/
def State.takeLaneDown (s : State) (g : Nat) (m : LinkMsg) (frames : List Nat) : State :=
  if msgLane m = 0xFF then s.clockLost g frames else s.when (decide (msgLane m < 128)) (·.laneDown (msgLane m))

/-- Frames a group launched since its last good message, unless a loss has had them cut already. -/
def State.sinceGood (s : State) (g : Nat) (m : LinkMsg) : List Nat :=
  if (s.group g).loss || s.seqGap g m then [] else (s.group g).unconfirmed

/-- STATUS_LANE_DOWN (R209, R214, R232, R238, R485). -/
def execStatusLaneDown (g : Fin 16) (m : LinkMsg) (s : State) : Host.Outcome State Fault Refusal :=
  let frames := s.sinceGood g m
  answer s (s.receive g m fun s => s.when (isStatus m 4) (·.takeLaneDown g m frames))

/-- The far side is at its own limit until the group's next TEMP (R218). -/
def State.takeHot (s : State) (g : Nat) : State := (s.onGroup g fun k => { k with hot := true }).blkFollows

/-- STATUS_HOT (R218). -/
def execStatusHot (g : Fin 16) (m : LinkMsg) (s : State) : Host.Outcome State Fault Refusal :=
  answer s (s.receive g m fun s => s.when (isStatus m 5) (·.takeHot g))

/-- The valid readings of a TEMP (R208). -/
def tempReadings (m : LinkMsg) : List Int :=
  ((List.range 4).filter fun i => bitOf (byteAt m.bytes 10) i).map fun i => signed 16 (leAt m.bytes (2 + 2 * i) 2)

/-- A TEMP stands in place of what the group said before (R218). -/
def State.takeTemp (s : State) (g : Nat) (m : LinkMsg) : State :=
  (s.onGroup g fun k => { k with temp := some (tempReadings m), hot := false, stale := false }).blkFollows

/-- TEMP_MESSAGE (R218). -/
def execTempMessage (g : Fin 16) (m : LinkMsg) (s : State) : Host.Outcome State Fault Refusal :=
  answer s (s.receive g m fun s => s.when (byteAt m.bytes 0 == 0x04) (·.takeTemp g m))

/-- TEMP_TIMEOUT (R218): a group in service counts as at the limit. -/
def execTempTimeout (g : Fin 16) (s : State) : Host.Outcome State Fault Refusal :=
  answer s (s.when (s.inService g) fun s => (s.onGroup g fun k => { k with stale := true }).blkFollows)

/-- RESERVED_LINK_MESSAGE (R208): ignored, and good. -/
def execReservedLinkMessage (g : Fin 16) (m : LinkMsg) (s : State) : Host.Outcome State Fault Refusal :=
  answer s (s.receive g m id)

/-- CAPS (R208, R225, R226). -/
def execCaps (g : Fin 16) (m : LinkMsg) (s : State) : Host.Outcome State Fault Refusal :=
  answer s (s.receive g m fun s => s.when (byteAt m.bytes 0 == 0x01) (·.takeCaps g m.bytes))

/-- TAP_REQ (R228). -/
def execTapReq (g : Fin 16) (m : LinkMsg) (s : State) : Host.Outcome State Fault Refusal :=
  answer s (s.receive g m fun s => s.when (byteAt m.bytes 0 == 0x02) (·.takeTapReq g m.bytes))

/-- PRBS_RESULT (R231, R242). -/
def execPrbsResult (g : Fin 16) (m : LinkMsg) (s : State) : Host.Outcome State Fault Refusal :=
  answer s (s.receive g m fun s => s.when (byteAt m.bytes 0 == 0x05) (·.takePrbsResult g m.bytes))

/-- What a good message of any TYPE and KIND does (R208, R209). -/
def State.takeMessage (s : State) (g : Nat) (m : LinkMsg) : State :=
  match byteAt m.bytes 0, byteAt m.bytes 2 with
  | 0x01, _ => s.takeCaps g m.bytes
  | 0x02, _ => s.takeTapReq g m.bytes
  | 0x04, _ => s.takeTemp g m
  | 0x05, _ => s.takePrbsResult g m.bytes
  | 0x06, 1 => s.takeNak m
  | 0x06, 2 => s.takeReady g
  | 0x06, 3 => s.takeSpareReady g (msgLane m)
  | 0x06, 4 => s.takeLaneDown g m []
  | 0x06, 5 => s.takeHot g
  | _, _ => s

/-- RETURN_LANE_LOSS (R213): a message that fails its CRC-16 or its pad, or one behind a gap in SEQ, which is itself good and
acts. -/
def execReturnLaneLoss (g : Fin 16) (m : LinkMsg) (s : State) : Host.Outcome State Fault Refusal :=
  answer s (s.receive g m fun s => s.takeMessage g m)

/-- RETURN_LANE_SILENCE (R213): nothing good for 16 µs during a run. -/
def execReturnLaneSilence (g : Fin 16) (s : State) : Host.Outcome State Fault Refusal :=
  answer s (match s.active? with
    | none => s
    | some p => s.when (p.state == .runup || p.state == .write || p.state == .pause || p.state == .runout) fun s =>
        ((s.cutFrames g (s.group g).unconfirmed).onGroup g fun k => { k with unconfirmed := [] }).abort .stripeAborted)

/-! ### Switch-over (R214 to R216, R382) -/

/-- The spare can take a lane: free, and in native mode fit (R6, R214, R418). -/
def State.spareServes (s : State) (g : Nat) : Bool :=
  !s.spareTaken g && !(s.group g).failed.contains 8 && (!s.native || s.flag (Reg.MPH_GRP_STATUS_SPARE_FIT g))

/-- The stripe aborts and the group is retrained at the next lower speed (R216). -/
def State.noSpare (s : State) (g : Nat) : State :=
  (s.onGroup g fun k => { k with switch := none, switchDue := [], stepDue := true }).abort .linkNoSpare

/-- The switch decided at tick instant `at_`: the failed lane idles, the spare takes its place, and the Looper outputs hold
(R215, R382). -/
def State.switchLane (s : State) (g lane at_ tick : Nat) : State :=
  let a := s.setRegs [(Reg.MPH_LSTATE_STATE g (lane % 8), laneFailed), (Reg.MPH_LSTATE_STATE g 8, laneL0), (spareUsed g, 1),
    (spareLane g, lane % 8), (Reg.FLT_HOLD_DRIFT_X, 0), (Reg.FLT_HOLD_DRIFT_Y, 0)]
  let b := (a.addReg Reg.FRM_GAP_SWITCHES 1).onGroup g fun k =>
    { k with switch := some ⟨lane, tick, at_, false, 0⟩, failed := insertAsc (lane % 8) k.failed }
  let c : State := { b with looper := { b.looper with holdGap := true } }
  (c.count 16 6 1).linkEvent g 1 lane

/-- SPARE_SWITCH (R214 to R216): at the tick instant at which the next frame would launch. -/
def execSpareSwitch (g : Fin 16) (s : State) : Host.Outcome State Fault Refusal :=
  answer s (match (s.group g).switchDue, s.active? with
    | lane :: rest, some p => match p.run.bind fun r => (r.instantOf r.next).map fun i => (r, i) with
      | some (r, at_) =>
        s.when (r.ticked && p.launches r) fun s =>
          let t := s.onGroup g fun k => { k with switchDue := rest }
          if t.spareServes g && (t.group g).switch.isNone then t.switchLane g lane at_ (r.next - 1) else t.noSpare g
      | none => s
    | _, _ => s)

/-- SPARE_READY_TIMEOUT (R216): no SPARE_READY 19 µs after the decision. -/
def execSpareReadyTimeout (g : Fin 16) (s : State) : Host.Outcome State Fault Refusal :=
  answer s (s.when (match (s.group g).switch with | some w => !w.ready | none => false) (·.noSpare g))

end Sys2Proof.Machine
end

