-- ==== Sys2Proof/Machine/LockGroup.lean ====
section
/-! DEFINITION. Lock groups over TICKSYNC (R260 to R264): TICK and RUN messages, missing messages, cancelled runs. -/
namespace Sys2Proof.Machine

/-- A member's role in its group: that of the stripe present or to start next, else the register's (R260). -/
def State.groupRole (s : State) : Nat :=
  if s.active?.isSome then s.role else match s.nextToStart with | some p => p.bv.role | none => s.role

/-- TICKSYNC runs in native mode in a lock group only (R260). -/
def State.tsyncOn (s : State) : Bool := s.native && s.groupRole != 0

/-- A message that fails its CRC: counted, passed on as it is by a follower (R261, R262). -/
def State.badTicksync (s : State) (bytes : List Byte) : State :=
  (s.count 4 7 1).when (s.groupRole == 2) (·.sendTicksync bytes)

/-- A good message: counted, and TICKSYNC_IN is aligned (R274). -/
def State.goodTicksync (s : State) : State := (s.count 4 6 1).setReg Reg.STG_STATUS_TSYNC_LOCK 1

/-- Replace the first 15 bytes' fields of a message and seal it again (R261). -/
def reseal (body : List Byte) (seq : Nat) : List Byte := ticksyncBytes (body ++ leBytes 1 seq)

/-! ### TICK (R262, R264) -/

/-- A follower's forward: LEAD less HOP and 24 ns, the lesser of the reserves and cap received and its own as of its last tick, and
its own request (R262). -/
def State.forwardTick (s : State) (p : Option Stripe) (b : List Byte) : State :=
  let lead := (leAt b 6 2 - (s.quotient (s.reg Reg.STG_TSYNC_HOP + 24000 : Nat) 1000).toNat)
  let own : Nat × Nat × Nat := match p with
    | some p => (match p.run with
      | some r => s.stage.own.getD (s.ownReport p r)
      | none => (0, 0, 65535))
    | none => (0, 0, 65535)
  let body := leBytes 1 1 ++ leBytes 1 (byteAt b 1 ||| (2 * b2n s.stage.tsAbortReq)) ++ leBytes 4 (leAt b 2 4) ++ leBytes 2 lead
    ++ leBytes 2 (min (leAt b 8 2) own.1) ++ leBytes 3 (min (leAt b 10 3) own.2.1) ++ leBytes 2 (min (leAt b 13 2) own.2.2)
  let t := (s.sendTicksync (reseal body (byteAt b 15))).drawn
  { t with stage := { t.stage with tsAbortReq := t.stage.tsAbortReq && !bitOf (byteAt b 1) 0 } }

/-- A follower takes its tick instant: the marker's arrival plus LEAD less HOP (R262), and the master's ABORT (R264). -/
def State.followTick (s : State) (p : Stripe) (b : List Byte) (arrival : Nat) : State :=
  match p.run with
  | none => s
  | some r =>
    let n := (leAt b 2 4 + 1) % 2 ^ 32
    let at_ := arrival + 1000 * leAt b 6 2 - s.reg Reg.STG_TSYNC_HOP
    let t := s.when (p.ticking && n == r.nextFixed) fun s => s.onStripe p.par.id fun q =>
      { q with run := q.run.map fun r => { r with fixed := (n, at_) :: r.fixed.take 127 } }
    t.when (bitOf (byteAt b 1) 0 && p.state != .aborting) fun t =>
      let st := p.cause.getD .stripeAborted
      if r.ticked then t.abortAtTick p st (some n) else t.abortUnticked p r st

/-- The master closes the ring: the group's reserves and cap, and any member's request (R46, R256, R262, R264). -/
def State.returnTick (s : State) (b : List Byte) : State :=
  let t : State := { s with stage := { s.stage with
    tsWin := some (leAt b 8 2), tsRas := some (leAt b 10 3), tsCap := some (leAt b 13 2), tsMissing := 0,
    tsReturned := some (leAt b 2 4) } }
  t.when (bitOf (byteAt b 1) 1) (·.abort .stripeAborted)

/-- TICKSYNC_TICK_MESSAGE (R262, R264): `arrival` is the marker's, ps. -/
def execTicksyncTickMessage (bytes : List Byte) (arrival : Nat) (s : State) : Host.Outcome State Fault Refusal :=
  answer s (s.when s.tsyncOn fun s =>
    if !ticksyncGood bytes then s.badTicksync bytes
    else if byteAt bytes 0 ≠ 1 then s
    else
      let t := s.goodTicksync
      if s.groupRole = 1 then t.returnTick bytes
      else
        let u := match t.active? with | some p => t.followTick p bytes arrival | none => t
        u.forwardTick (t.active?) bytes)

/-- TICKSYNC_MISSING (R264): a follower without a good TICK message when one is due aborts at once, END with VETO. -/
def execTicksyncMissing (s : State) : Host.Outcome State Fault Refusal :=
  answer s (match s.active? with
    | none => s
    | some p => match p.run with
      | none => s
      | some r =>
        s.when (s.native && p.bv.role == 2 && p.ticking) fun s =>
          let t : State := { s with stage := { s.stage with tsAbortReq := true } }
          if r.ticked then t.cutRun p r .stripeAborted else t.abortUnticked p r .stripeAborted)

/-- TICKSYNC_RETURN_MISSING (R46, R264): the group's reserves count as zero; a second in a row aborts the group. -/
def execTicksyncReturnMissing (s : State) : Host.Outcome State Fault Refusal :=
  answer s (match s.active? with
    | none => s
    | some p =>
      s.when (s.native && p.bv.role == 1 && p.ticking && s.stage.tsReturned.isNone) fun s =>
        let n := s.stage.tsMissing + 1
        let t : State := { s with stage := { s.stage with tsWin := some 0, tsRas := some 0, tsMissing := n } }
        t.when (decide (2 ≤ n)) (·.abort .stripeAborted))

/-! ### RUN (R263) -/

/-- The stripe and run a RUN message concerns: the run in TRANSIT, else of the stripe that would start next. -/
def State.runStripe (s : State) : Option (Stripe × Run) :=
  match s.active? with
  | some p => if p.state = .transit then p.run.map fun r => (p, r) else none
  | none => (match s.nextToStart with | some p => p.run.map fun r => (p, r) | none => none)

/-- A member refuses a RUN message: NP, K or P differ, or a pass run's range (R263). -/
def refuses (p : Stripe) (r : Run) (b : List Byte) : Bool :=
  leAt b 10 2 != p.par.np || byteAt b 12 != p.par.k || byteAt b 13 != p.par.p
    || (byteAt b 14 == 0 && (leAt b 2 4 != r.first || leAt b 6 4 != r.last))

/-- What a member adds: its flags, and its range in a repair or resume run (R263). -/
def State.runAnswer (s : State) (b : List Byte) : Nat × Nat × Nat :=
  match s.runStripe with
  | none => (4, leAt b 2 4, leAt b 6 4)
  | some (p, r) =>
    let wide := byteAt b 14 != 0
    (8 * b2n (refuses p r b), if wide then min (leAt b 2 4) r.first else leAt b 2 4,
      if wide then max (leAt b 6 4) r.last else leAt b 6 4)

/-- A cancelled run (R263): a stripe that would start returns to IDLE with its package staged; one that has ticked enters or
stays in HELD. -/
def State.cancelRun (s : State) (st : Status) : State :=
  match s.runStripe with
  | none => s
  | some (p, r) =>
    let t : State := { s with stage := { s.stage with tsRun := none, tsRepeat := false, tsRange := none } }
    match p.state with
    | .bound => ((t.finish p st 0 0).dropStripe p.par.id).between
    | .held => (t.complete (Completion.mk' p.owner st 0 0 0)).onStripe p.par.id fun q => { q with resumeOrigin := none }
    | _ => if r.rest then (let q : Stripe := { p with resumeAt := some (p.untickedResume r) }
                          (t.onStripe p.par.id fun _ => q).holdStripe q st)
      else t.aborting p.par.id st (p.untickedResume r)

/-- A clean FINAL message: its range is adopted, and a stage that waits at its start position announces; where the range moves the
start position, the stage first travels there (R263, R265). -/
def State.adoptFinal (s : State) (first last : Nat) : State :=
  let t : State := { s with stage := { s.stage with tsRange := some (first, last) } }
  match t.active? with
  | some p => (match p.run with
    | some r => t.when (p.state == .transit) fun t =>
        let u := t.fixStartOf p.par.id (t.adoptRange r) t.stage.fTarget
        let moved := match u.stripe? p.par.id with | some q => q.startPos != p.startPos | none => false
        if moved && p.bv.role != 2 then u.onStripe p.par.id fun q => { q with run := q.run.map fun k => { k with rest := false } }
        else u.when r.rest (·.announce p r)
    | none => t)
  | none => t

/-- A RUN message at a follower: answered and forwarded; FINAL is adopted, or cancels (R263). -/
def State.memberRun (s : State) (b : List Byte) : State :=
  let final := bitOf (byteAt b 1) 4
  let a := s.runAnswer b
  let flags := if final then byteAt b 1 else byteAt b 1 ||| a.1
  let body := leBytes 1 2 ++ leBytes 1 flags ++ leBytes 4 (if final then leAt b 2 4 else a.2.1)
    ++ leBytes 4 (if final then leAt b 6 4 else a.2.2) ++ (b.drop 10).take 5
  let t := s.sendTicksync (reseal body (byteAt b 15))
  if !final then t
  else if bitOf (byteAt b 1) 3 then
    t.cancelRun (match s.runStripe with | some (p, r) => if refuses p r b then .badLength else .stripeAborted | none => .stripeAborted)
  else t.adoptFinal (leAt b 2 4) (leAt b 6 4)

/-- The master's RUN message returns (R262, R263). -/
def State.masterRun (s : State) (b : List Byte) (arrival : Nat) : State :=
  match s.stage.tsRun, s.runStripe with
  | some (_, sent), some (p, r) =>
    let ring := (s.quotient ((arrival : Int) - sent) 1000).toNat
    let t := (s.setReg Reg.STG_TSYNC_RING (min 65535 ring)).drawn
    let first := leAt b 2 4
    let last := leAt b 6 4
    let u : State := { t with stage := { t.stage with tsRun := none } }
    if bitOf (byteAt b 1) 4 then u
    else if bitOf (byteAt b 1) 3 ∨ s.reg Reg.STG_TSYNC_LEAD < ring + 100 then
      let v := u.sendRun 24 p r first last
      v.cancelRun .badLength
    else if bitOf (byteAt b 1) 2 then { t with stage := { t.stage with tsRepeat := true } }
    else (u.sendRun 16 p r first last).adoptFinal first last
  | _, _ => s

/-- TICKSYNC_RUN_MESSAGE (R263). -/
def execTicksyncRunMessage (bytes : List Byte) (arrival : Nat) (s : State) : Host.Outcome State Fault Refusal :=
  answer s (s.when s.tsyncOn fun s =>
    if !ticksyncGood bytes then s.badTicksync bytes
    else if byteAt bytes 0 ≠ 2 then s
    else if s.groupRole = 1 then s.goodTicksync.masterRun bytes arrival
    else s.goodTicksync.memberRun bytes)

/-- RUN_MESSAGE_REPEAT (R263): every 100 µs while the returned message carried NOT_READY. -/
def execRunMessageRepeat (s : State) : Host.Outcome State Fault Refusal :=
  answer s (match s.runStripe with
    | none => s
    | some (p, r) => s.when (s.tsyncOn && s.stage.tsRepeat && s.groupRole == 1) fun s => s.sendRun 0 p r r.first r.last)

end Sys2Proof.Machine
end

