-- ==== Sys2Proof/Machine/Resets.lean ====
section
/-! DEFINITION. Resets and what they do to stripes, commands, settings and contents (R428, R430, R433, R436 to R441): soft and
hot reset, FLR, warm and cold reset, and Cocoon. -/
namespace Sys2Proof.Machine

/-! ### What a soft reset, a hot reset and an FLR stop (R439) -/

/-- A stripe that owes no completion any more: an accepted resume and STRIPE_ABORTs that wait get none (R439). -/
def Stripe.silenced (p : Stripe) : Stripe := { p with silent := p.state != .held, resumeOrigin := none, aborts := [] }

/-- Stripes stop: BOUND ones return to IDLE with their packages staged, the present one aborts by its state, in PAUSE at once
(R439). -/
def State.stopStripes (s : State) : State :=
  let t : State := { s with stripes := (s.stripes.filter fun p => p.state != .bound).map Stripe.silenced }
  (match t.active? with
    | some p => (match p.state, p.run with
      | .pause, some r => (t.tellGroup p).cutRun p r .stripeAborted
      | _, _ => t.abort .stripeAborted)
    | none => t).between

/-- The host's Y move comes to rest at AMAX (R439). -/
def State.stopY (s : State) : State :=
  { s with stage := { s.stage with yMove := s.stage.yMove.map fun m =>
      { m with origin := none, stopping := some (m.stopping.getD .ok), stopCmd := [] } } }

/-- An aux move comes to rest at DEC and keeps its remaining distance (R439). -/
def State.stopAux (s : State) (n : Nat) : State :=
  (s.onAuxMove n fun m => { m with origin := none, stoppedBy := [] }).auxHalt n .ok []

/-- Packages that have not settled are released, and those arriving with them (R439). -/
def State.dropUnsettled (s : State) : State :=
  let t := s.forAll (s.packages.filter fun k => !k.settled) fun k t => t.dropPackage k.stripe
  { t with channels := Vector.replicate 8 Channel.init }

/-- A grid whose stripe has gone is given up. -/
def State.dropLostGrid (s : State) : State :=
  s.when (match s.gridJob with | some g => (s.stripe? g.stripe).isNone | none => false) State.gridIdle

/-- A sweep is abandoned and runs again in full (R437). -/
def State.abandonSweep (s : State) : State :=
  s.when (s.flag Reg.MEM_STATUS_SWEEPING) fun s =>
    ({ s with hbm := { s.hbm with sweepDue := true } }.setReg Reg.MEM_STATUS_SWEEPING 0).serveWaiting

/-- IHOLD is high after a reset: at once where the axis is at rest (R270). -/
def State.holdAtRest (s : State) : State :=
  s.forAll ((List.range 4).filter fun n => (s.auxAxis n).move.isNone) fun n t => t.setReg (Reg.AUX_STATUS_IHOLD n) 1

/-- Stripes and commands under a soft reset, a hot reset or an FLR (R437, R439). No command that is given up completes. -/
def State.stopAll (s : State) : State :=
  let a := (s.stopStripes.stopY.forAll (List.range 4) fun n t => t.stopAux n).holdAtRest
  let b := a.dropUnsettled.dropLostGrid.abandonItems.abandonSweep
  { b with jobs := [] }

/-! ### The host interface (R436, R438) -/

/-- A class V field of the host interface: the HIF block but its link status, and the ring part of the XK2 image. -/
def Field.ofHost (f : Field) : Bool :=
  f.cls == .v && !f.showsUnit && (decide (0x1000 ≤ f.off ∧ f.off < 0x1400) || f.off == 0x20004 || decide (0x2000C ≤ f.off ∧ f.off ≤ 0x20030))

/-- The rings before they are set up. -/
def HostUnit.init : HostUnit := ⟨Vector.replicate 10 SubRing.init, Vector.replicate 5 CplRing.init, CplRing.init, [], []⟩

/-- The host interface is reset: rings are disabled, what they hold goes, and the MSI-X table returns to its reset values. -/
def State.hostReset (s : State) : State :=
  { s with regs := keepFields (fun f => !f.ofHost) s.regs, host := HostUnit.init }

/-- Record which reset ran last. -/
def State.lastReset (s : State) (code : Nat) : State := s.setReg Reg.PWR_STATUS_LAST_RESET code

/-- A soft reset is in progress (R437). -/
def State.softBusy (s : State) : Bool := s.flag Reg.PWR_STATUS_RST_BUSY

/-! ### Soft reset, hot reset, FLR -/

/-- A soft reset (R436, R439): counted; absorbed while one or a wider reset is in progress (R437). Settings return once every
motion is at rest. -/
def State.softReset (s : State) : State :=
  let a := s.addReg Reg.PWR_RESET_CNT_SOFT 1
  if s.softBusy || s.power.starting then a
  else
    let b : State := { a with power := { a.power with flrBusy := false } }
    ((b.lastReset 6).stopAll.hostReset.setReg Reg.PWR_STATUS_RST_BUSY 1).softEnds

/-- PCIE_HOT_RESET (R436 to R439): endpoint, host interface and GLB_IRQ_MASK. -/
def execPcieHotReset (s : State) : Host.Outcome State Fault Refusal :=
  answer s (s.when s.linkUp fun s =>
    let a := s.addReg Reg.PWR_RESET_CNT_HOT_FLR 1
    if s.softBusy then a
    else
      let b : State := { a with power := { a.power with flrBusy := false } }
      (b.lastReset 4).stopAll.hostReset.setReg Reg.GLB_IRQ_MASK 0xFFF)

/-- FLR (R411, R436 to R439): native mode only; in progress until FLR_COMPLETE. -/
def execFlr (s : State) : Host.Outcome State Fault Refusal :=
  answer s (s.when (s.linkUp && s.native) fun s =>
    let a := s.addReg Reg.PWR_RESET_CNT_HOT_FLR 1
    if s.softBusy || s.power.flrBusy then a
    else
      let b : State := { a with power := { a.power with flrBusy := true } }
      (b.lastReset 5).stopAll.hostReset.setReg Reg.GLB_IRQ_MASK 0xFFF)

/-- FLR_COMPLETE (R437). -/
def execFlrComplete (s : State) : Host.Outcome State Fault Refusal :=
  answer s { s with power := { s.power with flrBusy := false } }

/-! ### Warm reset and Chrysalis (R436, R438) -/

/-- The level of a land or a supply, which no reset moves: the panel inputs of FLT_OP, and PWR_SUPPLY. -/
def Field.land (f : Field) : Bool :=
  f.off == 0x02014 || (f.off == 0x17010 && decide (f.lo < 7 ∧ f.lo ≠ 3))

/-- ACK_WAIT, which every reset but a warm or cold one leaves as it stands (R388). -/
def Field.isAckWait (f : Field) : Bool := f.off == 0x17010 && f.lo == 3

/-- The time base as its counter stands, every correction forgotten. -/
def TimeUnit.counterOnly (t : TimeUnit) : TimeUnit :=
  { sec := t.sec, ns := t.ns, frac := t.frac, slew := 0, heldStep := none, stepNs := 0, first := true, grandmaster := none,
    ppsPhase := false, lastPps := none, pathDelay := none, syncDiff := none, tsq := [] }

/-- HBM with its words, its remap table and its delays kept; its map is rebuilt after a sweep (R298, R305, R319). -/
def HbmUnit.kept (h : HbmUnit) : HbmUnit :=
  { HbmUnit.init with words := h.words, remap := h.remap, hard := h.hard, checkErr := h.checkErr, sweepFast := true, sweepTemps := h.sweepTemps, delays := h.delays }

/-- Calibration with its committed results and their snapshots kept. -/
def CalUnit.kept (c : CalUnit) : CalUnit :=
  { items := c.items.map fun i => { i with begun := [] }, targets := c.targets, readings := List.replicate 12 0,
    shuttle := 0, dieHot := false, blkHot := false }

/-- Classes K and P, the lands, and where a report is kept also reports and band residue records (R438); every class V
setting, every stripe, package, ring and unit starts afresh. What has left the device stays what it was. -/
def State.keepKP (s : State) (chrysalis : Bool) (power : PowerUnit) : State :=
  { State.reset with
    part := s.part
    mode := s.mode
    regs := keepFields (fun f => f.cls != .v || f.land || (chrysalis && f.isAckWait)) s.regs
    power := power
    time := s.time.counterOnly
    link := { State.reset.link with eqTable := s.link.eqTable, groups := Vector.replicate 16 { Group.init with fast := true } }
    hbm := s.hbm.kept
    cal := s.cal.kept
    beams := s.beams
    defects := s.defects
    reports := if chrysalis then s.reports else []
    bands := if chrysalis then s.bands else []
    out := s.out
    draw := s.draw
    pending := s.pending }

/-- The power unit of a start without fill (R431). -/
def PowerUnit.restart (p : PowerUnit) (wakeLow : Bool) : PowerUnit :=
  { state := .active, starting := true, cold := false, flrBusy := false, wakeLow := wakeLow, pwrreqLow := false, emergency := 0,
    brownout := p.brownout, modesel := p.modesel }

/-- A warm reset's code in LAST_RESET. -/
def warmCode : WarmCause → Nat
  | .resetN => 2
  | .perst => 3

/-- RESET_N and PERST# act in Active and Idle, PERST# also in Chrysalis (R436; log 19). -/
def State.warmActs (s : State) (c : WarmCause) : Bool :=
  match s.power.state with
  | .active | .idle => true
  | .chrysalis => c == .perst
  | .cocoon | .off => false

/-- WARM_RESET (R436 to R438): counted; absorbed while a cold or warm reset is in progress. -/
def execWarmReset (cause : WarmCause) (s : State) : Host.Outcome State Fault Refusal :=
  answer s (s.when (s.warmActs cause) fun s =>
    let a := s.addReg Reg.PWR_RESET_CNT_WARM 1
    if s.power.starting then a else (a.keepKP false (s.power.restart false)).lastReset (warmCode cause))

/-! ### Cold reset, Cocoon and the Cocoon domain (R428, R430, R433, R435, R436, R438) -/

/-- Class K alone, or nothing, and the lands: P and V at their reset values, HBM filled with zeros or lost (R319, R438). -/
def State.keepK (s : State) (k : Bool) (power : PowerUnit) : State :=
  { State.reset with
    part := s.part
    mode := s.mode
    regs := keepFields (fun f => (k && f.cls == .k) || f.land) s.regs
    power := power
    time := if k then s.time.counterOnly else State.reset.time
    out := s.out
    draw := s.draw
    pending := s.pending }

/-- What VIN's return out of Cocoon leaves in class K: the crystal ran, a brown-out is counted, and an ALARM that asked for
VIN is the wake source (R356, R430, R435). -/
def State.vinReturns (s t : State) : State :=
  t.when (s.power.state == .cocoon) fun t =>
    ((t.setReg Reg.TIM_STATUS_XTAL_RAN 1).when s.power.brownout (·.addReg Reg.PWR_RESET_CNT_BROWNOUT 1)).when s.power.pwrreqLow
      (·.setReg Reg.PWR_WAKE_CAUSE 8)

/-- The power unit at a cold reset. -/
def PowerUnit.coldStart (modesel : Bool) : PowerUnit :=
  { state := .active, starting := true, cold := true, flrBusy := false, wakeLow := false, pwrreqLow := false, emergency := 0,
    brownout := false, modesel := modesel }

/-- A cold reset: class K is kept unless its domain was without supply (R428, R438). -/
def State.coldStart (s : State) (cause : ColdCause) (modesel : Bool) : State :=
  let a := s.vinReturns (s.keepK (s.power.state != .off) (PowerUnit.coldStart modesel))
  a.lastReset (match cause with | .vin => 0 | .poreset => 1)

/-- A cold reset takes place: PORESET_N needs VIN. -/
def State.coldActs (s : State) (cause : ColdCause) : Bool :=
  cause == .vin || (s.power.state != .cocoon && s.power.state != .off)

/-- COLD_RESET (R2, R436): the whole device; the mode is latched from MODESEL, high for native. -/
def execColdReset (cause : ColdCause) (modesel : Bool) (s : State) : Host.Outcome State Fault Refusal :=
  if s.coldActs cause then
    .next { s.coldStart cause modesel with mode := if modesel then .native else .xk2, part := s.part, pending := s.pending }
  else .next s

/-- The power unit in Cocoon, or without any supply. -/
def PowerUnit.down (p : PowerUnit) (state : Power) (brownout : Bool) : PowerUnit :=
  { state := state, starting := false, cold := false, flrBusy := false, wakeLow := false, pwrreqLow := false, emergency := 0,
    brownout := brownout, modesel := p.modesel }

/-- Into Cocoon (R430, R433): every output idles, both DAC codes go to DAC_OFS, and only class K stays. No completion is
written. -/
def State.toCocoon (s : State) (brownout : Bool) : State :=
  s.when (s.power.state != .cocoon && s.power.state != .off) fun s =>
    (s.when s.native (·.emit (.dac (s.restCode 0) (s.restCode 1)))).keepK true (s.power.down .cocoon brownout)

/-- BROWNOUT (R430): counted when VIN returns. -/
def execBrownout (s : State) : Host.Outcome State Fault Refusal := answer s (s.toCocoon true)

/-- COCOON_ENTRY (R433): VIN is removed. -/
def execCocoonEntry (s : State) : Host.Outcome State Fault Refusal := answer s (s.toCocoon false)

/-- VKEEP_LOSS (R428): class K is lost only while VIN is absent. -/
def execVkeepLoss (s : State) : Host.Outcome State Fault Refusal :=
  answer s (s.when (s.power.state == .cocoon) fun s => s.keepK false (s.power.down .off false))

/-- COCOON_DOMAIN_POWER_UP (R357, R428): class K is at its reset values, K_LOST among them, and the time base starts from
zero with VALID 0. -/
def execCocoonDomainPowerUp (s : State) : Host.Outcome State Fault Refusal :=
  answer s (s.when (s.power.state == .off) fun s => s.keepK false (s.power.down .cocoon false))

end Sys2Proof.Machine
end

