-- ==== Sys2Proof/Machine/Power.lean ====
section
/-! DEFINITION. Power states and bring-up (R385, R428 to R435, R444): Idle, Chrysalis, wakes, the ALARM in Cocoon, and the
Instar stages. -/
namespace Sys2Proof.Machine

/-! ### Idle and Chrysalis (R433 to R435) -/

/-- An AXIS_MOVE, CAL_RUN or BEAM_CHECK runs (R434). -/
def State.busyMoving (s : State) : Bool :=
  s.stage.yMove.isSome || (s.stage.aux.toList.any fun a => a.move.isSome)
    || s.jobs.any fun j => match j with | .calRun _ _ _ _ | .beamCheck _ _ _ => true | _ => false

/-- A request is refused: REQ_REFUSED, and POWER when it became set (R434, R461). -/
def State.refuseRequest (s : State) : State :=
  ((s.setReg Reg.PWR_STATUS_REQ_REFUSED 1).count 2 6 1).when (!s.flag Reg.PWR_STATUS_REQ_REFUSED) (·.raise 10)

/-- Idle: every group goes to L2 (R433). -/
def State.enterIdle (s : State) : State :=
  let a := (s.count 2 0 1).forAll (List.range 16) fun g t => t.enterL2 g
  { a with power := { a.power with state := .idle } }

/-- Chrysalis: the link goes down, unbound packages are released, and class V does not survive (R433, R434, R438). -/
def State.enterChrysalis (s : State) : State :=
  (s.count 2 2 1).keepKP true { s.power.restart false with state := .chrysalis, starting := false }

/-- REQ of PWR_CTL (R434, R444): 1 Idle, 2 Chrysalis; 0 and 3 do nothing. -/
def State.powerRequest (s : State) (req : Nat) : State :=
  match req with
  | 1 => if s.stripeBusy || s.busyMoving then s.refuseRequest else s.enterIdle
  | 2 => if !s.stripes.isEmpty || s.busyMoving then s.refuseRequest else s.enterChrysalis
  | _ => s

/-- A write to PWR_CTL. -/
def pwrCtlWrite (v : Nat) (s : State) : State := (s.writeFields 0x02000 v).powerRequest (bits v 0 2)

/-- ENTER_IDLE (R434). -/
def execEnterIdle (v : Word) (s : State) : Host.Outcome State Fault Refusal := answer s (s.bus 0x02000 (pwrCtlWrite v.toNat))

/-- ENTER_CHRYSALIS (R434). -/
def execEnterChrysalis (v : Word) (s : State) : Host.Outcome State Fault Refusal := answer s (s.bus 0x02000 (pwrCtlWrite v.toNat))

/-- A wake source's bit of PWR_WAKE (R435). -/
def wakeBit : WakeSource → Nat
  | .host => 0
  | .ack => 1
  | .svc => 2
  | .alarm => 3

/-- PWR_ALARM. -/
def State.alarmAt (s : State) : Nat := s.reg Reg.PWR_ALARM_LO_SEC + 2 ^ 32 * s.reg Reg.PWR_ALARM_HI_SEC

/-- A wake source is enabled: HOST always in Idle, and never in Chrysalis; an ALARM once SEC has reached PWR_ALARM (R435). -/
def State.wakeEnabled (s : State) (src : WakeSource) : Bool :=
  match src with
  | .host => s.power.state == .idle
  | .alarm => bitOf (s.reg Reg.PWR_WAKE_EN) 3 && decide (s.alarmAt ≤ s.time.sec)
  | .ack => bitOf (s.reg Reg.PWR_WAKE_EN) 1
  | .svc => bitOf (s.reg Reg.PWR_WAKE_EN) 2

/-- Chrysalis ends: WAKE_N is held low until Instar 2, and bring-up starts without fill (R431, R435, R438). -/
def State.leaveChrysalis (s : State) (src : Nat) : State :=
  s.when (s.power.state == .chrysalis) fun s =>
    ((s.keepKP true (s.power.restart true)).lastReset 7).setReg Reg.PWR_WAKE_CAUSE (2 ^ src)

/-- An enabled wake source ends Idle or Chrysalis (R435). -/
def State.wakeBy (s : State) (src : WakeSource) : State :=
  s.when (s.wakeEnabled src && s.native) fun s => (s.leaveIdle (wakeBit src)).leaveChrysalis (wakeBit src)

/-- WAKE (R435). -/
def execWake (src : WakeSource) (s : State) : Host.Outcome State Fault Refusal := answer s (s.wakeBy src)

/-- COCOON_ALARM (R435): PWRREQ_N is held low until VIN returns; never in XK2 mode. -/
def execCocoonAlarm (s : State) : Host.Outcome State Fault Refusal :=
  answer s (s.when (s.power.state == .cocoon && s.native && s.wakeEnabled .alarm) fun s =>
    { s with power := { s.power with pwrreqLow := true } })

/-! ### Bring-up (R385, R431, R432) -/

/-- The stage reached. -/
def State.instar (s : State) : Nat := s.reg Reg.GLB_STATUS_INSTAR

/-- Reach a stage: INSTAR raises its cause (R461). -/
def State.reach (s : State) (n : Nat) : State := (s.setReg Reg.GLB_STATUS_INSTAR n).raise 7

/-- Instar 1: after the fill of a cold reset, PCs that failed its read-back are disabled (R319, R431). -/
def State.toInstar1 (s : State) (badPcs : List Nat) : State :=
  let a : State := { s with power := { s.power with starting := false } }
  (a.forAll (if s.power.cold then badPcs.filter (· < 64) else []) fun pc t => t.failPc pc).reach 1

/-- The console's session: the cable is in, the port is not locked out, and the mode has one (R4, R393, R461). -/
def State.sessionFollows (s : State) : State :=
  let open_ := s.native && s.flag Reg.FLT_OP_SVC_PRESENT && !s.flag Reg.GLB_CTL_SVC_PORT_DIS && decide (2 ≤ s.instar)
  (s.setFlag Reg.FLT_SVC_SESSION open_).when (open_ && !s.flag Reg.FLT_SVC_SESSION) (·.count 23 6 1)

/-- Instar 2: a good firmware image runs, and the link is up; WAKE_N is released (R431, R432, R435). -/
def State.toInstar2 (s : State) (major minor : Nat) (image : Option Bool) (speed width : Nat) : State :=
  match image with
  | none => s
  | some i =>
    let a := s.setRegs [(Reg.GLB_VERSION_FW_MAJOR, major), (Reg.GLB_VERSION_FW_MINOR, minor), (Reg.GLB_VERSION_FW_IMAGE, b2n i),
      (Reg.HIF_STATUS_SPEED, speed), (Reg.HIF_STATUS_WIDTH, width)]
    ({ a with power := { a.power with wakeLow := false } }.reach 2).sessionFollows

/-- Every group is in one of two states. -/
def State.groupsAt (s : State) (a b : Nat) : Bool := (List.range 16).all fun g => s.grp g == a || s.grp g == b

/-- HBM has been swept at the rate asked for, and 28 PCs of each stack are live (R304, R431). -/
def State.memorySwept (s : State) : Bool :=
  s.flag Reg.MEM_STATUS_TRAINED && !s.flag Reg.MEM_STATUS_SWEEPING && s.reg Reg.MEM_STATUS_RATE == s.rateAsked
    && decide (28 ≤ s.reg Reg.MEM_STATUS_LIVE0) && decide (28 ≤ s.reg Reg.MEM_STATUS_LIVE1)

/-- Instar 3: the address map is built; after a cold reset every calibration item is due (R298, R304, R403, R431). -/
def State.toInstar3 (s : State) : State :=
  s.when (s.memorySwept && s.groupsAt grpLow grpOut) fun s =>
    let a := s.buildMap.when s.power.cold (·.setDue [0, 1, 2, 3])
    { a with power := { a.power with cold := false } }.reach 3

/-- Instar 4: a fenced spare slice is tested (R385, R431). -/
def State.toInstar4 (s : State) : State :=
  s.when (s.groupsAt grpReady grpOut && !s.flag Reg.CAL_STATUS_DUE && !s.flag Reg.CAL_STATUS_RUNNING) fun s =>
    (s.when (s.part == .fx640 && s.reg Reg.FLT_STATUS_SPARE_STATE == 1) fun s => s.onSlice 4 fun c => { c with testing := true }).reach 4

/-- INSTAR_ADVANCE (R431, R432): the next stage, once its conditions hold. The operands are what bring-up found: firmware version
and image, link speed and width, PCs that failed the fill. -/
def execInstarAdvance (fwMajor fwMinor : BitVec 8) (fwImage : Option Bool) (speed width : Nat) (badPcs : List Nat) (s : State) :
    Host.Outcome State Fault Refusal :=
  answer s (s.when (s.power.state == .active) fun s => match s.instar with
    | 0 => s.toInstar1 badPcs
    | 1 => s.toInstar2 fwMajor.toNat fwMinor.toNat fwImage speed width
    | 2 => s.toInstar3
    | 3 => s.toInstar4
    | _ => s)

end Sys2Proof.Machine
end

