-- ==== Sys2Proof/Machine/Panel.lean ====
section
/-! DEFINITION. The operator panel (R386 to R393, R395): E-STOP, ACK, door, key and service cable. The fault manager and the
panel inputs work in every power state but Cocoon (R433, R434). -/
namespace Sys2Proof.Machine

/-- The fault manager is powered. -/
def State.panelOn (s : State) : Bool :=
  match s.power.state with
  | .active | .idle | .chrysalis => true
  | .cocoon | .off => false

/-- An EVR OPERATOR entry (R351). -/
def State.operatorEvent (s : State) (kind : Nat) : State := s.event 0x0D 0xFF kind 0

/-! ### E-STOP (R387 to R389) -/

/-- A running BEAM_CHECK ends with ST_ESTOP (R387, R388; log 18). -/
def State.estopCheck (s : State) : State :=
  let mine (j : CmdJob) : Bool := match j with | .beamCheck _ _ _ => true | _ => false
  ({ s with jobs := s.jobs.filter fun j => !mine j }).forAll (s.jobs.filter mine) fun j t => t.done j.origin .estop

/-- A host Y move goes to rest at EDEC, and completes with ST_ESTOP (R267, R387). -/
def State.estopY (s : State) : State :=
  { s with stage := { s.stage with yMove := s.stage.yMove.map fun m => { m with stopping := some .estop } } }

/-- The hardware path of E-STOP (R387): STOP ordered sets on every active lane, Looper disengaged, motion to rest, the cut tick,
and the abort of the stripe. -/
def State.estopPath (s : State) : State :=
  let a := (s.when (!s.activeLanes.isEmpty) (·.emit .stop)).disengage
  let b : State := if a.driving then { a with stage := { a.stage with emergency := true, hardStop := true } } else a
  let c := b.estopY.forAll (List.range 4) fun n t => t.auxHalt n .estop []
  (c.estopCheck.estopCut).abort .estop

/-- ESTOP_ASSERT (R387): either channel asserts E-STOP. -/
def execEstopAssert (channelB : Bool) (s : State) : Host.Outcome State Fault Refusal :=
  answer s (s.when s.panelOn fun s =>
    let was := s.flag Reg.FLT_OP_ESTOP
    let a := s.setRegs [(if channelB then Reg.FLT_OP_ESTOP_B else Reg.FLT_OP_ESTOP_A, 1), (Reg.FLT_OP_ESTOP, 1)]
    a.when (!was) fun a => (((a.operatorEvent 1).raise 2).count 21 6 1).estopPath)

/-- ESTOP_RELEASE (R388): both channels high for 20 ms; ACK_WAIT is set. -/
def execEstopRelease (s : State) : Host.Outcome State Fault Refusal :=
  answer s (s.when (s.panelOn && s.flag Reg.FLT_OP_ESTOP) fun s =>
    (s.setRegs [(Reg.FLT_OP_ESTOP_A, 0), (Reg.FLT_OP_ESTOP_B, 0), (Reg.FLT_OP_ESTOP, 0), (Reg.FLT_OP_ACK_WAIT, 1)]).operatorEvent 2)

/-- ESTOP_DISCREPANCY (R389): the channels differ beyond DISC_MS. -/
def execEstopDiscrepancy (s : State) : Host.Outcome State Fault Refusal :=
  answer s (s.when (s.panelOn && s.flag Reg.FLT_OP_ESTOP_A != s.flag Reg.FLT_OP_ESTOP_B) fun s =>
    ((s.setReg Reg.FLT_OP_ESTOP_DISC 1).operatorEvent 1).when (!s.flag Reg.FLT_OP_ESTOP_DISC) (·.raise 2))

/-- ACK_PRESS (R386, R388): clears ACK_WAIT once E-STOP is released; a press is also a wake source (R435). -/
def execAckPress (s : State) : Host.Outcome State Fault Refusal :=
  answer s (s.when s.panelOn fun s =>
    ((s.operatorEvent 7).when (!s.flag Reg.FLT_OP_ESTOP) (·.setReg Reg.FLT_OP_ACK_WAIT 0)).wakeBy .ack)

/-! ### Door and key (R390, R391) -/

/-- Moves not exempted go to rest at AMAX or DEC and complete with STOPPED (R390, R391). -/
def State.stopMoves (s : State) : State :=
  let a : State := { s with stage := { s.stage with yMove := s.stage.yMove.map fun m => { m with stopping := some (m.stopping.getD .ok) } } }
  a.forAll (List.range 4) fun n t => t.auxHalt n .ok []

/-- DOOR_OPEN (R390): a stripe in TRANSIT through RUNOUT aborts; with the key off, host moves stop. -/
def execDoorOpen (s : State) : Host.Outcome State Fault Refusal :=
  answer s (s.when (s.panelOn && !s.flag Reg.FLT_OP_DOOR_OPEN) fun s =>
    let a := ((s.setReg Reg.FLT_OP_DOOR_OPEN 1).operatorEvent 3).raise 2
    (a.when a.writing?.isSome (·.abort .stripeAborted)).when (!s.flag Reg.FLT_OP_KEY_ON) State.stopMoves)

/-- DOOR_CLOSE (R390). -/
def execDoorClose (s : State) : Host.Outcome State Fault Refusal :=
  answer s (s.when (s.panelOn && s.flag Reg.FLT_OP_DOOR_OPEN) fun s => (s.setReg Reg.FLT_OP_DOOR_OPEN 0).operatorEvent 4)

/-- KEY_CHANGE (R391): turned off with the door open, exempted moves come to rest. XK2 mode reads the key as off (R425). -/
def execKeyChange (on : Bool) (s : State) : Host.Outcome State Fault Refusal :=
  answer s (s.when (s.panelOn && s.native && s.flag Reg.FLT_OP_KEY_ON != on) fun s =>
    ((s.setFlag Reg.FLT_OP_KEY_ON on).operatorEvent (if on then 5 else 6)).when (!on && s.flag Reg.FLT_OP_DOOR_OPEN) State.stopMoves)

/-! ### The service cable (R393) -/

/-- SERVICE_CABLE_IN (R393): a session opens unless the port is locked out; the cable is a wake source (R435). XK2 mode reads it as
absent (R425). -/
def execServiceCableIn (s : State) : Host.Outcome State Fault Refusal :=
  answer s (s.when (s.panelOn && s.native && !s.flag Reg.FLT_OP_SVC_PRESENT) fun s =>
    (((s.setReg Reg.FLT_OP_SVC_PRESENT 1).operatorEvent 8).sessionFollows).wakeBy .svc)

/-- SERVICE_CABLE_OUT (R393): the session ends. -/
def execServiceCableOut (s : State) : Host.Outcome State Fault Refusal :=
  answer s (s.when (s.panelOn && s.native && s.flag Reg.FLT_OP_SVC_PRESENT) fun s =>
    ((s.setReg Reg.FLT_OP_SVC_PRESENT 0).operatorEvent 9).sessionFollows)

end Sys2Proof.Machine
end

