-- ==== Sys2Proof/Machine/Observe.lean ====
section
/-! DEFINITION. Counters, snapshots and check units (R446 to R454, R458). -/
namespace Sys2Proof.Machine

/-! ### Counter control (R446, R448) -/

/-- Every block counter and OVF bit to 0 (R448). -/
def State.clearCounters (s : State) : State :=
  { s with obs := { s.obs with counters := [] } }.setRegs ((List.range 6).map fun i => (Reg.PMC_OVF i, 0))

/-- A write to PMC_CTL: FREEZE as written, then CLEAR (R448). -/
def pmcCtlWrite (v : Nat) (s : State) : State := (s.writeFields 0x19000 v).when (bitOf v 1) State.clearCounters

/-- COUNTER_CLEAR (R448). -/
def execCounterClear (v : Word) (s : State) : Host.Outcome State Fault Refusal := answer s (s.bus 0x19000 (pmcCtlWrite v.toNat))

/-- COUNTER_FREEZE (R448). -/
def execCounterFreeze (v : Word) (s : State) : Host.Outcome State Fault Refusal := answer s (s.bus 0x19000 (pmcCtlWrite v.toNat))

/-- A write to PMC_CHAINi: each pair whose bit changes has both counters and OVF bits cleared (R446). -/
def chainWrite (i v : Nat) (s : State) : State :=
  let old := s.reg (Reg.PMC_CHAIN i)
  let t := s.setReg (Reg.PMC_CHAIN i) v
  t.forAll ((List.range 32).filter fun n => bitOf old n != bitOf v n) fun n t =>
    (t.clearCounter (8 * i + n / 4) (2 * (n % 4))).clearCounter (8 * i + n / 4) (2 * (n % 4) + 1)

/-- COUNTER_CHAIN_WRITE (R446). -/
def execCounterChainWrite (i : Fin 3) (v : Word) (s : State) : Host.Outcome State Fault Refusal :=
  answer s (s.bus (0x19004 + 4 * i) (chainWrite i v.toNat))

/-! ### Reading counters (R450, R456, R458) -/

/-- PMC_RD_SEL as a word. -/
def State.rdSel (s : State) : Nat :=
  s.reg Reg.PMC_RD_SEL_BLOCK + 2 ^ 5 * s.reg Reg.PMC_RD_SEL_COUNTER + 2 ^ 8 * s.reg Reg.PMC_RD_SEL_ENGINE
    + 2 ^ 16 * s.reg Reg.PMC_RD_SEL_CLASS + 2 ^ 31 * s.reg Reg.PMC_RD_SEL_SLOT

/-- A slot accumulator (R451). -/
def State.slot (s : State) (e k : Nat) : Nat := SMap.get (fun _ => 0) s.obs.slots (4 * e + k)

/-- What a selection reads: 64 bits of a slot accumulator, or a counter, 96 bits for the even one of a chained pair (R458).
Engines and blocks that do not exist read 0. -/
def State.selected (s : State) (sel : Nat) : Nat :=
  let b := bits sel 0 5
  let n := bits sel 5 3
  if bitOf sel 31 then (if bits sel 8 7 < 96 then s.slot (bits sel 8 7) (bits sel 16 2) else 0)
  else if 24 ≤ b then 0
  else if s.chained b n ∧ n % 2 = 0 then s.counter b n + 2 ^ 48 * s.counter b (n + 1)
  else s.counter b n

/-- PMC_RD_LATCH (R456, R458): a read of PMC_RD_LO latches the selection; the console has its own selection and latch. -/
def execPmcRdLatch (console : Bool) (s : State) : Host.Outcome State Fault Refusal :=
  answer s (s.when (if console then s.flag Reg.FLT_SVC_SESSION else s.linkUp) fun s =>
    let t := if console then s.count 23 0 1 else s.access
    let v := t.selected (if console then t.obs.consoleSel.toNat else t.rdSel)
    let o : ObsUnit := if console then { t.obs with console := { t.obs.console with pmc := v } }
      else { t.obs with host := { t.obs.host with pmc := v } }
    { t with obs := o }.emit (.read (v % 2 ^ 32)))

/-! ### Snapshots (R344, R449, R450) -/

/-- A counter's entry: its value, and OVF in bit 63. -/
def State.counterEntry (s : State) (b n : Nat) : Nat :=
  s.counter b n + 2 ^ 63 * b2n (bitOf (s.reg (Reg.PMC_OVF (b / 4))) (8 * (b % 4) + n))

/-- A snapshot's FLAGS. -/
def snapshotFlags (inRun paused fx632 : Bool) : Nat := b2n inRun + 2 * b2n paused + 4 * b2n fx632

/-- The snapshot's bytes (R450): stripe, tick, instant in ps and in units of 2^−32 ns, sequence number. -/
def State.snapshotBytes (s : State) (flags stripe tick : Nat) (at_ : Nat × Nat × Nat) (seq : Nat) : List Byte :=
  leBytes 2 0x4E53 ++ leBytes 1 1 ++ leBytes 1 flags ++ leBytes 4 snapshotSize ++ leBytes 4 stripe ++ leBytes 4 tick
    ++ leBytes 6 at_.1 ++ [0, 0] ++ leBytes 4 at_.2.1 ++ leBytes 4 at_.2.2 ++ leBytes 4 seq
    ++ (List.range 3).flatMap (fun i => leBytes 4 (s.reg (Reg.PMC_CHAIN i))) ++ leBytes 1 (s.reg Reg.PWR_STATUS_PL)
    ++ List.replicate 15 0
    ++ (List.range 192).flatMap (fun i => leBytes 8 (s.counterEntry (i / 8) (i % 8)))
    ++ (List.range 384).flatMap fun i => leBytes 8 (s.slot (i / 4) (i % 4))

/-- SEC, NS and FRAC of an instant in ps. -/
def stampOf (ps : Nat) : Nat × Nat × Nat := (ps / 1000000000000, ps / 1000 % 1000000000, ps % 1000 * 2 ^ 32 / 1000)

/-- A snapshot job whose capture may be taken now: outside a running run at once, else at a tick fixed after it was asked (R449). -/
def State.mayCapture (s : State) : CmdJob → Bool
  | .snapshot _ _ since => (match s.ticking, since, s.lastTick with
    | some _, some nf, some t => decide (nf ≤ t + 1)
    | some _, some _, none => false
    | _, _, _ => true)
  | _ => false

/-- The capture falls in a data pause, or after a run ended before the tick it waited for (R449). -/
def State.capturePaused (s : State) (js : List CmdJob) : Bool :=
  s.ticking.isNone && ((match s.active? with | some p => p.state == .pause | none => false)
    || js.any fun j => match j with | .snapshot _ _ since => since.isSome | _ => false)

/-- The instant a capture is stamped with: its tick's during a run, else now (R449, R450). -/
def State.captureStamp (s : State) : Nat × Nat × Nat :=
  match s.ticking, s.lastTick with
  | some x, some t => stampOf ((x.2.instantOf (t + 1)).getD s.now)
  | _, _ => (s.time.sec, s.time.ns, s.time.frac)

/-- Serve one snapshot from a capture: the buffer, the event, the completion (R344, R335). -/
def State.serveSnapshot (s : State) (bytes : List Byte) (tick : Nat) : CmdJob → State
  | .snapshot o addr _ =>
    (((s.emit (.hostWrite addr bytes)).count 1 5 73).event 0x0C 0xFF 1 o.slot).complete (Completion.mk' o .ok tick snapshotSize 0)
  | _ => s

/-- COUNTER_CAPTURE (R344, R449, R450): one capture serves every snapshot that waits on it. -/
def execCounterCapture (s : State) : Host.Outcome State Fault Refusal :=
  let js := s.jobs.filter s.mayCapture
  answer s (s.when (!js.isEmpty && s.clocked) fun s =>
    let paused := s.capturePaused js
    let inRun := s.ticking.isSome || paused
    let tick := if inRun then s.lastTick.getD noTick else noTick
    let seq := (s.reg Reg.PMC_SEQ + 1) % 2 ^ 32
    let stripe := match s.writing? with | some p => p.par.id | none => 0
    let bytes := s.snapshotBytes (snapshotFlags inRun paused (s.part == .fx632)) stripe tick s.captureStamp seq
    let a : State := { s with jobs := s.jobs.filter fun j => !s.mayCapture j, obs := { s.obs with snapshot := some bytes } }
    (a.setReg Reg.PMC_SEQ seq).forAll js fun j t => t.serveSnapshot bytes tick j)

/-! ### Snoop units (R453) -/

/-- A write to CHK_SNu_CTL: MODE 2 loads Init and folds the seed. -/
def snoopCtlWrite (u v : Nat) (s : State) : State :=
  let t := s.writeFields (0x16100 + 0x20 * u) v
  let code := t.reg (Reg.CHK_SN_CTL_POLY u)
  let seed := t.reg (Reg.CHK_SN_SEED_LO_WORD u) + 2 ^ 32 * t.reg (Reg.CHK_SN_SEED_HI_WORD u)
  t.when (bits v 0 2 == 2) fun t =>
    t.setSnoopVal u (if t.flag (Reg.CHK_SN_CTL_SEEDED u) then crcSeeded code seed else crcInit code).toNat

/-- SNOOP_ACCUM_START (R453). -/
def execSnoopAccumStart (u : Fin 22) (v : Word) (s : State) : Host.Outcome State Fault Refusal :=
  answer s (s.bus (0x16100 + 0x20 * u) (snoopCtlWrite u v.toNat))

/-- A write to VAL_LO or VAL_HI of a snoop unit: taken only while the unit's MODE is 0, or 3, which acts as 0 (R453, R458). -/
def snoopValWrite (u off v : Nat) (s : State) : State :=
  s.when (s.reg (Reg.CHK_SN_CTL_MODE u) % 3 == 0) (·.writeFields off v)

/-! ### The write-fed engine (R454) -/

/-- Contexts 6 and 7 are the housekeeper's: a write to one is ignored and counted. -/
def State.wfRefused (s : State) : State := s.count 20 7 1

/-- Writes of a context enter until none waits (R454). -/
def State.wfDrain (s : State) (c : Nat) : Nat → State
  | 0 => s
  | n + 1 => if s.obs.wfQueue.any fun e => e.1 == c then s.wfEnter.wfDrain c n else s

/-- All earlier writes of a context have entered; the queue holds sixteen. -/
def State.wfSettle (s : State) (c : Nat) : State := s.wfDrain c 16

/-- Set a context's running value, and RESULT with it (R458). -/
def State.setWf (s : State) (c v : Nat) : State :=
  let r := (BitVec.ofNat 64 v ^^^ crcXorOut (s.reg (Reg.CHK_WF_CTL_POLY c))).toNat
  s.setRegs [(Reg.CHK_WF_VAL_LO_WORD c, v), (Reg.CHK_WF_VAL_HI_WORD c, v / 2 ^ 32), (Reg.CHK_WF_RESULT_LO_WORD c, r),
    (Reg.CHK_WF_RESULT_HI_WORD c, r / 2 ^ 32)]

/-- A context's running value. -/
def State.wfVal (s : State) (c : Nat) : Nat := s.reg (Reg.CHK_WF_VAL_LO_WORD c) + 2 ^ 32 * s.reg (Reg.CHK_WF_VAL_HI_WORD c)

/-- A write to CHK_WFc_CTL: after the earlier writes of its context, START loads Init and folds the seed (R454). -/
def wfCtlWrite (c v : Nat) (s : State) : State :=
  if 6 ≤ c then s.wfRefused
  else
    let t := (s.wfSettle c).writeFields (0x16400 + 0x40 * c) v
    let code := t.reg (Reg.CHK_WF_CTL_POLY c)
    let seed := t.reg (Reg.CHK_WF_SEED_LO_WORD c) + 2 ^ 32 * t.reg (Reg.CHK_WF_SEED_HI_WORD c)
    if bitOf v 0 then
      ((t.setWf c (if t.flag (Reg.CHK_WF_CTL_SEEDED c) then crcSeeded code seed else crcInit code).toNat).setReg
        (Reg.CHK_WF_BYTES c) 0).count 20 6 1
    else t.setWf c (t.wfVal c)

/-- WF_START (R454). -/
def execWfStart (c : Fin 8) (v : Word) (s : State) : Host.Outcome State Fault Refusal :=
  answer s (s.bus (0x16400 + 0x40 * c) (wfCtlWrite c v.toNat))

/-- Bytes of a data write, least significant first. -/
def wfBytes (w : WfWidth) (v : Nat) : List Byte :=
  match w with
  | .w8 => leBytes 1 v
  | .w16 => leBytes 2 v
  | .w32 => leBytes 4 v

/-- Offset of a data port within its context. -/
def wfPort : WfWidth → Nat
  | .w32 => 0x20
  | .w16 => 0x24
  | .w8 => 0x28

/-- A full queue stalls the writer until its oldest entry has entered; the cycles are counted (log 20). -/
def State.wfStall (s : State) : State :=
  s.when (decide (16 ≤ s.obs.wfQueue.length)) fun s =>
    s.wfEnter.count 20 3 (match s.obs.wfQueue with | e :: _ => e.2.length | [] => 0)

/-- A data write to a context. -/
def wfDataWrite (c : Nat) (w : WfWidth) (v : Nat) (s : State) : State :=
  if 6 ≤ c then s.wfRefused
  else
    let t := s.wfStall
    { t with obs := { t.obs with wfQueue := t.obs.wfQueue ++ [(c, wfBytes w v)] } }.setReg (Reg.CHK_WF_CTL_BUSY c) 1

/-- WF_DATA (R454). -/
def execWfData (c : Fin 8) (w : WfWidth) (v : Word) (s : State) : Host.Outcome State Fault Refusal :=
  answer s (s.bus (0x16400 + 0x40 * c + wfPort w) (wfDataWrite c w v.toNat))

/-- A write of VAL: it waits for earlier writes of its context, and is counted (R445, R454). -/
def wfValWrite (c : Nat) (high : Bool) (v : Nat) (s : State) : State :=
  if 6 ≤ c then s.wfRefused
  else
    let t := (s.wfSettle c).count 20 5 1
    if high then t.setWf c (t.wfVal c % 2 ^ 32 + 2 ^ 32 * (v % 2 ^ 32)) else t.setWf c (t.wfVal c / 2 ^ 32 * 2 ^ 32 + v % 2 ^ 32)

/-- WF_VAL_ACCESS (R454): a read waits until every earlier write to the context has entered, and so shows the settled value. -/
def execWfValAccess (c : Fin 8) (a : WfAccess) (s : State) : Host.Outcome State Fault Refusal :=
  answer s (match a with
    | .read => s.when s.linkUp fun s => s.access.when (!(s.part == .fx632)) (·.wfSettle c)
    | .writeLo v => s.bus (0x1640C + 0x40 * c) (wfValWrite c false v.toNat)
    | .writeHi v => s.bus (0x16410 + 0x40 * c) (wfValWrite c true v.toNat))

end Sys2Proof.Machine
end

