-- ==== Sys2Proof/Machine/TimeBase.lean ====
section
/-! DEFINITION. Commands on the time base: host steps, ACCEPT, rate, latches, captures, PTP and PPS (chapter 14). -/
namespace Sys2Proof.Machine

/-! ### Host writes and reads -/

/-- A write to TIM_STEP_SEC requests the step that TIM_STEP_NS and it make (R361). -/
def timStepWrite (v : Nat) (s : State) : State :=
  s.requestStep (signed 32 s.time.stepNs.toNat + signed 32 v * 1000000000)

/-- TIM_STEP_REQUEST (R361): a host step is never subject to GUARD. -/
def execTimStepRequest (v : Word) (s : State) : Host.Outcome State Fault Refusal :=
  answer s (s.bus 0x03020 (timStepWrite v.toNat))

/-- A write to TIM_CTL; ACCEPT requests a step of the latest measured offset and clears GUARD_TRIP (R363). -/
def timCtlWrite (v : Nat) (s : State) : State :=
  let t := s.writeFields 0x03000 v
  t.when (bitOf v 4) fun t =>
    ({ t with time := { t.time with slew := 0, first := false } }.setFlag Reg.TIM_STATUS_GUARD_TRIP false).requestStep
      (-(s.sreg Reg.TIM_OFFSET_NS))

/-- TIM_ACCEPT (R363). -/
def execTimAccept (v : Word) (s : State) : Host.Outcome State Fault Refusal :=
  answer s (s.bus 0x03000 (timCtlWrite v.toNat))

/-- A write to TIM_RATE: ignored beyond 1,000 ppm, with RATE_BAD (R355). -/
def timRateWriteOp (v : Nat) (s : State) : State :=
  if 10737418 < (signed 32 v).natAbs then s.setFlag Reg.TIM_STATUS_RATE_BAD true else s.setReg Reg.TIM_RATE v

/-- TIM_RATE_WRITE (R355). -/
def execTimRateWrite (v : Word) (s : State) : Host.Outcome State Fault Refusal :=
  answer s (s.bus 0x03018 (timRateWriteOp v.toNat))

/-- The latch a read of TIM_NOW_FRAC fills (R358). -/
def Latches.latchTime (l : Latches) (t : TimeUnit) : Latches := { l with ns := t.ns, sec := t.sec }

/-- TIM_NOW_LATCH (R358): FRAC is returned, NS and SEC of the same cycle latched; the console has its own latch (R456). -/
def execTimNowLatch (console : Bool) (s : State) : Host.Outcome State Fault Refusal :=
  answer s (s.when (if console then s.flag Reg.FLT_SVC_SESSION else s.linkUp) fun s =>
    let t := if console then s.count 23 0 1 else s.access
    let o : ObsUnit := if console then { t.obs with console := t.obs.console.latchTime s.time }
      else { t.obs with host := t.obs.host.latchTime s.time }
    { t with obs := o }.emit (.read s.time.frac))

/-- A write to TIM_CAP_TICK arms a capture and clears VALID (R368). -/
def timCapWrite (v : Nat) (s : State) : State := s.setRegs [(Reg.TIM_CAP_TICK, v), (Reg.TIM_CAP_NS_VALID, 0)]

/-- TIM_CAP_ARM (R368). -/
def execTimCapArm (v : Word) (s : State) : Host.Outcome State Fault Refusal :=
  answer s (s.bus 0x03038 (timCapWrite v.toNat))

/-- HELD_STEP_APPLY (R360): a held step is applied once no stripe is in the states that hold it. -/
def execHeldStepApply (s : State) : Host.Outcome State Fault Refusal :=
  answer s (s.whenSome (if s.stepBlocked then none else s.time.heldStep) fun ns s => s.applyStep ns)

/-! ### PTP (R362 to R366) -/

/-- The part of a PTP offset that PTP corrects: all of it, or under SRC 2 with PPS phase only the seconds (R364). -/
def State.ptpPart (s : State) (off : Int) : Int :=
  if s.reg Reg.TIM_CTL_SRC = 2 ∧ s.time.ppsPhase then roundDiv off 1000000000 * 1000000000 else off

/-- An offset measured through PTP (R362, R364): under SRC 2 with PPS phase, one of less than half a second corrects
nothing. -/
def State.ptpOffset (s : State) (off : Int) : State :=
  if s.reg Reg.TIM_CTL_SRC = 2 ∧ s.time.ppsPhase ∧ s.ptpPart off = 0 then s.setReg Reg.TIM_OFFSET_NS (offsetReg off)
  else s.measure off (s.ptpPart off) false

/-- The rate the servo sets, applied unless GUARD_TRIP holds everything or it is beyond 1,000 ppm (R355, R363). -/
def State.servoRate (s : State) (r : Option Int) : State :=
  s.whenSome (if s.flag Reg.TIM_STATUS_GUARD_TRIP then none else r) fun r s =>
    s.when (decide (r.natAbs ≤ 10737418)) (·.setReg Reg.TIM_RATE (unsignedOf 32 r))

/-- PTP_SYNC (R362, R365): a usable Sync gives receive stamp less origin, correction and path delay as the offset; the rate
the servo forms is the command's operand. -/
def execPtpSync (stampSec stampNs originSec originNs : Nat) (correctionNs : Int) (usable : Bool) (rate : Option Int)
    (s : State) : Host.Outcome State Fault Refusal :=
  let d : Int := ((stampSec * 1000000000 + stampNs : Nat) : Int) - (originSec * 1000000000 + originNs : Nat) - correctionNs
  answer s (s.when (usable && s.ptpSource) fun s =>
    ((({ s with time := { s.time with syncDiff := some d } }.setReg Reg.TIM_STATUS_PTP_STATE 3).count 3 0 1).ptpOffset
      (d - s.time.pathDelay.getD 0)).servoRate rate)

/-- PTP_ANNOUNCE (R362): another grandmasterIdentity selected is a change of master, and the next correction is the first
after it (R363). -/
def execPtpAnnounce (grandmaster : Nat) (best : Bool) (s : State) : Host.Outcome State Fault Refusal :=
  answer s (s.when (best && s.flag Reg.TIM_PTP_CTL_EN && s.time.grandmaster != some grandmaster) fun s =>
    { s with time := { s.time with grandmaster := some grandmaster, first := true } }.setReg Reg.TIM_STATUS_PTP_STATE 2)

/-- PTP_DELAY_REQ_SEND (R366): the transmit stamp is queued, or dropped when eight wait. -/
def execPtpDelayReqSend (seq : BitVec 16) (stamp : Nat) (s : State) : Host.Outcome State Fault Refusal :=
  answer s (s.when (s.flag Reg.TIM_PTP_CTL_EN) fun s =>
    let t := (s.emit (.delayReq seq.toNat)).count 3 1 1
    if s.time.tsq.length < 8 then
      { t with time := { t.time with tsq := t.time.tsq ++ [(seq.toNat, stamp)] } }.setReg Reg.TIM_TSQ_USED
        (s.time.tsq.length + 1)
    else (((t.setFlag Reg.TIM_STATUS_TSQ_OVF true).addReg Reg.TIM_TSQ_DROPPED 1).count 3 5 1).when
      (!s.flag Reg.TIM_STATUS_TSQ_OVF) (·.raise 0))

/-- PTP_DELAY_RESP (R365, R366): with its Delay_Req's stamp queued and a Sync measured, a new path delay, the rounding of half
a sum free (log 8), and a new offset; the response to a dropped stamp is ignored. -/
def execPtpDelayResp (seq : BitVec 16) (rxStamp : Nat) (correctionNs : Int) (s : State) : Host.Outcome State Fault Refusal :=
  let rest := s.time.tsq.filter fun e => e.1 != seq.toNat
  let t : State := { s with time := { s.time with tsq := rest } }.setReg Reg.TIM_TSQ_USED rest.length
  answer s (match s.time.tsq.find? fun e => e.1 == seq.toNat, s.time.syncDiff with
    | some (_, tx), some d =>
      let delay := s.quotient (d + ((rxStamp : Int) - tx - correctionNs)) 2
      ({ t with time := { t.time with pathDelay := some delay } }.when s.ptpSource (·.ptpOffset (d - delay))).drawn
    | some _, none => t
    | none, _ => s)

/-- What PTP reports lost is a loss of master where PTP is the source (R362). -/
def State.masterLost (s : State) : State := s.when s.ptpSource State.loseMaster

/-- PTP_ANNOUNCE_TIMEOUT (R362, R370): loss of master. -/
def execPtpAnnounceTimeout (s : State) : Host.Outcome State Fault Refusal :=
  answer s (s.when (s.flag Reg.TIM_PTP_CTL_EN) fun s =>
    { s.masterLost with time := { s.masterLost.time with grandmaster := none } }.setReg Reg.TIM_STATUS_PTP_STATE 1)

/-- PTP_SYNC_TIMEOUT (R362, R370): four Sync intervals without a usable Sync, loss of master. -/
def execPtpSyncTimeout (s : State) : Host.Outcome State Fault Refusal :=
  answer s (s.when (s.flag Reg.TIM_PTP_CTL_EN) fun s => s.masterLost.setReg Reg.TIM_STATUS_PTP_STATE 2)

/-- ETH_BLOCK_LOCK_LOST (R362, R370): loss of master. -/
def execEthBlockLockLost (s : State) : Host.Outcome State Fault Refusal :=
  answer s (s.when (s.flag Reg.TIM_PTP_CTL_EN) fun s => s.masterLost.setReg Reg.TIM_STATUS_PTP_STATE 4)

/-! ### PPS_IN (R362, R364) -/

/-- The offset of a stamp, ps, from the nearest whole second, in ns; positive when the counter is ahead (R364). Its rounding is
free (log 8). -/
def State.ppsOffset (s : State) (stamp : Nat) : Int :=
  let f := stamp % 1000000000000
  s.quotient (if 2 * f < 1000000000000 then (f : Int) else (f : Int) - 1000000000000) 1000

/-- PPS_EDGE (R364): an edge within 0.5 s of the last accepted one is ignored and counted; an accepted one is stamped, and
under SRC 2 or 3 corrects the phase. XK2 mode has no PPS_IN (R424, R425). -/
def execPpsEdge (stamp : Nat) (s : State) : Host.Outcome State Fault Refusal :=
  let glitch := match s.time.lastPps with
    | some t => decide (stamp < t + 500000000000)
    | none => false
  let src := s.reg Reg.TIM_CTL_SRC
  answer s (s.when s.native fun s =>
    if glitch then (s.addReg Reg.TIM_PPS_NS_GLITCH 1).count 3 7 1
    else
      let t := ({ s with time := { s.time with lastPps := some stamp, ppsPhase := src == 2 } }.setRegs
        [(Reg.TIM_PPS_NS, stamp / 1000 % 1000000000), (Reg.TIM_PPS_SEC_LO_SEC, stamp / 1000000000000)]).count 3 6 1
      t.when (src == 2 || src == 3) fun t => (t.measure (s.ppsOffset stamp) (s.ppsOffset stamp) true).drawn)

/-- PPS_ABSENT (R362): after 2 s without an edge PTP takes phase under SRC 2, and SRC 3 loses its master. -/
def execPpsAbsent (s : State) : Host.Outcome State Fault Refusal :=
  let src := s.reg Reg.TIM_CTL_SRC
  answer s ((s.when (src == 2) fun s => { s with time := { s.time with ppsPhase := false } }).when (src == 3)
    State.loseMaster)

end Sys2Proof.Machine
end

