-- ==== Sys2Proof/Machine/Writes.lean ====
section
/-! DEFINITION. Writes to BAR0 (R11, R323, R324, R394, R407, R410 to R416, R456, R460 to R464): what each register with a rule
of its own does, the XK2 image, the MSI-X table, and the console. -/
namespace Sys2Proof.Machine

/-! ### Global registers (R461 to R464) -/

/-- Vector 5 is signalled after a write that leaves the pending set non-empty (R462). -/
def State.stillPending (s : State) : State := s.when (!s.nonePending) (·.message 5)

/-- A write to GLB_IRQ_CAUSE. -/
def causeWrite (v : Nat) (s : State) : State := (s.writeFields 0x18 v).stillPending

/-- A write to GLB_IRQ_MASK. -/
def maskWrite (v : Nat) (s : State) : State := (s.writeFields 0x1C v).stillPending

/-- IRQ_CAUSE_CLEAR (R462). -/
def execIrqCauseClear (v : Word) (s : State) : Host.Outcome State Fault Refusal := answer s (s.bus 0x18 (causeWrite v.toNat))

/-- IRQ_MASK_WRITE (R462). -/
def execIrqMaskWrite (v : Word) (s : State) : Host.Outcome State Fault Refusal := answer s (s.bus 0x1C (maskWrite v.toNat))

/-- The RWL fields of GLB_CTL. -/
def lockedFields : List Field := [Reg.GLB_CTL_SVC_WRITE_DIS, Reg.GLB_CTL_SVC_PORT_DIS, Reg.GLB_CTL_OBS_DIS, Reg.GLB_CTL_LOCK]

/-- A word carries, for some RWL field, a value other than the held one. -/
def State.lockDiffers (s : State) (v : Nat) : Bool := lockedFields.any fun f => bits v f.lo 1 != s.reg f

/-- The RWL part of a write (R464): while LOCK is 0 all are written, LOCK with them; afterwards a differing value sets LOCK_HIT.
SVC_PORT_DIS opens or ends the console's session. -/
def State.writeLocked (s : State) (v : Nat) : State :=
  if s.flag Reg.GLB_CTL_LOCK then
    s.when (s.lockDiffers v) fun s =>
      (s.setReg Reg.GLB_STATUS_LOCK_HIT 1).when (!s.flag Reg.GLB_STATUS_LOCK_HIT) (·.raise 11)
  else (s.setRegs (lockedFields.map fun f => (f, bits v f.lo 1))).sessionFollows

/-- A write to GLB_CTL: the RWL fields, then SOFT_RESET (R463). -/
def glbCtlWrite (v : Nat) (s : State) : State := (s.writeLocked v).when (bitOf v 0) State.softReset

/-- GLB_CTL_LOCK_WRITE (R464). -/
def execGlbCtlLockWrite (v : Word) (s : State) : Host.Outcome State Fault Refusal := answer s (s.bus 0x10 (glbCtlWrite v.toNat))

/-- SOFT_RESET (R436, R439, R463). -/
def execSoftReset (v : Word) (s : State) : Host.Outcome State Fault Refusal := answer s (s.bus 0x10 (glbCtlWrite v.toNat))

/-! ### Set-up registers with a rule of their own -/

/-- A base register of a ring: ignored while the ring is enabled (R324). -/
def ringBaseWrite (en : Field) (off v : Nat) (s : State) : State := s.when (!s.flag en) (·.writeFields off v)

/-- A write to a register of submission ring n, at offset r in its block. -/
def sqWrite (n r v : Nat) (s : State) : State :=
  if r = 8 then sqCtlWrite n v s else if r < 8 then ringBaseWrite (Reg.HIF_SQ_CTL_EN n) (0x1100 + 0x20 * n + r) v s else s

/-- A write to a register of completion ring n. -/
def cprWrite (n r v : Nat) (s : State) : State :=
  if r = 8 then cprCtlWrite n v s else if r < 8 then ringBaseWrite (Reg.HIF_CPR_CTL_EN n) (0x1300 + 0x20 * n + r) v s else s

/-- A write to the HIF block. -/
def hifWrite (off v : Nat) (s : State) : State :=
  if 0x1100 ≤ off ∧ off < 0x1220 then sqWrite ((off - 0x1100) / 0x20) (off % 0x20) v s
  else if 0x1300 ≤ off ∧ off < 0x1380 then cprWrite ((off - 0x1300) / 0x20) (off % 0x20) v s
  else if off = 0x1388 then evrCtlWrite v s
  else if off = 0x1380 ∨ off = 0x1384 then ringBaseWrite Reg.HIF_EVR_CTL_EN off v s
  else s.writeFields off v

/-- A write to TIM_PTP_CTL: the port listens once it is enabled (R370). -/
def ptpCtlWrite (v : Nat) (s : State) : State :=
  let t := s.writeFields 0x3048 v
  if t.flag Reg.TIM_PTP_CTL_EN then t.when (!s.flag Reg.TIM_PTP_CTL_EN) (·.setReg Reg.TIM_STATUS_PTP_STATE 1)
  else t.setReg Reg.TIM_STATUS_PTP_STATE 0

/-- A write to the TIM block. -/
def timWrite (off v : Nat) (s : State) : State :=
  match off with
  | 0x3000 => timCtlWrite v s
  | 0x3018 => timRateWriteOp v s
  | 0x301C => { s with time := { s.time with stepNs := BitVec.ofNat 32 v } }
  | 0x3020 => timStepWrite v s
  | 0x3038 => timCapWrite v s
  | 0x3048 => ptpCtlWrite v s
  | _ => s.writeFields off v

/-- A write to STG_CTL: with its receivers off the stage port has no lane in lock (R246, R274). -/
def stgCtlWrite (v : Nat) (s : State) : State :=
  (s.writeFields 0x4000 v).when (!bitOf v 0) fun t =>
    { t with stage := { t.stage with lanes := Vector.replicate 3 StageLane.init } }.setReg Reg.STG_STATUS_LOCK 0

/-- A write to the LPR block. -/
def lprWrite (off v : Nat) (s : State) : State := if off = 0x6000 then lprCtlWrite v s else (s.writeFields off v).dacFollows

/-- A write to the MPH block (R221, R234 to R241, R244). -/
def mphWrite (off v : Nat) (s : State) : State :=
  let g := (off - 0x10000) / 0x400
  let r := off % 0x400
  if r = 0x3C0 then grpCtlWrite g v s
  else if r % 0x40 = 8 ∧ r < 0x2C0 then prbsCtlWrite g (r / 0x40) v s
  else s.writeFields off v

/-- A write to CAL_THR_DIE or CAL_THR_BLK: ignored unless WARN, LIMIT and CRIT strictly increase (R407). -/
def thresholdWrite (warn limit crit : Field) (off v : Nat) (s : State) : State :=
  s.when (decide (bits v warn.lo warn.width < bits v limit.lo limit.width ∧ bits v limit.lo limit.width < bits v crit.lo crit.width))
    (·.writeFields off v)

/-- A write to the CAL block. -/
def calWrite (off v : Nat) (s : State) : State :=
  if off = 0x18008 then thresholdWrite Reg.CAL_THR_DIE_WARN Reg.CAL_THR_DIE_LIMIT Reg.CAL_THR_DIE_CRIT off v s
  else if off = 0x1800C then thresholdWrite Reg.CAL_THR_BLK_WARN Reg.CAL_THR_BLK_LIMIT Reg.CAL_THR_BLK_CRIT off v s
  else s.writeFields off v

/-- A write to a snoop unit (R453). -/
def snoopWrite (off v : Nat) (s : State) : State :=
  let u := (off - 0x16100) / 0x20
  match off % 0x20 with
  | 0 => snoopCtlWrite u v s
  | 0x0C | 0x10 => snoopValWrite u off v s
  | _ => s.writeFields off v

/-- A write to a write-fed context (R454). -/
def wfWrite (off v : Nat) (s : State) : State :=
  let c := (off - 0x16400) / 0x40
  match off % 0x40 with
  | 0 => wfCtlWrite c v s
  | 0x0C => wfValWrite c false v s
  | 0x10 => wfValWrite c true v s
  | 0x20 => wfDataWrite c .w32 v s
  | 0x24 => wfDataWrite c .w16 v s
  | 0x28 => wfDataWrite c .w8 v s
  | _ => if 6 ≤ c then s.wfRefused else s.writeFields off v

/-- A write to the PMC block. -/
def pmcWrite (off v : Nat) (s : State) : State :=
  if off = 0x19000 then pmcCtlWrite v s
  else if 0x19004 ≤ off ∧ off ≤ 0x1900C then chainWrite ((off - 0x19004) / 4) v s
  else s.writeFields off v

/-- A write to DBG_MUX (R445, R455). -/
def dbgWrite (off v : Nat) (s : State) : State := (s.writeFields off v).when (off == 0x1A000) (·.count 23 4 1)

/-! ### The XK2 image (R413 to R416) -/

/-- A ring of the image may be enabled: LOG2_SIZE 4 to 12, base on 4 KiB (R324, R413). -/
def xk2RingGood (log2 baseLo : Nat) : Bool := decide (4 ≤ log2 ∧ log2 ≤ 12) && decide (baseLo % 4096 = 0)

/-- RING_EN of a write: the enable is checked, and sets the indices to 0 (R324, R416). -/
def State.xk2RingEn (s : State) (want : Bool) : State :=
  if !want then s.setReg Reg.XK2_CTL_RING_EN 0
  else if s.flag Reg.XK2_CTL_RING_EN then s
  else if xk2RingGood (s.reg Reg.XK2_RING_CTL_LOG2_SIZE) (s.reg Reg.XK2_RING_BASE_LO_ADDR) then
    (s.setRegs [(Reg.XK2_CTL_RING_EN, 1), (Reg.XK2_RING_HEAD_CONS, 0), (Reg.XK2_RING_TAIL, 0)]).onSub 9 fun r =>
      { r with stopped := false }
  else s.setCfgErr

/-- CPL_EN of a write. -/
def State.xk2CplEn (s : State) (want : Bool) : State :=
  if !want then s.setReg Reg.XK2_CTL_CPL_EN 0
  else if s.flag Reg.XK2_CTL_CPL_EN then s
  else if xk2RingGood (s.reg Reg.XK2_CPL_CTL_LOG2_SIZE) (s.reg Reg.XK2_CPL_BASE_LO_ADDR) then
    (s.setRegs [(Reg.XK2_CTL_CPL_EN, 1), (Reg.XK2_CPL_HEAD, 0), (Reg.XK2_CPL_HEAD_W, 0)]).onCpl 4 fun r => { r with phase := true }
  else s.setCfgErr

/-- A write to XK2_CTL (R413, R416, R436). -/
def xk2CtlWrite (v : Nat) (s : State) : State :=
  (((s.setFlag Reg.XK2_CTL_IRQ_EN (bitOf v 2)).xk2RingEn (bitOf v 0)).xk2CplEn (bitOf v 1)).when (bitOf v 8) State.softReset

/-- XK2_SOFT_RESET (R436). -/
def execXk2SoftReset (v : Word) (s : State) : Host.Outcome State Fault Refusal := answer s (s.bus 0x20004 (xk2CtlWrite v.toNat))

/-- A write to XK2_LINK_CTL (R413, R418): the device id passes through, and RETRAIN acts on every group. -/
def xk2LinkWrite (v : Nat) (s : State) : State :=
  let t := (deviceIdWrite (v % 2 ^ 11) s).setReg Reg.XK2_LINK_CTL_SPARE_EN (bits v 16 16)
  t.when (bitOf v 11) fun t => t.forAll (List.range 16) fun g t => t.requestRetrain g

/-- XK2_LINK_RETRAIN (R413). -/
def execXk2LinkRetrain (v : Word) (s : State) : Host.Outcome State Fault Refusal := answer s (s.bus 0x20038 (xk2LinkWrite v.toNat))

/-- A write to XK2_EQ_DATA (R413, R414): taps that break R228 leave the entry and set EQ_BAD; INDEX advances either way; beyond
the table nothing happens. -/
def xk2EqWrite (v : Nat) (s : State) : State :=
  let i := s.reg Reg.XK2_EQ_ADDR_INDEX
  let w := v % 2 ^ 24
  s.when (decide (i < 720)) fun s =>
    let t : State := if (tapsOf w).good then
        { s with link := { s.link with eqTable := SMap.set (fun _ => 0) s.link.eqTable i w } }
      else s.setReg Reg.XK2_STATUS_EQ_BAD 1
    t.setReg Reg.XK2_EQ_ADDR_INDEX (i + 1)

/-- XK2_EQ_DATA_WRITE (R414). -/
def execXk2EqDataWrite (v : Word) (s : State) : Host.Outcome State Fault Refusal := answer s (s.bus 0x20044 (xk2EqWrite v.toNat))

/-- Word m of the report record INDEX; 0 beyond the last (R415). -/
def State.xk2Record (s : State) (m : Nat) : Nat :=
  match s.reports.head? with
  | none => 0
  | some r => match r.records[s.reg Reg.XK2X_REC_IDX_INDEX]? with
    | some x => leAt x.bytes (4 * m) 4
    | none => 0

/-- XK2X_REC_READ (R415): the last word of the record, then INDEX advances. -/
def execXk2xRecRead (s : State) : Host.Outcome State Fault Refusal :=
  answer s (s.when (s.linkUp && !s.native) fun s =>
    ((s.access.emit (.read (s.xk2Record 3))).setReg Reg.XK2X_REC_IDX_INDEX (s.reg Reg.XK2X_REC_IDX_INDEX + 1)))

/-- A write to the image. -/
def xk2Write (off v : Nat) (s : State) : State :=
  match off with
  | 0x20004 => xk2CtlWrite v s
  | 0x20010 | 0x20014 | 0x20018 => ringBaseWrite Reg.XK2_CTL_RING_EN off v s
  | 0x2001C => s.setReg Reg.XK2_RING_TAIL (v % 2 ^ 16)
  | 0x20024 | 0x20028 | 0x2002C => ringBaseWrite Reg.XK2_CTL_CPL_EN off v s
  | 0x20030 => s.setReg Reg.XK2_CPL_HEAD (v % 2 ^ 16)
  | 0x20038 => xk2LinkWrite v s
  | 0x20044 => xk2EqWrite v s
  | _ => s.writeFields off v

/-! ### The MSI-X table (R322, R462) -/

/-- A write to word i of the MSI-X table: a vector it unmasks sends the message its pending bit holds. -/
def msixWrite (i v : Nat) (s : State) : State :=
  let w : BitVec 32 := BitVec.ofNat 32 (if i % 4 = 3 then v % 2 else v)
  let t : State := { s with host := { s.host with
    msixTable := SMap.set (fun i => if i % 4 = 3 then 1 else 0) s.host.msixTable i w } }
  let held := s.host.msixPending.contains (i / 4) && !t.host.vectorMasked (i / 4)
  let u : State := if held then { t with host := { t.host with msixPending := t.host.msixPending.filter (· != i / 4) } } else t
  u.when held (·.message (i / 4))

/-! ### REGISTER_WRITE (R11, R459, R460) -/

/-- A write to the CHK block. -/
def chkWrite (off v : Nat) (s : State) : State :=
  if off < 0x163C0 then snoopWrite off v s else if off < 0x16600 then wfWrite off v s else s.writeFields off v

/-- A write to a native register, by its block (R459). -/
def nativeWrite (off v : Nat) (s : State) : State :=
  if off = 0x10 then glbCtlWrite v s
  else if off = 0x18 then causeWrite v s
  else if off = 0x1C then maskWrite v s
  else if off < 0x1000 then s.writeFields off v
  else if off < 0x2000 then hifWrite off v s
  else if off = 0x2000 then pwrCtlWrite v s
  else if off < 0x3000 then s.writeFields off v
  else if off < 0x4000 then timWrite off v s
  else if off = 0x4000 then stgCtlWrite v s
  else if 0x5000 ≤ off ∧ off < 0x5100 ∧ off % 0x40 = 4 then auxAccWrite ((off - 0x5000) / 0x40) v s
  else if 0x6000 ≤ off ∧ off < 0x6100 then lprWrite off v s
  else if off = 0xD004 then deviceIdWrite v s
  else if 0x10000 ≤ off ∧ off < 0x14000 then mphWrite off v s
  else if off = 0x14000 then memCtlWrite v s
  else if 0x16100 ≤ off ∧ off < 0x16700 then chkWrite off v s
  else if 0x18000 ≤ off ∧ off < 0x18100 then calWrite off v s
  else if 0x19000 ≤ off ∧ off < 0x19100 then pmcWrite off v s
  else if 0x1A000 ≤ off ∧ off < 0x1A100 then dbgWrite off v s
  else if 0xFE000 ≤ off ∧ off < 0xFE400 then msixWrite ((off - 0xFE000) / 4) v s
  else s.writeFields off v

/-- A write to BAR0 that the present mode and part take. -/
def hostWrite (off v : Nat) (s : State) : State := if off < 0x20000 ∨ 0x30000 ≤ off then nativeWrite off v s else xk2Write off v s

/-- An access of the wrong size or alignment: counted, ignored, and a read gives all ones (R323, R445). -/
def State.badAccess (s : State) (write : Bool) : State :=
  s.when s.linkUp fun s => (s.access.count 0 7 1).when (!write) (·.emit (.read 0xFFFFFFFF))

/-- REGISTER_WRITE (R11, R460). -/
def execRegisterWrite (off : Nat) (v : Word) (s : State) : Host.Outcome State Fault Refusal :=
  answer s (if off % 4 = 0 then s.bus off (hostWrite off v.toNat) else s.badAccess true)

/-- BAR0_BAD_ACCESS (R323). -/
def execBar0BadAccess (write : Bool) (s : State) : Host.Outcome State Fault Refusal := answer s (s.badAccess write)

/-! ### The field-service console (R394, R456) -/

/-- A register the console may write: the CAL, PMC and DBG blocks, and FLT_CTL. -/
def consoleMayWrite (off : Nat) : Bool :=
  off == 0x17000 || decide (0x18000 ≤ off ∧ off < 0x18100) || decide (0x19000 ≤ off ∧ off < 0x19100)
    || decide (0x1A000 ≤ off ∧ off < 0x1A100)

/-- Console writes are allowed now (R394, R397, R461). -/
def State.consoleWriteEn (s : State) : Bool :=
  s.flag Reg.FLT_OP_KEY_ON && !s.flag Reg.GLB_CTL_SVC_WRITE_DIS && !s.stripeMoving

/-- The console's own PMC_RD_SEL; any other register as the host's (R456). -/
def consoleWriteOp (off v : Nat) (s : State) : State :=
  if off = 0x19028 then { s with obs := { s.obs with consoleSel := BitVec.ofNat 32 v } } else hostWrite off v s

/-- CONSOLE_WRITE (R393, R394, R445): taken, or refused and counted. -/
def execConsoleWrite (off : Nat) (v : Word) (s : State) : Host.Outcome State Fault Refusal :=
  answer s (s.when (s.flag Reg.FLT_SVC_SESSION) fun s =>
    let t := s.count 23 2 1
    if s.consoleWriteEn && consoleMayWrite off && off % 4 == 0 then consoleWriteOp off v.toNat t
    else (t.addReg Reg.FLT_SVC_REFUSED 1).count 21 7 1)

end Sys2Proof.Machine
end

