-- ==== Sys2Proof/Machine/Dispatch.lean ====
section
/-! DEFINITION. What a command does: one arm per command of the table, each a direct call of its meaning. -/
namespace Sys2Proof.Machine

open Sys2Proof

def exec (i : Instr) (s : State) : Host.Outcome State Fault Refusal :=
  match i with
  | .nop => Sys2Proof.Machine.execNop s
  | .tableLoad a0 => Sys2Proof.Machine.execTableLoad a0 s
  | .stripeBegin => Sys2Proof.Machine.execStripeBegin s
  | .stripeResume => Sys2Proof.Machine.execStripeResume s
  | .stripeAbort => Sys2Proof.Machine.execStripeAbort s
  | .stripeEnd => Sys2Proof.Machine.execStripeEnd s
  | .ledgerRead => Sys2Proof.Machine.execLedgerRead s
  | .counterSnapshot => Sys2Proof.Machine.execCounterSnapshot s
  | .calRun => Sys2Proof.Machine.execCalRun s
  | .beamCheck => Sys2Proof.Machine.execBeamCheck s
  | .switchBack a0 => Sys2Proof.Machine.execSwitchBack a0 s
  | .axisMove => Sys2Proof.Machine.execAxisMove s
  | .axisStop => Sys2Proof.Machine.execAxisStop s
  | .layout a0 => Sys2Proof.Machine.execLayout a0 s
  | .unknownOpcode a0 => Sys2Proof.Machine.execUnknownOpcode a0 s
  | .xk2Layout => Sys2Proof.Machine.execXk2Layout s
  | .stripeStart => Sys2Proof.Machine.execStripeStart s
  | .stripeStop => Sys2Proof.Machine.execStripeStop s
  | .xk2TableLoad a0 => Sys2Proof.Machine.execXk2TableLoad a0 s
  | .xk2BeamCheck => Sys2Proof.Machine.execXk2BeamCheck s
  | .auxMove => Sys2Proof.Machine.execAuxMove s
  | .auxStop => Sys2Proof.Machine.execAuxStop s
  | .xk2UnknownOp => Sys2Proof.Machine.execXk2UnknownOp s
  | .submissionDoorbell a0 a1 => Sys2Proof.Machine.execSubmissionDoorbell a0 a1 s
  | .completionHeadDoorbell a0 a1 => Sys2Proof.Machine.execCompletionHeadDoorbell a0 a1 s
  | .xk2RingTail a0 => Sys2Proof.Machine.execXk2RingTail a0 s
  | .xk2CplHeadWrite a0 => Sys2Proof.Machine.execXk2CplHeadWrite a0 s
  | .descriptorFetch a0 a1 a2 => Sys2Proof.Machine.execDescriptorFetch a0 a1 a2 s
  | .completionWrite a0 => Sys2Proof.Machine.execCompletionWrite a0 s
  | .ringCtlWrite a0 a1 => Sys2Proof.Machine.execRingCtlWrite a0 a1 s
  | .softReset a0 => Sys2Proof.Machine.execSoftReset a0 s
  | .xk2SoftReset a0 => Sys2Proof.Machine.execXk2SoftReset a0 s
  | .glbCtlLockWrite a0 => Sys2Proof.Machine.execGlbCtlLockWrite a0 s
  | .irqCauseClear a0 => Sys2Proof.Machine.execIrqCauseClear a0 s
  | .irqMaskWrite a0 => Sys2Proof.Machine.execIrqMaskWrite a0 s
  | .enterIdle a0 => Sys2Proof.Machine.execEnterIdle a0 s
  | .enterChrysalis a0 => Sys2Proof.Machine.execEnterChrysalis a0 s
  | .timStepRequest a0 => Sys2Proof.Machine.execTimStepRequest a0 s
  | .timAccept a0 => Sys2Proof.Machine.execTimAccept a0 s
  | .timRateWrite a0 => Sys2Proof.Machine.execTimRateWrite a0 s
  | .timNowLatch a0 => Sys2Proof.Machine.execTimNowLatch a0 s
  | .timCapArm a0 => Sys2Proof.Machine.execTimCapArm a0 s
  | .looperSwap a0 => Sys2Proof.Machine.execLooperSwap a0 s
  | .groupRetrain a0 a1 => Sys2Proof.Machine.execGroupRetrain a0 a1 s
  | .l2Request a0 a1 => Sys2Proof.Machine.execL2Request a0 a1 s
  | .groupMaxRateWrite a0 a1 => Sys2Proof.Machine.execGroupMaxRateWrite a0 a1 s
  | .prbsGenEnable a0 a1 a2 => Sys2Proof.Machine.execPrbsGenEnable a0 a1 a2 s
  | .prbsCheckerEnable a0 a1 a2 => Sys2Proof.Machine.execPrbsCheckerEnable a0 a1 a2 s
  | .injOne a0 a1 a2 => Sys2Proof.Machine.execInjOne a0 a1 a2 s
  | .hbmSweepRequest a0 => Sys2Proof.Machine.execHbmSweepRequest a0 s
  | .hbmRateRequest a0 => Sys2Proof.Machine.execHbmRateRequest a0 s
  | .flipArm a0 => Sys2Proof.Machine.execFlipArm a0 s
  | .counterClear a0 => Sys2Proof.Machine.execCounterClear a0 s
  | .counterFreeze a0 => Sys2Proof.Machine.execCounterFreeze a0 s
  | .counterChainWrite a0 a1 => Sys2Proof.Machine.execCounterChainWrite a0 a1 s
  | .pmcRdLatch a0 => Sys2Proof.Machine.execPmcRdLatch a0 s
  | .deviceIdWrite a0 => Sys2Proof.Machine.execDeviceIdWrite a0 s
  | .wfStart a0 a1 => Sys2Proof.Machine.execWfStart a0 a1 s
  | .wfData a0 a1 a2 => Sys2Proof.Machine.execWfData a0 a1 a2 s
  | .wfValAccess a0 a1 => Sys2Proof.Machine.execWfValAccess a0 a1 s
  | .snoopAccumStart a0 a1 => Sys2Proof.Machine.execSnoopAccumStart a0 a1 s
  | .xk2EqDataWrite a0 => Sys2Proof.Machine.execXk2EqDataWrite a0 s
  | .xk2LinkRetrain a0 => Sys2Proof.Machine.execXk2LinkRetrain a0 s
  | .xk2xRecRead => Sys2Proof.Machine.execXk2xRecRead s
  | .consoleWrite a0 a1 => Sys2Proof.Machine.execConsoleWrite a0 a1 s
  | .registerWrite a0 a1 => Sys2Proof.Machine.execRegisterWrite a0 a1 s
  | .bar0BadAccess a0 => Sys2Proof.Machine.execBar0BadAccess a0 s
  | .coldReset a0 a1 => Sys2Proof.Machine.execColdReset a0 a1 s
  | .warmReset a0 => Sys2Proof.Machine.execWarmReset a0 s
  | .pcieHotReset => Sys2Proof.Machine.execPcieHotReset s
  | .flr => Sys2Proof.Machine.execFlr s
  | .brownout => Sys2Proof.Machine.execBrownout s
  | .vkeepLoss => Sys2Proof.Machine.execVkeepLoss s
  | .cocoonEntry => Sys2Proof.Machine.execCocoonEntry s
  | .wake a0 => Sys2Proof.Machine.execWake a0 s
  | .cocoonAlarm => Sys2Proof.Machine.execCocoonAlarm s
  | .instarAdvance a0 a1 a2 a3 a4 a5 => Sys2Proof.Machine.execInstarAdvance a0 a1 a2 a3 a4 a5 s
  | .plChange => Sys2Proof.Machine.execPlChange s
  | .estopAssert a0 => Sys2Proof.Machine.execEstopAssert a0 s
  | .estopRelease => Sys2Proof.Machine.execEstopRelease s
  | .estopDiscrepancy => Sys2Proof.Machine.execEstopDiscrepancy s
  | .ackPress => Sys2Proof.Machine.execAckPress s
  | .doorOpen => Sys2Proof.Machine.execDoorOpen s
  | .doorClose => Sys2Proof.Machine.execDoorClose s
  | .keyChange a0 => Sys2Proof.Machine.execKeyChange a0 s
  | .serviceCableIn => Sys2Proof.Machine.execServiceCableIn s
  | .serviceCableOut => Sys2Proof.Machine.execServiceCableOut s
  | .stageSample a0 a1 a2 a3 => Sys2Proof.Machine.execStageSample a0 a1 a2 a3 s
  | .stagePortFault a0 => Sys2Proof.Machine.execStagePortFault a0 s
  | .stageLaneLockLost a0 => Sys2Proof.Machine.execStageLaneLockLost a0 s
  | .setPointWord a0 a1 a2 => Sys2Proof.Machine.execSetPointWord a0 a1 a2 s
  | .frameLaunch a0 a1 a2 a3 => Sys2Proof.Machine.execFrameLaunch a0 a1 a2 a3 s
  | .lostVisitSweep => Sys2Proof.Machine.execLostVisitSweep s
  | .tickOverrun => Sys2Proof.Machine.execTickOverrun s
  | .abortTick => Sys2Proof.Machine.execAbortTick s
  | .runComplete => Sys2Proof.Machine.execRunComplete s
  | .skipperEvaluate => Sys2Proof.Machine.execSkipperEvaluate s
  | .stripeReadyToStart => Sys2Proof.Machine.execStripeReadyToStart s
  | .stageAtRest a0 => Sys2Proof.Machine.execStageAtRest a0 s
  | .readyTimeout => Sys2Proof.Machine.execReadyTimeout s
  | .deferredRetrain a0 => Sys2Proof.Machine.execDeferredRetrain a0 s
  | .ticksyncTickMessage a0 a1 => Sys2Proof.Machine.execTicksyncTickMessage a0 a1 s
  | .ticksyncRunMessage a0 a1 => Sys2Proof.Machine.execTicksyncRunMessage a0 a1 s
  | .ticksyncMissing => Sys2Proof.Machine.execTicksyncMissing s
  | .ticksyncReturnMissing => Sys2Proof.Machine.execTicksyncReturnMissing s
  | .looperDisengage => Sys2Proof.Machine.execLooperDisengage s
  | .looperSwapTimeout => Sys2Proof.Machine.execLooperSwapTimeout s
  | .implausible => Sys2Proof.Machine.execImplausible s
  | .looperSelfCheckDone a0 a1 => Sys2Proof.Machine.execLooperSelfCheckDone a0 a1 s
  | .tilePlace a0 a1 => Sys2Proof.Machine.execTilePlace a0 a1 s
  | .planeDone a0 a1 a2 => Sys2Proof.Machine.execPlaneDone a0 a1 a2 s
  | .selfmisLimitReached a0 => Sys2Proof.Machine.execSelfmisLimitReached a0 s
  | .engineWatchdog a0 a1 => Sys2Proof.Machine.execEngineWatchdog a0 a1 s
  | .fenceLimitExceeded a0 => Sys2Proof.Machine.execFenceLimitExceeded a0 s
  | .engineClockGate a0 a1 => Sys2Proof.Machine.execEngineClockGate a0 a1 s
  | .binBandExpand a0 a1 => Sys2Proof.Machine.execBinBandExpand a0 a1 s
  | .tileCommit a0 => Sys2Proof.Machine.execTileCommit a0 s
  | .bypassRateReport a0 a1 => Sys2Proof.Machine.execBypassRateReport a0 a1 s
  | .shadowCompare a0 => Sys2Proof.Machine.execShadowCompare a0 s
  | .thirdOpinion a0 => Sys2Proof.Machine.execThirdOpinion a0 s
  | .spareLimitReached => Sys2Proof.Machine.execSpareLimitReached s
  | .sliceSelfTestDone a0 a1 a2 => Sys2Proof.Machine.execSliceSelfTestDone a0 a1 a2 s
  | .ftcBlockDecode a0 => Sys2Proof.Machine.execFtcBlockDecode a0 s
  | .flxRecord a0 => Sys2Proof.Machine.execFlxRecord a0 s
  | .prepassDone a0 => Sys2Proof.Machine.execPrepassDone a0 s
  | .dcuGridStart => Sys2Proof.Machine.execDcuGridStart s
  | .dcuGridDone a0 => Sys2Proof.Machine.execDcuGridDone a0 s
  | .statusNak a0 a1 => Sys2Proof.Machine.execStatusNak a0 a1 s
  | .nakLimitReached a0 => Sys2Proof.Machine.execNakLimitReached a0 s
  | .statusAlive a0 a1 => Sys2Proof.Machine.execStatusAlive a0 a1 s
  | .statusReady a0 a1 => Sys2Proof.Machine.execStatusReady a0 a1 s
  | .statusSpareReady a0 a1 => Sys2Proof.Machine.execStatusSpareReady a0 a1 s
  | .statusLaneDown a0 a1 => Sys2Proof.Machine.execStatusLaneDown a0 a1 s
  | .statusHot a0 a1 => Sys2Proof.Machine.execStatusHot a0 a1 s
  | .tempMessage a0 a1 => Sys2Proof.Machine.execTempMessage a0 a1 s
  | .tempTimeout a0 => Sys2Proof.Machine.execTempTimeout a0 s
  | .reservedLinkMessage a0 a1 => Sys2Proof.Machine.execReservedLinkMessage a0 a1 s
  | .returnLaneLoss a0 a1 => Sys2Proof.Machine.execReturnLaneLoss a0 a1 s
  | .returnLaneSilence a0 => Sys2Proof.Machine.execReturnLaneSilence a0 s
  | .transmitterFault a0 a1 => Sys2Proof.Machine.execTransmitterFault a0 a1 s
  | .spareSwitch a0 => Sys2Proof.Machine.execSpareSwitch a0 s
  | .spareReadyTimeout a0 => Sys2Proof.Machine.execSpareReadyTimeout a0 s
  | .groupStart a0 => Sys2Proof.Machine.execGroupStart a0 s
  | .caps a0 a1 => Sys2Proof.Machine.execCaps a0 a1 s
  | .capsTimeout a0 => Sys2Proof.Machine.execCapsTimeout a0 s
  | .tapReq a0 a1 => Sys2Proof.Machine.execTapReq a0 a1 s
  | .alignTimeout a0 => Sys2Proof.Machine.execAlignTimeout a0 s
  | .groupRateRaise a0 => Sys2Proof.Machine.execGroupRateRaise a0 s
  | .eqTimeout a0 => Sys2Proof.Machine.execEqTimeout a0 s
  | .prbsResult a0 a1 => Sys2Proof.Machine.execPrbsResult a0 a1 s
  | .verifyTimeout a0 => Sys2Proof.Machine.execVerifyTimeout a0 s
  | .xk2VerifyDone a0 => Sys2Proof.Machine.execXk2VerifyDone a0 s
  | .spareStale a0 => Sys2Proof.Machine.execSpareStale a0 s
  | .l1Entry a0 a1 => Sys2Proof.Machine.execL1Entry a0 a1 s
  | .l1Exit a0 a1 => Sys2Proof.Machine.execL1Exit a0 a1 s
  | .l2ExitTimeout a0 => Sys2Proof.Machine.execL2ExitTimeout a0 s
  | .calDeskewStep a0 => Sys2Proof.Machine.execCalDeskewStep a0 s
  | .sensorSample a0 => Sys2Proof.Machine.execSensorSample a0 s
  | .calItemStart a0 => Sys2Proof.Machine.execCalItemStart a0 s
  | .calItemDone a0 a1 => Sys2Proof.Machine.execCalItemDone a0 a1 s
  | .beamCheckDone a0 => Sys2Proof.Machine.execBeamCheckDone a0 s
  | .hbmRead a0 a1 a2 a3 a4 => Sys2Proof.Machine.execHbmRead a0 a1 a2 a3 a4 s
  | .strongDecodeDone a0 => Sys2Proof.Machine.execStrongDecodeDone a0 s
  | .hbmWrite a0 a1 a2 a3 => Sys2Proof.Machine.execHbmWrite a0 a1 a2 a3 s
  | .caParityAlert a0 => Sys2Proof.Machine.execCaParityAlert a0 s
  | .channelFail a0 => Sys2Proof.Machine.execChannelFail a0 s
  | .hbmSweep => Sys2Proof.Machine.execHbmSweep s
  | .hbmSweepDone a0 => Sys2Proof.Machine.execHbmSweepDone a0 s
  | .rowRefresh a0 => Sys2Proof.Machine.execRowRefresh a0 s
  | .ptpSync a0 a1 a2 a3 a4 a5 a6 => Sys2Proof.Machine.execPtpSync a0 a1 a2 a3 a4 a5 a6 s
  | .ptpAnnounce a0 a1 => Sys2Proof.Machine.execPtpAnnounce a0 a1 s
  | .ptpDelayReqSend a0 a1 => Sys2Proof.Machine.execPtpDelayReqSend a0 a1 s
  | .ptpDelayResp a0 a1 a2 => Sys2Proof.Machine.execPtpDelayResp a0 a1 a2 s
  | .ptpAnnounceTimeout => Sys2Proof.Machine.execPtpAnnounceTimeout s
  | .ptpSyncTimeout => Sys2Proof.Machine.execPtpSyncTimeout s
  | .ethBlockLockLost => Sys2Proof.Machine.execEthBlockLockLost s
  | .ppsEdge a0 => Sys2Proof.Machine.execPpsEdge a0 s
  | .ppsAbsent => Sys2Proof.Machine.execPpsAbsent s
  | .heldStepApply => Sys2Proof.Machine.execHeldStepApply s
  | .tickInEdge a0 => Sys2Proof.Machine.execTickInEdge a0 s
  | .auxStep a0 => Sys2Proof.Machine.execAuxStep a0 s
  | .auxWakeExpiry a0 => Sys2Proof.Machine.execAuxWakeExpiry a0 s
  | .auxIholdTimeout a0 => Sys2Proof.Machine.execAuxIholdTimeout a0 s
  | .counterCapture => Sys2Proof.Machine.execCounterCapture s
  | .msixHoldoffExpiry a0 => Sys2Proof.Machine.execMsixHoldoffExpiry a0 s
  | .runMessageRepeat => Sys2Proof.Machine.execRunMessageRepeat s
  | .prbsCheckerLock a0 a1 => Sys2Proof.Machine.execPrbsCheckerLock a0 a1 s
  | .prbsCheckerLockLost a0 a1 => Sys2Proof.Machine.execPrbsCheckerLockLost a0 a1 s
  | .caAlertClear a0 => Sys2Proof.Machine.execCaAlertClear a0 s
  | .flrComplete => Sys2Proof.Machine.execFlrComplete s
  | .cocoonDomainPowerUp => Sys2Proof.Machine.execCocoonDomainPowerUp s
  | .looperEngineCheckDone a0 => Sys2Proof.Machine.execLooperEngineCheckDone a0 s

end Sys2Proof.Machine
end

