-- ==== Sys2Proof/Machine/Idle.lean ====
section
/-! DEFINITION. What one 400 MHz cycle does when no command waits (log 1): the time base, the core cycles, the engines'
slots, one write-fed entry, the end of a soft reset, the bits on the lanes, and the blanker's temperature. -/
namespace Sys2Proof.Machine

/-- What an engine's ungated core cycles are booked as (R141, R142): FRONT_STARVED with no tile or with bins not yet filled,
BACK_STARVED while a finished plane waits for the cache or the filler; else they are its tile's working slots, booked with its
fate. -/
def State.slotCycle (s : State) (i e : Nat) : State :=
  let k := s.engine i e
  if k.gated then s
  else match k.job with
    | none => s.bookTile i e 2 (4 * s.coreCycles)
    | some j =>
      if !s.bandFilled i j then s.bookTile i e 2 (4 * s.coreCycles)
      else if j.waits then s.bookTile i e 3 (4 * s.coreCycles)
      else s.onEngine i e fun k => { k with job := some { j with cycles := j.cycles + s.coreCycles } }

/-- Every tile engine. -/
def tileEngines : List (Nat × Nat) := (List.range 5).flatMap fun i => (List.range 16).map fun e => (i, e)

/-- The grid in progress may go on to its next iteration, up to the last; how many cycles one takes is free (R158, R159, R162; log
40). -/
def State.gridCycle (s : State) : State :=
  match s.gridJob.bind fun j => (s.stripe? j.stripe).bind fun p => p.bv.kernel with
  | none => s
  | some k =>
    let i := s.reg Reg.DCU_STATUS_ITER
    (s.when (decide (i < k.nIt) && Config.gridIterates s.draw) (·.setReg Reg.DCU_STATUS_ITER (i + 1))).drawn

/-- A beam engine's slots of a cycle in which a run is under way (R190, R451): those that wait for window or ledger reads are
FRONT_STARVED, those that wait on a full frame buffer BACK_STARVED, and the rest work on a frame and are booked with its fate. How many
wait is free (log 40). -/
def State.beamCycle (s : State) (g : Nat) : State :=
  let n := 4 * s.coreCycles
  let front := Config.beamWaits s.draw g % (n + 1)
  let back := Config.beamWaits s.draw (16 + g) % (n + 1 - front)
  (s.bookBeamSlots g 2 front).bookBeamSlots g 3 back

/-- The beam engines' slots of a cycle. -/
def State.beamCycles (s : State) : State :=
  s.when s.active?.isSome fun s => (s.forAll (List.range 16) fun g t => t.beamCycle g).drawn

/-- One cycle of the core. -/
def State.coreCycle (s : State) : State :=
  ((s.count 0 0 s.coreCycles).forAll tileEngines fun x t => t.slotCycle x.1 x.2).beamCycles.gridCycle.wfEnter

/-! ### Lanes (R240, R241) -/

/-- Sixteenths of a bit that a lane carries in 2.5 ns at a rate code (R222); the return lane runs at 1.25 Gbaud. -/
def lineBits (rate : Nat) : Nat := [50, 125, 250, 500, 800].getD rate 50

/-- Sixteenths of a bit on slot i of group g in a cycle. -/
def State.slotBits (s : State) (g i : Nat) : Nat := if i = 10 then 50 else lineBits (s.trainRate g)

/-- A locked checker counts its bits in units of 2^20, and errors, how many of a cycle's bits being free (R240; log 42). -/
def State.checkBits (s : State) (g i : Nat) : State :=
  let k := lineKey g i
  let n := (s.line k).bits + s.slotBits g i
  let errors := Config.lineErrors s.draw k % (s.slotBits g i / 16 + 1)
  ((((s.onLine k fun l => { l with bits := n % 2 ^ 24 }).addReg (Reg.MPH_PRBS_BITS g i) (n / 2 ^ 24)).addReg (Reg.MPH_PRBS_ERR_ERRORS g i)
    errors).count 17 0 (n / 2 ^ 24)).count 17 1 errors

/-- A lane transmits: its group's clock runs and it is neither off, asleep nor failed. -/
def State.transmits (s : State) (g i : Nat) : Bool :=
  let st := s.reg (Reg.MPH_LSTATE_STATE g i)
  decide (i ≤ 9) && (st == laneTrain || st == laneL0 || st == laneTest)

/-- INJ_RATE n inverts one bit in every 2^(n + 10) that a lane carries (R241). -/
def State.injectBits (s : State) (g i : Nat) : State :=
  let k := lineKey g i
  let n := (s.line k).inj + s.slotBits g i
  let every := 16 * 2 ^ (s.reg (Reg.MPH_PRBS_CTL_INJ_RATE g i) + 10)
  (s.onLine k fun l => { l with inj := n % every }).when (decide (every ≤ n)) (·.injectBit g i)

/-- Every slot of every group. -/
def allSlots : List (Nat × Nat) := (List.range 16).flatMap fun g => (List.range 11).map fun i => (g, i)

/-- The lanes' bits of one cycle. -/
def State.lineCycle (s : State) : State :=
  let locked := allSlots.filter fun x => s.flag (Reg.MPH_PRBS_CTL_LOCK x.1 x.2)
  let t := (s.forAll locked fun x t => t.checkBits x.1 x.2).when (!locked.isEmpty) State.drawn
  t.forAll (allSlots.filter fun x => s.flag (Reg.MPH_PRBS_CTL_INJ_RATE x.1 x.2) && s.transmits x.1 x.2) fun x t => t.injectBits x.1 x.2

/-- What passes with one cycle and no command (log 1). -/
def State.passes (s : State) : State :=
  let t := (s.timeCycle.when s.clocked State.coreCycle).softEnds.lineCycle.tempMoves
  t.when (decide (t.time.ns / 1000 ≠ s.time.ns / 1000)) State.microsecond

/-- The state after one such cycle; the queue stays empty. -/
def idle (s : State) : State := { s.passes with pending := s.pending, part := s.part, mode := s.mode }

end Sys2Proof.Machine
end

