-- ==== Sys2Proof/Machine/Flags.lean ====
section
/-! DEFINITION. What registers read as (R10 to R13, R460): the status fields computed from the state, the word at an offset,
and the status lands. A field with no computed view reads as it is held. -/
namespace Sys2Proof.Machine

/-! ### Conditions of R371 -/

/-- A sector with no working slice (R371). -/
def State.sectorLost (s : State) : Bool := (List.range 4).any fun i => (List.range 5).all fun j => s.sectorOf j != some i

/-- A Blocking condition of R371 is in force: a group OUT, fewer than 28 live PCs in a stack, a map to be built again after a
lost PC or channel, or a sector with no working slice. -/
def State.blockedNow (s : State) : Bool :=
  ((List.range 16).any fun g => s.grp g == grpOut) || decide (s.reg Reg.MEM_STATUS_LIVE0 < 28)
    || decide (s.reg Reg.MEM_STATUS_LIVE1 < 28) || s.flag Reg.MEM_STATUS_REHASH_PENDING || s.sectorLost

/-- SPARE_FIT as it reads: 1 throughout in XK2 mode (R243). -/
def State.spareFit (s : State) (g : Nat) : Bool := !s.native || s.flag (Reg.MPH_GRP_STATUS_SPARE_FIT g)

/-- The spare lane of a READY group is not fit (R242, R371). -/
def State.spareUnfit (s : State) (g : Nat) : Bool := s.grp g == grpReady && !s.spareFit g

/-- A Degraded condition of R371 is in force: spare slice or standby Looper fenced, a spare lane unfit, a group stepped down,
a PC disabled, or a sector in cache bypass. -/
def State.degradedNow (s : State) : Bool :=
  s.reg Reg.FLT_STATUS_SPARE_STATE == 1 || s.reg Reg.LPR_ENGINE_STANDBY == 1
    || ((List.range 16).any fun g => s.spareUnfit g || s.flag (Reg.MPH_GRP_STATUS_STEPPED_DOWN g))
    || decide (s.reg Reg.MEM_STATUS_LIVE0 < 32) || decide (s.reg Reg.MEM_STATUS_LIVE1 < 32)
    || s.stripes.any fun p => p.bypass.toList.any id

/-! ### Status of the units -/

/-- A sector, or the spare as sector 4, is in bypass for the stripe that writes (R112). -/
def State.inBypass (s : State) (i : Nat) : Bool := match s.active? with | some p => vget p.bypass i false | none => false

/-- An engine of slice i holds a tile of a kind. -/
def State.working (s : State) (i : Nat) (own : Bool) : Bool :=
  (s.slice i).engines.toList.any fun e => match e.job with | some j => (j.kind == .own) == own | none => false

/-- SLC_STATUS.STATE (R143): 0 IDLE, 1 ACTIVE, 2 BYPASS, 3 SHADOW, 4 TAKEOVER, 5 FAILED. A slice is ACTIVE while a package is
staged that it works for (DEDUCED, log 25). -/
def State.sliceState (s : State) (i : Nat) : Nat :=
  if !s.sliceUp i then 5
  else if s.inBypass i then 2
  else if i = 4 then
    (if s.reg Reg.FLT_STATUS_MOLT_SECTOR < 4 then 4 else if s.working 4 false then 3 else 0)
  else if s.working i true || (s.packages.any fun k => k.settled) then 1
  else 0

/-- STG_STATUS.STATE (R266): of the stripe in motion, else of a held one, else of a bound one. -/
def State.stripeState (s : State) : Nat :=
  match s.active? with
  | some p => (match p.state with
    | .idle => 0 | .bound => 1 | .transit => 2 | .runup => 3 | .write => 4 | .pause => 5 | .runout => 6 | .aborting => 7
    | .held => 8)
  | none => if s.stripes.any (fun p => p.state == .held) then 8 else if s.stripes.any (fun p => p.state == .bound) then 1 else 0

/-- Units absent from the FX632: slice 4, the DCU, the write-fed engine, snoop unit 5; they read as 0 (R143, R162, R453, R454,
R460). -/
def Field.absentFx632 (f : Field) : Bool :=
  decide (0xA000 ≤ f.off ∧ f.off < 0xA800) || decide (0xC000 ≤ f.off ∧ f.off < 0xC100) || decide (0x161A0 ≤ f.off ∧ f.off < 0x161C0)
    || decide (0x16400 ≤ f.off ∧ f.off < 0x16600)

/-- A one-hot word of groups. -/
def groupBits (p : Nat → Bool) : Nat := ((List.range 16).map fun g => b2n (p g) * 2 ^ g).sum

/-- Taps of the EQ_TABLE entry that XK2_EQ_ADDR selects (R413). -/
def State.eqEntry (s : State) : Nat := SMap.get (fun _ => 0) s.link.eqTable (s.reg Reg.XK2_EQ_ADDR_INDEX)

/-- Computed GLB fields (R461). -/
def State.glbView (s : State) : List (Field × Nat) :=
  let f := s.part == .fx632
  [(Reg.GLB_MODE_NATIVE, b2n s.native), (Reg.GLB_MODE_MODESEL_LEVEL, b2n s.power.modesel),
   (Reg.GLB_CAPS_SLICES, if f then 4 else 5), (Reg.GLB_CAPS_SPARE_SLICE, b2n !f), (Reg.GLB_CAPS_DCU, b2n !f),
   (Reg.GLB_CAPS_WF_CHECK, b2n !f), (Reg.GLB_CAPS_FX632, b2n f), (Reg.GLB_CAPS_SNOOP_UNITS, if f then 21 else 22),
   (Reg.GLB_CAPS_XK2_IMAGE, b2n !s.native), (Reg.GLB_STATUS_BLOCKED, b2n s.blockedNow),
   (Reg.GLB_STATUS_DEGRADED, b2n s.degradedNow), (Reg.GLB_STATUS_BOUND, s.stripes.length),
   (Reg.GLB_STATUS_WRITING, b2n s.writing?.isSome), (Reg.GLB_STATUS_HELD, b2n (s.stripes.any fun p => p.state == .held)),
   (Reg.CHK_STATUS_WF_PRESENT, b2n !f)]

/-- Computed fields of the stage, raster, ledger, fault and time blocks (R113, R143, R190, R358, R394, R462). -/
def State.unitView (s : State) : List (Field × Nat) :=
  [(Reg.FTC_CACHE_CAP_CAP_MIB, if 3 ≤ s.reg Reg.GLB_STATUS_INSTAR then s.storeCap / 2 ^ 20 else 0), (Reg.FTC_CACHE_USED_USED_MIB, (s.storeUsed + 2 ^ 20 - 1) / 2 ^ 20),
   (Reg.FTC_BYPASS_SECTOR, ((List.range 4).map fun i => b2n (s.inBypass i) * 2 ^ i).sum), (Reg.FTC_BYPASS_SPARE, b2n (s.inBypass 4)),
   (Reg.LDG_USED_ENTRIES, s.ledgerUsed), (Reg.STG_STATUS_STATE, s.stripeState), (Reg.FLT_SVC_WRITE_EN, b2n s.consoleWriteEn),
   (Reg.TIM_NOW_FRAC_V, s.time.frac), (Reg.TIM_NOW_NS_V, s.obs.host.ns), (Reg.TIM_NOW_SEC_LO_V, s.obs.host.sec),
   (Reg.TIM_NOW_SEC_HI_V, s.obs.host.sec / 2 ^ 32),
   (Reg.FLT_STATUS_SPARE_STATE, if s.part == .fx632 then 3
     else if !s.native && s.reg Reg.FLT_STATUS_SPARE_STATE == 0 then 3 else s.reg Reg.FLT_STATUS_SPARE_STATE),
   (Reg.LPR_ENGINE_STANDBY, if !s.native && s.reg Reg.LPR_ENGINE_STANDBY == 0 then 2 else s.reg Reg.LPR_ENGINE_STANDBY),
   (Reg.LPR_MODEL_PEAK, if s.hasModel then s.reg Reg.LPR_MODEL_PEAK else 0),
   (Reg.PWR_SUPPLY_VIN, Config.supply s.draw 0), (Reg.PWR_SUPPLY_VIO, Config.supply s.draw 1),
   (Reg.PWR_SUPPLY_VKEEP, Config.supply s.draw 2), (Reg.PMC_RD_LO_VALUE, s.selected s.rdSel),
   (Reg.PMC_RD_MID_VALUE, s.obs.host.pmc / 2 ^ 32), (Reg.PMC_RD_HI_VALUE, s.obs.host.pmc / 2 ^ 64)]

/-- Slice fields (R143). -/
def State.sliceView (s : State) : List (Field × Nat) :=
  (List.range 5).flatMap fun i =>
    [(Reg.SLC_STATUS_STATE i, s.sliceState i), (Reg.SLC_STATUS_SECTOR i, (s.sectorOf i).getD 7),
     (Reg.SLC_STATUS_PREPASS i, b2n (s.prepassOn i))]

/-- The XK2 image (R413 to R415). -/
def State.xk2View (s : State) : List (Field × Nat) :=
  [(Reg.XK2_ID_DEVICE, 0x0A20), (Reg.XK2_STATUS_READY, b2n (s.reg Reg.GLB_STATUS_INSTAR == 4)),
   (Reg.XK2_STATUS_HOT, b2n (s.flag Reg.CAL_THERM_DIE_LEVEL || s.flag Reg.CAL_THERM_BLK_LEVEL)),
   (Reg.XK2_STATUS_ESTOP, s.reg Reg.FLT_OP_ESTOP), (Reg.XK2_OVERRUN_CNT_COUNT, s.reg Reg.STG_XK2_OVERRUN),
   (Reg.XK2_LINK_CTL_DEVICE_ID, s.reg Reg.FRM_DEVICE_DEVICE_ID), (Reg.XK2_LINK_STATUS_UP, groupBits fun g => s.grp g == grpReady),
   (Reg.XK2_LINK_STATUS_SPARE_USED, groupBits fun g => s.flag (spareUsed g)), (Reg.XK2_EQ_DATA_TAPS, s.eqEntry),
   (Reg.XK2_TEMP_VALUE, match s.blkTemp with | some (t, _) => unsignedOf 16 t | none => s.reg Reg.FRM_TEMP_VALUE)]
    ++ (List.range 4).map fun m => (Reg.XK2X_REC_WORD m, s.xk2Record m)

/-- SPARE_FIT of every group. -/
def State.spareView (s : State) : List (Field × Nat) :=
  (List.range 16).map fun g => (Reg.MPH_GRP_STATUS_SPARE_FIT g, b2n (s.spareFit g))

/-- Every computed field. -/
def State.views (s : State) : List (Field × Nat) := s.glbView ++ s.unitView ++ s.sliceView ++ s.xk2View ++ s.tempView ++ s.spareView

/-- What a field reads as: 0 where it is write only or its unit is absent; else its computed view; else as held. -/
def State.reads (s : State) (f : Field) : Nat :=
  if f.acc = .wo ∨ (s.part = .fx632 ∧ f.absentFx632) then 0
  else match s.views.find? fun e => e.1 == f with
    | some e => e.2 % 2 ^ f.width
    | none => s.reg f

/-- Bits that no field of a register covers: reserved, read as a free value (R12, log 6). -/
def reservedMask (fs : List Field) : BitVec 32 := ~~~(fs.foldl (fun m f => m ||| (BitVec.ofNat 32 (2 ^ f.width - 1) <<< f.lo)) 0)

/-- The pending-bit array of MSI-X, low and high word (R322, R462). -/
def State.msixPendingWord (s : State) (high : Bool) : BitVec 32 :=
  BitVec.ofNat 32 ((s.host.msixPending.map fun v => 2 ^ v).sum / if high then 2 ^ 32 else 1)

/-- The word a host read of an offset gives (R11, R12, R322, R460): the MSI-X structures in native mode; 0 where no register
stands, or where the XK2 image is read in native mode. -/
def State.readReg (s : State) (off : Nat) : BitVec 32 :=
  let fs := Reg.fieldsAt off
  if s.native ∧ 0xFE000 ≤ off ∧ off < 0xFE400 then s.host.msixWord ((off - 0xFE000) / 4)
  else if s.native ∧ (off = 0xFF000 ∨ off = 0xFF004) then s.msixPendingWord (off == 0xFF004)
  else if fs.isEmpty ∨ (s.native ∧ 0x20000 ≤ off ∧ off < 0x30000) then 0
  else fs.foldl (fun m f => m ||| (BitVec.ofNat 32 (s.reads f) <<< f.lo)) (Config.reservedBits off s.draw &&& reservedMask fs)

/-! ### PCI configuration space (R5, R411, R484) -/

/-- The identities the PCIe endpoint presents. -/
structure PciIdentity where
  vendor : Nat
  device : Nat
  subVendor : Nat
  subsystem : Nat
  revision : Nat
  classCode : Nat
  deriving DecidableEq, Repr

/-- The identities of the latched mode, the same on both parts (R484). -/
def State.pciIdentity (s : State) : PciIdentity :=
  if s.native then ⟨0x1F4B, 0x0640, 0x1F4B, 0x0640, s.reg Reg.GLB_VERSION_STEPPING, 0x120000⟩
  else ⟨0x1E6A, 0x0A20, 0x1E6A, 0x0003, 0x03, 0x118000⟩

/-! ### The status lands (R4, R392) -/

/-- A land's pattern. -/
inductive Blink where | off | slow | fast | steady
  deriving DecidableEq, Repr

/-- STAT0_N (R392). In XK2 mode the STAT outputs are disabled (R4). -/
def State.stat0 (s : State) : Blink :=
  if !s.native then .off
  else if s.reg Reg.GLB_STATUS_INSTAR < 2 then .off
  else if s.reg Reg.GLB_STATUS_INSTAR < 4 then .slow
  else if s.writing?.isSome then .fast
  else .steady

/-- STAT1_N (R392): the higher row wins. -/
def State.stat1 (s : State) : Blink :=
  if !s.native then .off
  else if s.flag Reg.FLT_OP_ESTOP || s.flag Reg.FLT_OP_DOOR_OPEN then .steady
  else if s.flag Reg.FLT_OP_ACK_WAIT then .slow
  else if s.degradedNow || s.blockedNow then .fast
  else .off

/-! ### The observation ports (R455): the levels; a strobe of one cycle is timing and is left out (log 26). -/

/-- The levels of a signal group as a byte, bit 7 first in R455's order; strobes read 0 here. -/
def State.obsLevels (s : State) (sel : Nat) : Nat :=
  let bs (l : List Bool) : Nat := l.foldl (fun a b => 2 * a + b2n b) 0
  if !s.native ∨ s.flag Reg.GLB_CTL_OBS_DIS then 0
  else if sel = 1 then
    bs [s.active?.isSome, s.active?.any (fun p => p.state == .aborting), s.active?.any fun p => p.state == .pause, false, false,
      false, false, false]
  else if sel = 2 then
    128 * b2n (decide (0 < s.stage.raising)) + 64 * b2n s.stage.emergency + 32 * b2n s.stage.cool
      + 16 * b2n (s.active?.any fun p => p.state == .pause) + s.reg Reg.SKP_STATUS_CAUSE
  else if sel = 3 then
    bs [false, false, false, s.flag Reg.LPR_STATUS_SAT_Y, s.flag Reg.LPR_STATUS_SAT_X, s.flag Reg.LPR_STATUS_SWAP_PENDING,
      s.flag Reg.LPR_STATUS_HOLD, s.flag Reg.LPR_STATUS_ENGAGED]
  else if sel = 4 then s.reg Reg.STG_STATUS_LOCK
  else if 8 ≤ sel ∧ sel ≤ 12 then
    32 * b2n (s.inBypass (sel - 8)) + 16 * b2n (s.reg (Reg.SLC_STATUS_ENG_FENCED (sel - 8)) != 0) + 8 * b2n (s.working (sel - 8) true || s.working (sel - 8) false) + s.sliceState (sel - 8)
  else if 16 ≤ sel ∧ sel < 32 then
    32 * s.grp (sel - 16) + 16 * b2n (s.spareFit (sel - 16)) + 8 * b2n (s.flag (spareUsed (sel - 16)))
  else if sel = 32 then
    bs [false, false, !s.hbm.decodes.isEmpty, s.flag Reg.MEM_STATUS_SWEEPING, false, !s.hbm.decodes.isEmpty, false,
      s.hbm.channels.toList.any fun k => k.alert]
  else if sel = 35 then 32 * b2n (s.host.cpl.toList.any fun c => !c.held.isEmpty)
  else if sel = 33 then
    bs [decide (2 ≤ s.reg Reg.CAL_THERM_DIE_LEVEL), s.flag Reg.CAL_THERM_BLK_LEVEL, s.flag Reg.CAL_THERM_DIE_LEVEL,
      s.flag Reg.FLT_OP_SVC_PRESENT, false, s.flag Reg.FLT_OP_KEY_ON, s.flag Reg.FLT_OP_DOOR_OPEN, s.flag Reg.FLT_OP_ESTOP]
  else if sel = 34 then
    bs [false, s.flag Reg.TIM_STATUS_GUARD_TRIP, s.flag Reg.TIM_STATUS_HOLDING, s.flag Reg.TIM_STATUS_LOCKED, false, false, false,
      false]
  else 0

end Sys2Proof.Machine
end

