-- ==== Sys2Proof/WellFormed.lean ====
section
/-! DEFINITION. Which commands the outside can send: the lengths and ranges the manual gives the operands. A command outside
them still runs (exec is total); no statement needs this check but those that say so. -/
namespace Sys2Proof

/-- A host read returned as many bytes as were asked for, or an error. -/
def HostRead.hasLength (r : HostRead) (p : Nat → Bool) : Bool :=
  match r with
  | .ok b => p b.length
  | .error => true

/-- A link message is 16 bytes (R208). -/
def LinkMsg.wf (m : LinkMsg) : Bool := m.bytes.length == 16

/-- A plane slot is 0 to 3 (R116). -/
def slotWf (n : Nat) : Bool := decide (n < 4)

/-- A sensor conversion fits 16 signed bits (R398). -/
def SensorReading.wf (r : SensorReading) : Bool := decide (-32768 ≤ r.temp ∧ r.temp < 32768)

/-- A calibration result: 16 deskew targets, and figures that fit their registers (R404, R409). -/
def CalMeasure.wf (m : CalMeasure) : Bool :=
  match m with
  | .deskew ts => ts.length == 16
  | .dac x y _ => decide (x < 65536 ∧ y < 65536)
  | .interpolator l p q => decide (l < 2 ^ 20 ∧ p < 65536 ∧ q < 65536)
  | .adc a b => decide (-32768 ≤ a ∧ a < 32768 ∧ -32768 ≤ b ∧ b < 32768)
  | .failed => true

/-- A BAR0 dword: aligned, within BAR0 (R323, R459). -/
def offsetWf (off : Nat) : Bool := decide (off % 4 = 0 ∧ off < 0x100000)

/-- A command is well formed. -/
def Instr.wf (i : Instr) : Bool :=
  match i with
  | .nop => true
  | .tableLoad p => p.hasLength fun n => decide (n < 2 ^ 32)
  | .stripeBegin => true
  | .stripeResume => true
  | .stripeAbort => true
  | .stripeEnd => true
  | .ledgerRead => true
  | .counterSnapshot => true
  | .calRun => true
  | .beamCheck => true
  | .switchBack _ => true
  | .axisMove => true
  | .axisStop => true
  | .layout _ => true
  | .unknownOpcode _ => true
  | .xk2Layout => true
  | .stripeStart => true
  | .stripeStop => true
  | .xk2TableLoad p => p.hasLength fun n => decide (n < 2 ^ 32)
  | .xk2BeamCheck => true
  | .auxMove => true
  | .auxStop => true
  | .xk2UnknownOp => true
  | .submissionDoorbell _ _ => true
  | .completionHeadDoorbell _ _ => true
  | .xk2RingTail _ => true
  | .xk2CplHeadWrite _ => true
  | .descriptorFetch ring d b => d.hasLength (fun n => n == if ring = 9 then 32 else 64) && b.hasLength fun n => decide (n < 2 ^ 32)
  | .completionWrite _ => true
  | .ringCtlWrite _ _ => true
  | .softReset _ => true
  | .xk2SoftReset _ => true
  | .glbCtlLockWrite _ => true
  | .irqCauseClear _ => true
  | .irqMaskWrite _ => true
  | .enterIdle _ => true
  | .enterChrysalis _ => true
  | .timStepRequest _ => true
  | .timAccept _ => true
  | .timRateWrite _ => true
  | .timNowLatch _ => true
  | .timCapArm _ => true
  | .looperSwap _ => true
  | .groupRetrain _ _ => true
  | .l2Request _ _ => true
  | .groupMaxRateWrite _ _ => true
  | .prbsGenEnable _ _ _ => true
  | .prbsCheckerEnable _ _ _ => true
  | .injOne _ _ _ => true
  | .hbmSweepRequest _ => true
  | .hbmRateRequest _ => true
  | .flipArm _ => true
  | .counterClear _ => true
  | .counterFreeze _ => true
  | .counterChainWrite _ _ => true
  | .pmcRdLatch _ => true
  | .deviceIdWrite _ => true
  | .wfStart _ _ => true
  | .wfData _ _ _ => true
  | .wfValAccess _ _ => true
  | .snoopAccumStart _ _ => true
  | .xk2EqDataWrite _ => true
  | .xk2LinkRetrain _ => true
  | .xk2xRecRead => true
  | .consoleWrite off _ => offsetWf off
  | .registerWrite off _ => offsetWf off
  | .bar0BadAccess _ => true
  | .coldReset _ _ => true
  | .warmReset _ => true
  | .pcieHotReset => true
  | .flr => true
  | .brownout => true
  | .vkeepLoss => true
  | .cocoonEntry => true
  | .wake _ => true
  | .cocoonAlarm => true
  | .instarAdvance _ _ _ speed width pcs =>
    decide (1 ≤ speed ∧ speed ≤ 5) && [1, 2, 4, 8, 16].contains width && pcs.all fun n => decide (n < 64)
  | .plChange => true
  | .estopAssert _ => true
  | .estopRelease => true
  | .estopDiscrepancy => true
  | .ackPress => true
  | .doorOpen => true
  | .doorClose => true
  | .keyChange _ => true
  | .serviceCableIn => true
  | .serviceCableOut => true
  | .stageSample _ _ _ _ => true
  | .stagePortFault _ => true
  | .stageLaneLockLost _ => true
  | .setPointWord p v a =>
    decide (-(2 : Int) ^ 47 ≤ p ∧ p < 2 ^ 47 ∧ -(2 : Int) ^ 31 ≤ v ∧ v < 2 ^ 31 ∧ -(2 : Int) ^ 23 ≤ a ∧ a < 2 ^ 23)
  | .frameLaunch lanes _ _ _ => decide lanes.Nodup
  | .lostVisitSweep => true
  | .tickOverrun => true
  | .abortTick => true
  | .runComplete => true
  | .skipperEvaluate => true
  | .stripeReadyToStart => true
  | .stageAtRest _ => true
  | .readyTimeout => true
  | .deferredRetrain _ => true
  | .ticksyncTickMessage b _ => b.length == 17
  | .ticksyncRunMessage b _ => b.length == 17
  | .ticksyncMissing => true
  | .ticksyncReturnMissing => true
  | .looperDisengage => true
  | .looperSwapTimeout => true
  | .implausible => true
  | .looperSelfCheckDone _ _ => true
  | .tilePlace _ _ => true
  | .planeDone _ _ body => slotWf body.slot
  | .selfmisLimitReached _ => true
  | .engineWatchdog _ _ => true
  | .fenceLimitExceeded _ => true
  | .engineClockGate _ _ => true
  | .binBandExpand _ _ => true
  | .tileCommit _ => true
  | .bypassRateReport _ _ => true
  | .shadowCompare l => l.all fun c => slotWf c.slot
  | .thirdOpinion l => l.all fun c => slotWf c.slot
  | .spareLimitReached => true
  | .sliceSelfTestDone _ _ _ => true
  | .ftcBlockDecode _ => true
  | .flxRecord _ => true
  | .prepassDone _ => true
  | .dcuGridStart => true
  | .dcuGridDone _ => true
  | .statusNak _ m => m.wf
  | .nakLimitReached _ => true
  | .statusAlive _ m => m.wf
  | .statusReady _ m => m.wf
  | .statusSpareReady _ m => m.wf
  | .statusLaneDown _ m => m.wf
  | .statusHot _ m => m.wf
  | .tempMessage _ m => m.wf
  | .tempTimeout _ => true
  | .reservedLinkMessage _ m => m.wf
  | .returnLaneLoss _ m => m.wf
  | .returnLaneSilence _ => true
  | .transmitterFault _ _ => true
  | .spareSwitch _ => true
  | .spareReadyTimeout _ => true
  | .groupStart _ => true
  | .caps _ m => m.wf
  | .capsTimeout _ => true
  | .tapReq _ m => m.wf
  | .alignTimeout _ => true
  | .groupRateRaise _ => true
  | .eqTimeout _ => true
  | .prbsResult _ m => m.wf
  | .verifyTimeout _ => true
  | .xk2VerifyDone _ => true
  | .spareStale _ => true
  | .l1Entry _ _ => true
  | .l1Exit _ _ => true
  | .l2ExitTimeout _ => true
  | .calDeskewStep _ => true
  | .sensorSample rs => rs.toList.all SensorReading.wf
  | .calItemStart _ => true
  | .calItemDone _ m => m.wf
  | .beamCheckDone rs => rs.length == 262144
  | .hbmRead _ _ _ _ _ => true
  | .strongDecodeDone _ => true
  | .hbmWrite _ _ _ bs => !bs.isEmpty
  | .caParityAlert _ => true
  | .channelFail _ => true
  | .hbmSweep => true
  | .hbmSweepDone rs => rs.all fun r => decide (r.pc < 64) && r.lanes.length == 5 && r.lanes.all fun l => l.dqs.length == 8
  | .rowRefresh _ => true
  | .ptpSync _ ns _ ons _ _ _ => decide (ns < 1000000000 ∧ ons < 1000000000)
  | .ptpAnnounce g _ => decide (g < 2 ^ 64)
  | .ptpDelayReqSend _ _ => true
  | .ptpDelayResp _ _ _ => true
  | .ptpAnnounceTimeout => true
  | .ptpSyncTimeout => true
  | .ethBlockLockLost => true
  | .ppsEdge _ => true
  | .ppsAbsent => true
  | .heldStepApply => true
  | .tickInEdge _ => true
  | .auxStep _ => true
  | .auxWakeExpiry _ => true
  | .auxIholdTimeout _ => true
  | .counterCapture => true
  | .msixHoldoffExpiry _ => true
  | .runMessageRepeat => true
  | .prbsCheckerLock _ _ => true
  | .prbsCheckerLockLost _ _ => true
  | .caAlertClear _ => true
  | .flrComplete => true
  | .cocoonDomainPowerUp => true
  | .looperEngineCheckDone _ => true

end Sys2Proof
end

