-- ==== Sys2Proof/Safety.lean ====
section
/-! DEFINITION. The terms in which claims are stated: the pieces of the state, what a command keeps, and that a command
completes. -/
namespace Sys2Proof.Machine

/-- The pieces of the state other than register fields. Counters and slot accumulators are pieces of their own. -/
inductive Piece where
  | part | mode | power | host | counters | slots | latches | consoleSel | events | snapshot | wfQueue | time | link | stage
  | looper | hbm | cal | channels | packages | refused | ages | slices | shadows | rot | ftc | kernels | gridJob | beams | defects
  | stripes | reports | bands | jobs | lastTick | out | draw | pending
  deriving DecidableEq, Repr

/-- A piece is the same in two states. -/
def Piece.same (p : Piece) (s t : State) : Prop :=
  match p with
  | .part => t.part = s.part
  | .mode => t.mode = s.mode
  | .power => t.power = s.power
  | .host => t.host = s.host
  | .counters => t.obs.counters = s.obs.counters
  | .slots => t.obs.slots = s.obs.slots
  | .latches => t.obs.host = s.obs.host ∧ t.obs.console = s.obs.console
  | .consoleSel => t.obs.consoleSel = s.obs.consoleSel
  | .events => t.obs.events = s.obs.events
  | .snapshot => t.obs.snapshot = s.obs.snapshot
  | .wfQueue => t.obs.wfQueue = s.obs.wfQueue
  | .time => t.time = s.time
  | .link => t.link = s.link
  | .stage => t.stage = s.stage
  | .looper => t.looper = s.looper
  | .hbm => t.hbm = s.hbm
  | .cal => t.cal = s.cal
  | .channels => t.channels = s.channels
  | .packages => t.packages = s.packages
  | .refused => t.refused = s.refused
  | .ages => t.ages = s.ages
  | .slices => t.slices = s.slices
  | .shadows => t.shadows = s.shadows
  | .rot => t.rot = s.rot
  | .ftc => t.ftc = s.ftc
  | .kernels => t.kernels = s.kernels
  | .gridJob => t.gridJob = s.gridJob
  | .beams => t.beams = s.beams
  | .defects => t.defects = s.defects
  | .stripes => t.stripes = s.stripes
  | .reports => t.reports = s.reports
  | .bands => t.bands = s.bands
  | .jobs => t.jobs = s.jobs
  | .lastTick => t.lastTick = s.lastTick
  | .out => t.out = s.out
  | .draw => t.draw = s.draw
  | .pending => t.pending = s.pending

/-- The frame of a command: every piece but those named, and every register field but those named, is as before. -/
def Keeps (pieces : List Piece) (fields : List Field) (s t : State) : Prop :=
  (∀ p : Piece, p ∉ pieces → p.same s t) ∧ ∀ f : Field, (∀ g ∈ fields, g.key ≠ f.key) → t.reg f = s.reg f

/-- The OVF field of a counter block (R447): a count that wraps sets its bit there. -/
def ovf (b : Nat) : Field := Reg.PMC_OVF (b / 4)

/-- A command completes from s in a state that holds p. -/
def Completes (i : Instr) (s : State) (p : State → Prop) : Prop := ∃ t, exec i s = .next t ∧ p t

/-- A command leaves the state as it was. -/
def Ignored (i : Instr) (s : State) : Prop := exec i s = .next s

/-- The canonical form of HBM's words and of its check area's errors: rising keys, no entry equal to what an unlisted word reads as
(R319). -/
def Memory.wf (h : HbmUnit) : Bool := SMap.wf (fun _ => HbmWord.zero) h.words && SMap.wf (fun _ => 0) h.checkErr

/-- What a reachable state always meets and a command keeps: the part and the latched mode. -/
def State.sameMachine (s t : State) : Prop := t.part = s.part ∧ t.mode = s.mode

end Sys2Proof.Machine
end

