-- ==== Sys2Proof/Certificates/Slice0/Obligations.lean ====
section
/-! DEFINITION. Statements about the block, for the provers. -/
open Sys2Proof Sys2Proof.Machine

/-- The time base as one number, in units of 2^−32 ns. -/
def Sys2Proof.Machine.TimeUnit.units (t : TimeUnit) : Nat := t.sec * fracSecond + t.ns * 2 ^ 32 + t.frac

/-- The newest event posted is of this type, source and kind (R350). -/
def Sys2Proof.Machine.State.posted (t : State) (type source kind : Nat) : Prop :=
  ∃ e l, t.obs.events = e :: l ∧ e.type = type ∧ e.source = source ∧ e.kind = kind

/-- Bytes lo to hi − 1 of a descriptor are 0. -/
abbrev Sys2Proof.Machine.Zero (b : List Byte) (lo hi : Nat) : Prop := ∀ i, lo ≤ i → i < hi → byteAt b i = 0

/-- The descriptor d with an opcode heads a ring of the latched mode, and the core runs. -/
abbrev Sys2Proof.Machine.Heads (s : State) (ring op : Nat) (d : Fetched) : Prop :=
  s.head? ring = some d ∧ s.clocked = true ∧ byteAt d.desc 0 = op ∧ s.native = (ring != 9) ∧ s.cprOf ring ≤ 4

/-- The command's completion c joins those that its ring's CPR holds. -/
def Sys2Proof.Machine.Finishes (s t : State) (ring : Nat) (c : Completion) : Prop :=
  t.heldCpl (s.cprOf ring) = s.heldCpl (s.cprOf ring) ++ [c]

/-- A command that only completes: its descriptor leaves the ring's head, its completion is held, and nothing else changes. -/
def Sys2Proof.Machine.OnlyFinishes (i : Instr) (s : State) (ring : Nat) (c : Completion) : Prop :=
  Completes i s fun t => Finishes s t ring c ∧ (t.sub ring).fetched = (s.sub ring).fetched.drop 1 ∧
    (∀ r, r ≠ ring → t.sub r = s.sub r) ∧ Keeps [.host, .counters] [ovf 1] s t

/-- What posting an event may change (R326, R328, R350, R352): the EVR's index and count, and the EVR_DROP cause. -/
def Sys2Proof.Machine.eventPieces : List Piece := [.events, .out, .host, .counters]
def Sys2Proof.Machine.eventFields : List Field := [Reg.HIF_EVR_IDX_W, Reg.HIF_EVR_DROPPED_COUNT, causeField 6, ovf 0]

/-- Nothing moves: no stripe in TRANSIT through ABORTING, and no host move of an axis. -/
abbrev Sys2Proof.Machine.Quiet (s : State) : Prop := s.active? = none ∧ s.stage.yMove = none ∧ ∀ n < 4, (s.auxAxis n).move = none

/-- A stripe of a device on its own is in WRITE and has ticked. -/
abbrev Sys2Proof.Machine.Writes (s : State) (p : Stripe) (r : Run) : Prop :=
  s.active? = some p ∧ s.stripe? p.par.id = some p ∧ p.state = .write ∧ p.run = some r ∧ r.ticked = true ∧ p.bv.role = 0

/-- The stripe aborts with a cause, which takes effect at the next tick (R186, R266). -/
def Sys2Proof.Machine.Aborts (t : State) (id : Nat) (st : Status) : Prop :=
  ∃ q, t.stripe? id = some q ∧ q.state = .aborting ∧ q.cause = some st ∧ q.abortDue = true ∧ q.abortAt = none


/-! ### Time (R354 to R370) -/

/-- A step of the counter by `ns`, from `s` to `t`: applied unless a stripe runs, else held, replacing a held one (R360, R361). -/
def Sys2Proof.Machine.Stepped (ns : Int) (s t : State) : Prop :=
  if s.stepBlocked then
    t.time = { s.time with heldStep := some ns } ∧ t.reg Reg.TIM_STATUS_STEP_PENDING = 1 ∧
      t.reg Reg.TIM_STATUS_VALID = s.reg Reg.TIM_STATUS_VALID
  else
    ((t.time.units : Nat) : Int) = ((s.time.units : Int) + ns * 2 ^ 32) % ((2 ^ 48 * fracSecond : Nat) : Int) ∧
      t.time.heldStep = none ∧ t.reg Reg.TIM_STATUS_VALID = 1 ∧ t.reg Reg.TIM_STATUS_STEP_PENDING = 0 ∧ t.time.slew = s.time.slew

/-- R361: a write to TIM_STEP_NS holds its amount; a write to TIM_STEP_SEC requests the step that TIM_STEP_NS and it make,
whatever GUARD says, and an applied one sets VALID. TIM_ACCEPT (R363) steps by the offset measured last, drops the slew, and
clears GUARD_TRIP. HELD_STEP_APPLY applies a held step once no stripe runs, and waits meanwhile (R360). A command whose
condition does not hold changes nothing: the model's choice, log 5. -/
def Obligations.StepsOfTheCounter : Prop :=
  (∀ (s : State) (v : Word), s.linkUp = true → s.native = true → Completes (.registerWrite 0x301C v) s fun t =>
    t.time = { s.access.time with stepNs := v } ∧ Keeps [.time] [] s.access t) ∧
  (∀ (s : State) (v : Word), s.linkUp = true → s.native = true →
    Completes (.timStepRequest v) s fun t =>
      Stepped (s.time.stepNs.toInt + v.toInt * 1000000000) s.access t ∧
      Keeps [.time, .counters] [Reg.TIM_STATUS_VALID, Reg.TIM_STATUS_STEP_PENDING, ovf 3] s.access t) ∧
  (∀ (s : State) (v : Word), s.linkUp = true → s.native = true → v.getLsbD 4 = true →
    Completes (.timAccept v) s fun t =>
      Stepped (-(s.access.sreg Reg.TIM_OFFSET_NS)) { s.access with time := { s.access.time with slew := 0, first := false } } t ∧
      t.reg Reg.TIM_STATUS_GUARD_TRIP = 0 ∧ t.reg Reg.TIM_CTL_SRC = v.toNat % 4 ∧
      Keeps [.time, .counters] [Reg.TIM_CTL_SRC, Reg.TIM_CTL_HOLD, Reg.TIM_CTL_GUARD, Reg.TIM_STATUS_GUARD_TRIP,
        Reg.TIM_STATUS_VALID, Reg.TIM_STATUS_STEP_PENDING, ovf 3] s.access t) ∧
  (∀ (s : State) (ns : Int), s.time.heldStep = some ns → s.stepBlocked = false →
    Completes .heldStepApply s fun t =>
      Stepped ns s t ∧ Keeps [.time, .counters] [Reg.TIM_STATUS_VALID, Reg.TIM_STATUS_STEP_PENDING, ovf 3] s t) ∧
  ∀ s : State, s.stepBlocked = true ∨ s.time.heldStep = none → Ignored .heldStepApply s

/-- R355: a rate within 1,000 ppm is taken, one beyond it is ignored and sets RATE_BAD; neither moves the counter. R368: a write
to TIM_CAP_TICK arms the capture and clears VALID. R358, R456: a read of TIM_NOW_FRAC gives FRAC and latches NS and SEC of the
same cycle, in the host's latch or in the console's, never in the other. What a read returns is the model's record of outputs,
log 34. -/
def Obligations.TimeRegisters : Prop :=
  (∀ (s : State) (v : Word), s.linkUp = true → s.native = true →
    Completes (.timRateWrite v) s fun t =>
      t.reg Reg.TIM_RATE = (if v.toInt.natAbs ≤ 10737418 then v.toNat else s.access.reg Reg.TIM_RATE) ∧
      t.reg Reg.TIM_STATUS_RATE_BAD = (if v.toInt.natAbs ≤ 10737418 then s.access.reg Reg.TIM_STATUS_RATE_BAD else 1) ∧
      t.time = s.time ∧ Keeps [] [Reg.TIM_RATE, Reg.TIM_STATUS_RATE_BAD] s.access t) ∧
  (∀ (s : State) (v : Word), s.linkUp = true → s.native = true →
    Completes (.timCapArm v) s fun t =>
      t.reg Reg.TIM_CAP_TICK = v.toNat ∧ t.reg Reg.TIM_CAP_NS_VALID = 0 ∧
      Keeps [] [Reg.TIM_CAP_TICK, Reg.TIM_CAP_NS_VALID] s.access t) ∧
  (∀ s : State, s.linkUp = true →
    Completes (.timNowLatch false) s fun t =>
      t.obs.host.ns = s.time.ns ∧ t.obs.host.sec = s.time.sec ∧ t.out = .read s.time.frac :: s.access.out ∧
      t.obs.console = s.obs.console ∧ Keeps [.latches, .out] [] s.access t) ∧
  ∀ s : State, s.reg Reg.FLT_SVC_SESSION = 1 →
    Completes (.timNowLatch true) s fun t =>
      t.obs.console.ns = s.time.ns ∧ t.obs.console.sec = s.time.sec ∧ t.out = .read s.time.frac :: s.out ∧
      t.obs.host = s.obs.host ∧ Keeps [.latches, .out, .counters] [ovf 23] s t

/-- R362 to R365: a usable Sync from the source of phase under SRC 1 is measured into TIM_OFFSET. Below THR it is slewed; at or
above it, as the first after a loss under GUARD, it is refused: GUARD_TRIP and the TIME cause are set, and the counter and its
rate go on as they are. While GUARD_TRIP is set nothing is applied at all. -/
def Sys2Proof.Machine.ClauseSyncIsMeasured : Prop :=
  ∀ (s : State) (ss sn os on : Nat) (corr : Int) (rate : Option Int),
    s.reg Reg.TIM_PTP_CTL_EN = 1 → s.reg Reg.TIM_CTL_SRC = 1 →
    let d : Int := ((ss * 1000000000 + sn : Nat) : Int) - (os * 1000000000 + on : Nat) - corr
    let off := d - s.time.pathDelay.getD 0
    Completes (.ptpSync ss sn os on corr true rate) s fun t =>
      t.time.syncDiff = some d ∧ t.reg Reg.TIM_STATUS_PTP_STATE = 3 ∧ t.reg Reg.TIM_OFFSET_NS = offsetReg off ∧
      (s.reg Reg.TIM_STATUS_GUARD_TRIP = 1 → t.time = { s.time with syncDiff := some d } ∧ t.reg Reg.TIM_RATE = s.reg Reg.TIM_RATE ∧
        t.reg Reg.TIM_STATUS_GUARD_TRIP = 1) ∧
      (s.reg Reg.TIM_STATUS_GUARD_TRIP = 0 → off.natAbs < s.threshold →
        t.time = { s.time with syncDiff := some d, slew := -off * 2 ^ 32, first := false } ∧
        t.reg Reg.TIM_STATUS_LOCKED = 1 ∧ t.reg Reg.TIM_STATUS_HOLDING = 0 ∧ t.reg Reg.TIM_STATUS_GUARD_TRIP = 0 ∧
        t.reg Reg.TIM_RATE = match rate with
          | some r => if r.natAbs ≤ 10737418 then unsignedOf 32 r else s.reg Reg.TIM_RATE
          | none => s.reg Reg.TIM_RATE) ∧
      (s.reg Reg.TIM_STATUS_GUARD_TRIP = 0 → s.threshold ≤ off.natAbs → s.reg Reg.TIM_CTL_GUARD = 1 → s.time.first = true →
        t.time = { s.time with syncDiff := some d } ∧ t.reg Reg.TIM_RATE = s.reg Reg.TIM_RATE ∧
        t.reg Reg.TIM_STATUS_GUARD_TRIP = 1 ∧ t.reg Reg.GLB_IRQ_CAUSE_TIME = 1) ∧
      (s.reg Reg.TIM_STATUS_GUARD_TRIP = 0 → s.threshold ≤ off.natAbs → (s.reg Reg.TIM_CTL_GUARD = 0 ∨ s.time.first = false) →
        Stepped (-off) { s with time := { s.time with syncDiff := some d, slew := 0, first := false } } t)

/-- R362, R363, R366: a new grandmaster makes the next correction the first; a Delay_Req's stamp is queued while fewer than
eight wait, else it is dropped, counted, and TSQ_OVF set; a Delay_Resp to a queued stamp gives the path delay and frees it; loss
of master keeps or clears the rate under HOLD and sets HOLDING. -/
def Sys2Proof.Machine.ClausePtpExchange : Prop :=
  (∀ (s : State) (g : Nat), s.reg Reg.TIM_PTP_CTL_EN = 1 → s.time.grandmaster ≠ some g →
    Completes (.ptpAnnounce g true) s fun t =>
      t.time = { s.time with grandmaster := some g, first := true } ∧ t.reg Reg.TIM_STATUS_PTP_STATE = 2 ∧
      Keeps [.time] [Reg.TIM_STATUS_PTP_STATE] s t) ∧
  (∀ (s : State) (q : BitVec 16) (x : Nat), s.reg Reg.TIM_PTP_CTL_EN = 1 →
    Completes (.ptpDelayReqSend q x) s fun t =>
      (.delayReq q.toNat ∈ t.out) ∧
      (s.time.tsq.length < 8 → t.time = { s.time with tsq := s.time.tsq ++ [(q.toNat, x)] } ∧
        t.reg Reg.TIM_TSQ_USED = s.time.tsq.length + 1 ∧ t.out = .delayReq q.toNat :: s.out ∧
        Keeps [.time, .out, .counters] [Reg.TIM_TSQ_USED, ovf 3] s t) ∧
      (8 ≤ s.time.tsq.length → t.time = s.time ∧ t.reg Reg.TIM_STATUS_TSQ_OVF = 1 ∧
        t.reg Reg.TIM_TSQ_DROPPED = min 0xFFFF (s.reg Reg.TIM_TSQ_DROPPED + 1) ∧
        Keeps [.out, .host, .counters] [Reg.TIM_STATUS_TSQ_OVF, Reg.TIM_TSQ_DROPPED, causeField 0, ovf 0, ovf 1, ovf 3] s t)) ∧
  (∀ (s : State) (q : BitVec 16) (rx tx : Nat) (corr d : Int),
    (s.time.tsq.find? fun e => e.1 == q.toNat) = some (q.toNat, tx) → s.time.syncDiff = some d →
    Completes (.ptpDelayResp q rx corr) s fun t =>
      t.time.pathDelay = some (s.quotient (d + ((rx : Int) - tx - corr)) 2) ∧ t.time.tsq = s.time.tsq.filter (fun e => e.1 != q.toNat)) ∧
  (∀ (s : State) (q : BitVec 16) (rx : Nat) (corr : Int), (s.time.tsq.find? fun e => e.1 == q.toNat) = none →
    Ignored (.ptpDelayResp q rx corr) s)

/-- R362, R363: each loss of master sets HOLDING, clears LOCKED, makes the next correction the first, and returns TIM_RATE to 0
and drops its slew unless HOLD is set; PPS hands its phase to PTP under SRC 2 after 2 s. -/
def Sys2Proof.Machine.ClauseLossOfMaster : Prop :=
  (∀ s : State, s.reg Reg.TIM_PTP_CTL_EN = 1 → (s.reg Reg.TIM_CTL_SRC = 1 ∨ s.reg Reg.TIM_CTL_SRC = 2) →
    ∀ x ∈ [(Instr.ptpAnnounceTimeout, 1), (.ptpSyncTimeout, 2), (.ethBlockLockLost, 4)],
      Completes x.1 s fun t =>
        t.reg Reg.TIM_STATUS_HOLDING = 1 ∧ t.reg Reg.TIM_STATUS_LOCKED = 0 ∧ t.time.first = true ∧
        t.reg Reg.TIM_RATE = (if s.flag Reg.TIM_CTL_HOLD then s.reg Reg.TIM_RATE else 0) ∧
        t.time.slew = (if s.flag Reg.TIM_CTL_HOLD then s.time.slew else 0) ∧
        t.reg Reg.TIM_STATUS_PTP_STATE = x.2 ∧ t.time.units = s.time.units ∧
        Keeps [.time] [Reg.TIM_STATUS_HOLDING, Reg.TIM_STATUS_LOCKED, Reg.TIM_RATE, Reg.TIM_STATUS_PTP_STATE] s t) ∧
  (∀ s : State, s.reg Reg.TIM_CTL_SRC = 2 → Completes .ppsAbsent s fun t =>
    t.time = { s.time with ppsPhase := false } ∧ Keeps [.time] [] s t) ∧
  ∀ s : State, s.reg Reg.TIM_CTL_SRC = 3 → Completes .ppsAbsent s fun t =>
    t.reg Reg.TIM_STATUS_HOLDING = 1 ∧ t.reg Reg.TIM_STATUS_LOCKED = 0 ∧
    t.time = { s.time with first := true, slew := if s.flag Reg.TIM_CTL_HOLD then s.time.slew else 0 } ∧
    t.reg Reg.TIM_RATE = (if s.flag Reg.TIM_CTL_HOLD then s.reg Reg.TIM_RATE else 0) ∧
    Keeps [.time] [Reg.TIM_STATUS_HOLDING, Reg.TIM_STATUS_LOCKED, Reg.TIM_RATE] s t

/-- R364: an edge of PPS_IN within half a second of the last accepted one is ignored and counted; with SRC 0 or 1 another is
stamped only; with SRC 2 or 3 its offset from the nearest second is measured as well. XK2 mode ignores PPS_IN (R424, R425). -/
def Sys2Proof.Machine.ClausePpsEdges : Prop :=
  (∀ (s : State) (x last : Nat), s.native = true → s.time.lastPps = some last → x < last + 500000000000 →
    Completes (.ppsEdge x) s fun t =>
      t.reg Reg.TIM_PPS_NS_GLITCH = min 3 (s.reg Reg.TIM_PPS_NS_GLITCH + 1) ∧
      Keeps [.counters] [Reg.TIM_PPS_NS_GLITCH, ovf 3] s t) ∧
  (∀ (s : State) (x : Nat), s.native = false → Ignored (.ppsEdge x) s) ∧
  ∀ (s : State) (x : Nat), s.native = true → (∀ last ∈ s.time.lastPps, last + 500000000000 ≤ x) →
    Completes (.ppsEdge x) s fun t =>
      t.time.lastPps = some x ∧ t.reg Reg.TIM_PPS_NS = x / 1000 % 1000000000 ∧
      t.reg Reg.TIM_PPS_SEC_LO_SEC = x / 1000000000000 % 2 ^ 32 ∧
      (s.reg Reg.TIM_CTL_SRC ≤ 1 → Keeps [.time, .counters] [Reg.TIM_PPS_NS, Reg.TIM_PPS_SEC_LO_SEC, ovf 3] s t ∧
        t.time = { s.time with lastPps := some x, ppsPhase := false }) ∧
      ((s.reg Reg.TIM_CTL_SRC = 2 ∨ s.reg Reg.TIM_CTL_SRC = 3) → t.reg Reg.TIM_OFFSET_NS = offsetReg (s.ppsOffset x))

/-- The statements ClauseLossOfMaster and ClausePpsEdges together. The value of PTP_STATE after each loss follows log 31. -/
def Obligations.LossOfMasterAndPps : Prop := ClauseLossOfMaster ∧ ClausePpsEdges

/-- The statements ClauseSyncIsMeasured and ClausePtpExchange together. A command whose condition does not hold changes nothing:
the model's choice, log 5. An offset taken before any path delay counts it as 0, and the rounding and states of log 31 apply. -/
def Obligations.PtpMeasurement : Prop := ClauseSyncIsMeasured ∧ ClausePtpExchange

/-! ### Rings and doorbells (R324 to R333, R352) -/

/-- R329: a doorbell of an enabled submission ring takes a new tail below the ring's size; a disabled ring, a value of the
size or more, or set upper bits leave the ring as it is, set DB_ERR and post an EVR HOST entry. Other rings keep theirs. -/
def Sys2Proof.Machine.ClauseSubmissionDoorbells : Prop :=
  ∀ (s : State) (ring : Fin 9) (v : Word), s.native = true → s.linkUp = true →
    ((s.flag (Reg.HIF_SQ_CTL_EN ring) = true ∧ v.toNat < 2 ^ 16 ∧ v.toNat < 2 ^ s.reg (Reg.HIF_SQ_CTL_LOG2_SIZE ring)) →
      Completes (.submissionDoorbell ring v) s fun t =>
        (t.sub ring).tail = v.toNat ∧ (t.sub ring).fetched = (s.sub ring).fetched ∧ (∀ r, r ≠ ring.val → t.sub r = s.touch.sub r) ∧
        Keeps [.host] [Reg.HIF_SQ_STATUS_TAIL_LO ring] s.touch t) ∧
    (¬ (s.flag (Reg.HIF_SQ_CTL_EN ring) = true ∧ v.toNat < 2 ^ 16 ∧ v.toNat < 2 ^ s.reg (Reg.HIF_SQ_CTL_LOG2_SIZE ring)) →
      Completes (.submissionDoorbell ring v) s fun t =>
        t.reg Reg.HIF_STATUS_DB_ERR = 1 ∧ t.posted 0x0E ring 1 ∧ ∀ r, t.sub r = s.touch.sub r)

/-- R326, R329, R413, R416: a doorbell of an enabled CPR or of the EVR moves its head; the XK2's registers move the tail and
the head of its rings. Nothing else changes. -/
def Sys2Proof.Machine.ClauseHeadDoorbells : Prop :=
  (∀ (s : State) (ring : Fin 5) (v : Word), s.native = true → s.linkUp = true → s.cplGood ring v.toNat = true →
    Completes (.completionHeadDoorbell ring v) s fun t =>
      t.reg (headField ring) = v.toNat ∧ Keeps [] [headField ring] s.touch t) ∧
  (∀ (s : State) (ring : Fin 5) (v : Word), s.native = true → s.linkUp = true → s.cplGood ring v.toNat = false →
    Completes (.completionHeadDoorbell ring v) s fun t =>
      t.reg Reg.HIF_STATUS_DB_ERR = 1 ∧ t.posted 0x0E (9 + ring.val) 1) ∧
  (∀ (s : State) (v : Word), s.native = false → s.linkUp = true →
    Completes (.xk2RingTail v) s fun t =>
      t.reg Reg.XK2_RING_TAIL = v.toNat % 2 ^ 16 ∧ Keeps [] [Reg.XK2_RING_TAIL] s.access t) ∧
  ∀ (s : State) (v : Word), s.native = false → s.linkUp = true →
    Completes (.xk2CplHeadWrite v) s fun t =>
      t.reg Reg.XK2_CPL_HEAD = v.toNat % 2 ^ 16 ∧ t.reg Reg.XK2_CPL_HEAD_W = s.access.reg Reg.XK2_CPL_HEAD_W ∧
      Keeps [] [Reg.XK2_CPL_HEAD] s.access t

/-- R324: enabling a submission ring or a CPR with a good size and base sets its indices to 0, and for a CPR the phase to 1; a
bad size or base leaves it disabled and sets CFG_ERR; a write that leaves it enabled keeps its size. -/
def Obligations.RingEnable : Prop :=
  (∀ (s : State) (r : Fin 9) (v : Word), s.native = true → s.linkUp = true → v.getLsbD 0 = true →
    let i : Instr := .ringCtlWrite ⟨r, by omega⟩ v
    (s.access.flag (Reg.HIF_SQ_CTL_EN r) = false → 4 ≤ bits v.toNat 8 5 → bits v.toNat 8 5 ≤ 16 →
      s.access.reg (Reg.HIF_SQ_BASE_LO_ADDR r) % 4096 = 0 → Completes i s fun t =>
        t.reg (Reg.HIF_SQ_CTL_EN r) = 1 ∧ t.reg (Reg.HIF_SQ_CTL_LOG2_SIZE r) = bits v.toNat 8 5 ∧
        t.reg (Reg.HIF_SQ_CTL_CPR r) = bits v.toNat 16 2 ∧ t.reg (Reg.HIF_SQ_STATUS_CONS r) = 0 ∧ (t.sub r).tail = 0 ∧
        Keeps [.host] [Reg.HIF_SQ_CTL_EN r, Reg.HIF_SQ_CTL_LOG2_SIZE r, Reg.HIF_SQ_CTL_CPR r, Reg.HIF_SQ_STATUS_CONS r,
          Reg.HIF_SQ_STATUS_TAIL_LO r] s.access t) ∧
    (s.access.flag (Reg.HIF_SQ_CTL_EN r) = false →
      (bits v.toNat 8 5 < 4 ∨ 16 < bits v.toNat 8 5 ∨ s.access.reg (Reg.HIF_SQ_BASE_LO_ADDR r) % 4096 ≠ 0) → Completes i s fun t =>
        t.reg (Reg.HIF_SQ_CTL_EN r) = 0 ∧ t.reg Reg.HIF_STATUS_CFG_ERR = 1 ∧ t.posted 0x0E r 3) ∧
    (s.access.reg (Reg.HIF_SQ_CTL_EN r) = 1 → s.access.reg (Reg.HIF_SQ_CTL_LOG2_SIZE r) < 32 → Completes i s fun t =>
        Keeps [] [Reg.HIF_SQ_CTL_CPR r] s.access t ∧ t.reg (Reg.HIF_SQ_CTL_CPR r) = bits v.toNat 16 2)) ∧
  ∀ (s : State) (c : Fin 4) (v : Word), s.native = true → s.linkUp = true → v.getLsbD 0 = true →
    s.access.flag (Reg.HIF_CPR_CTL_EN c) = false → 4 ≤ bits v.toNat 8 5 → bits v.toNat 8 5 ≤ 16 →
    s.access.reg (Reg.HIF_CPR_BASE_LO_ADDR c) % 4096 = 0 →
    Completes (.ringCtlWrite ⟨9 + c, by omega⟩ v) s fun t =>
      t.reg (Reg.HIF_CPR_CTL_EN c) = 1 ∧ t.reg (Reg.HIF_CPR_CTL_LOG2_SIZE c) = bits v.toNat 8 5 ∧
      t.reg (Reg.HIF_CPR_IDX_W c) = 0 ∧ t.reg (Reg.HIF_CPR_IDX_HEAD c) = 0 ∧ (vget t.host.cpl c CplRing.init).phase = true ∧
      Keeps [.host] [Reg.HIF_CPR_CTL_EN c, Reg.HIF_CPR_CTL_LOG2_SIZE c, Reg.HIF_CPR_CTL_VECTOR c, Reg.HIF_CPR_CTL_HOLDOFF c,
        Reg.HIF_CPR_IDX_W c, Reg.HIF_CPR_IDX_HEAD c] s.access t

/-- R325, R327, R329: a pending descriptor of a ring that fetches is held and CONS passes it; a failed read stops the ring with
STOPPED, ERR and the HOST cause, and CONS stays; a ring that does not fetch is left alone. A command whose condition does not
hold changes nothing: the model's choice, log 5. -/
def Obligations.DescriptorFetches : Prop :=
  (∀ (s : State) (ring : Fin 10) (b : List Byte) (buf : HostRead), s.fetches ring = true →
    Completes (.descriptorFetch ring (.ok b) buf) s fun t =>
      t.reg (consField ring) = (s.reg (consField ring) + 1) % s.subSize ring % 2 ^ 16 ∧
      (∃ f, (t.sub ring).fetched = (s.sub ring).fetched ++ [f] ∧ f.slot = s.reg (consField ring) ∧ f.desc = b) ∧
      ∀ r, r ≠ ring.val → t.sub r = s.sub r) ∧
  (∀ (s : State) (ring : Fin 9) (buf : HostRead), s.fetches ring = true →
    Completes (.descriptorFetch ⟨ring, by omega⟩ .error buf) s fun t =>
      t.reg (Reg.HIF_SQ_STATUS_STOPPED ring) = 1 ∧ t.reg (Reg.HIF_SQ_STATUS_ERR ring) = 1 ∧ t.reg Reg.GLB_IRQ_CAUSE_HOST = 1 ∧
      t.reg (Reg.HIF_SQ_STATUS_CONS ring) = s.reg (Reg.HIF_SQ_STATUS_CONS ring) ∧ t.sub ring = s.sub ring ∧ t.posted 0x0E ring 2) ∧
  ∀ (s : State) (ring : Fin 10) (d buf : HostRead), s.fetches ring = false → Ignored (.descriptorFetch ring d buf) s

/-- R326, R333, R416: the oldest held completion is written at W while there is room, W advances, and the phase turns at each
lap; on the XK2 ring XK2_IRQ.CPL is set. -/
def Sys2Proof.Machine.ClauseCompletionWrites : Prop :=
  (∀ (s : State) (c : Fin 4) (k : Completion) (l : List Completion), s.clocked = true → s.cplRoom c = true → s.heldCpl c = k :: l →
    Completes (.completionWrite ⟨c, by omega⟩) s fun t =>
      let w := s.reg (Reg.HIF_CPR_IDX_W c)
      let w' := (w + 1) % 2 ^ s.reg (Reg.HIF_CPR_CTL_LOG2_SIZE c)
      let phase := (vget s.host.cpl c CplRing.init).phase
      Out.hostWrite (s.reg (Reg.HIF_CPR_BASE_LO_ADDR c) + 2 ^ 32 * s.reg (Reg.HIF_CPR_BASE_HI_ADDR c) + 16 * w) (k.bytes phase) ∈ t.out ∧
      t.reg (Reg.HIF_CPR_IDX_W c) = w' % 2 ^ 16 ∧ t.heldCpl c = l ∧
      (vget t.host.cpl c CplRing.init).phase = (if w' = 0 then !phase else phase)) ∧
  ∀ (s : State) (k : Completion) (l : List Completion), s.clocked = true → s.cplRoom 4 = true → s.heldCpl 4 = k :: l →
    Completes (.completionWrite 4) s fun t =>
      Out.hostWrite (s.reg Reg.XK2_CPL_BASE_LO_ADDR + 2 ^ 32 * s.reg Reg.XK2_CPL_BASE_HI_ADDR + 8 * s.reg Reg.XK2_CPL_HEAD_W)
        (k.xk2Bytes s.host.xk2Cpl.phase) ∈ t.out ∧ t.heldCpl 4 = l ∧ t.reg Reg.XK2_IRQ_CPL = 1

/-- R352: when a HOLDOFF interval ends with entries written since the last message, the ring's vector is signalled once for all
of them, and the interval starts again; with none it only ends. -/
def Sys2Proof.Machine.ClauseHoldoffEnds : Prop :=
  (∀ (s : State) (c : Fin 4), s.native = true → s.host.vectorMasked (s.reg (Reg.HIF_CPR_CTL_VECTOR c)) = false →
    (vget s.host.cpl c CplRing.init).holding = true → (vget s.host.cpl c CplRing.init).dirty = true →
    Completes (.msixHoldoffExpiry ⟨c, by omega⟩) s fun t =>
      t.out = .msix (s.reg (Reg.HIF_CPR_CTL_VECTOR c)) :: s.out ∧ (vget t.host.cpl c CplRing.init).dirty = false ∧
      (vget t.host.cpl c CplRing.init).holding = decide (0 < s.reg (Reg.HIF_CPR_CTL_HOLDOFF c)) ∧
      Keeps [.out, .host, .counters] [ovf 1] s t) ∧
  ∀ (s : State) (c : Fin 5), (vget s.host.cpl c CplRing.init).dirty = false →
    Completes (.msixHoldoffExpiry c) s fun t =>
      (vget t.host.cpl c CplRing.init).holding = false ∧ Keeps [.host] [] s t

/-- The statements ClauseCompletionWrites and ClauseHoldoffEnds together. -/
def Obligations.CompletionsAndHoldoff : Prop := ClauseCompletionWrites ∧ ClauseHoldoffEnds

/-- The statements ClauseSubmissionDoorbells and ClauseHeadDoorbells together. -/
def Obligations.Doorbells : Prop := ClauseSubmissionDoorbells ∧ ClauseHeadDoorbells

/-! ### Commands from the rings (R330 to R347, R408, R417) -/

/-- R331: a native descriptor whose reserved byte 2 is not 0 completes with ST_BAD_LENGTH and D0 2, whatever its opcode of the
table and whatever follows, with no other effect; an XK2 descriptor likewise with its byte 4 (R416, R417). -/
def Sys2Proof.Machine.ClauseBadFieldsOnlyComplete : Prop :=
  (∀ (s : State) (d : Fetched) (p : HostRead) (lp : Bool),
    ∀ x ∈ [(Instr.nop, 1), (.tableLoad p, 2), (.stripeResume, 4), (.stripeAbort, 5), (.stripeEnd, 6), (.ledgerRead, 7),
        (.counterSnapshot, 8), (.calRun, 9), (.beamCheck, 10), (.switchBack lp, 11), (.axisMove, 12), (.axisStop, 13)],
      Heads s 8 x.2 d → byteAt d.desc 1 = 0 → byteAt d.desc 2 ≠ 0 →
      OnlyFinishes x.1 s 8 (Completion.mk' (d.origin 8) .badLength 2 0 0)) ∧
  (∀ (s : State) (ring : Fin 8) (d : Fetched), Heads s ring 0x10 d → byteAt d.desc 1 = 0 → byteAt d.desc 2 ≠ 0 →
    OnlyFinishes (.layout ring) s ring (Completion.mk' (d.origin ring) .badLength 2 0 0)) ∧
  ∀ (s : State) (d : Fetched) (p : HostRead),
    ∀ x ∈ [(Instr.xk2Layout, 1), (.stripeStop, 3), (.xk2TableLoad p, 4), (.xk2BeamCheck, 5), (.auxMove, 6), (.auxStop, 7)],
      Heads s 9 x.2 d → byteAt d.desc 1 = 0 → byteAt d.desc 4 ≠ 0 →
      OnlyFinishes x.1 s 9 (Completion.mk' (d.origin 9) .badLength 4 0 0)

/-- R331, R417: an opcode that a ring does not know completes with ST_BAD_OPCODE. R347: a NOP with every other byte 0 completes
with ST_OK. Neither has another effect. -/
def Sys2Proof.Machine.ClauseOpcodesUnknownAndNop : Prop :=
  (∀ (s : State) (ring : Fin 9) (d : Fetched), s.head? ring = some d → s.cprOf ring ≤ 4 → opcodeKnown ring (byteAt d.desc 0) = false →
    OnlyFinishes (.unknownOpcode ring) s ring (Completion.mk' (d.origin ring) .badOpcode 0 0 0)) ∧
  (∀ (s : State) (d : Fetched), s.head? 9 = some d → s.native = false → xk2OpKnown (byteAt d.desc 0) = false →
    OnlyFinishes .xk2UnknownOp s 9 (Completion.mk' (d.origin 9) .badOpcode 0 0 0)) ∧
  ∀ (s : State) (d : Fetched), Heads s 8 1 d → Zero d.desc 1 64 → OnlyFinishes .nop s 8 (Completion.mk' (d.origin 8) .ok 0 0 0)

/-- R338, R419: a payload that passes its table's checks replaces that table and no other, sets its valid bit, and the command
completes with ST_OK; one with a field at fault completes with ST_BAD_LENGTH at its offset and leaves every table; a failed read
completes with ST_BAD_ADDRESS. Where a payload's faults are reported follows log 23. -/
def Obligations.TableLoads : Prop :=
  (∀ (s : State) (d : Fetched) (payload : HostRead), Heads s 8 2 d → Zero d.desc 1 8 → Zero d.desc 10 16 → Zero d.desc 28 64 →
    leAt d.desc 16 8 % 8 = 0 → byteAt d.desc 8 ≤ 4 → byteAt d.desc 9 < tableIndices (byteAt d.desc 8) →
    (byteAt d.desc 8 = 2 → s.part = .fx640) → (byteAt d.desc 8 = 4 → s.bankBusy (byteAt d.desc 9) = false) →
    leAt d.desc 24 4 = tableLen (byteAt d.desc 8) →
    let table := byteAt d.desc 8
    let index := byteAt d.desc 9
    match payload with
    | .error => OnlyFinishes (.tableLoad payload) s 8 (Completion.mk' (d.origin 8) .badAddress 0 0 0)
    | .ok l => match tableBad table (l.take (tableLen table)) with
      | some off => OnlyFinishes (.tableLoad payload) s 8 (Completion.mk' (d.origin 8) .badLength off 0 0)
      | none => Completes (.tableLoad payload) s fun t =>
          Finishes s t 8 (Completion.mk' (d.origin 8) .ok 0 0 0) ∧
          t.beams = (if table = 0 then beamTable (l.take 2097152) else s.beams) ∧
          t.defects = (if table = 1 then defectTable (l.take 32768) else s.defects) ∧
          t.kernels = (if table = 2 then vmod s.kernels index (fun _ => some (kernelOf (l.take 412))) else s.kernels) ∧
          t.link = (if table = 3 then { s.link with eqTable := eqTableOf (l.take 2880) } else s.link) ∧
          t.looper = (if table = 4 then
            { s.looper with banks := vmod s.looper.banks index fun _ => some (bankOf (l.take 1584)) } else s.looper) ∧
          (table = 0 → t.reg Reg.BEM_STATUS_BT_VALID = 1) ∧ (table = 1 → t.reg Reg.BEM_STATUS_DM_VALID = 1) ∧
          (table = 2 → bitOf (t.reg Reg.DCU_STATUS_SLOT_VALID) index = true) ∧
          (table = 4 → bitOf (t.reg Reg.LPR_STATUS_BANK_VALID) index = true) ∧
          Keeps [.host, .counters, .beams, .defects, .kernels, .link, .looper] [ovf 1, Reg.BEM_STATUS_BT_VALID,
            Reg.BEM_STATUS_DM_VALID, Reg.DCU_STATUS_SLOT_VALID, Reg.LPR_STATUS_BANK_VALID] s t) ∧
  ∀ (s : State) (d : Fetched) (l : List Byte), Heads s 9 4 d → Zero d.desc 1 2 → Zero d.desc 4 8 → leAt d.desc 16 4 = 1048576 →
    Zero d.desc 20 32 → xk2TableBad (l.take 1048576) = none →
    Completes (.xk2TableLoad (.ok l)) s fun t =>
      Finishes s t 9 (Completion.mk' (d.origin 9) .ok 0 0 0) ∧ t.reg Reg.BEM_STATUS_BT_VALID = 1 ∧
      t.reg Reg.BEM_STATUS_DM_VALID = 1 ∧
      (∀ i < 262144, SMap.get (fun _ => false) t.defects i = bitOf (byteAt (l.take 1048576) (4 * i + 2)) 0) ∧
      Keeps [.host, .counters, .beams, .defects] [ovf 1, Reg.BEM_STATUS_BT_VALID, Reg.BEM_STATUS_DM_VALID] s t

/-- R98, R332, R417: a good LAYOUT descriptor joins its channel's queue with its stripe id and its bytes, and completes only
later; the XK2 form joins channel 0, and one marked as compressed completes with ST_NOT_IN_MODE (R104). -/
def Obligations.LayoutBuffersQueue : Prop :=
  (∀ (s : State) (ring : Fin 8) (d : Fetched) (l : List Byte), Heads s ring 0x10 d → d.buf = .ok l → byteAt d.desc 1 < 2 →
    Zero d.desc 2 8 → 1 ≤ leAt d.desc 16 4 → leAt d.desc 16 4 ≤ 16777216 → Zero d.desc 24 64 → (s.channel ring).drain = none →
    Completes (.layout ring) s fun t =>
      (t.channel ring).queue = (s.channel ring).queue ++
        [⟨d.origin ring, leAt d.desc 20 4, bitOf (byteAt d.desc 1) 0, leAt d.desc 16 4, .ok (l.take (leAt d.desc 16 4)), 0⟩] ∧
      (∀ c, c ≠ ring.val → t.channel c = s.channel c) ∧ t.heldCpl (s.cprOf ring) = s.heldCpl (s.cprOf ring) ∧
      Keeps [.host, .channels] [] s t) ∧
  (∀ (s : State) (d : Fetched) (l : List Byte), Heads s 9 1 d → d.buf = .ok l → byteAt d.desc 1 = 0 → Zero d.desc 4 8 →
    1 ≤ leAt d.desc 16 4 → leAt d.desc 16 4 ≤ 16777216 → Zero d.desc 24 32 → (s.channel 0).drain = none →
    Completes .xk2Layout s fun t =>
      (t.channel 0).queue = (s.channel 0).queue ++
        [⟨d.origin 9, leAt d.desc 20 4, false, leAt d.desc 16 4, .ok (l.take (leAt d.desc 16 4)), 0⟩] ∧
      Keeps [.host, .channels] [] s t) ∧
  ∀ (s : State) (d : Fetched), Heads s 9 1 d → byteAt d.desc 1 = 1 → Zero d.desc 4 8 → 1 ≤ leAt d.desc 16 4 →
    leAt d.desc 16 4 ≤ 16777216 → Zero d.desc 24 32 →
    OnlyFinishes .xk2Layout s 9 (Completion.mk' (d.origin 9) .notInMode 0 0 0)

/-- The stripe that a binding adds: BOUND, with the parameters of its descriptor and its own copies of the tables. -/
def Sys2Proof.Machine.Binds (s t : State) (p : Params) (o : Origin) : Prop :=
  ∃ q : Stripe, t.stripes = s.stripes ++ [q] ∧ q.par = p ∧ q.state = .bound ∧ q.origin = o ∧ q.bv.beams = s.beams ∧
    q.bv.defects = s.defects ∧ q.bv.nakWindow = min 48 (s.reg Reg.FRM_NAK_CTL_NAK_WINDOW) ∧
    q.bv.repairMax = min 2 (s.reg Reg.LDG_CTL_REPAIR_MAX) ∧ q.bv.device = s.reg Reg.FRM_DEVICE_DEVICE_ID

/-- What lets a binding pass checks 2 to 10 of R339 with its package still to settle, and no slice switched off. -/
abbrev Sys2Proof.Machine.MayBind (s : State) (p : Params) (idAt lenAt : Nat) : Prop :=
  s.stripes.length < 4 ∧ firstRefusal (s.midChecks p idAt lenAt) = none ∧ s.storeUsed + p.reserved ≤ s.storeCap ∧
    s.refusalOf p.id = none ∧ (∀ k ∈ s.package? p.id, k.settled = false) ∧
    ∀ i < 4, s.reg (Reg.SLC_ENG_DISABLE i) < 0xFFFF

/-- R149, R169, R202, R339, R417: STRIPE_BEGIN whose checks pass binds its stripe with the copies a binding makes, and completes
only when the stripe ends; STRIPE_START binds likewise with the XK2's fixed settings. An id already bound completes with
ST_BAD_ADDRESS at the id's offset, and nothing is bound. While four stripes are bound the command waits at its ring's head. A
command whose condition does not hold changes nothing: the model's choice, log 5. That a fifth binding waits at the head of its
ring follows log 23; the order of the checks, log 27. -/
def Obligations.StripesBind : Prop :=
  (∀ (s : State) (d : Fetched), Heads s 8 3 d → Zero d.desc 1 8 → firstRefusal (bodyCheck s d.desc) = none →
    MayBind s (Params.ofDesc d.desc) 8 12 →
    Completes .stripeBegin s fun t => Binds s t (Params.ofDesc d.desc) (d.origin 8)) ∧
  (∀ (s : State) (d : Fetched), Heads s 9 2 d → Zero d.desc 1 2 → Zero d.desc 4 8 → Zero d.desc 28 32 →
    lengthOk (leAt d.desc 24 4) 80 = true → MayBind s (Params.xk2 d.desc) 20 24 →
    Completes .stripeStart s fun t => Binds s t (Params.xk2 d.desc) (d.origin 9)) ∧
  (∀ (s : State) (d : Fetched) (p : Stripe), Heads s 8 3 d → Zero d.desc 1 8 → firstRefusal (bodyCheck s d.desc) = none →
    s.stripes.length < 4 → s.stripe? (leAt d.desc 8 4) = some p →
    OnlyFinishes .stripeBegin s 8 (Completion.mk' (d.origin 8) .badAddress 8 0 0)) ∧
  ∀ s : State, 4 ≤ s.stripes.length → Ignored .stripeBegin s ∧ Ignored .stripeStart s

/-- R340, R341, R342: STRIPE_RESUME starts the resume run of a HELD stripe under a new rate; of an id not bound it completes
with ST_BAD_ADDRESS, of one not HELD with ST_NOT_IN_MODE. STRIPE_ABORT leaves a HELD stripe and gives its resume point;
STRIPE_END and STRIPE_STOP release a BOUND stripe; STRIPE_END of a running stripe completes with ST_NOT_IN_MODE. The resume
point in D0 follows log 23. -/
def Obligations.StripesResumeAndEnd : Prop :=
  (∀ (s : State) (d : Fetched) (p : Stripe), Heads s 8 4 d → Zero d.desc 1 8 → Zero d.desc 16 64 → leAt d.desc 12 4 ≤ s.modeMax →
    s.stripe? (leAt d.desc 8 4) = some p → firstRefusal (s.resumeChecks p) = none →
    Completes .stripeResume s fun t => ∃ q, t.stripe? p.par.id = some q ∧ q.state = .held ∧
      q.resumeOrigin = some (d.origin 8) ∧ q.par.fReq = leAt d.desc 12 4 ∧ q.run.isSome = true ∧
      t.heldCpl (s.cprOf 8) = s.heldCpl (s.cprOf 8)) ∧
  (∀ (s : State) (d : Fetched), Heads s 8 4 d → Zero d.desc 1 8 → Zero d.desc 16 64 → leAt d.desc 12 4 ≤ s.modeMax →
    (s.stripe? (leAt d.desc 8 4) = none → OnlyFinishes .stripeResume s 8 (Completion.mk' (d.origin 8) .badAddress 0 0 0)) ∧
    ∀ p, s.stripe? (leAt d.desc 8 4) = some p → p.needPkg = none → p.state ≠ .held →
      OnlyFinishes .stripeResume s 8 (Completion.mk' (d.origin 8) .notInMode 0 0 0)) ∧
  (∀ (s : State) (d : Fetched) (p : Stripe), Heads s 8 5 d → Zero d.desc 1 8 → Zero d.desc 12 64 →
    s.stripe? (leAt d.desc 8 4) = some p → p.state = .held →
    OnlyFinishes .stripeAbort s 8 (Completion.mk' (d.origin 8) .ok (p.resumeAt.getD 0xFFFFFFFF) 0 0)) ∧
  (∀ (s : State) (d : Fetched) (p : Stripe) (r : Run), Heads s 8 5 d → Zero d.desc 1 8 → Zero d.desc 12 64 →
    s.stripe? (leAt d.desc 8 4) = some p → s.active? = some p → p.state = .write → p.run = some r → r.ticked = true → p.bv.role = 0 →
    Completes .stripeAbort s fun t => ∃ q, t.stripe? p.par.id = some q ∧ q.state = .aborting ∧ q.cause = some .stripeAborted ∧
      q.abortDue = true ∧ q.aborts = p.aborts ++ [d.origin 8] ∧ t.heldCpl (s.cprOf 8) = s.heldCpl (s.cprOf 8)) ∧
  (∀ (s : State) (d : Fetched) (p : Stripe), Heads s 8 6 d → Zero d.desc 1 8 → Zero d.desc 12 64 →
    s.stripe? (leAt d.desc 8 4) = some p →
    (p.state = .bound → Completes .stripeEnd s fun t => t.stripe? p.par.id = none ∧ t.package? p.par.id = none ∧
      ∃ l, t.heldCpl (s.cprOf 8) = l ++ [Completion.mk' (d.origin 8) .ok 0 0 0]) ∧
    (p.state.moving = true → OnlyFinishes .stripeEnd s 8 (Completion.mk' (d.origin 8) .notInMode 0 0 0))) ∧
  ∀ (s : State) (d : Fetched) (p : Stripe), Heads s 9 3 d → Zero d.desc 1 2 → Zero d.desc 4 20 → Zero d.desc 24 32 →
    s.stripe? (leAt d.desc 20 4) = some p → p.state = .bound →
    Completes .stripeStop s fun t => t.stripe? p.par.id = none ∧ t.package? p.par.id = none ∧
      ∃ l, t.heldCpl 4 = l ++ [Completion.mk' (d.origin 9) .ok 0 0 0]

/-- R343, R344, R403, R345: LEDGER_READ copies records from FIRST on, at most MAX, and RELEASE frees the report; with no records
of the source it completes with ST_BAD_ADDRESS. COUNTER_SNAPSHOT waits for its capture. CAL_RUN with FORCE makes the named items
due, and while a stripe moves it refuses any but item 0. -/
def Sys2Proof.Machine.ClauseReportsSnapshotsCalibration : Prop :=
  (∀ (s : State) (d : Fetched) (r : Report), Heads s 8 7 d → byteAt d.desc 1 < 2 → Zero d.desc 2 8 → byteAt d.desc 12 ≤ 1 →
    Zero d.desc 13 16 → 1 ≤ leAt d.desc 20 4 → leAt d.desc 24 8 % 16 = 0 → Zero d.desc 32 64 →
    s.reportOf (leAt d.desc 8 4) = some r → (r.source (byteAt d.desc 12)).isEmpty = false →
    let all := r.source (byteAt d.desc 12)
    let got := (all.drop (leAt d.desc 16 4)).take (leAt d.desc 20 4)
    Completes .ledgerRead s fun t =>
      Finishes s t 8 (Completion.mk' (d.origin 8) .ok got.length all.length 0) ∧
      t.out = (if got.isEmpty then s.out else .hostWrite (leAt d.desc 24 8) got.flatten :: s.out) ∧
      (byteAt d.desc 1 = 0 → Keeps [.host, .counters, .out] [ovf 1] s t) ∧
      (byteAt d.desc 1 = 1 → t.reports = s.reports.filter (fun r => r.stripe != leAt d.desc 8 4) ∧
        Keeps [.host, .counters, .out, .reports, .stripes] [ovf 1] s t)) ∧
  (∀ (s : State) (d : Fetched), Heads s 8 8 d → Zero d.desc 1 8 → leAt d.desc 8 8 % 64 = 0 → 4672 ≤ leAt d.desc 16 4 →
    Zero d.desc 20 64 → Completes .counterSnapshot s fun t =>
      (∃ since, t.jobs = s.jobs ++ [.snapshot (d.origin 8) (leAt d.desc 8 8) since]) ∧
      t.heldCpl (s.cprOf 8) = s.heldCpl (s.cprOf 8) ∧ Keeps [.host, .jobs] [] s t) ∧
  (∀ (s : State) (d : Fetched), Heads s 8 9 d → byteAt d.desc 1 = 1 → Zero d.desc 2 8 → byteAt d.desc 8 < 16 → byteAt d.desc 8 ≠ 0 →
    Zero d.desc 9 64 →
    ((byteAt d.desc 8 = 1 ∨ s.stripeMoving = false) → s.reg Reg.CAL_STATUS_DUE < 16 → Completes .calRun s fun t =>
      t.jobs = s.jobs ++ [.calRun (d.origin 8) (itemsOf (byteAt d.desc 8)) 0 0] ∧
      t.reg Reg.CAL_STATUS_DUE = s.reg Reg.CAL_STATUS_DUE ||| byteAt d.desc 8 ∧
      Keeps [.host, .jobs, .cal] [Reg.CAL_STATUS_DUE] s t) ∧
    (byteAt d.desc 8 ≠ 1 → s.stripeMoving = true → OnlyFinishes .calRun s 8 (Completion.mk' (d.origin 8) .notInMode 0 0 0)))

/-- R408, R417: a BEAM_CHECK whose checks pass becomes a job with its buffer, takes the shuttle's position, sends the axis to its
park position and starts the ADC offset item where it is due and may; the XK2 form always loads its result. Without a reference it completes with ST_BAD_LENGTH. -/
def Sys2Proof.Machine.ClauseBeamChecksStart : Prop :=
  (∀ (s : State) (d : Fetched), Heads s 8 10 d → byteAt d.desc 1 < 2 → Zero d.desc 2 8 → leAt d.desc 8 8 % 8 = 0 →
    leAt d.desc 16 4 = 2129920 → Zero d.desc 20 64 →
    (firstRefusal s.beamChecks = none → s.shuttleAxis < 4 → s.sreg Reg.CAL_EYE_PARK_POS ≠ s.auxPos s.shuttleAxis → Completes .beamCheck s fun t =>
      t.jobs = s.jobs ++ [.beamCheck (d.origin 8) (leAt d.desc 8 8) (byteAt d.desc 1 == 1)] ∧
      (s.mayMeasure 3 = false → t.cal = { s.cal with shuttle := s.auxPos s.shuttleAxis }) ∧
      (s.mayMeasure 3 = true → t.cal.shuttle = s.auxPos s.shuttleAxis ∧ bitOf (t.reg Reg.CAL_STATUS_RUNNING) 3 = true ∧
        bitOf (t.reg Reg.CAL_STATUS_DUE) 3 = false ∧ (t.calItem 3).begun = s.cal.readings) ∧
      (∃ m, (t.auxAxis s.shuttleAxis).move = some m ∧ m.goal = s.sreg Reg.CAL_EYE_PARK_POS ∧ m.waking = true)) ∧
    (s.reg Reg.CAL_EYE_REF = 0 → OnlyFinishes .beamCheck s 8 (Completion.mk' (d.origin 8) .badLength 0 0 0))) ∧
  ∀ (s : State) (d : Fetched), Heads s 9 5 d → Zero d.desc 1 2 → Zero d.desc 4 8 → leAt d.desc 16 4 = 1048576 → Zero d.desc 20 32 →
    firstRefusal s.beamChecks = none → s.shuttleAxis < 4 → s.sreg Reg.CAL_EYE_PARK_POS ≠ s.auxPos s.shuttleAxis → Completes .xk2BeamCheck s fun t =>
      t.jobs = s.jobs ++ [.beamCheck (d.origin 9) (leAt d.desc 8 8) true] ∧
      ∃ m, (t.auxAxis s.shuttleAxis).move = some m ∧ m.goal = s.sreg Reg.CAL_EYE_PARK_POS

/-- R217, R346: SWITCH_BACK of a spare lane that passed gives the lane back to its own transmitter and leaves the spare unfit
until it reports; one that failed completes with ST_LINK_TRAIN_FAIL; nothing to switch back is ST_BAD_ADDRESS; a Looper engine or
a slice begins its test and completes later. -/
def Sys2Proof.Machine.ClauseSwitchBack : Prop :=
  ∀ (s : State) (d : Fetched) (pass : Bool), Heads s 8 11 d → Zero d.desc 1 8 → Zero d.desc 10 64 → s.stripeMoving = false →
    (byteAt d.desc 8 = 0 → byteAt d.desc 9 < 16 → s.flag (spareUsed (byteAt d.desc 9)) = true →
      (pass = true → Completes (.switchBack pass) s fun t =>
        Finishes s t 8 (Completion.mk' (d.origin 8) .ok 0 0 0) ∧ t.reg (spareUsed (byteAt d.desc 9)) = 0 ∧
        t.reg (Reg.MPH_GRP_STATUS_SPARE_FIT (byteAt d.desc 9)) = 0) ∧
      (pass = false → OnlyFinishes (.switchBack pass) s 8 (Completion.mk' (d.origin 8) .linkTrainFail 0 0 0))) ∧
    (byteAt d.desc 8 = 0 → byteAt d.desc 9 < 16 → s.flag (spareUsed (byteAt d.desc 9)) = false →
      OnlyFinishes (.switchBack pass) s 8 (Completion.mk' (d.origin 8) .badAddress 0 0 0)) ∧
    (byteAt d.desc 8 = 1 → byteAt d.desc 9 = 0 → s.reg Reg.LPR_ENGINE_STANDBY = 1 → Completes (.switchBack pass) s fun t =>
      t.jobs = s.jobs ++ [.switchLooper (d.origin 8)] ∧ Keeps [.host, .jobs] [] s t) ∧
    (byteAt d.desc 8 = 2 → byteAt d.desc 9 < 4 → s.part = .fx640 → bitOf (s.reg Reg.FLT_STATUS_SLICE_FAILED) (byteAt d.desc 9) = true →
      Completes (.switchBack pass) s fun t =>
        t.jobs = s.jobs ++ [.switchSlice (d.origin 8) (byteAt d.desc 9)] ∧ (t.slice (byteAt d.desc 9)).testing = true ∧
        Keeps [.host, .jobs, .slices] [Reg.SLC_DROPS_MIG_DROPPED (byteAt d.desc 9), Reg.SLC_DROPS_SHADOW_DROPPED (byteAt d.desc 9)] s t)

/-- R267, R268, R347, R417: a Y move within the limits with no stripe bound becomes the Y move in force; an aux move from rest
lowers IHOLD and waits for the winding; outside the soft limits both complete with ST_AXIS_LIMIT; a stop with no move completes
at once, one with a move brings it to rest at its deceleration and waits for that. The XK2 forms do the same for aux axes. -/
def Sys2Proof.Machine.ClauseAxisCommands : Prop :=
  (∀ (s : State) (d : Fetched), Heads s 8 12 d → Zero d.desc 1 16 → Zero d.desc 24 64 → s.stripes = [] →
    s.flag Reg.STG_CTL_SP_EN = true → s.moveBlocked = none →
    (s.yWithin (s64 d.desc 16) = true → Completes .axisMove s fun t => ∃ m, t.stage.yMove = some m ∧ m.origin = some (d.origin 8) ∧
      m.target = s64 d.desc 16 ∧ (s.stage.yMove = none → Keeps [.host, .stage] [] s t)) ∧
    (s.yWithin (s64 d.desc 16) = false → OnlyFinishes .axisMove s 8 (Completion.mk' (d.origin 8) .axisLimit 0 0 0))) ∧
  (∀ (s : State) (n : Fin 4) (d : Fetched) (t0 : Int), s.moveBlocked = none → s.checking = false → s.auxVelGood n = true →
    s.auxWithin n t0 = true → (s.auxAxis n).move = none → t0 ≠ s.auxPos n →
    ∀ x ∈ [(Instr.axisMove, 8, 12), (.auxMove, 9, 6)],
      Heads s x.2.1 x.2.2 d →
      (x.2.1 = 8 → Zero d.desc 1 8 ∧ byteAt d.desc 8 = n + 1 ∧ Zero d.desc 9 16 ∧ s64 d.desc 16 = t0 ∧ Zero d.desc 24 64) →
      (x.2.1 = 9 → Zero d.desc 1 2 ∧ Zero d.desc 4 8 ∧ s64 d.desc 8 = t0 ∧ Zero d.desc 16 24 ∧ byteAt d.desc 24 = n ∧ Zero d.desc 25 32) →
      -2147483648 ≤ t0 → t0 ≤ 2147483647 →
      Completes x.1 s fun t => (∃ m, (t.auxAxis n).move = some m ∧ m.goal = t0 ∧ m.waking = true ∧ m.origin = some (d.origin x.2.1)) ∧
        t.reg (Reg.AUX_STATUS_IHOLD n) = 0 ∧ t.reg (Reg.AUX_POS n) = s.reg (Reg.AUX_POS n) ∧
        Keeps [.host, .stage] [Reg.AUX_REMAIN_STEPS n, Reg.AUX_STATUS_IHOLD n, Reg.AUX_STATUS_STATE n] s t) ∧
  (∀ (s : State) (n : Fin 4) (d : Fetched), (s.auxAxis n).move = none → (s.auxAxis n).kept = none →
    (Heads s 8 13 d → Zero d.desc 1 8 → byteAt d.desc 8 = n + 1 → Zero d.desc 9 64 →
      OnlyFinishes .axisStop s 8 (Completion.mk' (d.origin 8) .ok 0 0 0)) ∧
    (Heads s 9 7 d → Zero d.desc 1 2 → Zero d.desc 4 24 → byteAt d.desc 24 = n → Zero d.desc 25 32 →
      OnlyFinishes .auxStop s 9 (Completion.mk' (d.origin 9) .ok 0 0 0))) ∧
  (∀ (s : State) (n : Fin 4) (d : Fetched) (m : AuxMove), (s.auxAxis n).move = some m → s.auxStopAt n m m.dec ≠ s.auxPos n →
    ∀ x ∈ [(Instr.axisStop, 8, 13), (.auxStop, 9, 7)], Heads s x.2.1 x.2.2 d →
      (x.2.1 = 8 → Zero d.desc 1 8 ∧ byteAt d.desc 8 = n + 1 ∧ Zero d.desc 9 64) →
      (x.2.1 = 9 → Zero d.desc 1 2 ∧ Zero d.desc 4 24 ∧ byteAt d.desc 24 = n ∧ Zero d.desc 25 32) →
      Completes x.1 s fun t =>
        (t.auxAxis n).move = some { m with target := s.auxStopAt n m m.dec, stopping := true, stopStatus :=
          if m.stopStatus = .estop then .estop else .ok, stoppedBy := m.stoppedBy ++ [d.origin x.2.1] } ∧
        t.reg (Reg.AUX_STATUS_STATE n) = auxDecel ∧ Keeps [.host, .stage] [Reg.AUX_STATUS_STATE n] s t) ∧
  ∀ (s : State) (d : Fetched) (m : YMove), Heads s 8 13 d → Zero d.desc 1 64 → s.stripeMoving = false → s.stage.yMove = some m →
    Completes .axisStop s fun t => (∃ k, t.stage.yMove = some k ∧ k.stopCmd = m.stopCmd ++ [d.origin 8] ∧ k.stopping.isSome = true ∧
      k.target = m.target) ∧ Keeps [.host, .stage] [] s t

/-- The statements ClauseBadFieldsOnlyComplete and ClauseOpcodesUnknownAndNop together. -/
def Obligations.DescriptorsThatOnlyComplete : Prop := ClauseBadFieldsOnlyComplete ∧ ClauseOpcodesUnknownAndNop

/-- The statements ClauseReportsSnapshotsCalibration and ClauseBeamChecksStart together. What ends a wait for a capture follows
log 20; how CAL_RUN counts, log 23. -/
def Obligations.ReportsCalibrationAndBeamChecks : Prop := ClauseReportsSnapshotsCalibration ∧ ClauseBeamChecksStart

/-- The statements ClauseSwitchBack and ClauseAxisCommands together. The outcome of the spare's test is an operand of the
command, log 34; its checks follow log 23. -/
def Obligations.SwitchBackAndAxisCommands : Prop := ClauseSwitchBack ∧ ClauseAxisCommands

/-! ### Resets and power states (R2, R385, R428 to R444, R463) -/

/-- Every register field for which `keep` holds reads as in s, every other as after a cold reset; those of `but` aside. -/
def Sys2Proof.Machine.Retains (keep : Field → Bool) (but : List Field) (s t : State) : Prop :=
  ∀ f, Reg.fieldOfKey f.key = some f → (∀ g ∈ but, g.key ≠ f.key) →
    t.reg f = if keep f then s.reg f else State.reset.reg f

/-- R436 to R439, R441, R463: a soft reset disables every ring, gives up every command without a completion, and once nothing
moves returns every writable class V setting outside the TIM block to its reset value, with RST_BUSY clear again. While one is
in progress another is only counted. The XK2's reset bit does the same. What of the read-only state each reset leaves, and which
reset another absorbs, follow log 19. -/
def Obligations.SoftResets : Prop :=
  (∀ (s : State) (v : Word), s.linkUp = true → s.softBusy = false → s.power.starting = false → Quiet s →
    ∀ x ∈ [(Instr.softReset v, 0, true), (.xk2SoftReset v, 8, false)], v.getLsbD x.2.1 = true → s.native = x.2.2 →
    Completes x.1 s fun t =>
      t.host = HostUnit.init ∧ t.jobs = [] ∧ t.reg Reg.PWR_STATUS_LAST_RESET = 6 ∧ t.reg Reg.PWR_STATUS_RST_BUSY = 0 ∧
      t.reg Reg.PWR_RESET_CNT_SOFT = min 255 (s.reg Reg.PWR_RESET_CNT_SOFT + 1) ∧
      (∀ f, Reg.fieldOfKey f.key = some f → f.acc = .rw → f.cls = .v → (f.off < 0x3000 ∨ 0x4000 ≤ f.off) →
        t.reg f = State.reset.reg f) ∧
      t.obs.counters = [] ∧ t.obs.slots = [] ∧ t.kernels = State.reset.kernels ∧ t.beams = s.beams ∧ t.defects = s.defects ∧
      t.time = s.time ∧ (s.hbm.waiting = [] → t.reports = s.reports) ∧ (∀ p ∈ t.stripes, p.state ≠ .bound)) ∧
  ∀ (s : State) (v : Word), s.linkUp = true → s.native = true → v.getLsbD 0 = true → s.flag Reg.GLB_CTL_LOCK = true →
    s.lockDiffers v.toNat = false → s.softBusy = true →
    Completes (.softReset v) s fun t =>
      t.reg Reg.PWR_RESET_CNT_SOFT = min 255 (s.access.reg Reg.PWR_RESET_CNT_SOFT + 1) ∧
      Keeps [] [Reg.PWR_RESET_CNT_SOFT] s.access t

/-- R411, R436 to R439: a hot reset and an FLR reset the host interface and GLB_IRQ_MASK and give up every command, but keep the
settings; an FLR is in progress until FLR_COMPLETE, and in XK2 mode there is none. During a soft reset both are only counted. -/
def Sys2Proof.Machine.ClauseHotResetAndFlr : Prop :=
  (∀ s : State, s.linkUp = true → s.softBusy = false → Quiet s →
    ∀ x ∈ [(Instr.pcieHotReset, 4, false), (.flr, 5, true)], (x.2.2 = true → s.native = true ∧ s.power.flrBusy = false) →
    Completes x.1 s fun t =>
      t.host = HostUnit.init ∧ t.jobs = [] ∧ t.reg Reg.PWR_STATUS_LAST_RESET = x.2.1 ∧ t.reg Reg.GLB_IRQ_MASK = 0xFFF ∧
      t.reg Reg.PWR_RESET_CNT_HOT_FLR = min 255 (s.reg Reg.PWR_RESET_CNT_HOT_FLR + 1) ∧ t.power.flrBusy = x.2.2 ∧
      (∀ n < 9, t.reg (Reg.HIF_SQ_CTL_EN n) = 0) ∧ t.kernels = s.kernels ∧ t.beams = s.beams ∧ t.time = s.time ∧
      t.looper = s.looper) ∧
  (∀ s : State, s.linkUp = true → s.softBusy = true → ∀ i ∈ [Instr.pcieHotReset, .flr], (i = .flr → s.native = true) →
    Completes i s fun t => Keeps [] [Reg.PWR_RESET_CNT_HOT_FLR] s t) ∧
  (∀ s : State, s.native = false → Ignored .flr s) ∧
  ∀ s : State, Completes .flrComplete s fun t => t.power = { s.power with flrBusy := false } ∧ Keeps [.power] [] s t

/-- R436 to R438: RESET_N in Active and Idle, and PERST# also in Chrysalis, keep the fields of classes K and P, and the panel's
lands; every class V field returns to its reset value, and the device starts again without stripes, packages, jobs or reports; links
and HBM train fast (R229, R305).
Absorbed while a start is in progress. -/
def Sys2Proof.Machine.ClauseWarmReset : Prop :=
  (∀ (s : State) (c : WarmCause), s.warmActs c = true → s.power.starting = false →
    Completes (.warmReset c) s fun t =>
      Retains (fun f => f.cls != .v || f.land) [Reg.PWR_STATUS_LAST_RESET, Reg.PWR_RESET_CNT_WARM] s t ∧
      t.reg Reg.PWR_STATUS_LAST_RESET = warmCode c ∧ t.reg Reg.PWR_RESET_CNT_WARM = min 255 (s.reg Reg.PWR_RESET_CNT_WARM + 1) ∧
      t.power.state = .active ∧ t.power.starting = true ∧ t.power.cold = false ∧ t.stripes = [] ∧ t.packages = [] ∧ t.jobs = [] ∧
      t.reports = [] ∧ t.bands = [] ∧ t.host = HostUnit.init ∧ t.obs = State.reset.obs ∧ t.beams = s.beams ∧ t.defects = s.defects ∧
      t.link.eqTable = s.link.eqTable ∧ t.cal.targets = s.cal.targets ∧ t.hbm.words = s.hbm.words ∧ t.time.units = s.time.units ∧
      t.hbm.sweepFast = true ∧ ∀ g < 16, (t.group g).fast = true) ∧
  (∀ (s : State) (c : WarmCause), s.warmActs c = true → s.power.starting = true →
    Completes (.warmReset c) s fun t => Keeps [] [Reg.PWR_RESET_CNT_WARM] s t) ∧
  ∀ (s : State) (c : WarmCause), s.warmActs c = false → Ignored (.warmReset c) s

/-- R2, R428, R436, R438: a cold reset keeps class K alone, or nothing where its domain had no supply, and latches the mode from
MODESEL. PORESET_N acts only with VIN present. VIN's return out of Cocoon counts a brown-out and shows that the crystal ran. -/
def Sys2Proof.Machine.ClauseColdReset : Prop :=
  (∀ (s : State) (c : ColdCause) (m : Bool), (s.power.state = .active ∨ s.power.state = .idle ∨ s.power.state = .chrysalis) →
    Completes (.coldReset c m) s fun t =>
      Retains (fun f => f.cls == .k || f.land) [Reg.PWR_STATUS_LAST_RESET] s t ∧ t.time.units = s.time.units ∧
      t.reg Reg.PWR_STATUS_LAST_RESET = (match c with | .vin => 0 | .poreset => 1)) ∧
  (∀ (s : State) (c : ColdCause) (m : Bool), s.coldActs c = true → Completes (.coldReset c m) s fun t =>
      t.mode = (if m then .native else .xk2) ∧ t.part = s.part ∧ t.pending = s.pending ∧ t.power = PowerUnit.coldStart m ∧
      t.stripes = [] ∧ t.packages = [] ∧ t.jobs = [] ∧ t.beams = [] ∧ t.reports = [] ∧ t.hbm = State.reset.hbm ∧
      t.host = HostUnit.init) ∧
  (∀ (s : State) (m : Bool), s.power.state = .cocoon → Completes (.coldReset .vin m) s fun t =>
      t.reg Reg.TIM_STATUS_XTAL_RAN = 1 ∧ t.time.units = s.time.units ∧
      t.reg Reg.PWR_RESET_CNT_BROWNOUT = (if s.power.brownout then min 255 (s.reg Reg.PWR_RESET_CNT_BROWNOUT + 1)
        else s.reg Reg.PWR_RESET_CNT_BROWNOUT)) ∧
  (∀ (s : State) (m : Bool), s.power.state = .off → Completes (.coldReset .vin m) s fun t =>
      Retains (fun f => f.land) [Reg.PWR_STATUS_LAST_RESET] s t ∧ t.time = State.reset.time) ∧
  ∀ (s : State) (m : Bool), (s.power.state = .cocoon ∨ s.power.state = .off) → Ignored (.coldReset .poreset m) s

/-- R428, R430, R433, R435: a brown-out and the removal of VIN both end in Cocoon with class K alone; loss of VKEEP there loses it
too, and the domain comes back with K_LOST and the time base from zero. In Cocoon an alarm that is due holds PWRREQ_N low. -/
def Sys2Proof.Machine.ClauseCocoon : Prop :=
  (∀ s : State, (s.power.state = .active ∨ s.power.state = .idle ∨ s.power.state = .chrysalis) →
    ∀ x ∈ [(Instr.brownout, true), (.cocoonEntry, false)], Completes x.1 s fun t =>
      t.power.state = .cocoon ∧ t.power.brownout = x.2 ∧ Retains (fun f => f.cls == .k || f.land) [] s t ∧
      t.time.units = s.time.units ∧ t.stripes = [] ∧ t.packages = [] ∧ t.jobs = [] ∧ t.beams = [] ∧ t.host = HostUnit.init ∧
      (s.native = true → t.out = .dac (s.restCode 0) (s.restCode 1) :: s.out)) ∧
  (∀ s : State, s.power.state = .cocoon → Completes .vkeepLoss s fun t =>
      t.power.state = .off ∧ Retains (fun f => f.land) [] s t ∧ t.time = State.reset.time) ∧
  (∀ s : State, s.power.state = .off → Completes .cocoonDomainPowerUp s fun t =>
      t.power.state = .cocoon ∧ t.reg Reg.PWR_STATUS_K_LOST = 1 ∧ t.reg Reg.TIM_STATUS_VALID = 0 ∧ t.time.units = 0 ∧
      Retains (fun f => f.land) [] s t) ∧
  (∀ s : State, s.power.state = .cocoon → s.native = true → bitOf (s.reg Reg.PWR_WAKE_EN) 3 = true → s.alarmAt ≤ s.time.sec →
    Completes .cocoonAlarm s fun t => t.power = { s.power with pwrreqLow := true } ∧ Keeps [.power] [] s t) ∧
  ∀ s : State, s.power.state ≠ .cocoon → Ignored .cocoonAlarm s ∧ Ignored .vkeepLoss s

/-- R433 to R435, R438, R444: REQ 1 of PWR_CTL enters Idle, with every READY group in L2, unless something is bound or moves;
REQ 2 enters Chrysalis, which keeps classes K and P, unless a stripe is bound; a request turned away sets REQ_REFUSED and
changes no power state. A wake source that is enabled ends Idle, or restarts from Chrysalis, and CAUSE names it. A command whose
condition does not hold changes nothing: the model's choice, log 5. What of the read-only state Chrysalis leaves, and the cause
a wake shows, follow log 19. -/
def Obligations.IdleChrysalisAndWake : Prop :=
  (∀ (s : State) (v : Word), s.native = true → s.linkUp = true → bits v.toNat 0 2 = 1 →
    (s.access.stripeBusy = false → s.access.busyMoving = false → Completes (.enterIdle v) s fun t =>
      t.power.state = .idle ∧ ∀ g < 16, s.access.grp g = grpReady → t.inL2 g = true) ∧
    ((s.access.stripeBusy = true ∨ s.access.busyMoving = true) → Completes (.enterIdle v) s fun t =>
      t.reg Reg.PWR_STATUS_REQ_REFUSED = 1 ∧ t.power = s.access.power ∧ t.link = s.access.link)) ∧
  (∀ (s : State) (v : Word), s.native = true → s.linkUp = true → bits v.toNat 0 2 = 2 → s.stripes = [] → s.busyMoving = false →
    Completes (.enterChrysalis v) s fun t =>
      t.power.state = .chrysalis ∧ t.power.starting = false ∧ t.packages = [] ∧ t.reports = s.reports ∧ t.bands = s.bands ∧
      t.beams = s.beams ∧ t.host = HostUnit.init ∧
      Retains (fun f => f.cls != .v || f.land || f.isAckWait) [] s.access t) ∧
  (∀ (s : State) (src : WakeSource), s.wakeEnabled src = true → s.native = true →
    (s.power.state = .idle → Completes (.wake src) s fun t =>
      t.power.state = .active ∧ t.reg Reg.PWR_WAKE_CAUSE = 2 ^ wakeBit src ∧ t.stripes = s.stripes ∧ t.packages = s.packages ∧
      t.host = s.host) ∧
    (s.power.state = .chrysalis → Completes (.wake src) s fun t =>
      t.power.state = .active ∧ t.power.starting = true ∧ t.power.wakeLow = true ∧ t.reg Reg.PWR_WAKE_CAUSE = 2 ^ wakeBit src ∧
      t.reg Reg.PWR_STATUS_LAST_RESET = 7 ∧ t.reports = s.reports ∧
      Retains (fun f => f.cls != .v || f.land || f.isAckWait) [Reg.PWR_WAKE_CAUSE, Reg.PWR_STATUS_LAST_RESET] s t)) ∧
  ∀ (s : State) (src : WakeSource), s.wakeEnabled src = false → Ignored (.wake src) s

/-- R385, R431, R432: bring-up goes from stage to stage, each with the INSTAR cause: to 1 when the start is done, to 2 when a
firmware image runs and the link is up, to 3 when HBM is swept and the links are low or out, to 4 when they are READY or out and
no item is due; where a stage's condition does not hold nothing happens. A fenced spare slice is tested at 4. A command whose
condition does not hold changes nothing: the model's choice, log 5. What a start without a firmware image or a link waits for is
an operand of the command, log 34. -/
def Obligations.BringUp : Prop :=
  (∀ (s : State) (ma mi : BitVec 8) (im : Option Bool) (sp w : Nat) (bad : List Nat), s.power.state = .active → s.instar = 0 →
    Completes (.instarAdvance ma mi im sp w bad) s fun t =>
      t.instar = 1 ∧ t.reg Reg.GLB_IRQ_CAUSE_INSTAR = 1 ∧ t.power = { s.power with starting := false }) ∧
  (∀ (s : State) (ma mi : BitVec 8) (im : Bool) (sp w : Nat) (bad : List Nat), s.power.state = .active → s.instar = 1 →
    Completes (.instarAdvance ma mi (some im) sp w bad) s fun t =>
      t.instar = 2 ∧ t.reg Reg.GLB_IRQ_CAUSE_INSTAR = 1 ∧ t.reg Reg.GLB_VERSION_FW_MAJOR = ma.toNat ∧
      t.reg Reg.GLB_VERSION_FW_MINOR = mi.toNat ∧ t.reg Reg.GLB_VERSION_FW_IMAGE = b2n im ∧
      t.power = { s.power with wakeLow := false } ∧
      Keeps [.power, .counters, .host, .out] [Reg.GLB_STATUS_INSTAR, Reg.GLB_IRQ_CAUSE_INSTAR, Reg.GLB_VERSION_FW_MAJOR,
        Reg.GLB_VERSION_FW_MINOR, Reg.GLB_VERSION_FW_IMAGE, Reg.HIF_STATUS_SPEED, Reg.HIF_STATUS_WIDTH, Reg.FLT_SVC_SESSION,
        ovf 0, ovf 1, ovf 23] s t) ∧
  (∀ (s : State) (ma mi : BitVec 8) (sp w : Nat) (bad : List Nat), s.instar = 1 →
    Ignored (.instarAdvance ma mi none sp w bad) s) ∧
  (∀ (s : State) (ma mi : BitVec 8) (im : Option Bool) (sp w : Nat) (bad : List Nat), s.power.state = .active → s.instar = 2 →
    s.memorySwept = true → (∀ g < 16, s.grp g = grpLow ∨ s.grp g = grpOut) →
    Completes (.instarAdvance ma mi im sp w bad) s fun t =>
      t.instar = 3 ∧ t.reg Reg.GLB_IRQ_CAUSE_INSTAR = 1 ∧ t.hbm = { s.hbm with map := liveMap s.pcLive } ∧
      (s.power.cold = true → t.reg Reg.CAL_STATUS_DUE = 15)) ∧
  (∀ (s : State) (ma mi : BitVec 8) (im : Option Bool) (sp w : Nat) (bad : List Nat), s.power.state = .active → s.instar = 3 →
    (∀ g < 16, s.grp g = grpReady ∨ s.grp g = grpOut) → s.reg Reg.CAL_STATUS_DUE = 0 → s.reg Reg.CAL_STATUS_RUNNING = 0 →
    Completes (.instarAdvance ma mi im sp w bad) s fun t =>
      t.instar = 4 ∧ t.reg Reg.GLB_IRQ_CAUSE_INSTAR = 1 ∧
      (s.part = .fx640 → s.reg Reg.FLT_STATUS_SPARE_STATE = 1 → (t.slice 4).testing = true)) ∧
  ∀ (s : State) (ma mi : BitVec 8) (im : Option Bool) (sp w : Nat) (bad : List Nat), (s.power.state ≠ .active ∨ 4 ≤ s.instar) →
    Ignored (.instarAdvance ma mi im sp w bad) s

/-- The statements ClauseColdReset and ClauseCocoon together. A command whose condition does not hold changes nothing: the
model's choice, log 5. What of the read-only state and the lands each reset leaves follows log 19. -/
def Obligations.ColdResetAndCocoon : Prop := ClauseColdReset ∧ ClauseCocoon

/-- The statements ClauseHotResetAndFlr and ClauseWarmReset together. A command whose condition does not hold changes nothing:
the model's choice, log 5. What of the read-only state each reset leaves, and which reset another absorbs, follow log 19. -/
def Obligations.WarmResetsAndFlr : Prop := ClauseHotResetAndFlr ∧ ClauseWarmReset

/-! ### The operator panel and the service cable (R386 to R395) -/

/-- R275, R387: either channel asserts E-STOP: the flags, the OPERATOR cause and the OPERATOR entry follow, Looper disengages, STOP
leaves on the active lanes, a BEAM_CHECK ends with ST_ESTOP, and a stripe that writes aborts with ST_ESTOP at the next tick. While
it is asserted, the other channel only sets its own flag. -/
def Sys2Proof.Machine.ClauseEstopAssert : Prop :=
  (∀ (s : State) (b : Bool), s.panelOn = true → s.reg Reg.FLT_OP_ESTOP = 0 → Quiet s →
    Completes (.estopAssert b) s fun t =>
      t.reg Reg.FLT_OP_ESTOP = 1 ∧ t.reg (if b then Reg.FLT_OP_ESTOP_B else Reg.FLT_OP_ESTOP_A) = 1 ∧
      t.reg Reg.GLB_IRQ_CAUSE_OPERATOR = 1 ∧ t.posted 0x0D 0xFF 1 ∧ t.reg Reg.LPR_STATUS_ENGAGED = 0 ∧
      (s.activeLanes ≠ [] → .stop ∈ t.out) ∧ t.stripes = s.stripes ∧
      ∀ o addr load, s.jobs = [.beamCheck o addr load] → s.cprOf o.ring ≤ 4 →
        t.jobs = [] ∧ t.heldCpl (s.cprOf o.ring) = s.heldCpl (s.cprOf o.ring) ++ [Completion.mk' o .estop 0 0 0]) ∧
  (∀ (s : State) (b : Bool) (p : Stripe) (r : Run), s.panelOn = true → s.reg Reg.FLT_OP_ESTOP = 0 → Writes s p r →
    Completes (.estopAssert b) s fun t => Aborts t p.par.id .estop) ∧
  ∀ (s : State) (b : Bool), s.panelOn = true → s.reg Reg.FLT_OP_ESTOP = 1 →
    Completes (.estopAssert b) s fun t => t.reg (if b then Reg.FLT_OP_ESTOP_B else Reg.FLT_OP_ESTOP_A) = 1 ∧
      Keeps [] [if b then Reg.FLT_OP_ESTOP_B else Reg.FLT_OP_ESTOP_A] s t

/-- R386, R388, R389: the release of E-STOP sets ACK_WAIT; a press of ACK clears it once E-STOP is released; channels that differ
too long set ESTOP_DISC. Each posts its OPERATOR entry, and changes nothing else. -/
def Sys2Proof.Machine.ClauseEstopReleaseAndAck : Prop :=
  (∀ s : State, s.panelOn = true → s.reg Reg.FLT_OP_ESTOP = 1 → Completes .estopRelease s fun t =>
    t.reg Reg.FLT_OP_ESTOP = 0 ∧ t.reg Reg.FLT_OP_ESTOP_A = 0 ∧ t.reg Reg.FLT_OP_ESTOP_B = 0 ∧ t.reg Reg.FLT_OP_ACK_WAIT = 1 ∧
    t.posted 0x0D 0xFF 2 ∧ Keeps eventPieces ([Reg.FLT_OP_ESTOP, Reg.FLT_OP_ESTOP_A, Reg.FLT_OP_ESTOP_B, Reg.FLT_OP_ACK_WAIT]
      ++ eventFields) s t) ∧
  (∀ s : State, s.reg Reg.FLT_OP_ESTOP = 0 → Ignored .estopRelease s) ∧
  (∀ s : State, s.panelOn = true → s.flag Reg.FLT_OP_ESTOP_A ≠ s.flag Reg.FLT_OP_ESTOP_B →
    Completes .estopDiscrepancy s fun t => t.reg Reg.FLT_OP_ESTOP_DISC = 1 ∧ t.posted 0x0D 0xFF 1 ∧
      (s.reg Reg.FLT_OP_ESTOP_DISC = 0 → t.reg Reg.GLB_IRQ_CAUSE_OPERATOR = 1) ∧
      Keeps eventPieces ([Reg.FLT_OP_ESTOP_DISC, Reg.GLB_IRQ_CAUSE_OPERATOR] ++ eventFields) s t) ∧
  (∀ s : State, s.flag Reg.FLT_OP_ESTOP_A = s.flag Reg.FLT_OP_ESTOP_B → Ignored .estopDiscrepancy s) ∧
  ∀ s : State, s.power.state = .active → Completes .ackPress s fun t =>
    t.reg Reg.FLT_OP_ACK_WAIT = (if s.flag Reg.FLT_OP_ESTOP then s.reg Reg.FLT_OP_ACK_WAIT else 0) ∧ t.posted 0x0D 0xFF 7 ∧
    Keeps eventPieces (Reg.FLT_OP_ACK_WAIT :: eventFields) s t

/-- R390, R391: an opened door sets DOOR_OPEN and the OPERATOR cause, aborts the stripe that writes, and with the key off sends a
host move to rest; closing it clears DOOR_OPEN; the key follows its switch, and turned off with the door open it sends a host move to
rest. XK2 mode reads the key as off. -/
def Sys2Proof.Machine.ClauseDoorAndKey : Prop :=
  (∀ s : State, s.panelOn = true → s.reg Reg.FLT_OP_DOOR_OPEN = 0 → s.active? = none → Completes .doorOpen s fun t =>
    t.reg Reg.FLT_OP_DOOR_OPEN = 1 ∧ t.reg Reg.GLB_IRQ_CAUSE_OPERATOR = 1 ∧ t.posted 0x0D 0xFF 3 ∧ t.stripes = s.stripes ∧
    (s.reg Reg.FLT_OP_KEY_ON ≠ 0 → t.stage = s.stage) ∧
    (s.reg Reg.FLT_OP_KEY_ON = 0 → ∀ m, s.stage.yMove = some m →
      t.stage.yMove = some { m with stopping := some (m.stopping.getD .ok) })) ∧
  (∀ (s : State) (p : Stripe) (r : Run), s.panelOn = true → s.reg Reg.FLT_OP_DOOR_OPEN = 0 → Writes s p r →
    Completes .doorOpen s fun t => t.reg Reg.FLT_OP_DOOR_OPEN = 1 ∧ Aborts t p.par.id .stripeAborted) ∧
  (∀ s : State, s.panelOn = true → s.reg Reg.FLT_OP_DOOR_OPEN = 1 → Completes .doorClose s fun t =>
    t.reg Reg.FLT_OP_DOOR_OPEN = 0 ∧ t.posted 0x0D 0xFF 4 ∧ Keeps eventPieces (Reg.FLT_OP_DOOR_OPEN :: eventFields) s t) ∧
  (∀ s : State, s.reg Reg.FLT_OP_DOOR_OPEN = 0 → Ignored .doorClose s) ∧
  (∀ (s : State) (on : Bool), s.panelOn = true → s.native = true → s.flag Reg.FLT_OP_KEY_ON ≠ on →
    Completes (.keyChange on) s fun t =>
      t.reg Reg.FLT_OP_KEY_ON = b2n on ∧ t.posted 0x0D 0xFF (if on then 5 else 6) ∧
      ((on = true ∨ s.reg Reg.FLT_OP_DOOR_OPEN = 0) → Keeps eventPieces (Reg.FLT_OP_KEY_ON :: eventFields) s t) ∧
      (on = false → s.reg Reg.FLT_OP_DOOR_OPEN = 1 → ∀ m, s.stage.yMove = some m →
        t.stage.yMove = some { m with stopping := some (m.stopping.getD .ok) })) ∧
  ∀ (s : State) (on : Bool), s.native = false → Ignored (.keyChange on) s

/-- R393, R456: the service cable opens a session from Instar 2 on unless SVC_PORT_DIS locks the port out, and ends it when it
leaves; XK2 mode reads it as absent. -/
def Sys2Proof.Machine.ClauseServiceCable : Prop :=
  (∀ s : State, s.power.state = .active → s.native = true → s.reg Reg.FLT_OP_SVC_PRESENT = 0 →
    Completes .serviceCableIn s fun t =>
      t.reg Reg.FLT_OP_SVC_PRESENT = 1 ∧ t.posted 0x0D 0xFF 8 ∧
      t.reg Reg.FLT_SVC_SESSION = (if s.reg Reg.GLB_CTL_SVC_PORT_DIS = 0 ∧ 2 ≤ s.instar then 1 else 0) ∧
      Keeps eventPieces ([Reg.FLT_OP_SVC_PRESENT, Reg.FLT_SVC_SESSION, ovf 23] ++ eventFields) s t) ∧
  (∀ s : State, s.panelOn = true → s.native = true → s.reg Reg.FLT_OP_SVC_PRESENT = 1 →
    Completes .serviceCableOut s fun t =>
      t.reg Reg.FLT_OP_SVC_PRESENT = 0 ∧ t.posted 0x0D 0xFF 9 ∧ t.reg Reg.FLT_SVC_SESSION = 0 ∧
      Keeps eventPieces ([Reg.FLT_OP_SVC_PRESENT, Reg.FLT_SVC_SESSION] ++ eventFields) s t) ∧
  ∀ s : State, s.native = false → Ignored .serviceCableIn s ∧ Ignored .serviceCableOut s

/-- The statements ClauseDoorAndKey and ClauseServiceCable together. A command whose condition does not hold changes nothing:
the model's choice, log 5. Which moves halt with the key off, and when a session opens, follow log 18. -/
def Obligations.DoorKeyAndService : Prop := ClauseDoorAndKey ∧ ClauseServiceCable

/-- The statements ClauseEstopAssert and ClauseEstopReleaseAndAck together. A command whose condition does not hold changes
nothing: the model's choice, log 5. That E-STOP ends a BEAM_CHECK, and that ESTOP_DISC raises OPERATOR, follow log 18. -/
def Obligations.Estop : Prop := ClauseEstopAssert ∧ ClauseEstopReleaseAndAck

/-! ### Register access (R11, R323, R394, R410 to R415, R446 to R464) -/

/-- Offsets whose writes have no rule beyond the access codes of R11: PWR from 02004h, STG and SKP from 04004h, slices 0 to 3, BEM
and LDG, FRM from 0D008h, FTC and FLT. -/
abbrev Sys2Proof.Machine.plainOffset (off : Nat) : Prop :=
  off % 4 = 0 ∧ ((0x2004 ≤ off ∧ off < 0x3000) ∨ (0x4004 ≤ off ∧ off < 0x4800) ∨ (0x8000 ≤ off ∧ off < 0xA000) ∨
    (0xC100 ≤ off ∧ off < 0xC300) ∨ (0xD008 ≤ off ∧ off < 0xD100) ∨ (0x16000 ≤ off ∧ off < 0x16100) ∨
    (0x17000 ≤ off ∧ off < 0x17100))

/-- What a write of v makes of a field under its access code (R11). -/
def Sys2Proof.Machine.written (s : State) (v : Nat) (f : Field) : Nat :=
  match f.acc with
  | .rw => bits v f.lo f.width
  | .w1c => (s.reg f - (s.reg f &&& bits v f.lo f.width)) % 2 ^ f.width
  | .ro | .wo | .rwl => s.reg f

/-- R11, R322, R323, R394, R410, R460, R462: a write gives each RW field its bits, clears each W1C field where a 1 is written,
and leaves RO, WO and RWL fields and every other register; an offset that the latched mode does not take, or that lists no
register, takes nothing; a misaligned or odd-sized access does nothing and a read gives all ones. A vector unmasked in the MSI-X
table sends its pending message. The console writes FLT_CTL while key and session allow it, has its own PMC_RD_SEL, and is
refused elsewhere, counted. A command whose condition does not hold changes nothing: the model's choice, log 5. -/
def Obligations.RegisterWrites : Prop :=
  (∀ (s : State) (off : Nat) (v : Word), s.linkUp = true → s.native = true → plainOffset off →
    Completes (.registerWrite off v) s fun t =>
      (∀ f ∈ Reg.fieldsAt off, t.reg f = written s.access v.toNat f) ∧ Keeps [] (Reg.fieldsAt off) s.access t) ∧
  (∀ (s : State) (off : Nat) (v : Word), s.linkUp = true → off % 4 = 0 → s.takesWrite off = false →
    Completes (.registerWrite off v) s fun t => Keeps [] [] s.access t) ∧
  (∀ (s : State) (vec : Nat) (v : Word), s.linkUp = true → s.native = true → vec < 64 → vec ∈ s.host.msixPending → v.getLsbD 0 = false →
    Completes (.registerWrite (0xFE000 + 16 * vec + 12) v) s fun t =>
      t.out = .msix vec :: s.access.out ∧ vec ∉ t.host.msixPending ∧ t.host.vectorMasked vec = false ∧
      Keeps [.host, .out, .counters] [ovf 1] s.access t) ∧
  (∀ (s : State) (w : Bool), s.linkUp = true → Completes (.bar0BadAccess w) s fun t =>
    t.out = (if w then s.access.out else .read 0xFFFFFFFF :: s.access.out) ∧
    t.obs.counters = (s.access.count 0 7 1).obs.counters ∧ Keeps [.out, .counters] [ovf 0] s.access t) ∧
  (∀ (s : State) (off : Nat) (v : Word), s.linkUp = false → off % 4 = 0 → Ignored (.registerWrite off v) s) ∧
  (∀ (s : State) (v : Word), s.reg Reg.FLT_SVC_SESSION = 1 → s.consoleWriteEn = true →
    (Completes (.consoleWrite 0x17000 v) s fun t =>
      (∀ f ∈ Reg.fieldsAt 0x17000, t.reg f = written s v.toNat f) ∧ Keeps [.counters] (ovf 23 :: Reg.fieldsAt 0x17000) s t) ∧
    Completes (.consoleWrite 0x19028 v) s fun t => t.obs.consoleSel = v ∧ Keeps [.counters, .consoleSel] [ovf 23] s t) ∧
  (∀ (s : State) (off : Nat) (v : Word), s.reg Reg.FLT_SVC_SESSION = 1 → (s.consoleWriteEn = false ∨ consoleMayWrite off = false) →
    Completes (.consoleWrite off v) s fun t =>
      t.reg Reg.FLT_SVC_REFUSED = min 0xFFFF (s.reg Reg.FLT_SVC_REFUSED + 1) ∧
      Keeps [.counters] [Reg.FLT_SVC_REFUSED, ovf 21, ovf 23] s t) ∧
  ∀ (s : State) (off : Nat) (v : Word), s.reg Reg.FLT_SVC_SESSION = 0 → Ignored (.consoleWrite off v) s

/-- R461 to R464: a 1 clears its cause bit, a write of the mask sets it, and after either, vector 5 is signalled where a cause
still waits unmasked. While LOCK is 0 a write of GLB_CTL sets the four locked fields; afterwards it leaves them, and one that differs
sets LOCK_HIT. -/
def Obligations.CausesMaskAndLock : Prop :=
  (∀ (s : State) (v : Word), s.linkUp = true → s.native = true →
    Completes (.irqCauseClear v) s fun t =>
      (∀ n < 12, t.reg (causeField n) = if v.getLsbD n then 0 else s.access.reg (causeField n) % 2) ∧
      (t.nonePending = true → t.out = s.access.out) ∧
      (t.nonePending = false → s.access.host.vectorMasked 5 = false → t.out = .msix 5 :: s.access.out) ∧
      Keeps [.out, .host, .counters] (ovf 1 :: (List.range 12).map causeField) s.access t) ∧
  (∀ (s : State) (v : Word), s.linkUp = true → s.native = true →
    Completes (.irqMaskWrite v) s fun t =>
      t.reg Reg.GLB_IRQ_MASK = v.toNat % 2 ^ 12 ∧ (t.nonePending = true → t.out = s.access.out) ∧
      (t.nonePending = false → s.access.host.vectorMasked 5 = false → t.out = .msix 5 :: s.access.out) ∧
      Keeps [.out, .host, .counters] [ovf 1, Reg.GLB_IRQ_MASK] s.access t) ∧
  (∀ (s : State) (v : Word), s.linkUp = true → s.native = true → v.getLsbD 0 = false → s.access.reg Reg.GLB_CTL_LOCK = 0 →
    Completes (.glbCtlLockWrite v) s fun t =>
      t.reg Reg.GLB_CTL_SVC_WRITE_DIS = b2n (v.getLsbD 8) ∧ t.reg Reg.GLB_CTL_SVC_PORT_DIS = b2n (v.getLsbD 9) ∧
      t.reg Reg.GLB_CTL_OBS_DIS = b2n (v.getLsbD 10) ∧ t.reg Reg.GLB_CTL_LOCK = b2n (v.getLsbD 31) ∧
      Keeps [.counters] ([Reg.FLT_SVC_SESSION, ovf 23] ++ lockedFields) s.access t) ∧
  ∀ (s : State) (v : Word), s.linkUp = true → s.native = true → v.getLsbD 0 = false → s.access.reg Reg.GLB_CTL_LOCK = 1 →
    (s.access.lockDiffers v.toNat = true → Completes (.glbCtlLockWrite v) s fun t =>
      t.reg Reg.GLB_STATUS_LOCK_HIT = 1 ∧ (s.access.reg Reg.GLB_STATUS_LOCK_HIT = 0 → t.reg Reg.GLB_IRQ_CAUSE_LOCK = 1) ∧
      Keeps [.out, .host, .counters] [Reg.GLB_STATUS_LOCK_HIT, Reg.GLB_IRQ_CAUSE_LOCK, ovf 0] s.access t) ∧
    (s.access.lockDiffers v.toNat = false → Completes (.glbCtlLockWrite v) s fun t => Keeps [] [] s.access t)

/-- R446, R448: CLEAR sets every counter and OVF bit to 0 and leaves the slots; FREEZE stops every count; a pair whose chaining
changes is cleared with its OVF bits, and no other. -/
def Sys2Proof.Machine.ClauseCounterControl : Prop :=
  (∀ (s : State) (v : Word), s.linkUp = true → s.native = true → v.getLsbD 1 = true →
    Completes (.counterClear v) s fun t =>
      t.obs.counters = [] ∧ (∀ i < 6, t.reg (Reg.PMC_OVF i) = 0) ∧ t.reg Reg.PMC_CTL_FREEZE = b2n (v.getLsbD 0) ∧
      Keeps [.counters] (Reg.PMC_CTL_FREEZE :: (List.range 6).map Reg.PMC_OVF) s.access t) ∧
  (∀ (s : State) (v : Word), s.linkUp = true → s.native = true → v.getLsbD 1 = false →
    Completes (.counterFreeze v) s fun t =>
      t.reg Reg.PMC_CTL_FREEZE = b2n (v.getLsbD 0) ∧ (v.getLsbD 0 = true → ∀ b n k, t.count b n k = t) ∧
      Keeps [] [Reg.PMC_CTL_FREEZE] s.access t) ∧
  ∀ (s : State) (i : Fin 3) (v : Word), s.linkUp = true → s.native = true →
    Completes (.counterChainWrite i v) s fun t =>
      t.reg (Reg.PMC_CHAIN i) = v.toNat ∧
      (∀ n < 32, ∀ k < 2, let b := 8 * i.val + n / 4; let c := 2 * (n % 4) + k
        if v.getLsbD n = bitOf (s.access.reg (Reg.PMC_CHAIN i)) n then t.counter b c = s.access.counter b c
        else t.counter b c = 0 ∧ bitOf (t.reg (Reg.PMC_OVF (b / 4))) (8 * (b % 4) + c) = false) ∧
      Keeps [.counters] [Reg.PMC_CHAIN i, Reg.PMC_OVF (2 * i), Reg.PMC_OVF (2 * i + 1)] s.access t

/-- R344, R449, R450, R456, R458: a read of PMC_RD_LO gives the low word of the selection and latches the rest, for the host and
for the console each its own; a capture numbers its snapshot, keeps its 4,672 bytes for the console, writes them to the host, posts
its entry and completes the command; with no snapshot to take it does nothing. -/
def Sys2Proof.Machine.ClauseCounterReads : Prop :=
  (∀ s : State, s.linkUp = true → Completes (.pmcRdLatch false) s fun t =>
    let v := s.access.selected s.access.rdSel
    t.obs.host.pmc = v ∧ t.out = .read (v % 2 ^ 32) :: s.access.out ∧ t.obs.console = s.obs.console ∧
    Keeps [.latches, .out] [] s.access t) ∧
  (∀ s : State, s.reg Reg.FLT_SVC_SESSION = 1 → Completes (.pmcRdLatch true) s fun t =>
    let v := (s.count 23 0 1).selected s.obs.consoleSel.toNat
    t.obs.console.pmc = v ∧ t.out = .read (v % 2 ^ 32) :: s.out ∧ t.obs.host = s.obs.host ∧
    Keeps [.latches, .out, .counters] [ovf 23] s t) ∧
  (∀ (s : State) (o : Origin) (addr : Nat) (since : Option Nat), s.clocked = true → s.cprOf o.ring ≤ 4 →
    s.jobs.filter s.mayCapture = [.snapshot o addr since] → Completes .counterCapture s fun t =>
      (∃ b tick, b.length = 4672 ∧ t.obs.snapshot = some b ∧ .hostWrite addr b ∈ t.out ∧
        t.heldCpl (s.cprOf o.ring) = s.heldCpl (s.cprOf o.ring) ++ [Completion.mk' o .ok tick 4672 0]) ∧
      t.reg Reg.PMC_SEQ = (s.reg Reg.PMC_SEQ + 1) % 2 ^ 32 ∧ t.posted 0x0C 0xFF 1 ∧
      t.jobs = s.jobs.filter (fun j => !s.mayCapture j) ∧
      Keeps (.jobs :: .snapshot :: eventPieces) (Reg.PMC_SEQ :: eventFields) s t) ∧
  ∀ s : State, s.jobs.filter s.mayCapture = [] → Ignored .counterCapture s

/-- R453, R454, R458: MODE 2 of a snoop unit loads its Init or its seed; START of a write-fed context does the same and sets
BYTES to 0; a data write joins the queue and shows BUSY; a write of VAL sets its half and RESULT; a read settles the context.
Contexts 6 and 7 refuse and count. That a read of VAL first lets the queue enter follows log 20. -/
def Obligations.CheckUnits : Prop :=
  (∀ (s : State) (u : Fin 22) (v : Word), s.linkUp = true → s.native = true → s.part = .fx640 → bits v.toNat 0 2 = 2 →
    Completes (.snoopAccumStart u v) s fun t =>
      let code := bits v.toNat 2 2
      let seed := s.access.reg (Reg.CHK_SN_SEED_LO_WORD u) + 2 ^ 32 * s.access.reg (Reg.CHK_SN_SEED_HI_WORD u)
      t.reg (Reg.CHK_SN_CTL_MODE u) = 2 ∧ t.reg (Reg.CHK_SN_CTL_POLY u) = code ∧
      t.snoopVal u = (if v.getLsbD 4 then crcSeeded code seed else crcInit code).toNat ∧
      Keeps [] [Reg.CHK_SN_CTL_MODE u, Reg.CHK_SN_CTL_POLY u, Reg.CHK_SN_CTL_SEEDED u, Reg.CHK_SN_CTL_FILTER u,
        Reg.CHK_SN_VAL_LO_WORD u, Reg.CHK_SN_VAL_HI_WORD u] s.access t) ∧
  (∀ (s : State) (c : Fin 8) (v : Word), s.linkUp = true → s.native = true → s.part = .fx640 → c.val < 6 → v.getLsbD 0 = true →
    (∀ e ∈ s.obs.wfQueue, e.1 ≠ c.val) → Completes (.wfStart c v) s fun t =>
      let code := bits v.toNat 2 2
      let seed := s.access.reg (Reg.CHK_WF_SEED_LO_WORD c) + 2 ^ 32 * s.access.reg (Reg.CHK_WF_SEED_HI_WORD c)
      t.wfVal c = (if v.getLsbD 4 then crcSeeded code seed else crcInit code).toNat ∧ t.reg (Reg.CHK_WF_BYTES c) = 0 ∧
      t.reg (Reg.CHK_WF_CTL_POLY c) = code ∧ Keeps [.counters] [Reg.CHK_WF_CTL_POLY c, Reg.CHK_WF_CTL_SEEDED c,
        Reg.CHK_WF_VAL_LO_WORD c, Reg.CHK_WF_VAL_HI_WORD c, Reg.CHK_WF_RESULT_LO_WORD c, Reg.CHK_WF_RESULT_HI_WORD c,
        Reg.CHK_WF_BYTES c, ovf 20] s.access t) ∧
  (∀ (s : State) (c : Fin 8) (w : WfWidth) (v : Word), s.linkUp = true → s.native = true → s.part = .fx640 → c.val < 6 →
    s.obs.wfQueue.length < 16 → Completes (.wfData c w v) s fun t =>
      t.obs.wfQueue = s.obs.wfQueue ++ [(c.val, wfBytes w v.toNat)] ∧ t.reg (Reg.CHK_WF_CTL_BUSY c) = 1 ∧
      Keeps [.wfQueue] [Reg.CHK_WF_CTL_BUSY c] s.access t) ∧
  (∀ (s : State) (c : Fin 8) (v : Word), s.linkUp = true → s.native = true → s.part = .fx640 → c.val < 6 →
    (∀ e ∈ s.obs.wfQueue, e.1 ≠ c.val) →
    (Completes (.wfValAccess c (.writeLo v)) s fun t =>
      t.reg (Reg.CHK_WF_VAL_LO_WORD c) = v.toNat ∧ t.reg (Reg.CHK_WF_VAL_HI_WORD c) = s.access.reg (Reg.CHK_WF_VAL_HI_WORD c) ∧
      t.obs.wfQueue = s.obs.wfQueue) ∧
    Completes (.wfValAccess c (.writeHi v)) s fun t =>
      t.reg (Reg.CHK_WF_VAL_HI_WORD c) = v.toNat ∧ t.reg (Reg.CHK_WF_VAL_LO_WORD c) = s.access.reg (Reg.CHK_WF_VAL_LO_WORD c) ∧
      t.obs.wfQueue = s.obs.wfQueue) ∧
  (∀ (s : State) (c : Fin 8), s.linkUp = true → s.part = .fx640 → s.obs.wfQueue.length ≤ 16 →
    Completes (.wfValAccess c .read) s fun t => ∀ e ∈ t.obs.wfQueue, e.1 ≠ c.val) ∧
  ∀ (s : State) (c : Fin 8) (w : WfWidth) (v : Word), s.linkUp = true → s.native = true → s.part = .fx640 → 6 ≤ c.val →
    ∀ i ∈ [Instr.wfStart c v, .wfData c w v, .wfValAccess c (.writeLo v)],
      Completes i s fun t => t.obs.counters = (s.access.count 20 7 1).obs.counters ∧ Keeps [.counters] [ovf 20] s.access t

/-- R413 to R415: XK2_EQ_DATA stores good taps at INDEX and advances it, refuses bad ones with EQ_BAD, and stops at the table's
end; XK2_LINK_CTL sets the device id and the routed spares, and its RETRAIN is held while a stripe is bound; a read of a
record's last word gives it and advances INDEX. When a stripe counts as bound follows log 13. -/
def Obligations.Xk2Image : Prop :=
  (∀ (s : State) (v : Word), s.linkUp = true → s.native = false → s.access.reg Reg.XK2_EQ_ADDR_INDEX < 720 →
    let i := s.access.reg Reg.XK2_EQ_ADDR_INDEX
    let w := v.toNat % 2 ^ 24
    Completes (.xk2EqDataWrite v) s fun t =>
      t.reg Reg.XK2_EQ_ADDR_INDEX = i + 1 ∧
      ((tapsOf w).good = true → SMap.get (fun _ => 0) t.link.eqTable i = w ∧ Keeps [.link] [Reg.XK2_EQ_ADDR_INDEX] s.access t) ∧
      ((tapsOf w).good = false → t.reg Reg.XK2_STATUS_EQ_BAD = 1 ∧
        Keeps [] [Reg.XK2_EQ_ADDR_INDEX, Reg.XK2_STATUS_EQ_BAD] s.access t)) ∧
  (∀ (s : State) (v : Word), s.linkUp = true → s.native = false → 720 ≤ s.access.reg Reg.XK2_EQ_ADDR_INDEX →
    Completes (.xk2EqDataWrite v) s fun t => Keeps [] [] s.access t) ∧
  (∀ (s : State) (v : Word), s.linkUp = true → s.native = false → v.getLsbD 11 = true →
    Completes (.xk2LinkRetrain v) s fun t =>
      t.reg Reg.FRM_DEVICE_DEVICE_ID = v.toNat % 2 ^ 11 ∧ t.reg Reg.XK2_LINK_CTL_SPARE_EN = bits v.toNat 16 16 ∧
      (s.stripeBusy = true → ∀ g < 16, t.reg (Reg.MPH_GRP_STATUS_RATE_PENDING g) = 1 ∧ t.grp g = s.access.grp g) ∧
      (s.stripeBusy = false → ∀ g < 16, t.reg (Reg.MPH_GRP_STATUS_STEPPED_DOWN g) = 0)) ∧
  ∀ s : State, s.linkUp = true → s.native = false → Completes .xk2xRecRead s fun t =>
    t.out = .read (s.xk2Record 3) :: s.access.out ∧
    t.reg Reg.XK2X_REC_IDX_INDEX = (s.access.reg Reg.XK2X_REC_IDX_INDEX + 1) % 2 ^ 23 ∧
    Keeps [.out] [Reg.XK2X_REC_IDX_INDEX] s.access t

/-- The statements ClauseCounterControl and ClauseCounterReads together. A command whose condition does not hold changes
nothing: the model's choice, log 5. That CLEAR leaves the slots, and the moment of a capture, follow log 20. -/
def Obligations.Counters : Prop := ClauseCounterControl ∧ ClauseCounterReads

/-! ### Muash groups (R208 to R244, R418) -/

/-- The register fields that training of a group may change, its spare map and saved taps aside. -/
def Sys2Proof.Machine.groupFields (g : Nat) : List Field :=
  ((List.range 11).flatMap fun i => [Reg.MPH_LSTATE_STATE g i, Reg.MPH_LSTATE_TRAINED g i, Reg.MPH_TXEQ_PRE g i, Reg.MPH_TXEQ_MAIN g i,
    Reg.MPH_TXEQ_POST g i, Reg.MPH_PRBS_CTL_LOCK g i, Reg.MPH_PRBS_BITS g i, Reg.MPH_PRBS_ERR_ERRORS g i])
  ++ [Reg.MPH_GRP_STATUS_STATE g, Reg.MPH_GRP_STATUS_FAR_MAX g, Reg.MPH_GRP_STATUS_SPARE_FIT g, Reg.MPH_GRP_STATUS_RATE g,
    Reg.MPH_GRP_STATUS_FAIL_REASON g, Reg.MPH_GRP_STATUS_RATE_PENDING g, Reg.MPH_GRP_STATUS_STEPPED_DOWN g]

/-- A message is good and follows the one before it (R208, R213). -/
abbrev Sys2Proof.Machine.Good (s : State) (g : Nat) (m : LinkMsg) : Prop :=
  s.hears g = true ∧ linkCrcGood m.bytes m.padOk = true ∧ (s.group g).loss = false ∧ s.seqGap g m = false

/-- The state once a good message has been noted. -/
def Sys2Proof.Machine.State.heard (s : State) (g : Nat) (m : LinkMsg) : State :=
  (s.onGroup g fun k => { k with rxSeq := some ((byteAt m.bytes 1 + 1) % 256), loss := false, unconfirmed := [] }).count 16 4 1

/-- Required lanes of a group that are not held. -/
def Sys2Proof.Machine.State.unheld (s : State) (g : Nat) : List Nat :=
  (s.required g).filter fun i => !(s.group g).held.contains i

/-- Every lane of a group in training whose driver is on has sent the training sequence of a phase, with its taps in force (R223). -/
def Sys2Proof.Machine.Trains (t : State) (g phase : Nat) : Prop :=
  ∀ i ∈ t.required g, t.drives g i = true →
    ∃ rd, .training g i rd none (tsqBody i g (t.trainRate g) phase (t.taps g i).bytes (t.verifyLog2 g)) ∈ t.out

/-- R225, R226, R230, R231: OFF starts into CAPS; a good CAPS goes on to ALIGN, or to LOW where taps are not exchanged, a bad one goes
OUT with its reason, and so does none in time; LOW goes at Instar 3 to the rate agreed then, by EQ or, at rate 0 or without taps, by
VERIFY; the lanes in training send the training sequence, whose phases log 42 fixes (R223); the last good verification makes the
group READY, or in Idle and under L2_REQ takes it on to L2, or starts it again where its rate has been changed meanwhile (R235,
R237). -/
def Sys2Proof.Machine.ClauseGroupBringUp : Prop :=
  (∀ (s : State) (g : Fin 16), s.grp g = grpOff → 2 ≤ s.reg Reg.GLB_STATUS_INSTAR →
    Completes (.groupStart g) s fun t => t.grp g = grpCaps ∧ (∀ i ∈ s.required g, t.reg (Reg.MPH_LSTATE_STATE g i) = laneTrain) ∧
      t.reg (Reg.MPH_LSTATE_STATE g 9) = laneL0 ∧ .clock g (some 0) ∈ t.out ∧ Trains t g 0 ∧
      Keeps [.link, .out] (groupFields g) s t) ∧
  (∀ (s : State) (g : Fin 16) (m : LinkMsg), Good s g m → s.grp g = grpCaps → byteAt m.bytes 0 = 1 →
    (byteAt m.bytes 7 = 1 → leAt m.bytes 4 2 = s.reg Reg.FRM_DEVICE_DEVICE_ID → Completes (.caps g m) s fun t =>
      t.grp g = (if s.native = true ∧ bitOf (byteAt m.bytes 3) 0 = true then grpAlign else grpLow) ∧
      (t.group g).far = some ⟨byteAt m.bytes 2, byteAt m.bytes 3, leAt m.bytes 4 2⟩ ∧
      (t.group g).agreed = t.agreed g ∧
      t.out = (if s.drives g 0 then .message g 0 (s.disparity (lineKey g 0)) (linkMessage 0x01 (s.line (lineKey g 0)).seq (s.ownCaps g)) ::
        s.out else s.out) ∧
      Keeps [.link, .out, .counters] [Reg.MPH_GRP_STATUS_STATE g, Reg.MPH_GRP_STATUS_FAR_MAX g, ovf 16] s t) ∧
    ((byteAt m.bytes 7 ≠ 1 ∨ leAt m.bytes 4 2 ≠ s.reg Reg.FRM_DEVICE_DEVICE_ID) → Completes (.caps g m) s fun t =>
      t.grp g = grpOut ∧ t.reg (Reg.MPH_GRP_STATUS_FAIL_REASON g) = 1 ∧ t.reg Reg.GLB_IRQ_CAUSE_LINK = 1 ∧ t.posted 2 g 5)) ∧
  (∀ (s : State) (g : Fin 16), s.grp g = grpCaps → Completes (.capsTimeout g) s fun t =>
    t.grp g = grpOut ∧ t.reg (Reg.MPH_GRP_STATUS_FAIL_REASON g) = 2 ∧ t.reg Reg.GLB_IRQ_CAUSE_LINK = 1 ∧ t.posted 2 g 5) ∧
  (∀ (s : State) (g : Fin 16), s.grp g = grpLow → 3 ≤ s.reg Reg.GLB_STATUS_INSTAR → Completes (.groupRateRaise g) s fun t =>
    t.reg (Reg.MPH_GRP_STATUS_RATE g) = (s.group g).agreed % 8 ∧ (t.group g).held = [] ∧
    t.grp g = (if (s.group g).agreed = 0 ∨ s.skipsTaps g = true then grpVerify else grpEq) ∧ Trains t g (t.tsqPhase g) ∧
    Keeps [.link, .out] (groupFields g) s t) ∧
  (∀ (s : State) (g : Fin 16) (m : LinkMsg), Good s g m → s.grp g = grpVerify → s.native = true → byteAt m.bytes 0 = 5 →
    byteAt m.bytes 2 ∈ s.required g → leAt m.bytes 8 4 = 0 → byteAt m.bytes 12 = 1 → leAt m.bytes 4 4 = 2 ^ (s.verifyLog2 g - 20) →
    (∀ i ∈ s.required g, i ≠ byteAt m.bytes 2 → (i, true) ∈ (s.group g).results) →
    ((s.group g).rateChange = false → (s.group g).stepLater = false → Completes (.prbsResult g m) s fun t =>
      t.grp g = grpReady ∧ (∀ i ∈ s.required g, t.reg (Reg.MPH_LSTATE_TRAINED g i) = 1) ∧
      (s.l2Wanted g = false → ∀ i ∈ s.required g, t.reg (Reg.MPH_LSTATE_STATE g i) = laneL0) ∧ (s.l2Wanted g = true → t.inL2 g = true) ∧
      t.reg (Reg.MPH_GRP_STATUS_FAIL_REASON g) = 0 ∧
      ((s.group g).l2Exit = false → t.reg (Reg.MPH_GRP_STATUS_SPARE_FIT g) = 0)) ∧
    ((s.group g).rateChange = true → Completes (.prbsResult g m) s fun t => t.grp g = grpOff)) ∧
  ∀ (s : State) (g : Fin 16), s.grp g = grpVerify → s.native = false →
    ((s.group g).rateChange = false → Completes (.xk2VerifyDone g) s fun t =>
      t.grp g = grpReady ∧ (s.l2Wanted g = false → ∀ i ∈ s.required g, t.reg (Reg.MPH_LSTATE_STATE g i) = laneL0)) ∧
    ((s.group g).rateChange = true → Completes (.xk2VerifyDone g) s fun t => t.grp g = grpOff)

/-- R225, R231, R233, R242: one data lane that fails its training is taken over by a free spare and the group goes on; two or
more step the group down, or at rate 0 put it OUT with reason 4. A spare that reports nothing is unfit; four clean reports make
it fit. -/
def Sys2Proof.Machine.ClauseGroupFailures : Prop :=
  (∀ (s : State) (g : Fin 16) (i : Nat), ∀ x ∈ [(Instr.alignTimeout g, grpAlign, grpLow), (.eqTimeout g, grpEq, grpVerify)],
    s.grp g = x.2.1 → s.unheld g = [i] → i < 8 → 8 ∉ (s.group g).failed → s.spareTaken g = false →
    Completes x.1 s fun t =>
      t.flag (spareUsed g) = true ∧ t.reg (spareLane g) = i ∧ t.reg (Reg.MPH_LSTATE_STATE g i) = laneFailed ∧ t.posted 2 g 6 ∧
      t.grp g = x.2.2) ∧
  (∀ (s : State) (g : Fin 16), s.grp g = grpAlign → 2 ≤ ((s.unheld g).filter (· != 8)).length → Completes (.alignTimeout g) s fun t =>
    t.grp g = grpOut ∧ t.reg (Reg.MPH_GRP_STATUS_FAIL_REASON g) = 4 ∧ t.reg Reg.GLB_IRQ_CAUSE_LINK = 1) ∧
  (∀ (s : State) (g : Fin 16) (missing : List Nat), 1 ≤ s.reg (Reg.MPH_GRP_STATUS_RATE g) → s.reg (Reg.MPH_GRP_STATUS_RATE g) ≤ 4 →
    2 ≤ (missing.filter (· != 8)).length →
    ∀ i ∈ [Instr.eqTimeout g, .verifyTimeout g],
      (i = .eqTimeout g → s.grp g = grpEq ∧ missing = s.unheld g) →
      (i = .verifyTimeout g → s.grp g = grpVerify ∧ s.native = true ∧
        (s.group g).rateChange = false ∧ missing = (s.required g).filter fun k => !(s.group g).results.any fun r => r.1 == k) →
      Completes i s fun t =>
        t.grp g = grpOff ∧ t.reg (Reg.MPH_GRP_STATUS_STEPPED_DOWN g) = 1 ∧
        t.reg (Reg.MPH_GRP_STATUS_RATE g) = s.reg (Reg.MPH_GRP_STATUS_RATE g) - 1 ∧ t.reg Reg.GLB_IRQ_CAUSE_LINK = 1 ∧ t.posted 2 g 2) ∧
  (∀ (s : State) (g : Fin 16), s.native = true → s.grp g = grpReady → s.flag (spareUsed g) = false →
    Completes (.spareStale g) s fun t =>
      t.reg (Reg.MPH_GRP_STATUS_SPARE_FIT g) = 0 ∧ (t.group g).reports = [] ∧
      (s.reg (Reg.MPH_GRP_STATUS_SPARE_FIT g) = 1 → t.posted 2 g 3 ∧ t.reg Reg.GLB_IRQ_CAUSE_LINK = 1)) ∧
  ∀ (s : State) (g : Fin 16) (m : LinkMsg), Good s g m → s.grp g = grpReady → s.native = true → byteAt m.bytes 0 = 5 →
    byteAt m.bytes 2 = 8 → s.flag (spareUsed g) = false → s.inL2 g = false → 8 ∉ (s.group g).failed →
    leAt m.bytes 8 4 = 0 → byteAt m.bytes 12 = 1 → (s.group g).reports = [true, true, true] →
    Completes (.prbsResult g m) s fun t => t.reg (Reg.MPH_GRP_STATUS_SPARE_FIT g) = 1 ∧
      (s.reg (Reg.MPH_GRP_STATUS_SPARE_FIT g) = 0 → t.posted 2 g 4)

/-- R219, R223, R228: a TAP_REQ of a lane from 0 to 8 is judged, the taps it asks for are in force if they are allowed, TAP_ACK says
so, and the training sequences that follow report them. In XK2 mode it does nothing. -/
def Sys2Proof.Machine.ClauseTapExchange : Prop :=
  ∀ (s : State) (g : Fin 16) (m : LinkMsg), Good s g m → byteAt m.bytes 0 = 2 →
    (s.native = false → Completes (.tapReq g m) s fun t => Keeps [.link, .counters] [ovf 16] s t) ∧
    (s.native = true → byteAt m.bytes 2 ≤ 8 →
    let lane := byteAt m.bytes 2
    let open_ := s.grp g == grpEq || s.grp g == grpAlign || s.grp g == grpLow || (s.group g).l2Exit
    let r := tapAnswer open_ (s.taps g lane) lane (byteAt m.bytes 3) (byteAt m.bytes 4) (byteAt m.bytes 5)
    Completes (.tapReq g m) s fun t =>
      t.reg (Reg.MPH_TXEQ_PRE g lane) = unsignedOf 8 r.2.pre ∧ t.reg (Reg.MPH_TXEQ_MAIN g lane) = unsignedOf 8 r.2.main ∧
      t.reg (Reg.MPH_TXEQ_POST g lane) = unsignedOf 8 r.2.post ∧
      (s.drives g lane = true → .message g lane (s.disparity (lineKey g lane)) (linkMessage 0x03 (s.line (lineKey g lane)).seq
        (leBytes 1 lane ++ leBytes 1 (byteAt m.bytes 3) ++ leBytes 1 r.1 ++ leBytes 1 (unsignedOf 8 r.2.pre) ++
          leBytes 1 (unsignedOf 8 r.2.main) ++ leBytes 1 (unsignedOf 8 r.2.post))) ∈ t.out) ∧
      (s.drives g lane = true → r.2 ≠ s.taps g lane → s.grp g ≠ grpVerify → ∃ rd, .training g lane rd none
        (tsqBody lane g (s.trainRate g) (s.tsqPhase g) (t.taps g lane).bytes (s.verifyLog2 g)) ∈ t.out) ∧
      (r.1 = 0 → byteAt m.bytes 4 = 0 → t.reg (Reg.MPH_LSTATE_TRAINED g lane) = 1) ∧
      Keeps [.link, .out, .counters] [Reg.MPH_TXEQ_PRE g lane, Reg.MPH_TXEQ_MAIN g lane, Reg.MPH_TXEQ_POST g lane,
        Reg.MPH_LSTATE_TRAINED g lane, Reg.MPH_GRP_STATUS_STATE g, ovf 16] s t)

/-- R237, R238: an idle lane enters L1 and leaves it, or is retrained where it went down meanwhile; L2_REQ puts a READY group into L2
between stripes, and 0 takes it out by a fast retrain; an exit that takes too long starts from OFF. -/
def Sys2Proof.Machine.ClauseLanePower : Prop :=
  (∀ (s : State) (g : Fin 16) (i : Fin 8), s.grp g = grpReady → s.reg (Reg.MPH_LSTATE_STATE g i) = laneL0 → s.active? = none →
    Completes (.l1Entry g i) s fun t => t.reg (Reg.MPH_LSTATE_STATE g i) = laneL1 ∧
      t.out = (if s.drives g i then .sleep g i (s.disparity (lineKey g i)) false :: s.out else s.out) ∧
      Keeps [.link, .out] [Reg.MPH_LSTATE_STATE g i] s t) ∧
  (∀ (s : State) (g : Fin 16) (i : Fin 8), s.reg (Reg.MPH_LSTATE_STATE g i) = laneL1 →
    (i.val ∉ (s.group g).retrainLanes → Completes (.l1Exit g i) s fun t =>
      t.reg (Reg.MPH_LSTATE_STATE g i) = laneL0 ∧ (s.drives g i = true → ∃ rd, .training g i rd none
        (tsqBody i g (s.trainRate g) 0 (s.taps g i).bytes (s.verifyLog2 g)) ∈ t.out) ∧
      Keeps [.link, .out, .counters] [Reg.MPH_LSTATE_STATE g i, ovf 17] s t) ∧
    (i.val ∈ (s.group g).retrainLanes → Completes (.l1Exit g i) s fun t =>
      t.reg (Reg.MPH_LSTATE_STATE g i) = laneTrain ∧ t.grp g = grpAlign ∧ i.val ∉ (t.group g).retrainLanes ∧
      i.val ∉ (t.group g).held)) ∧
  (∀ (s : State) (g : Fin 16) (v : Word), s.linkUp = true → s.native = true → v.getLsbD 4 = false →
    bits v.toNat 0 3 = s.access.reg (Reg.MPH_GRP_CTL_MAX_RATE g) →
    (v.getLsbD 5 = true → s.stripeBusy = false → s.access.grp g = grpReady → Completes (.l2Request g v) s fun t =>
      t.inL2 g = true ∧ t.reg (Reg.MPH_GRP_CTL_L2_REQ g) = 1 ∧ (s.access.inL2 g = false → .clock g none ∈ t.out) ∧
      ∀ h < 16, h ≠ g.val → t.inL2 h = s.access.inL2 h) ∧
    (v.getLsbD 5 = false → s.access.flag (Reg.MPH_GRP_CTL_L2_REQ g) = true → s.access.inL2 g = true → s.access.grp g = grpReady →
      Completes (.l2Request g v) s fun t =>
        t.reg (Reg.MPH_GRP_CTL_L2_REQ g) = 0 ∧ (t.group g).l2Exit = true ∧
        t.grp g = (if ∃ i ∈ (s.access.group g).retrainLanes, i ∈ s.access.required g then grpAlign
          else if s.access.skipsTaps g then grpVerify else grpEq) ∧
        Trains t g (t.tsqPhase g))) ∧
  ∀ (s : State) (g : Fin 16),
    ((s.group g).l2Exit = true → Completes (.l2ExitTimeout g) s fun t => t.grp g = grpOff ∧ (t.group g).l2Exit = false ∧
      Keeps [.link, .counters] (ovf 17 :: Reg.CAL_STATUS_DUE :: groupFields g) s t) ∧
    ((s.group g).l2Exit = false → Ignored (.l2ExitTimeout g) s)

/-- R208, R234, R235, R405: RETRAIN restarts a group from OFF with its rate ceiling lifted, and is held with RATE_PENDING while a stripe is
bound; a held one runs once none is, keeps the group's deskew code and makes lane deskew fall due. A lowered MAX_RATE restarts a group that aligns. A changed device id restarts the groups whose
CAPS carried another. Where the change of rate meets VERIFY it waits for the window's end. -/
def Sys2Proof.Machine.ClauseGroupRetrains : Prop :=
  (∀ (s : State) (g : Fin 16) (v : Word), s.linkUp = true → s.native = true → v.getLsbD 4 = true → v.getLsbD 5 = false →
    s.access.flag (Reg.MPH_GRP_CTL_L2_REQ g) = false → bits v.toNat 0 3 = s.access.reg (Reg.MPH_GRP_CTL_MAX_RATE g) →
    (s.stripeBusy = true → (s.access.training g = true → (s.access.group g).agreed ≤ s.access.agreed g) →
      Completes (.groupRetrain g v) s fun t => t.reg (Reg.MPH_GRP_STATUS_RATE_PENDING g) = 1 ∧ t.grp g = s.access.grp g) ∧
    (s.stripeBusy = false → s.access.grp g ≠ grpVerify → Completes (.groupRetrain g v) s fun t =>
      t.grp g = grpOff ∧ t.reg (Reg.MPH_GRP_STATUS_STEPPED_DOWN g) = 0 ∧ t.reg (Reg.MPH_GRP_STATUS_RATE_PENDING g) = 0)) ∧
  (∀ (s : State) (g : Fin 16), s.flag (Reg.MPH_GRP_STATUS_RATE_PENDING g) = true → s.stripeBusy = false →
    s.grp g ≠ grpVerify → Completes (.deferredRetrain g) s fun t =>
      t.grp g = grpOff ∧ t.reg (Reg.MPH_GRP_STATUS_STEPPED_DOWN g) = 0 ∧ t.reg (Reg.MPH_GRP_STATUS_RATE_PENDING g) = 0 ∧
      bitOf (t.reg Reg.CAL_STATUS_DUE) 0 = true ∧
      Keeps [.link, .counters] (ovf 17 :: Reg.CAL_STATUS_DUE :: groupFields g) s t) ∧
  (∀ (s : State) (g : Fin 16), (s.flag (Reg.MPH_GRP_STATUS_RATE_PENDING g) = false ∨ s.stripeBusy = true) →
    Ignored (.deferredRetrain g) s) ∧
  (∀ (s : State) (g : Fin 16) (v : Word), s.linkUp = true → s.native = true → v.getLsbD 4 = false → v.getLsbD 5 = false →
    s.access.flag (Reg.MPH_GRP_CTL_L2_REQ g) = false → Completes (.groupMaxRateWrite g v) s fun t =>
      t.reg (Reg.MPH_GRP_CTL_MAX_RATE g) = bits v.toNat 0 3 ∧
      ((s.access.training g = false ∨ (s.access.group g).agreed ≤ t.agreed g) →
        Keeps [] [Reg.MPH_GRP_CTL_MAX_RATE g, Reg.MPH_GRP_CTL_L2_REQ g, Reg.MPH_GRP_CTL_EQ_TIMEOUT g, Reg.MPH_GRP_CTL_VERIFY_LOG2 g]
          s.access t) ∧
      (s.access.training g = true → t.agreed g < (s.access.group g).agreed →
        if s.access.grp g = grpVerify then t.grp g = grpVerify ∧ (t.group g).rateChange = true else t.grp g = grpOff)) ∧
  ∀ (s : State) (v : Word), s.linkUp = true → s.native = true → Completes (.deviceIdWrite v) s fun t =>
    t.reg Reg.FRM_DEVICE_DEVICE_ID = v.toNat % 2 ^ 11 ∧
    (s.stripeBusy = false → v.toNat % 2 ^ 11 ≠ s.access.reg Reg.FRM_DEVICE_DEVICE_ID → ∀ g < 16, ∀ f, (s.access.group g).far = some f →
      t.grp g = if f.device = v.toNat % 2 ^ 11 then s.access.grp g else grpOff) ∧
    (s.stripeBusy = true → v.toNat % 2 ^ 11 ≠ s.access.reg Reg.FRM_DEVICE_DEVICE_ID → ∀ g < 16, t.grp g = s.access.grp g ∧
      ∀ f, (s.access.group g).far = some f → f.device ≠ v.toNat % 2 ^ 11 → (t.group g).restartDue = true)

/-- R239 to R241, R244: GEN_EN puts an allowed lane in test, whose pattern begins, and is refused while a stripe is bound; CHK_EN starts
the checker from 0; INJ_ONE injects one error, which a locked checker behind the lane's loopback counts; the checker's lock comes, and
goes with more than 64 errors. The generator's seed and the errors of a lost lock are free, log 42. -/
def Sys2Proof.Machine.ClauseLaneTests : Prop :=
  (∀ (s : State) (g : Fin 16) (i : Fin 11) (v : Word), s.linkUp = true → s.native = true → v.getLsbD 4 = true → v.getLsbD 8 = false →
    s.access.flag (Reg.MPH_PRBS_CTL_GEN_EN g i) = false →
    (s.genAllowed i = true → Completes (.prbsGenEnable g i v) s fun t =>
      t.reg (Reg.MPH_LSTATE_STATE g i) = laneTest ∧ t.reg (Reg.MPH_PRBS_CTL_GEN_EN g i) = 1 ∧
      t.reg (Reg.MPH_PRBS_CTL_PATTERN g i) = bits v.toNat 0 2 ∧
      (t.drives g i = true → ∃ seed, .pattern g i (bits v.toNat 0 2) seed ∈ t.out)) ∧
    (s.genAllowed i = false → Completes (.prbsGenEnable g i v) s fun t => Keeps [] [] s.access t)) ∧
  (∀ (s : State) (g : Fin 16) (i : Fin 11) (v : Word), s.linkUp = true → s.native = true → v.getLsbD 4 = false →
    s.access.flag (Reg.MPH_PRBS_CTL_GEN_EN g i) = false →
    (v.getLsbD 5 = true → s.access.flag (Reg.MPH_PRBS_CTL_CHK_EN g i) = false → s.access.flag (Reg.MPH_PRBS_CTL_LOCK g i) = false →
      Completes (.prbsCheckerEnable g i v) s fun t => t.reg (Reg.MPH_PRBS_CTL_CHK_EN g i) = 1 ∧ t.reg (Reg.MPH_PRBS_BITS g i) = 0 ∧ t.reg (Reg.MPH_PRBS_ERR_ERRORS g i) = 0) ∧
    (v.getLsbD 5 = false → Completes (.prbsCheckerEnable g i v) s fun t =>
      t.reg (Reg.MPH_PRBS_CTL_CHK_EN g i) = 0 ∧ t.reg (Reg.MPH_PRBS_CTL_LOCK g i) = 0) ∧
    (v.getLsbD 8 = true → Completes (.injOne g i v) s fun t =>
      t.out = (if i.val ≤ 9 then .inject g i :: s.access.out else s.access.out) ∧
      (i.val ≤ 9 → v.getLsbD 5 = true → v.getLsbD 6 = true → s.access.flag (Reg.MPH_PRBS_CTL_CHK_EN g i) = true →
        s.access.flag (Reg.MPH_PRBS_CTL_LOCK g i) = true → t.reg (Reg.MPH_PRBS_ERR_ERRORS g i) =
          min (2 ^ 32 - 1) (s.access.reg (Reg.MPH_PRBS_ERR_ERRORS g i) + 1)))) ∧
  ∀ (s : State) (g : Fin 16) (i : Fin 11),
    (s.flag (Reg.MPH_PRBS_CTL_CHK_EN g i) = true → Completes (.prbsCheckerLock g i) s fun t =>
      t.reg (Reg.MPH_PRBS_CTL_LOCK g i) = 1 ∧ Keeps [] [Reg.MPH_PRBS_CTL_LOCK g i] s t) ∧
    Completes (.prbsCheckerLockLost g i) s fun t =>
      t.reg (Reg.MPH_PRBS_CTL_LOCK g i) = 0 ∧ Keeps [.draw] [Reg.MPH_PRBS_CTL_LOCK g i, Reg.MPH_PRBS_ERR_ERRORS g i] s t ∧
      (s.flag (Reg.MPH_PRBS_CTL_LOCK g i) = false → t.reg (Reg.MPH_PRBS_ERR_ERRORS g i) = s.reg (Reg.MPH_PRBS_ERR_ERRORS g i)) ∧
      (s.flag (Reg.MPH_PRBS_CTL_LOCK g i) = true →
        min (2 ^ 32 - 1) (s.reg (Reg.MPH_PRBS_ERR_ERRORS g i) + 65) ≤ t.reg (Reg.MPH_PRBS_ERR_ERRORS g i))

/-- R208, R209, R213, R220: a return-lane message that fails its CRC-16 or its pad has no effect but the loss it counts, whatever it is;
none is heard by a group that is OFF. A good ALIVE or reserved message only counts as good. -/
def Sys2Proof.Machine.ClauseReturnMessages : Prop :=
  (∀ (s : State) (g : Fin 16) (m : LinkMsg), s.hears g = true → linkCrcGood m.bytes m.padOk = false →
    ∀ i ∈ [Instr.returnLaneLoss g m, .statusNak g m, .statusAlive g m, .statusReady g m, .statusSpareReady g m, .statusLaneDown g m,
        .statusHot g m, .tempMessage g m, .reservedLinkMessage g m, .caps g m, .tapReq g m, .prbsResult g m],
      Completes i s fun t => (t.group g).loss = true ∧ (t.group g).rxSeq = (s.group g).rxSeq.map (fun q => (q + 1) % 256) ∧
        t.reg Reg.FRM_RET_ERR_LOSSES = min (2 ^ Reg.FRM_RET_ERR_LOSSES.width - 1) (s.reg Reg.FRM_RET_ERR_LOSSES + 1) ∧
        t.reg Reg.FRM_RET_ERR_VALID ≠ 0 ∧ (s.reg Reg.FRM_RET_ERR_VALID = 0 → t.reg Reg.FRM_RET_ERR_GROUP = g) ∧
        Keeps [.link, .counters] [Reg.FRM_RET_ERR_LOSSES, Reg.FRM_RET_ERR_VALID, Reg.FRM_RET_ERR_GROUP, ovf 16] s t) ∧
  (∀ (s : State) (g : Fin 16) (m : LinkMsg), s.hears g = false →
    ∀ i ∈ [Instr.returnLaneLoss g m, .statusNak g m, .statusAlive g m, .statusReady g m, .statusSpareReady g m, .statusLaneDown g m,
        .statusHot g m, .tempMessage g m, .reservedLinkMessage g m, .caps g m, .tapReq g m, .prbsResult g m], Ignored i s) ∧
  ∀ (s : State) (g : Fin 16) (m : LinkMsg), Good s g m → ∀ i ∈ [Instr.statusAlive g m, .reservedLinkMessage g m],
    Completes i s fun t => (t.group g).rxSeq = some ((byteAt m.bytes 1 + 1) % 256) ∧ (t.group g).unconfirmed = [] ∧
      (∀ h, h ≠ g.val → t.group h = s.group h) ∧ Keeps [.link, .counters] [ovf 16] s t

/-- R203, R215, R218: READY accepts an announced run, SPARE_READY the switch-over of its lane; HOT and a TEMP that is overdue count a
group in service as at the blanker's limit; a TEMP replaces what the group said before. -/
def Sys2Proof.Machine.ClauseGroupReports : Prop :=
  (∀ (s : State) (g : Fin 16) (m : LinkMsg) (p : Stripe) (r : Run), Good s g m → byteAt m.bytes 0 = 6 → byteAt m.bytes 2 = 2 →
    s.active? = some p → p.run = some r → r.announced = true → r.ended = false → Completes (.statusReady g m) s fun t =>
      (t.group g).ready = true ∧ Keeps [.link, .counters] [ovf 16] s t) ∧
  (∀ (s : State) (g : Fin 16) (m : LinkMsg) (w : Switch), Good s g m → byteAt m.bytes 0 = 6 → byteAt m.bytes 2 = 3 →
    (s.group g).switch = some w → w.lane = byteAt m.bytes 3 → Completes (.statusSpareReady g m) s fun t =>
      (t.group g).switch = some { w with ready := true } ∧ Keeps [.link, .counters] [ovf 16] s t) ∧
  (∀ (s : State) (g : Fin 16) (m : LinkMsg), s.active? = none → s.inService g = true →
    s.reg Reg.CAL_THERM_BLK_LEVEL ≤ 3 →
    (Good s g m → byteAt m.bytes 0 = 6 → byteAt m.bytes 2 = 5 → Completes (.statusHot g m) s fun t =>
      (t.group g).hot = true ∧ 2 ≤ t.reg Reg.CAL_THERM_BLK_LEVEL ∧ t.cal.blkHot = (s.cal.blkHot || s.reg Reg.CAL_THERM_BLK_LEVEL < 2)) ∧
    Completes (.tempTimeout g) s fun t =>
      (t.group g).stale = true ∧ t.reg Reg.FRM_TEMP_STALE = 1 ∧ 2 ≤ t.reg Reg.CAL_THERM_BLK_LEVEL) ∧
  (∀ (s : State) (g : Fin 16) (m : LinkMsg), s.active? = none → Good s g m → byteAt m.bytes 0 = 4 →
    Completes (.tempMessage g m) s fun t =>
      (t.group g).temp = some (tempReadings m) ∧ (t.group g).hot = false ∧ (t.group g).stale = false) ∧
  ∀ (s : State) (g : Fin 16), s.inService g = false → Ignored (.tempTimeout g) s

/-- R211, R212, R214, R232, R238: a NAK in time gives its frame back on that lane and is counted; one that names no stripe's frame, or a
lane of an older frame that went without dose, is bogus; NAK_LIMIT of them, a faulty transmitter or a LANE_DOWN ask for a switch-over at the next tick; a sleeping lane is only
logged; the clock's loss restarts a READY group, and puts one in training OUT with reason 3. -/
def Sys2Proof.Machine.ClauseRefusedFramesAndLanes : Prop :=
  (∀ (s : State) (g : Fin 16) (m : LinkMsg), Good s g m → byteAt m.bytes 0 = 6 → byteAt m.bytes 2 = 1 →
    (s.active? = none → Completes (.statusNak g m) s fun t =>
      t.reg Reg.FRM_NAK_BOGUS = min (2 ^ Reg.FRM_NAK_BOGUS.width - 1) (s.reg Reg.FRM_NAK_BOGUS + 1) ∧
      (byteAt m.bytes 3, s.now) ∈ t.link.naks ∧ Keeps [.link, .counters] [Reg.FRM_NAK_BOGUS, ovf 16] s t) ∧
    (∀ p r f, s.active? = some p → s.stripe? p.par.id = some p → p.run = some r → r.launched (leAt m.bytes 4 4) = true →
      byteAt m.bytes 3 < 128 → (p.frames.find? fun f => f.tick == leAt m.bytes 4 4) = some f → byteAt m.bytes 3 ∉ f.lost →
      f.accounted = true → r.notPast (leAt m.bytes 4 4 + p.bv.nakWindow) s.now = true → Completes (.statusNak g m) s fun t =>
        t.reg Reg.FRM_NAK_COUNT = min (2 ^ Reg.FRM_NAK_COUNT.width - 1) (s.reg Reg.FRM_NAK_COUNT + 1) ∧
        t.reg Reg.FRM_NAK_BOGUS = s.reg Reg.FRM_NAK_BOGUS ∧
        ∃ q, t.stripe? p.par.id = some q ∧ q.lostFrames = p.lostFrames + 1) ∧
    (∀ p r, s.active? = some p → p.run = some r → (∀ f ∈ p.frames, f.tick ≠ leAt m.bytes 4 4) →
      (∃ e ∈ p.older, e.1 = leAt m.bytes 4 4 ∧ byteAt m.bytes 3 ∈ e.2) → Completes (.statusNak g m) s fun t =>
        t.reg Reg.FRM_NAK_BOGUS = min (2 ^ Reg.FRM_NAK_BOGUS.width - 1) (s.reg Reg.FRM_NAK_BOGUS + 1) ∧ t.stripes = s.stripes)) ∧
  (∀ (s : State) (lane : Fin 128), s.grp (lane.val / 8) = grpReady → lane.val ∉ (s.group (lane.val / 8)).switchDue →
    let limit := s.reg Reg.FRM_SPARE_CTL_NAK_LIMIT
    (0 < limit → limit ≤ (s.link.naks.filter fun e => e.1 == lane.val && decide (s.now ≤ e.2 + millisecond)).length →
      Completes (.nakLimitReached lane) s fun t =>
        (t.group (lane.val / 8)).switchDue = (s.group (lane.val / 8)).switchDue ++ [lane.val] ∧
        t.link.naks = s.link.naks.filter (fun e => e.1 != lane.val) ∧ Keeps [.link] [] s t) ∧
    (limit = 0 → Ignored (.nakLimitReached lane) s)) ∧
  (∀ (s : State) (g : Fin 16), s.grp g = grpReady → s.flag (spareUsed g) = false →
    (∀ i : Fin 8, 8 * g.val + i ∉ (s.group g).switchDue → Completes (.transmitterFault g ⟨i, by omega⟩) s fun t =>
      (t.group g).switchDue = (s.group g).switchDue ++ [8 * g.val + i] ∧ Keeps [.link] [] s t) ∧
    Ignored (.transmitterFault g 8) s) ∧
  ∀ (s : State) (g : Fin 16) (m : LinkMsg), Good s g m → byteAt m.bytes 0 = 6 → byteAt m.bytes 2 = 4 →
    let lane := byteAt m.bytes 3
    let st := s.reg (Reg.MPH_LSTATE_STATE (lane / 8) (s.laneSlot lane))
    (lane < 128 → s.grp (lane / 8) = grpReady →
      (st ≠ laneL1 → st ≠ laneL2 → lane ∉ (s.group (lane / 8)).switchDue → Completes (.statusLaneDown g m) s fun t =>
        (t.group (lane / 8)).switchDue = (s.group (lane / 8)).switchDue ++ [lane] ∧ Keeps [.link, .counters] [ovf 16] s t) ∧
      (st = laneL1 ∨ st = laneL2 → Completes (.statusLaneDown g m) s fun t =>
        s.laneSlot lane ∈ (t.group (lane / 8)).retrainLanes ∧ t.posted 2 (lane / 8) 6 ∧
        Keeps (.link :: eventPieces) (ovf 16 :: eventFields) s t)) ∧
    (lane = 0xFF → s.active? = none → s.grp g = grpReady → Completes (.statusLaneDown g m) s fun t => t.grp g = grpOff ∧
      Keeps [.link, .counters] ([ovf 16, ovf 17, Reg.CAL_STATUS_DUE] ++ groupFields g) s t) ∧
    (lane = 0xFF → (s.grp g = grpAlign ∨ s.grp g = grpEq ∨ s.grp g = grpVerify) → Completes (.statusLaneDown g m) s fun t =>
      t.grp g = grpOut ∧ t.reg (Reg.MPH_GRP_STATUS_FAIL_REASON g) = 3)

/-- R213 to R216, R382: at the tick instant the spare takes the lane, its frames wait for SPARE_READY and Looper's outputs hold; with no
spare, or none ready in time, the stripe aborts with ST_LINK_NO_SPARE; silence of a return lane during a run aborts it. -/
def Sys2Proof.Machine.ClauseSwitchOver : Prop :=
  (∀ (s : State) (g : Fin 16) (lane : Nat) (rest : List Nat) (p : Stripe) (r : Run) (at_ : Nat), (s.group g).switchDue = lane :: rest →
    Writes s p r → p.abortDue = false → r.instantOf r.next = some at_ →
    ((s.group g).switch = none → s.spareServes g = true → Completes (.spareSwitch g) s fun t =>
      t.reg (spareUsed g) = 1 ∧ t.reg (spareLane g) = lane % 8 ∧ t.reg (Reg.MPH_LSTATE_STATE g 8) = laneL0 ∧
      t.reg (Reg.MPH_LSTATE_STATE g (lane % 8)) = laneFailed ∧ (t.group g).switch = some ⟨lane, r.next - 1, at_, false, 0⟩ ∧
      (t.group g).switchDue = rest ∧ t.looper = { s.looper with holdGap := true } ∧ t.posted 2 g 1 ∧ t.stripes = s.stripes) ∧
    (((s.group g).switch.isSome = true ∨ s.spareServes g = false) → Completes (.spareSwitch g) s fun t =>
      Aborts t p.par.id .linkNoSpare ∧ (t.group g).stepDue = true ∧ (t.group g).switchDue = [])) ∧
  (∀ (s : State) (g : Fin 16) (w : Switch) (p : Stripe) (r : Run), (s.group g).switch = some w → w.ready = false → Writes s p r →
    Completes (.spareReadyTimeout g) s fun t => Aborts t p.par.id .linkNoSpare ∧ (t.group g).switch = none ∧ (t.group g).stepDue = true) ∧
  (∀ (s : State) (g : Fin 16), (∀ w ∈ (s.group g).switch, w.ready = true) → Ignored (.spareReadyTimeout g) s) ∧
  (∀ (s : State) (g : Fin 16) (p : Stripe) (r : Run), Writes s p r → Completes (.returnLaneSilence g) s fun t =>
    Aborts t p.par.id .stripeAborted ∧ (t.group g).unconfirmed = []) ∧
  ∀ (s : State) (g : Fin 16), s.active? = none → Ignored (.returnLaneSilence g) s ∧ Ignored (.spareSwitch g) s

/-- The statements ClauseGroupBringUp and ClauseTapExchange together. The lane byte of a LINK entry follows log 14. -/
def Obligations.GroupBringUpAndTaps : Prop := ClauseGroupBringUp ∧ ClauseTapExchange

/-- The statements ClauseLanePower and ClauseLaneTests together. A command whose condition does not hold changes nothing: the
model's choice, log 5. When a group is between stripes follows log 13, and a generator that is refused log 32. -/
def Obligations.LanePowerAndTests : Prop := ClauseLanePower ∧ ClauseLaneTests

/-- The statements ClauseReturnMessages and ClauseGroupReports together. A command whose condition does not hold changes
nothing: the model's choice, log 5. The reading of a group that reports HOT or nothing follows log 30. -/
def Obligations.ReturnMessagesAndReports : Prop := ClauseReturnMessages ∧ ClauseGroupReports

/-- The statements ClauseRefusedFramesAndLanes and ClauseSwitchOver together. A command whose condition does not hold changes
nothing: the model's choice, log 5. LANE_DOWN of a sleeping lane follows log 17, and the tick of a switch-over log 29. -/
def Obligations.RefusedFramesAndSwitchOver : Prop := ClauseRefusedFramesAndLanes ∧ ClauseSwitchOver

/-- The statements ClauseGroupRetrains and ClauseGroupFailures together. A command whose condition does not hold changes
nothing: the model's choice, log 5. When a group is between stripes follows log 13. -/
def Obligations.GroupRetrainsAndFailures : Prop := ClauseGroupRetrains ∧ ClauseGroupFailures

/-! ### Stage, ticks, Skipper and lock groups (R203, R205, R245 to R274, R421) -/

/-- The last stripe with an id now meets p. -/
def Sys2Proof.Machine.Now (t : State) (id : Nat) (p : Stripe → Prop) : Prop := ∃ q, t.stripe? id = some q ∧ p q

/-- R246 to R248, R266: the sixteenth good word in a row locks a lane; a good word of a locked lane is its newest position and clears
the misses; after three misses in a row a further one only counts; sixteen misses lose the lock, and four in a run are a fault that
aborts the stripe, at EDEC. A Y sample sets both DACs. -/
def Sys2Proof.Machine.ClauseStageLanes : Prop :=
  (∀ (s : State) (l : Fin 3) (w : BitVec 80) (tau : Nat) (k : Lockstep), s.portOn = true → s.locked l = false → sampleGood w = true →
    (s.stageLane l).streak = 15 → wordSeq w = ((s.stageLane l).lastSeq + 1) % 256 → (l.val = 1 → s.looper.sampleX = none) →
    Completes (.stageSample l w tau k) s fun t =>
      t.locked l = true ∧ (t.stageLane l).hist.head? = some (wordPos w) ∧ (∀ m < 3, m ≠ l.val → t.locked m = s.locked m) ∧
      Keeps [.stage, .looper, .counters] [Reg.STG_STATUS_LOCK, Reg.STG_MISSED_SAMPLES, ovf 4] s t) ∧
  (∀ (s : State) (w : BitVec 80) (tau : Nat) (k : Lockstep), s.portOn = true →
    (s.locked 2 = true → (s.stageLane 2).good w = true → Completes (.stageSample 2 w tau k) s fun t =>
      (t.stageLane 2).hist = (wordPos w :: (s.stageLane 2).hist).take 9 ∧ (t.stageLane 2).missed = 0 ∧
      (t.stageLane 2).lastSeq = wordSeq w ∧ Keeps [.stage, .counters] [ovf 4] s t) ∧
    (s.locked 1 = true → (s.stageLane 1).good w = true → s.active? = none → Completes (.stageSample 1 w tau k) s fun t =>
      (t.stageLane 1).hist = (wordPos w :: (s.stageLane 1).hist).take 9 ∧ (t.stageLane 1).tau = tau - s.reg Reg.STG_LAT ∧
      t.out = .dac s.looper.codeX s.looper.codeY :: s.out)) ∧
  (∀ (s : State) (l : Fin 3) (w : BitVec 80) (tau : Nat) (k : Lockstep), s.portOn = true → s.locked l = true →
    (s.stageLane l).good w = false → 3 ≤ (s.stageLane l).missed → (l.val = 1 → s.looper.sampleX = none) →
    Completes (.stageSample l w tau k) s fun t =>
      (t.stageLane l).missed = (s.stageLane l).missed + 1 ∧ (t.stageLane l).hist = (s.stageLane l).hist ∧
      Keeps [.stage, .looper, .counters, .draw] [Reg.STG_MISSED_SAMPLES, ovf 4] s t) ∧
  (∀ (s : State) (l : Fin 3), s.portOn = true → s.locked l = true → 16 ≤ (s.stageLane l).missed →
    Completes (.stageLaneLockLost l) s fun t => t.locked l = false ∧ (t.stageLane l).hist = [] ∧
      Keeps [.stage] [Reg.STG_STATUS_LOCK] s t) ∧
  (∀ (s : State) (l : Fin 3) (p : Stripe) (r : Run), s.portOn = true → 4 ≤ (s.stageLane l).missed → Writes s p r →
    Completes (.stagePortFault l) s fun t => Aborts t p.par.id .stripeAborted ∧ t.posted 5 l 1 ∧
      t.stage.hardStop = true) ∧
  ∀ (s : State) (l : Fin 3), ((s.stageLane l).missed < 4 ∨ s.inRun = false) → Ignored (.stagePortFault l) s

/-- R249, R255, R260: a set-point of the profile in force leaves as a word with the next SEQ and is the set-point in force; one that the
profile does not allow does nothing. R250, R257, R258: below the critical reserve, or with no plan, a writing stripe pauses; a lower
plan is followed at once; nothing is planned with SP_EN clear. -/
def Sys2Proof.Machine.ClauseSetPointsAndSkipper : Prop :=
  (∀ (s : State) (pos vel acc : Int), s.native = true → s.flag Reg.STG_CTL_SP_EN = true → s.role ≠ 2 →
    (s.setPointAllowed pos vel acc = true → Completes (.setPointWord pos vel acc) s fun t =>
      t.stage = { s.stage with spPos := pos, spVel := vel, spAcc := acc, spAt := s.now, spSeq := (s.stage.spSeq + 1) % 256,
                               spActive := s.driving } ∧
      t.out = .setPoint (setPointBits s.stage.spSeq pos vel acc s.driving s.stage.emergency (s.holdFlag vel acc)) :: s.out ∧
      Keeps [.stage, .out, .counters] [ovf 4] s t) ∧
    (s.setPointAllowed pos vel acc = false → Ignored (.setPointWord pos vel acc) s)) ∧
  (∀ (s : State) (p : Stripe) (r : Run), s.native = true → s.flag Reg.STG_CTL_SP_EN = true → Writes s p r →
    let c := s.rateCap p r.caps
    let w := s.planReserves p r
    ((w.1 < s.criticalReserve p w.1 w.2 ∨ (s.leastCache p r = none ∧ s.planStep p r c.1 w.2 = none)) → Completes .skipperEvaluate s fun t =>
      Now t p.par.id (fun q => q.state = .pause) ∧ t.reg Reg.SKP_STATUS_CAUSE = 7 ∧ t.posted 9 0xFF 1) ∧
    (∀ n, s.criticalReserve p w.1 w.2 ≤ w.1 → s.stage.emergency = false → c.1 * (n : Nat) / 64 < s.stage.fTarget →
      s.leastCache p r = none → s.planStep p r c.1 w.2 = some n → Completes .skipperEvaluate s fun t =>
        t.stage.fTarget = c.1 * (n : Nat) / 64 ∧ t.posted 8 0xFF (if c.1 * (n : Nat) / 64 < c.1 then 4 else c.2) ∧
        Now t p.par.id (fun q => q.state = .write ∧ q.fCap = c.1))) ∧
  ∀ s : State, (s.active? = none ∨ s.flag Reg.STG_CTL_SP_EN = false) → Ignored .skipperEvaluate s

/-- R49, R203, R263, R266, R381, R421: with its conditions met the next stripe starts its transit, or in XK2 mode is armed at
once; with no working slice for a sector it completes with ST_SLICE_FAILED and its package stays; none starts while HBM is swept.
At rest at the start position, and nowhere else, the run is announced and the run-up begins; groups that do not answer in time abort it. A command whose condition does not hold
changes nothing: the model's choice, log 5. The conditions of a start follow log 29, and which stripe is next
log 37. -/
def Obligations.StripeStarts : Prop :=
  (∀ (s : State) (p : Stripe) (r : Run), s.nextToStart = some p → s.stripe? p.par.id = some p → p.run = some r → p.state = .bound →
    s.stageFree = true → s.operatorReady = true → s.clocked = true → s.packageReady p = true → s.flag Reg.MEM_STATUS_SWEEPING = false →
    (s.sectorsWork = true → s.startConditions p r = true → p.bv.role = 0 → Completes .stripeReadyToStart s fun t =>
      (p.xk2 = false → Now t p.par.id fun q => q.state = .transit ∧ q.par = p.par) ∧
      (p.xk2 = true → t.reg Reg.XK2_STATUS_ARMED = 1 ∧ Now t p.par.id fun q => q.state = .runup ∧ q.par = p.par)) ∧
    (s.sectorsWork = false → s.cprOf p.owner.ring ≤ 4 → Completes .stripeReadyToStart s fun t =>
      t.stripe? p.par.id = none ∧ t.packages = s.packages ∧
      t.heldCpl (s.cprOf p.owner.ring) = s.heldCpl (s.cprOf p.owner.ring) ++ [Completion.mk' p.owner .sliceFailed 0 0 0])) ∧
  (∀ s : State, (s.operatorReady = false ∨ s.stageFree = false ∨ s.nextToStart = none ∨ s.flag Reg.MEM_STATUS_SWEEPING = true) → Ignored .stripeReadyToStart s) ∧
  (∀ (s : State) (pos : Int) (p : Stripe) (r : Run), s.stage.yMove = none → s.softBusy = false → s.active? = some p →
    s.stripe? p.par.id = some p → p.run = some r → p.xk2 = false →
    (p.state = .transit → p.bv.role = 0 → pos = p.startPos → Completes (.stageAtRest pos) s fun t =>
      Now t p.par.id (fun q => q.state = .runup ∧ ∃ k, q.run = some k ∧ k.announced = true) ∧
      ∀ l ∈ s.activeLanes, s.drives (l / 8) (s.laneSlot l) = true → ∃ rd b, .frame l (s.laneSlot l) rd b ∈ t.out) ∧
    (p.state = .transit → p.bv.role = 0 → pos ≠ p.startPos → Ignored (.stageAtRest pos) s) ∧
    (p.state = .runout → r.complete = false → Completes (.stageAtRest pos) s fun t =>
      Now t p.par.id fun q => q.state = .runout ∧ q.run = some { r with rest := true }) ∧
    (p.state = .aborting → p.abortDue = false → Completes (.stageAtRest pos) s fun t =>
      Now t p.par.id fun q => q.state = .held ∧ q.resumeAt = p.resumeAt ∧ q.run = none) ∧
    (p.state = .runup → r.announced = true → r.ticked = false → s.allReady p = false → Completes .readyTimeout s fun t =>
      Now t p.par.id fun q => q.state = .aborting ∧ q.cause = some .stripeAborted)) ∧
  ∀ (s : State) (pos : Int) (m : YMove) (o : Origin), s.stage.yMove = some m → m.origin = some o → m.stopping = none →
    m.reversing = false → m.stopCmd = [] → s.softBusy = false → s.cprOf o.ring ≤ 4 → Completes (.stageAtRest pos) s fun t =>
      t.stage.yMove = none ∧ t.heldCpl (s.cprOf o.ring) = s.heldCpl (s.cprOf o.ring) ++ [Completion.mk' o .ok m.overshoot 0 0]

/-- R38, R178, R186, R205, R206, R256: at its instant the frame due next leaves on every active lane and its tick is the last ticked;
after the run's last tick END leaves and RUNOUT begins. A sweep commits the oldest lanes as lost, and one that is not finished 48 ticks
after its launch aborts, in RUNOUT where something remains; at the abort tick the run ends where it can be resumed; a complete run at
rest, its sweeps finished, starts the next one under the caps as they stand, or completes its stripe. A command
whose condition does not hold changes nothing: the model's choice, log 5. The order of what one launch does follows log 29. -/
def Obligations.FrameLaunches : Prop :=
  (∀ (s : State) (p : Stripe) (r : Run) (at_ : Nat) (nr : List (Fin 128)) (slip fw : Nat) (bw : List (List (Nat × Nat))), Writes s p r →
    p.abortDue = false → r.announced = true →
    r.instantOf r.next = some at_ → r.first < r.next →
    (r.next ≤ r.last → Completes (.frameLaunch nr slip fw bw) s fun t =>
      t.lastTick = some (r.next - 1) ∧
      Now t p.par.id (fun q => q.state = .write ∧ (∃ k, q.run = some k ∧ k.next = r.next + 1) ∧
        ∃ f l, q.frames = f :: l ∧ f.tick = r.next) ∧
      ∀ l ∈ s.activeLanes, (s.group (l / 8)).switch = none → s.drives (l / 8) (s.laneSlot l) = true →
        ∃ rd b, .frame l (s.laneSlot l) rd b ∈ t.out) ∧
    (r.next = r.last + 1 → Completes (.frameLaunch nr slip fw bw) s fun t =>
      t.lastTick = some r.last ∧ Now t p.par.id fun q => q.state = .runout ∧ ∃ k, q.run = some k ∧ k.ended = true)) ∧
  (∀ (s : State) (nr : List (Fin 128)) (slip fw : Nat) (bw : List (List (Nat × Nat))), s.active? = none →
    Ignored (.frameLaunch nr slip fw bw) s ∧ Ignored .lostVisitSweep s ∧ Ignored .abortTick s ∧ Ignored .runComplete s) ∧
  (∀ (s : State) (p : Stripe) (r : Run) (n : Nat) (lanes : List Nat) (rest : List (Nat × List Nat)), Writes s p r →
    p.sweeps = (n, lanes) :: rest →
    Completes .lostVisitSweep s (fun t => Now t p.par.id fun q =>
      q = (p.sweepLanes r (s.ledgerRoom p) n lanes).withSweeps rest ∧ q.sweeps = rest ∧ q.state = .write) ∧
    (n + 48 ≤ r.next → Completes .tickOverrun s fun t => Aborts t p.par.id .tickOverrun) ∧
    (r.complete = false → r.next < n + 48 → Ignored .tickOverrun s)) ∧
  (∀ (s : State) (p : Stripe) (r k : Run) (n : Nat) (lanes : List Nat) (rest : List (Nat × List Nat)), s.active? = some p →
    s.stripe? p.par.id = some p → p.run = some r → p.state = .runout → r.complete = true → p.sweeps = (n, lanes) :: rest →
    n + 48 ≤ r.next + p.bv.nakWindow → p.nextRun = some k → Completes .tickOverrun s fun t =>
      Now t p.par.id fun q => q.state = .aborting ∧ q.cause = some .tickOverrun) ∧
  (∀ (s : State) (p : Stripe) (r : Run) (at_ : Nat) (c : Status), s.active? = some p → s.stripe? p.par.id = some p → p.run = some r →
    p.state = .aborting → p.abortDue = true → p.abortAt = none → p.cause = some c → p.xk2 = false → r.instantOf r.next = some at_ →
    r.first < r.next → s.softBusy = false → Completes .abortTick s fun t => t.lastTick = some (r.next - 1) ∧
      Now t p.par.id fun q => q.state = .aborting ∧ q.abortDue = false ∧ q.cause = some c ∧
        q.resumeAt = some (max r.next r.accounted)) ∧
  ∀ (s : State) (p : Stripe) (r : Run), s.active? = some p → s.stripe? p.par.id = some p → p.run = some r → p.state = .runout →
    p.xk2 = false → s.softBusy = false →
    (r.rest = false → Completes .runComplete s fun t => Now t p.par.id fun q => q.state = .runout ∧ q.run = some { r with complete := true }) ∧
    (r.rest = true → p.sweeps ≠ [] → Completes .runComplete s fun t =>
      Now t p.par.id fun q => q.state = .runout ∧ q.run = some { r with complete := true }) ∧
    (r.rest = true → p.sweeps = [] → ∀ k, p.nextRun = some k → Completes .runComplete s fun t =>
      Now t p.par.id fun q => q.state = .transit ∧ q.run = some { k with caps := s.capsNow }) ∧
    (r.rest = true → p.sweeps = [] → p.nextRun = none → Completes .runComplete s fun t => t.stripe? p.par.id = none ∧ t.package? p.par.id = none)

/-- R252, R272, R273, R408, R421: in XK2 mode an edge of TICK_IN is the next tick's instant; one within T_min of the last is an overrun,
counted and shown; one with no stripe armed sets EARLY, but none after the last tick of a run until the next stripe is armed; native mode
has none, and a BEAM_CHECK ignores them. -/
def Sys2Proof.Machine.ClauseTickInEdges : Prop :=
  (∀ (s : State) (x : Nat) (p : Stripe) (r : Run), s.native = false → s.checking = false → s.active? = some p → s.stripe? p.par.id = some p →
    p.run = some r → r.ended = false → r.nextFixed ≤ r.last + 1 →
    ((∀ e ∈ s.stage.lastEdge, e + xk2MinPeriod ≤ x) → Completes (.tickInEdge x) s fun t =>
      t.stage.lastEdge = some x ∧ Now t p.par.id (fun q => ∃ k, q.run = some k ∧ k.fixed.head? = some (r.nextFixed, x)) ∧
      Keeps [.stage, .stripes] [] s t) ∧
    (∀ e, s.stage.lastEdge = some e → x < e + xk2MinPeriod → Completes (.tickInEdge x) s fun t =>
      t.reg Reg.XK2_STATUS_OVERRUN = 1 ∧ t.reg Reg.XK2_IRQ_OVERRUN = 1 ∧
      t.reg Reg.STG_XK2_OVERRUN = min (2 ^ Reg.STG_XK2_OVERRUN.width - 1) (s.reg Reg.STG_XK2_OVERRUN + 1) ∧ t.stage = s.stage)) ∧
  (∀ (s : State) (x : Nat), s.native = false → s.checking = false → s.active? = none →
    (s.stage.pastEnd = false → Completes (.tickInEdge x) s fun t =>
      t.reg Reg.XK2_STATUS_EARLY = 1 ∧ Keeps [] [Reg.XK2_STATUS_EARLY] s t) ∧
    (s.stage.pastEnd = true → Ignored (.tickInEdge x) s)) ∧
  ∀ (s : State) (x : Nat), s.native = true ∨ s.checking = true → Ignored (.tickInEdge x) s

/-- R261 to R264: a message that fails its CRC is counted, and a follower passes it on; a follower forwards a TICK message and takes its
instant, and aborts at once when one is missing; the master keeps the group's reserves from its own TICK message, counts them as
zero when it does not return, and aborts after two. A RUN message is answered by a follower, and repeated by a master while a
member is not ready. -/
def Sys2Proof.Machine.ClauseLockGroups : Prop :=
  (∀ (s : State) (b : List Byte) (x : Nat), s.tsyncOn = true → ticksyncGood b = false →
    ∀ i ∈ [Instr.ticksyncTickMessage b x, .ticksyncRunMessage b x], Completes i s fun t =>
      t.out = (if s.groupRole = 2 then .ticksync (s.disparity lineTicksync) b :: s.out else s.out) ∧
      Keeps [.link, .out, .counters] [ovf 4] s t) ∧
  (∀ (s : State) (b : List Byte) (x : Nat), s.tsyncOn = false → Ignored (.ticksyncTickMessage b x) s ∧ Ignored (.ticksyncRunMessage b x) s) ∧
  (∀ (s : State) (b : List Byte) (x : Nat), s.tsyncOn = true → ticksyncGood b = true → byteAt b 0 = 1 →
    (s.groupRole = 1 → bitOf (byteAt b 1) 1 = false → Completes (.ticksyncTickMessage b x) s fun t =>
      t.stage = { s.stage with tsWin := some (leAt b 8 2), tsRas := some (leAt b 10 3), tsCap := some (leAt b 13 2), tsMissing := 0,
                               tsReturned := some (leAt b 2 4) } ∧
      Keeps [.stage, .counters] [Reg.STG_STATUS_TSYNC_LOCK, ovf 4] s t) ∧
    (∀ p r, s.active? = some p → s.stripe? p.par.id = some p → p.run = some r → p.bv.role = 2 → p.ticking = true →
      (leAt b 2 4 + 1) % 2 ^ 32 = r.nextFixed → bitOf (byteAt b 1) 0 = false → Completes (.ticksyncTickMessage b x) s fun t =>
        Now t p.par.id (fun q => ∃ k, q.run = some k ∧ k.fixed.head? =
          some (r.nextFixed, x + 1000 * leAt b 6 2 - s.reg Reg.STG_TSYNC_HOP)) ∧
        ∃ m, t.out = .ticksync (s.disparity lineTicksync) m :: s.out)) ∧
  (∀ (s : State) (p : Stripe) (r : Run), s.native = true → s.active? = some p → s.stripe? p.par.id = some p → p.run = some r →
    p.ticking = true → r.ticked = true → p.xk2 = false →
    (p.bv.role = 2 → Completes .ticksyncMissing s fun t =>
      t.stage.tsAbortReq = true ∧ Now t p.par.id fun q => q.state = .aborting ∧ q.cause = some .stripeAborted ∧
        q.resumeAt = some (max r.next r.accounted)) ∧
    (p.bv.role = 1 → s.stage.tsReturned = none → s.stage.tsMissing = 0 → Completes .ticksyncReturnMissing s fun t =>
      t.stage = { s.stage with tsWin := some 0, tsRas := some 0, tsMissing := 1 } ∧ Keeps [.stage] [] s t) ∧
    (p.bv.role = 1 → s.stage.tsReturned = none → 1 ≤ s.stage.tsMissing → p.state = .write → Completes .ticksyncReturnMissing s fun t =>
      Now t p.par.id fun q => q.state = .aborting ∧ q.cause = some .stripeAborted ∧ q.abortAt = some r.nextFixed)) ∧
  (∀ (s : State) (b : List Byte) (x : Nat), s.tsyncOn = true → ticksyncGood b = true → byteAt b 0 = 2 →
    (s.groupRole = 2 → bitOf (byteAt b 1) 4 = false → Completes (.ticksyncRunMessage b x) s fun t =>
      ∃ m, t.out = .ticksync (s.disparity lineTicksync) m :: s.out ∧ Keeps [.link, .out, .counters] [Reg.STG_STATUS_TSYNC_LOCK, ovf 4] s t) ∧
    (∀ p r m, s.groupRole = 1 → s.runStripe = some (p, r) → s.stage.tsRun = some (m, x) → bitOf (byteAt b 1) 4 = false →
      bitOf (byteAt b 1) 3 = false → bitOf (byteAt b 1) 2 = true → 100 ≤ s.reg Reg.STG_TSYNC_LEAD →
      Completes (.ticksyncRunMessage b x) s fun t => t.stage = { s.stage with tsRepeat := true } ∧ t.out = s.out ∧
        t.reg Reg.STG_TSYNC_RING = 0)) ∧
  ∀ (s : State) (p : Stripe) (r : Run), s.runStripe = some (p, r) → s.tsyncOn = true → s.groupRole = 1 → s.stage.tsRepeat = true →
    Completes .runMessageRepeat s fun t =>
      t.out = .ticksync (s.disparity lineTicksync) (runMessage 0 p r r.first r.last s.stage.tsSeq) :: s.out ∧ t.stage.tsRepeat = false ∧
      Keeps [.link, .out, .stage] [] s t

/-! ### Looper and the auxiliary axes (R268 to R271, R275 to R294) -/

/-- R275, R283, R287, R289, R294: once no run ticks Looper disengages, a pending swap applies, and both outputs rest; SWAP of a valid
bank is pending while engaged and applies at once otherwise, of a bad one sets SWAP_BAD; a swap that waited too long is forced; the
fenced engine's check returns it to standby or leaves it fenced. -/
def Sys2Proof.Machine.ClauseLooperBanks : Prop :=
  (∀ s : State, (∀ p ∈ s.stripes, p.ticking = false) → s.flag Reg.LPR_STATUS_ENGAGED = true → s.looper.swap = false →
    Completes .looperDisengage s fun t =>
      t.reg Reg.LPR_STATUS_ENGAGED = 0 ∧ t.reg Reg.LPR_STATUS_HOLD = 0 ∧ t.looper.codeX = s.restCode 0 ∧ t.looper.codeY = s.restCode 1 ∧
      t.looper.holdGap = false ∧ t.looper.holdLock = false ∧ t.looper.regionWanted = none ∧
      Keeps [.looper] [Reg.LPR_STATUS_ENGAGED, Reg.LPR_STATUS_HOLD, Reg.LPR_STATUS_SWAP_PENDING] s t) ∧
  (∀ s : State, (s.flag Reg.LPR_STATUS_ENGAGED = false ∨ ∃ p ∈ s.stripes, p.ticking = true) → Ignored .looperDisengage s) ∧
  (∀ (s : State) (v : Word), s.linkUp = true → s.native = true → v.getLsbD 1 = true → s.access.reg Reg.LPR_STATUS_BANK ≤ 1 →
    (s.access.bankValid (1 - s.access.reg Reg.LPR_STATUS_BANK) = false → Completes (.looperSwap v) s fun t =>
      t.reg Reg.LPR_STATUS_SWAP_BAD = 1 ∧ t.looper.swap = s.looper.swap ∧ t.looper.banks = s.looper.banks ∧ t.reg Reg.LPR_STATUS_BANK = s.access.reg Reg.LPR_STATUS_BANK) ∧
    (s.access.bankValid (1 - s.access.reg Reg.LPR_STATUS_BANK) = true → s.looper.swap = false →
      (s.access.flag Reg.LPR_STATUS_ENGAGED = true → Completes (.looperSwap v) s fun t =>
        t.looper = { s.looper with swap := true } ∧ t.reg Reg.LPR_STATUS_SWAP_PENDING = 1 ∧
        t.reg Reg.LPR_STATUS_BANK = s.access.reg Reg.LPR_STATUS_BANK) ∧
      (s.access.flag Reg.LPR_STATUS_ENGAGED = false → Completes (.looperSwap v) s fun t =>
        t.reg Reg.LPR_STATUS_BANK = 1 - s.access.reg Reg.LPR_STATUS_BANK ∧ t.reg Reg.LPR_STATUS_SWAP_PENDING = 0 ∧
        t.looper.swap = false ∧ t.reg Reg.LPR_EVENTS_SWAPS = min 255 (s.access.reg Reg.LPR_EVENTS_SWAPS + 1)))) ∧
  (∀ s : State, s.looper.swap = true → s.flag Reg.LPR_STATUS_ENGAGED = true → s.reg Reg.LPR_STATUS_BANK ≤ 1 →
    (s.looper.holdLock = false → s.looper.holdGap = false → Completes .looperSwapTimeout s fun t =>
      t.reg Reg.LPR_STATUS_BANK = 1 - s.reg Reg.LPR_STATUS_BANK ∧ t.reg Reg.LPR_STATUS_SWAP_FORCED = 1 ∧ t.looper.swap = false ∧
      t.reg Reg.LPR_EVENTS_FORCED = min 255 (s.reg Reg.LPR_EVENTS_FORCED + 1)) ∧
    ((s.looper.holdLock = true ∨ s.looper.holdGap = true) → Completes .looperSwapTimeout s fun t =>
      t.looper = { s.looper with expired := true } ∧ Keeps [.looper] [] s t)) ∧
  ∀ (s : State) (pass : Bool) (o : Origin), s.jobs = [.switchLooper o] → s.cprOf o.ring ≤ 4 →
    Completes (.looperEngineCheckDone pass) s fun t =>
      t.jobs = [] ∧ t.reg Reg.LPR_ENGINE_STANDBY = (if pass then 0 else s.reg Reg.LPR_ENGINE_STANDBY) ∧
      t.heldCpl (s.cprOf o.ring) = s.heldCpl (s.cprOf o.ring) ++ [Completion.mk' o (if pass then .ok else .looperImplausible) 0 0 0] ∧
      Keeps [.jobs, .host, .counters] [Reg.LPR_ENGINE_STANDBY, ovf 1] s t

/-- R291 to R293: implausible samples in a run abort it with ST_LOOPER_IMPLAUSIBLE under emergency deceleration; in a host move they
end the move at EDEC. A self-check fences the engine that failed and ends the hold, changing the active one where that is it; where none or
both fail, or one is fenced already, the stripe aborts. -/
def Sys2Proof.Machine.ClauseLooperFaults : Prop :=
  (∀ (s : State) (p : Stripe) (r : Run), s.modelOn = true → s.plausN ≤ s.looper.implausible → Writes s p r →
    Completes .implausible s fun t => Aborts t p.par.id .looperImplausible ∧ t.stage.emergency = true ∧ t.looper.implausible = 0 ∧
      t.reg Reg.LPR_EVENTS_IMPLAUS = min 255 (s.reg Reg.LPR_EVENTS_IMPLAUS + 1)) ∧
  (∀ (s : State) (m : YMove), s.modelOn = true → s.plausN ≤ s.looper.implausible → s.inRun = false → s.stage.yMove = some m →
    Completes .implausible s fun t =>
      t.stage = { s.stage with emergency := true, hardStop := true, yMove := some { m with stopping := some .looperImplausible } } ∧
      Keeps [.stage, .looper, .counters] [Reg.LPR_EVENTS_IMPLAUS, ovf 7] s t) ∧
  (∀ s : State, s.looper.implausible < s.plausN → Ignored .implausible s) ∧
  (∀ (s : State) (a : Bool), s.looper.holdLock = true → s.reg Reg.LPR_ENGINE_STANDBY = 0 → s.reg Reg.LPR_ENGINE_ACTIVE ≤ 1 →
    Completes (.looperSelfCheckDone a (!a)) s fun t =>
      t.reg Reg.LPR_ENGINE_ACTIVE = (if a then s.reg Reg.LPR_ENGINE_ACTIVE else 1 - s.reg Reg.LPR_ENGINE_ACTIVE) ∧
      t.reg Reg.LPR_ENGINE_STANDBY = 1 ∧ t.reg Reg.LPR_STATUS_HOLD = 0 ∧ t.looper = { s.looper with holdLock := false } ∧
      t.reg Reg.GLB_IRQ_CAUSE_FAULT = 1 ∧ t.posted 1 0xFF 8) ∧
  (∀ (s : State) (a b : Bool) (p : Stripe) (r : Run), s.looper.holdLock = true → (a = b ∨ s.reg Reg.LPR_ENGINE_STANDBY = 1) →
    Writes s p r → Completes (.looperSelfCheckDone a b) s fun t => Aborts t p.par.id .looperImplausible ∧ t.looper.holdLock = false ∧
      (s.reg Reg.LPR_ENGINE_STANDBY = 0 → t.posted 1 0xFF 7)) ∧
  ∀ (s : State) (a b : Bool), s.looper.holdLock = false → Ignored (.looperSelfCheckDone a b) s

/-- R268 to R271: a step moves the axis by one in its direction and leaves on its pins; on its target the move is complete.
WAKE's end sets DIR and lets the move go on; IHOLD rises after its delay at rest. A command whose condition does not hold
changes nothing: the model's choice, log 5. -/
def Obligations.AuxSteps : Prop :=
  (∀ (s : State) (n : Fin 4) (m : AuxMove), (s.auxAxis n).move = some m → m.waking = false → s.softBusy = false →
    let next : Int := if m.up then s.auxPos n + 1 else s.auxPos n - 1
    next ≤ 2147483647 → -2147483648 ≤ next →
    Completes (.auxStep n) s fun t =>
      t.auxPos n = next ∧ t.out = .step n m.up :: s.out ∧ (∀ k < 4, k ≠ n.val → t.auxAxis k = s.auxAxis k) ∧
      (next ≠ m.target → (t.auxAxis n).move = some { m with v2 := s.auxSpeed2 n m, first := false }) ∧
      (next = m.target → m.goal = m.target → m.stopping = false → m.stoppedBy = [] →
        (t.auxAxis n).move = none ∧ t.reg (Reg.AUX_STATUS_STATE n) = 0 ∧ ∀ o, m.origin = some o → s.cprOf o.ring ≤ 4 →
          t.heldCpl (s.cprOf o.ring) = s.heldCpl (s.cprOf o.ring) ++ [Completion.mk' o .ok m.overshoot 0 0])) ∧
  (∀ (s : State) (n : Fin 4) (m : AuxMove), (s.auxAxis n).move = some m →
    (m.waking = true → Completes (.auxWakeExpiry n) s fun t =>
      (t.auxAxis n).move = some { m with waking := false } ∧ (t.auxAxis n).dir = m.up ∧ Keeps [.stage] [] s t) ∧
    (m.waking = true → Ignored (.auxStep n) s) ∧ (m.waking = false → Ignored (.auxWakeExpiry n) s)) ∧
  ∀ (s : State) (n : Fin 4), (s.auxAxis n).move = none →
    (s.reg (Reg.AUX_STATUS_IHOLD n) = 0 → Completes (.auxIholdTimeout n) s fun t =>
      t.reg (Reg.AUX_STATUS_IHOLD n) = 1 ∧ Keeps [.counters] [Reg.AUX_STATUS_IHOLD n, ovf 6] s t) ∧
    Ignored (.auxStep n) s ∧ Ignored (.auxWakeExpiry n) s

/-- The statements ClauseLooperBanks and ClauseLooperFaults together. A command whose condition does not hold changes nothing:
the model's choice, log 5. How a hold ends follows log 29. -/
def Obligations.Looper : Prop := ClauseLooperBanks ∧ ClauseLooperFaults

/-- The statements ClauseTickInEdges and ClauseLockGroups together. A command whose condition does not hold changes nothing: the
model's choice, log 5. What a lost message counts for in a lock group follows log 29. -/
def Obligations.TickInAndLockGroups : Prop := ClauseTickInEdges ∧ ClauseLockGroups

/-- The statements ClauseStageLanes and ClauseSetPointsAndSkipper together. A command whose condition does not hold changes
nothing: the model's choice, log 5. The rounding of an extrapolated sample is free, log 8; the reserves follow log 29. -/
def Obligations.StageAndSkipper : Prop := ClauseStageLanes ∧ ClauseSetPointsAndSkipper

/-! ### Ingest, raster slices and the DCU (R97 to R161, R334, R373 to R384) -/

/-- R127, R128, R132, R137, R374: a free engine of a working slice takes the next tile of its slice's queue, whose epoch rises
where it was placed before; a sampled tile also waits for a comparison and is held for it. A tile at epoch 511 is not placed: a
FAULT entry names it and its writing stripe aborts. A third opinion that waits comes first. A busy or fenced engine takes none.
A command whose condition does not hold changes nothing: the model's choice, log 5. The order of packages in the queue follows log 28. -/
def Obligations.TilesArePlaced : Prop :=
  (∀ (s : State) (i : Fin 5) (e : Fin 16), s.engineServes i e = true → (s.engine i e).job = none → s.clocked = true →
    (∀ (k : Package) (sector col row : Nat), s.shadowIn .thirdQueued i = none → s.sectorOf i = some sector →
      s.nextTile i sector = some (k, col, row) → s.package? k.stripe = some k →
      let old := k.tile col row
      let epoch := if old.placed then old.epoch + 1 else old.epoch
      ((old.placed = true → old.epoch ≠ 511) → Completes (.tilePlace i e) s fun t =>
        (∃ j, (t.engine i e).job = some j ∧ j.stripe = k.stripe ∧ j.col = col ∧ j.row = row ∧ j.epoch = epoch ∧ j.kind = .own ∧
          j.slots = List.range (setOf k.sets col row).length) ∧
        (∃ k', t.package? k.stripe = some k' ∧ (k'.tile col row).placed = true ∧ (k'.tile col row).epoch = epoch ∧
          (k'.tile col row).blocks = [] ∧ (k'.tile col row).hold = (old.hold || s.samples i k col row)) ∧
        t.shadows = (if s.samples i k col row then s.shadows ++ [⟨k.stripe, col, row, epoch, i, [], .queued, 0⟩] else s.shadows) ∧
        Keeps [.slices, .packages, .shadows, .counters] [ovf (8 + i)] s t) ∧
      (old.placed = true → old.epoch = 511 → ∀ p r, Writes s p r → p.par.id = k.stripe → Completes (.tilePlace i e) s fun t =>
        t.posted 1 i 6 ∧ Aborts t k.stripe .sliceFailed ∧ (t.engine i e).job = none)) ∧
    (∀ h, s.shadowIn .thirdQueued i = some h → Completes (.tilePlace i e) s fun t =>
      (∃ j, (t.engine i e).job = some j ∧ j.kind = .third ∧ j.stripe = h.stripe ∧ j.col = h.col ∧ j.row = h.row) ∧
      Keeps [.slices, .shadows] [] s t) ∧
    Completes (.engineClockGate i e) s fun t => (t.engine i e).gated = true ∧ Keeps [.slices] [] s t) ∧
  ∀ (s : State) (i : Fin 5) (e : Fin 16), (s.engine i e).job ≠ none → Ignored (.tilePlace i e) s ∧ Ignored (.engineClockGate i e) s

/-- R117, R140: a slice fills its bins band after band, and reports its rate only in cache bypass. -/
def Sys2Proof.Machine.ClauseBins : Prop :=
  (∀ (s : State) (i : Fin 5) (band : Nat) (k : Package), s.clocked = true → (i.val ≠ 4 ∨ s.part = .fx640) →
    s.bandOf i band = some k → Completes (.binBandExpand i band) s fun t =>
      (t.slice i).bands = (s.slice i).bands ++ [(k.stripe, band)] ∧ (∀ n, n ≠ i.val → t.slice n = s.slice n) ∧ Keeps [.slices] [] s t) ∧
  (∀ (s : State) (i : Fin 5) (band : Nat), s.bandOf i band = none → Ignored (.binBandExpand i band) s) ∧
  (∀ (s : State) (i : Fin 5) (rate : Nat) (p : Stripe), s.active? = some p → vget p.bypass i false = true →
    Completes (.bypassRateReport i rate) s fun t => (t.slice i).rate = rate ∧ Keeps [.slices] [] s t) ∧
  ∀ (s : State) (i : Fin 5) (rate : Nat), s.active? = none → Ignored (.bypassRateReport i rate) s

/-- R105 to R109, R126, R129, R133, R139: a plane with content of a current tile is stored as a block with its seeded check value,
compressed where that gains and verified, else raw; a failed self-verification is posted and counted; an empty plane is only
marked; with the last plane the tile is cached if every block of it is held, and the engine free. With no room the writing stripe's
sector enters cache bypass, and the plane goes straight on, or waits in its engine while the filler's store is full. With no room
and none to make, a plane of a stripe that does not write waits in its engine (log 38). A plane of an old epoch is discarded whole. -/
def Sys2Proof.Machine.ClausePlanes : Prop :=
  (∀ (s : State) (i : Fin 5) (e : Fin 16) (b : PlaneBody) (j : Job), (s.engine i e).job = some j → s.clocked = true → j.kind = .own →
    j.slots.head? = some b.slot → s.bandFilled i j = true →
    let left := j.slots.filter (· != b.slot)
    (∀ k, s.package? j.stripe = some k → (k.tile j.col j.row).epoch = j.epoch →
      let old := k.tile j.col j.row
      let plane := k.plane j.col j.row b.slot
      let x := encodePlane (s.rawOnly j.stripe) plane b.tokens
      let block : CacheBlock :=
        ⟨b.slot, j.epoch, x.raw, x.body, crc32cSeeded (cacheSeed j.stripe j.row j.col b.slot j.epoch) plane⟩
      ((∀ y ∈ plane, y = 0) → Completes (.planeDone i e b) s fun t =>
        ∃ k', t.package? j.stripe = some k' ∧ (k'.tile j.col j.row).blocks = old.blocks ∧ b.slot ∈ (k'.tile j.col j.row).empty ∧
          (k'.tile j.col j.row).epoch = j.epoch ∧
          (t.engine i e).job = (if left = [] then none else some { j with slots := left, waits := false })) ∧
      ((∃ y ∈ plane, y ≠ 0) → j.direct = false → s.bypassed i j.stripe = false → s.storeFits (20 + x.body.length) = true → Completes (.planeDone i e b) s fun t =>
        (x.mismatch = true → t.posted 1 i 2) ∧
        (∃ k', t.package? j.stripe = some k' ∧ (k'.tile j.col j.row).blocks = old.blocks ++ [block] ∧
          (k'.tile j.col j.row).epoch = j.epoch ∧ (left = [] → (k'.tile j.col j.row).cached = (old.direct.isEmpty && (k'.tile j.col j.row).complete (setOf k.sets j.col j.row))) ∧
          vget k'.selfmis i 0 = vget k.selfmis i 0 + b2n x.mismatch) ∧
        (t.engine i e).job = (if left = [] then none else some { j with slots := left, waits := false })) ∧
      ((∃ y ∈ plane, y ≠ 0) → j.direct = false → s.bypassed i j.stripe = false → s.storeFits (20 + x.body.length) = false →
        s.isWriting j.stripe = true → s.evictable 0 = none → k.directRoom j = true → Completes (.planeDone i e b) s fun t =>
          t.posted 10 i 1 ∧ (∀ p, s.stripe? j.stripe = some p → Now t j.stripe fun q => vget q.bypass i false = true) ∧
          ∃ k', t.package? j.stripe = some k' ∧ (k'.tile j.col j.row).direct = old.direct ++ [(b.slot, plane)] ∧
            (k'.tile j.col j.row).blocks = old.blocks) ∧
      ((∃ y ∈ plane, y ≠ 0) → j.direct = false → s.bypassed i j.stripe = false → s.storeFits (20 + x.body.length) = false →
        s.isWriting j.stripe = false → s.evictable (k.age + 1) = none → Completes (.planeDone i e b) s fun t =>
          (t.engine i e).job = some { j with waits := true } ∧ Keeps [.slices] [] s t) ∧
      ((∃ y ∈ plane, y ≠ 0) → (j.direct = true ∨ s.bypassed i j.stripe = true) →
        (k.directRoom j = true → Completes (.planeDone i e b) s fun t =>
          (∃ k', t.package? j.stripe = some k' ∧ (k'.tile j.col j.row).direct = old.direct ++ [(b.slot, plane)] ∧
            (k'.tile j.col j.row).blocks = old.blocks) ∧
          (t.engine i e).job = (if left = [] then none else some { j with slots := left, direct := true, waits := false })) ∧
        (k.directRoom j = false → Completes (.planeDone i e b) s fun t =>
          (t.engine i e).job = some { j with direct := true, waits := true } ∧ Keeps [.slices] [] s t))) ∧
    (∀ k, s.package? j.stripe = some k → (k.tile j.col j.row).epoch ≠ j.epoch → Completes (.planeDone i e b) s fun t =>
      (t.engine i e).job = (if left = [] then none else some { j with slots := left }) ∧
      Keeps [.slices, .counters, .slots] [ovf (8 + i)] s t)) ∧
  (∀ (s : State) (i : Fin 5) (e : Fin 16) (b : PlaneBody), (s.engine i e).job = none → Ignored (.planeDone i e b) s) ∧
  ∀ (s : State) (i : Fin 5) (e : Fin 16) (b : PlaneBody) (j : Job), (s.engine i e).job = some j → j.slots.head? ≠ some b.slot →
    Ignored (.planeDone i e b) s

/-- The statements ClauseBins and ClausePlanes together. A command whose condition does not hold changes nothing: the model's
choice, log 5. The tokens of the encoder are an operand of the command, log 34. -/
def Obligations.BinsAndPlanes : Prop := ClauseBins ∧ ClausePlanes

/-- R131, R135, R136, R379, R381: an engine that writes no pixel is fenced and posted, and its tile is placed again with its epoch
raised; where the tile was completed in that very cycle the completion stands, and the migration is dropped and counted. A live slice past its fence limit or its self-verify limit fails; the spare takes its sector, and with no spare free the
writing stripe aborts with ST_SLICE_FAILED. A spare that is past its own limits is fenced. A command whose condition does not
hold changes nothing: the model's choice, log 5. What a failed spare and its comparisons leave follows log 28. -/
def Obligations.SlicesFail : Prop :=
  (∀ (s : State) (i : Fin 5) (e : Fin 16) (j : Job), (s.engine i e).job = some j → Completes (.engineWatchdog i e) s fun t =>
    bitOf (t.reg (Reg.SLC_STATUS_ENG_FENCED i)) e = true ∧ (t.engine i e).job = none ∧
    (∀ k, j.kind = .own → s.package? j.stripe = some k → (k.tile j.col j.row).epoch = j.epoch →
      (k.tile j.col j.row).committed = false → j.epoch ≠ 511 →
      t.posted 1 i 1 ∧ ∃ k', t.package? j.stripe = some k' ∧ (k'.tile j.col j.row).epoch = j.epoch + 1 ∧
        (k'.tile j.col j.row).placed = false ∧ (k'.tile j.col j.row).cached = false ∧ (k'.tile j.col j.row).blocks = [])) ∧
  (∀ (s : State) (i : Fin 5) (e : Fin 16) (d : Nat × Nat × Nat), (s.engine i e).job = none → (s.engine i e).done = some d →
    d.1 = s.now → Completes (.engineWatchdog i e) s fun t =>
      bitOf (t.reg (Reg.SLC_STATUS_ENG_FENCED i)) e = true ∧ (t.engine i e).gated = true ∧ t.posted 1 i 1 ∧
      t.reg (Reg.SLC_DROPS_MIG_DROPPED i) =
        min (2 ^ (Reg.SLC_DROPS_MIG_DROPPED i).width - 1) (s.reg (Reg.SLC_DROPS_MIG_DROPPED i) + 1) ∧ t.packages = s.packages) ∧
  (∀ (s : State) (i : Fin 5) (e : Fin 16), (s.engine i e).job = none → (∀ d, (s.engine i e).done = some d → d.1 ≠ s.now) →
    Ignored (.engineWatchdog i e) s) ∧
  (∀ (s : State) (i : Fin 5) (c : Instr), s.sliceUp i = true →
    (c = .fenceLimitExceeded i ∧ (s.slice i).fenceLimit < s.fencedCount i ∨
      c = .selfmisLimitReached i ∧ ∃ k ∈ s.packages, s.selfmisLimit k.stripe ≤ vget k.selfmis i 0) →
    (i.val < 4 → s.spareFree = true → Completes c s fun t =>
      bitOf (t.reg Reg.FLT_STATUS_SLICE_FAILED) i = true ∧ t.reg Reg.FLT_STATUS_MOLT_SECTOR = i ∧
      t.reg Reg.FLT_STATUS_SPARE_STATE = 2 ∧ ∀ e < 16, (t.engine i e).job = none) ∧
    (i.val < 4 → s.spareFree = false → ∀ p r, Writes s p r → Completes c s fun t =>
      bitOf (t.reg Reg.FLT_STATUS_SLICE_FAILED) i = true ∧ t.posted 1 i 3 ∧ t.reg (causeField 9) = 1 ∧
      Aborts t p.par.id .sliceFailed) ∧
    (i.val = 4 → Completes c s fun t =>
      t.reg Reg.FLT_STATUS_SPARE_STATE = 1 ∧ t.reg Reg.FLT_STATUS_MOLT_SECTOR = 7 ∧
      (s.reg Reg.FLT_STATUS_MOLT_SECTOR < 4 → ∀ p r, Writes s p r → Aborts t p.par.id .sliceFailed))) ∧
  (∀ (s : State) (i : Fin 5), s.sliceUp i = false → Ignored (.fenceLimitExceeded i) s ∧ Ignored (.selfmisLimitReached i) s) ∧
  (∀ s : State, s.reg Reg.FLT_STATUS_SPARE_STATE ≠ 1 → s.part = .fx640 →
    (∃ p ∈ s.stripes, max 1 p.bv.spareLimit ≤ p.spareWrong) → Completes .spareLimitReached s fun t =>
      t.reg Reg.FLT_STATUS_SPARE_STATE = 1 ∧ t.reg Reg.FLT_STATUS_MOLT_SECTOR = 7 ∧ t.posted 1 4 3 ∧ t.shadows = []) ∧
  ∀ s : State, (∀ p ∈ s.stripes, p.spareWrong < max 1 p.bv.spareLimit) → Ignored .spareLimitReached s

/-- R30, R44, R111, R130, R154, R157, R162, R375: the filler commits the next tile of a sector in row order once its comparison is over and
its planes are there: its rows of the window hold each pixel's share of its clamped target. A tile whose block fails its check
is placed again with its epoch raised. With no tile of the row left, the fill mark passes the row. Where the
filling of a stripe begins, its residues start from the records of its CLOSE bands and T_CLAMP from 0. A command whose condition
does not hold changes nothing: the model's choice, log 5. When the filler commits follows log 28.
-/
def Obligations.WindowFills : Prop :=
  (∀ (s : State) (sector : Fin 4) (p : Stripe) (r : Run) (k : Package), s.filling = some p → s.stripe? p.par.id = some p →
    p.run = some r → s.package? p.par.id = some k → s.clocked = true → p.xk2 = false →
    let row := ((vget p.fill sector (-1) + 1) / 256).toNat
    p.mayFill r sector row = true →
    (k.nextCommit sector row = none → Completes (.tileCommit sector) s fun t =>
      Now t p.par.id (fun q => vget q.fill sector (-1) = 256 * (row + 1 : Nat) - 1 ∧
        (p.begun = false → r.kind = .pass → r.index = 0 → q.begun = true ∧ q.residues = (s.startResidues p.par).1 ∧
          q.bandLoaded = (s.startResidues p.par).2)) ∧
      (p.begun = false → r.kind = .pass → r.index = 0 → t.reg Reg.DCU_SAT_T_CLAMP = 0) ∧
      Keeps [.stripes] (if p.begun then [] else [Reg.DCU_SAT_T_CLAMP]) s t) ∧
    ∀ col, r.repair = false → k.nextCommit sector row = some col →
      let old := k.tile col row
      (p.begun = true → (old.hold = true ∨ old.ready (setOf k.sets col row) = false) → Ignored (.tileCommit sector) s) ∧
      (old.hold = false → old.ready (setOf k.sets col row) = true → k.tileFails col row = false →
        p.par.k * r.ahead ≤ 256 * row + 4095 → Completes (.tileCommit sector) s fun t =>
          (∃ k', t.package? p.par.id = some k' ∧ (k'.tile col row).committed = true ∧ (k'.tile col row).blocks = old.blocks) ∧
          Now t p.par.id fun q => ∀ n < tilePixels p.par.len row,
            SMap.get (fun _ => 0) q.window (pixelKey (256 * col + n % 256) (256 * row + n / 256)) =
              p.par.share (256 * col + n % 256) (clampTarget (k.pixelTarget p.grid (k.planes col row) col row n))) ∧
      (old.hold = false → old.ready (setOf k.sets col row) = true → k.tileFails col row = true → old.epoch ≠ 511 →
        Completes (.tileCommit sector) s fun t => ∃ k', t.package? p.par.id = some k' ∧ (k'.tile col row).epoch = old.epoch + 1 ∧
          (k'.tile col row).redo = true ∧ (k'.tile col row).blocks = [] ∧ (k'.tile col row).cached = false)) ∧
  ∀ (s : State) (sector : Fin 4), s.filling = none → Ignored (.tileCommit sector) s

/-- R374 to R378: an agreement counts, releases the tile and ends the comparison; a mismatch counts and asks the next live
slice. The third opinion finds that the owner was right, that the spare was wrong, that the owner was wrong (which fails it), or
no majority, which aborts the writing stripe and leaves the tile disputed. A command whose condition does not hold changes
nothing: the model's choice, log 5. Which slices may give the third opinion follows log 28. -/
def Obligations.ComparisonsSettle : Prop :=
  (∀ (s : State) (crcs : List PlaneCrc) (h : Shadow) (k : Package) (old : Tile) (n : Nat),
    s.shadows.find? (fun h => h.phase == .spare) = some h → s.comparable h = some (old, n) → s.package? h.stripe = some k →
    (old.agrees n crcs = true → old.disputed = false → Completes (.shadowCompare crcs) s fun t =>
      t.shadows = s.shadows.filter (fun x => !x.isOf h.stripe h.col h.row) ∧
      t.reg Reg.FLT_SHADOW_COMPARES = min (2 ^ Reg.FLT_SHADOW_COMPARES.width - 1) (s.reg Reg.FLT_SHADOW_COMPARES + 1) ∧
      (∃ k', t.package? h.stripe = some k' ∧ (k'.tile h.col h.row).hold = false ∧ (k'.tile h.col h.row).blocks = old.blocks) ∧
      Keeps [.shadows, .slices, .packages, .counters, .slots] [Reg.FLT_SHADOW_COMPARES, ovf 8, ovf 12, ovf 21] s t) ∧
    (old.agrees n crcs = false → ∀ i, s.thirdSlice h.owner = some i → Completes (.shadowCompare crcs) s fun t =>
      t.reg Reg.FLT_SHADOW_MISMATCH = min (2 ^ Reg.FLT_SHADOW_MISMATCH.width - 1) (s.reg Reg.FLT_SHADOW_MISMATCH + 1) ∧
      { h with spare := crcs, phase := .thirdQueued, third := i } ∈ t.shadows ∧ t.packages = s.packages)) ∧
  (∀ (s : State) (crcs : List PlaneCrc) (h : Shadow) (k : Package) (old : Tile) (n : Nat),
    s.shadows.find? (fun h => h.phase == .third) = some h → s.comparable h = some (old, n) → s.package? h.stripe = some k →
    (old.agrees n h.spare = true → Completes (.thirdOpinion crcs) s fun t =>
      t.shadows = s.shadows.filter (fun x => !x.isOf h.stripe h.col h.row) ∧ t.obs.events = s.obs.events) ∧
    (old.agrees n h.spare = false → old.agrees n crcs = true → Completes (.thirdOpinion crcs) s fun t =>
      t.reg Reg.FLT_THIRD_SPARE_WRONG = min (2 ^ Reg.FLT_THIRD_SPARE_WRONG.width - 1) (s.reg Reg.FLT_THIRD_SPARE_WRONG + 1) ∧
      t.posted 1 4 5 ∧ (∀ p, s.stripe? h.stripe = some p → Now t h.stripe fun q => q.spareWrong = p.spareWrong + 1) ∧
      ∃ k', t.package? h.stripe = some k' ∧ (k'.tile h.col h.row).blocks = old.blocks ∧ (k'.tile h.col h.row).hold = false) ∧
    (old.agrees n h.spare = false → old.agrees n crcs = false → crcsAgree n h.spare crcs = true → h.owner < 4 →
      Completes (.thirdOpinion crcs) s fun t =>
        t.reg Reg.FLT_THIRD_OWNER_WRONG = min (2 ^ Reg.FLT_THIRD_OWNER_WRONG.width - 1) (s.reg Reg.FLT_THIRD_OWNER_WRONG + 1) ∧
        bitOf (t.reg Reg.FLT_STATUS_SLICE_FAILED) h.owner = true) ∧
    (old.agrees n h.spare = false → old.agrees n crcs = false → crcsAgree n h.spare crcs = false → ∀ p r, Writes s p r →
      p.par.id = h.stripe → Completes (.thirdOpinion crcs) s fun t =>
        t.reg Reg.FLT_THIRD_NO_MAJORITY = min (2 ^ Reg.FLT_THIRD_NO_MAJORITY.width - 1) (s.reg Reg.FLT_THIRD_NO_MAJORITY + 1) ∧
        Aborts t h.stripe .sliceFailed ∧
        ∃ k', t.package? h.stripe = some k' ∧ (k'.tile h.col h.row).disputed = true ∧ (k'.tile h.col h.row).blocks = [])) ∧
  ∀ (s : State) (crcs : List PlaneCrc), s.shadows = [] → Ignored (.shadowCompare crcs) s ∧ Ignored (.thirdOpinion crcs) s

/-- R384, R385: a slice that passes its self-test leaves the failed ones, to own its sector again at the next binding; a fenced
spare that passes returns to standby; one that fails changes neither. -/
def Sys2Proof.Machine.ClauseSelfTests : Prop :=
  (∀ (s : State) (i : Fin 5) (agreed fenced : Bool), (s.slice i).testing = true →
    let pass := agreed = true ∧ fenced = false ∧ s.fencedCount i ≤ s.reg (Reg.SLC_CTL_FENCE_LIMIT i)
    (i.val < 4 → pass → Completes (.sliceSelfTestDone i agreed fenced) s fun t =>
      bitOf (t.reg Reg.FLT_STATUS_SLICE_FAILED) i = false ∧ (t.slice i).returns = true ∧ (t.slice i).testing = false) ∧
    (i.val < 4 → ¬ pass → Completes (.sliceSelfTestDone i agreed fenced) s fun t =>
      t.reg Reg.FLT_STATUS_SLICE_FAILED = s.reg Reg.FLT_STATUS_SLICE_FAILED ∧ (t.slice i).returns = (s.slice i).returns ∧
      (t.slice i).testing = false) ∧
    (i.val = 4 → Completes (.sliceSelfTestDone i agreed fenced) s fun t =>
      (pass → s.reg Reg.FLT_STATUS_SPARE_STATE = 1 → t.reg Reg.FLT_STATUS_SPARE_STATE = 0) ∧
      (¬ pass → t.reg Reg.FLT_STATUS_SPARE_STATE = s.reg Reg.FLT_STATUS_SPARE_STATE) ∧
      (t.slice i).testing = false ∧ Keeps [.slices] [Reg.FLT_STATUS_SPARE_STATE] s t)) ∧
  ∀ (s : State) (i : Fin 5) (agreed fenced : Bool), (s.slice i).testing = false → Ignored (.sliceSelfTestDone i agreed fenced) s

/-- R158, R160 to R162: the free DCU takes the first bound stripe whose grid is missing or damaged, and shows it; when it is done the
stripe holds the grid that its kernel and its package's densities give, the sectors that waited for it fill on, and the DCU is
idle. -/
def Sys2Proof.Machine.ClauseGrids : Prop :=
  (∀ (s : State) (p : Stripe) (k : Package), s.clocked = true → s.dcuFree = true → s.native = true → s.part = .fx640 →
    s.nextGrid = some (p, k) → Completes .dcuGridStart s fun t =>
      t.gridJob = some ⟨k.stripe, p.grid.isSome⟩ ∧ t.reg Reg.DCU_STATUS_BUSY = 1 ∧
      t.reg Reg.DCU_STATUS_RECOMPUTE = b2n p.grid.isSome ∧ t.reg Reg.DCU_STATUS_ITER = 1 ∧
      Keeps (if p.grid.isSome then [.gridJob, .counters] else [.gridJob]) ([Reg.DCU_STATUS_BUSY, Reg.DCU_STATUS_RECOMPUTE, Reg.DCU_STATUS_ITER, Reg.DCU_STRIPE_STRIPE_ID,
        Reg.DCU_GRID_COLS, Reg.DCU_GRID_ROWS] ++ if p.grid.isSome then [ovf 13] else []) s t) ∧
  (∀ s : State, (s.dcuFree = false ∨ s.native = false ∨ s.part = .fx632 ∨ s.nextGrid = none) → Ignored .dcuGridStart s) ∧
  (∀ (s : State) (cycles : Nat) (j : GridJob) (p : Stripe) (k : Package) (kn : Kernel), s.gridJob = some j →
    s.stripe? j.stripe = some p → s.package? j.stripe = some k → p.bv.kernel = some kn → s.clocked = true →
    cycles ≤ gridCycles kn (k.gridSize.1 * k.gridSize.2) → Completes (.dcuGridDone cycles) s fun t =>
      t.gridJob = none ∧ t.reg Reg.DCU_STATUS_BUSY = 0 ∧
      Now t j.stripe (fun q => q.grid = some (dcuGrid kn k.flx k.rho) ∧ q.gridStall = []) ∧
      (p.gridWords = [] → Keeps [.gridJob, .stripes, .draw, .counters] [Reg.DCU_STATUS_BUSY, Reg.DCU_STATUS_RECOMPUTE, Reg.DCU_STATUS_ITER,
        Reg.DCU_RESID_MAX_STEP, Reg.DCU_SAT_F_SAT, Reg.DCU_TIME_CYCLES, ovf 13] s t)) ∧
  ∀ (s : State) (cycles : Nat), s.gridJob = none → Ignored (.dcuGridDone cycles) s

/-- The statements ClauseSelfTests and ClauseGrids together. A command whose condition does not hold changes nothing: the
model's choice, log 5. A grid's time is an operand of the command, log 34; a damaged grid follows log 27. -/
def Obligations.SelfTestsAndGrids : Prop := ClauseSelfTests ∧ ClauseGrids

/-- R51, R62, R87, R88, R97, R100 to R103, R334: a good FTC block adds its output to its package and its index rises; one at
fault on a check-carrying channel refuses the package at once with the error's status, and is logged. A record that fits is
taken, one at fault refuses the package at its offset, as do bytes after PKG_END, an FTC error there and a stream that ends too soon (when it ends
is log 36). A whole package whose pre-pass has its turn (R124) is staged with the class sets
that its figures give and its descriptors complete; the one that overloads a tile is refused. A command whose condition does not
hold changes nothing: the model's choice, log 5. The order of the checks follows log 27. -/
def Obligations.PackagesArrive : Prop :=
  (∀ (s : State) (ch : Fin 8) (b : LayoutBuf) (rest : List LayoutBuf) (l : List Byte), s.clocked = true →
    (s.channel ch).queue = b :: rest → b.ftc = true → b.buf = .ok l → s.wantsMore ch = true →
    ((s.channel ch).assembly b).stripe = b.stripe →
    let a := (s.channel ch).assembly b
    let data := l.drop b.taken
    (∀ f, ftcDecode data = .ok f → (2 ≤ ch.val ∨ ftcCheckGood (a.stripe * 2 ^ 32 + a.blockIndex) data f.output = true) →
      Completes (.ftcBlockDecode ch) s fun t => ∃ a', (t.channel ch).pkg = some a' ∧ a'.bytes = a.bytes ++ f.output ∧
        a'.blockIndex = a.blockIndex + 1 ∧ a'.stripe = a.stripe ∧ a'.flx = a.flx ∧
        (t.channel ch).queue = (if l.length ≤ b.taken + f.length then rest else { b with taken := b.taken + f.length } :: rest)) ∧
    (∀ x, ftcDecode data = .error x → ch.val < 2 → s.stripe? a.stripe = none → Completes (.ftcBlockDecode ch) s fun t =>
      (t.channel ch).pkg = none ∧
      t.refused.getLast? = some ⟨a.stripe, x.status, a.bytes.length, a.blockIndex, x.offset, a.blockIndex⟩ ∧
      (s.reg Reg.FTC_ERR_STATUS_VALID = 0 → t.reg Reg.FTC_ERR_STATUS_VALID = 1 ∧ t.reg Reg.FTC_ERR_STATUS = x.status.code))) ∧
  (∀ (s : State) (ch : Fin 8) (a : Assembly), s.clocked = true → (s.channel ch).pkg = some a → s.wantsMore ch = false →
    (∀ f n, a.flx.phase ≠ .done → s.parse ch a = .next f n → s.checkKept a f = true → Completes (.flxRecord ch) s fun t =>
      (t.channel ch).pkg = some { a with flx := f } ∧ Keeps [.channels] [] s t) ∧
    (∀ x, a.flx.phase ≠ .done → s.parse ch a = .refuse x → a.ftcErr = none → s.stripe? a.stripe = none →
      Completes (.flxRecord ch) s fun t => (t.channel ch).pkg = none ∧
        t.refused.getLast? = some ⟨a.stripe, x.status, x.offset, x.tile, 0, 0⟩) ∧
    (a.flx.phase = .done → a.flx.offset < a.bytes.length → s.stripe? a.stripe = none →
      Completes (.flxRecord ch) s fun t => (t.channel ch).pkg = none ∧
        t.refused.getLast? = some ⟨a.stripe, .flxBadRecord, a.flx.offset, 0, 0, 0⟩) ∧
    (∀ x, a.flx.phase = .done → a.flx.offset = a.bytes.length → a.ftcErr = some x → x.stripe = a.stripe → s.stripe? a.stripe = none →
      Completes (.flxRecord ch) s fun t => (t.channel ch).pkg = none ∧ t.refused.getLast? = some x) ∧
    (s.prepassTurn ch = false → Ignored (.prepassDone ch) s) ∧
    (s.prepassTurn ch = true → s.stripe? a.stripe = none →
      (∀ sets, classSets a.flx.np a.flx.len a.flx.figures [] = .ok sets → Completes (.prepassDone ch) s fun t =>
        (t.channel ch).pkg = none ∧ ∃ k, t.packages = s.packages ++ [k] ∧ k.stripe = a.stripe ∧ k.flx = a.flx ∧ k.sets = sets ∧
          k.rho = densityMap a.flx ∧ k.settled = true ∧ k.tiles = []) ∧
      ∀ x, classSets a.flx.np a.flx.len a.flx.figures [] = .error x → Completes (.prepassDone ch) s fun t =>
        (t.channel ch).pkg = none ∧ t.packages = s.packages ∧
          t.refused.getLast? = some ⟨a.stripe, x.status, x.offset, x.tile, 0, 0⟩)) ∧
  (∀ (s : State) (ch : Fin 8) (a : Assembly), s.clocked = true → (s.channel ch).pkg = some a → (s.channel ch).queue = [] →
    a.flx.phase ≠ .done → s.parse ch a = .wait → a.ftcErr = none →
    (s.streamEnded ch = true → s.stripe? a.stripe = none → Completes (.flxRecord ch) s fun t => t.channel ch = ⟨[], none, none⟩ ∧
      t.refused.getLast? = some ⟨a.stripe, .flxBadRecord, a.bytes.length, 0, 0, 0⟩) ∧
    (s.streamEnded ch = false → Ignored (.flxRecord ch) s)) ∧
  ∀ (s : State) (ch : Fin 8), s.clocked = false → Ignored (.ftcBlockDecode ch) s ∧ Ignored (.flxRecord ch) s ∧ Ignored (.prepassDone ch) s

/-! ### HBM (R300 to R321) -/

/-- The last thing that left the device. -/
def Sys2Proof.Machine.State.last (t : State) (o : Out) : Prop := t.out.head? = some o

/-- R305, R308, R310, R312, R313, R315 to R317, R320: a request waits during a sweep, an alert or a decode of its page. A read
delivers a clean word, and one with a single-bit error corrected, counted and written back, or moved to the remap table where
the error is hard; with a worse word its page's strong decode begins. A write stores its bytes, under the flip mask where it is
armed for it. Every other word stays. A word of a PC out of service is lost. What the manual leaves open of HBM is free or fixed
by log 12. -/
def Obligations.WordsOfMemory : Prop :=
  (∀ (s : State) (who : Requester) (hint : PageHint) (addr : Nat) (upset : BitVec 72) (hard : Bool), s.clocked = true →
    addr < s.hbmEnd →
    let key := s.memKey addr
    let r : HbmReq := ⟨who, hint, addr, none, false, upset, hard⟩
    let w : HbmWord := { s.memWord key with err := (s.memWord key).err ^^^ upset }
    let run := Instr.hbmRead who hint addr upset hard
    (s.mustWait key = true → Completes run s fun t =>
      t.hbm = { s.hbm with waiting := s.hbm.waiting ++ [r] } ∧ Keeps [.hbm] [] s t) ∧
    (s.mustWait key = false → s.pcLive (keyPc key) = false → who ∈ [Requester.ingest, .tables, .tableLoad] →
      (who = .tables → s.tablesHeld = true) →
      Completes run s fun t => t.out = .memory .memUncorrectable addr 0 :: s.out ∧ Keeps [.out] [] s t) ∧
    (s.mustWait key = false → s.pcLive (keyPc key) = true →
      (w.light = .clean → Completes run s fun t =>
        t.last (.memory .ok addr w.stored) ∧ t.memWord key = w ∧ ∀ k, k ≠ key → t.memWord k = s.memWord k) ∧
      (∀ b, w.light = .fix b → s.overtaken key = false → Completes run s fun t =>
        t.last (.memory .ok addr (w.fixed b)) ∧
        t.reg Reg.MEM_CE_COUNT = min (2 ^ Reg.MEM_CE_COUNT.width - 1) (s.reg Reg.MEM_CE_COUNT + 1) ∧
        (hard = false ∨ s.hbm.remap.length < 32 → t.memWord key = { HbmWord.of (w.fixed b) with data := w.data }) ∧
        (hard = true → s.hbm.remap.length < 32 → (∀ e ∈ s.hbm.remap, e.1 ≠ key) →
          t.reg Reg.MEM_REMAP_USED = s.hbm.remap.length + 1 ∧ t.hbm.remap.length = s.hbm.remap.length + 1) ∧
        ∀ k, k ≠ key → t.memWord k = s.memWord k) ∧
      (w.light = .bad ∨ w.light = .poisoned → Completes run s fun t =>
        t.hbm.decodes = s.hbm.decodes ++ [r] ∧ t.pageLocked key = true ∧ ∀ k, k ≠ key → t.memWord k = s.memWord k))) ∧
  ∀ (s : State) (who : Requester) (hint : PageHint) (addr : Nat) (data : List Byte), s.clocked = true → 1 ≤ data.length →
    addr % 8 + data.length ≤ 8 → addr + data.length ≤ s.hbmEnd →
    let key := s.memKey addr
    s.mustWait key = false → s.pcLive (keyPc key) = true → (s.memWord key).light = .clean →
    let d := mergeBytes (s.memWord key).stored addr data
    Completes (.hbmWrite who hint addr data) s fun t =>
      t.last (.memory .ok addr 0) ∧ (∀ k, k ≠ key → t.memWord k = s.memWord k) ∧
      (data.length < 8 ∨ s.flips addr = false → t.memWord key = HbmWord.of d) ∧
      (data.length = 8 → s.flips addr = true →
        t.memWord key = { HbmWord.of d with err := s.flipMask } ∧ t.reg Reg.MEM_FLIP_CTL_ARM = 0)

/-- R311, R313 to R315, R320: a strong decode within its code's reach repairs every word of its page and delivers the word as it
was written; a word confirmed poisoned is delivered as such and counted; a failed decode poisons the word, posts it and counts
it, and its reader gets ST_MEM_UNCORRECTABLE. The check symbols count with the data, as upset as they are then. A command whose condition does not hold changes nothing: the model's choice, log
5. What the manual leaves open of HBM is free or fixed by log 12: the reach of a decode among them. -/
def Obligations.StrongDecodes : Prop :=
  (∀ (s : State) (r : HbmReq) (rest : List HbmReq) (checks : List (Fin 32 × BitVec 72)), s.clocked = true →
    s.hbm.decodes = r :: rest → s.hbm.waiting = [] → r.bytes = none → r.who ∈ [Requester.ingest, .tables, .tableLoad] →
    (r.who = .tables → s.tablesHeld = true) →
    let key := s.memKey r.addr
    let w := s.memWord key
    let u := s.upsetChecks (keyPc key) (keyPage key) checks
    let fails := u.strongFail (keyPc key) (keyPage key) || !u.decodes (keyPc key) (keyPage key)
    (fails = true → Completes (.strongDecodeDone ⟨false, checks⟩) s fun t =>
      t.hbm.decodes = rest ∧ t.memWord key = HbmWord.poisonOf w.stored ∧ t.last (.memory .memUncorrectable r.addr 0) ∧
      t.posted 3 (keyPc key) 3 ∧ t.reg Reg.MEM_UE_COUNT = min (2 ^ Reg.MEM_UE_COUNT.width - 1) (s.reg Reg.MEM_UE_COUNT + 1) ∧
      ∀ k, k ≠ key → t.memWord k = s.memWord k) ∧
    (fails = false → w.light = .poisoned → w.data = w.stored → Completes (.strongDecodeDone ⟨false, checks⟩) s fun t =>
      t.hbm.decodes = rest ∧ t.last (.memory .memPoisoned r.addr 0) ∧ (∀ k, t.memWord k = s.memWord k) ∧
      t.reg Reg.MEM_UE_POISON_HITS = min (2 ^ Reg.MEM_UE_POISON_HITS.width - 1) (s.reg Reg.MEM_UE_POISON_HITS + 1)) ∧
    (fails = false → ¬ (w.light = .poisoned ∧ w.data = w.stored) → Completes (.strongDecodeDone ⟨false, checks⟩) s fun t =>
      t.hbm.decodes = rest ∧ t.last (.memory .ok r.addr w.data) ∧
      t.reg Reg.MEM_STRONG_COUNT = min (2 ^ Reg.MEM_STRONG_COUNT.width - 1) (s.reg Reg.MEM_STRONG_COUNT + 1) ∧
      ∀ k, t.memWord k = if k ∈ pageKeys (keyPc key) (keyPage key) then (s.memWord k).repaired else s.memWord k)) ∧
  ∀ (s : State) (run : DecodeRun), s.hbm.decodes = [] → Ignored (.strongDecodeDone run) s

/-- R308, R309: a parity alert stops its channel, and one during the replay counts; when it clears the channel is precharged, its buffered
commands are issued again in their order, and the count starts afresh. After a fourth alert both PCs are disabled, and the
writing stripe aborts with ST_MEM_TRAIN_FAIL. -/
def Sys2Proof.Machine.ClauseAlerts : Prop :=
  (∀ (s : State) (ch : Fin 32), Completes (.caParityAlert ch) s fun t =>
    (t.hbmChannel ch).alert = true ∧ (t.hbmChannel ch).alerts = (s.hbmChannel ch).alerts + 1 ∧
    (t.hbmChannel ch).retry = (s.hbmChannel ch).retry ∧ (∀ n, n ≠ ch.val → t.hbmChannel n = s.hbmChannel n) ∧
    t.reg Reg.MEM_CA_REPLAYS = (if (s.hbmChannel ch).alert then min (2 ^ Reg.MEM_CA_REPLAYS.width - 1) (s.reg Reg.MEM_CA_REPLAYS + 1)
      else s.reg Reg.MEM_CA_REPLAYS) ∧
    Keeps [.hbm, .counters] [Reg.MEM_CA_REPLAYS, ovf 18] s t) ∧
  (∀ (s : State) (ch : Fin 32), (s.hbmChannel ch).alert = true → s.hbm.waiting = [] → Completes (.caAlertClear ch) s fun t =>
    t.hbmChannel ch = ⟨(s.hbmChannel ch).retry, false, 0⟩ ∧
    t.out = ((s.hbmChannel ch).retry.map fun c => Out.hbmCommand ch c).reverse ++ .hbmCommand ch .prechargeAll :: s.out ∧
    (∀ r ∈ t.hbm.openRows, r.1 % 64 / 2 ≠ ch.val) ∧
    t.reg Reg.MEM_CA_REPLAYS = min (2 ^ Reg.MEM_CA_REPLAYS.width - 1) (s.reg Reg.MEM_CA_REPLAYS + 1) ∧
    Keeps [.hbm, .counters, .out] [Reg.MEM_CA_REPLAYS, ovf 18] s t) ∧
  (∀ (s : State) (ch : Fin 32), (s.hbmChannel ch).alert = false → Ignored (.caAlertClear ch) s) ∧
  (∀ (s : State) (ch : Fin 32), 4 ≤ (s.hbmChannel ch).alerts → s.hbm.waiting = [] → s.hbm.decodes = [] →
    s.pcLive (2 * ch) = true → Completes (.channelFail ch) s fun t =>
      t.pcLive (2 * ch) = false ∧ t.pcLive (2 * ch + 1) = false ∧ t.reg Reg.MEM_STATUS_REHASH_PENDING = 1 ∧
      t.reg (causeField 4) = 1 ∧ t.reg Reg.MEM_CA_FAILED = min (2 ^ Reg.MEM_CA_FAILED.width - 1) (s.reg Reg.MEM_CA_FAILED + 1) ∧
      ∀ p r, Writes s p r → Aborts t p.par.id .memTrainFail) ∧
  ∀ (s : State) (ch : Fin 32), (s.hbmChannel ch).alerts < 4 → Ignored (.channelFail ch) s

/-- R303 to R307, R320, R321: MEM_CTL asks for a sweep, or by a changed rate, while none runs; a due one starts between stripes at
the rate asked for. When it is done the delays and repairs that its scans give hold, a PC with a third repair or a lane that still
fails is out of service, and a rate asked for meanwhile takes a fresh one. A refresh closes its PC's rows. FLIP_ARM writes its register. -/
def Sys2Proof.Machine.ClauseSweeps : Prop :=
  (∀ (s : State) (v : Word), s.linkUp = true → s.native = true →
    (∀ c ∈ [Instr.hbmSweepRequest v, .hbmRateRequest v], Completes c s fun t =>
      let busy := s.access.flag Reg.MEM_STATUS_SWEEPING
      let change := min 2 (t.reg Reg.MEM_CTL_RATE) != s.access.reg Reg.MEM_STATUS_RATE
      (∀ f ∈ Reg.fieldsAt 0x14000, t.reg f = written s.access v.toNat f) ∧
      t.hbm = { s.access.hbm with sweepDue := s.access.hbm.sweepDue || (!busy && (v.getLsbD 8 || change)) } ∧
      t.reg Reg.MEM_STATUS_RATE_PENDING = (if busy && change then 1 else s.access.reg Reg.MEM_STATUS_RATE_PENDING) ∧
      Keeps [.hbm] (Reg.MEM_STATUS_RATE_PENDING :: Reg.fieldsAt 0x14000) s.access t) ∧
    Completes (.flipArm v) s fun t =>
      (∀ f ∈ Reg.fieldsAt 0x14054, t.reg f = written s.access v.toNat f) ∧ Keeps [] (Reg.fieldsAt 0x14054) s.access t) ∧
  (∀ s : State, s.hbm.sweepDue = true → s.flag Reg.MEM_STATUS_SWEEPING = false → (∀ p ∈ s.stripes, p.state.moving = false) →
    2 ≤ s.reg Reg.GLB_STATUS_INSTAR → s.power.state = .active → Completes .hbmSweep s fun t =>
      t.reg Reg.MEM_STATUS_SWEEPING = 1 ∧ t.reg Reg.MEM_STATUS_TRAINED = 0 ∧
      t.reg Reg.MEM_STATUS_RATE = min 2 (s.reg Reg.MEM_CTL_RATE) ∧ t.reg Reg.MEM_STATUS_RATE_PENDING = 0 ∧
      t.hbm = { s.hbm with sweepDue := false } ∧
      Keeps [.hbm] [Reg.MEM_STATUS_SWEEPING, Reg.MEM_STATUS_TRAINED, Reg.MEM_STATUS_RATE, Reg.MEM_STATUS_RATE_PENDING] s t) ∧
  (∀ s : State, (s.hbm.sweepDue = false ∨ s.flag Reg.MEM_STATUS_SWEEPING = true ∨ ∃ p ∈ s.stripes, p.state.moving = true) →
    Ignored .hbmSweep s) ∧
  (∀ (s : State) (r : SweepPc), s.flag Reg.MEM_STATUS_SWEEPING = true → s.hbm.waiting = [] → r.pc < 64 →
    Completes (.hbmSweepDone [r]) s fun t =>
      t.reg Reg.MEM_STATUS_SWEEPING = 0 ∧ t.reg Reg.MEM_STATUS_TRAINED = 1 ∧
      t.reg Reg.MEM_STATUS_RATE_PENDING = b2n (s.rateAsked != s.reg Reg.MEM_STATUS_RATE) ∧
      t.hbm.sweepDue = (s.hbm.sweepDue || s.rateAsked != s.reg Reg.MEM_STATUS_RATE) ∧
      t.hbm.sweepFast = false ∧ SMap.get (fun _ => []) t.hbm.delays r.pc = (s.sweepResults r).map (·.delays) ∧
      t.reg (repairUsed r.pc) = min 2 (s.repairsAfter r) ∧
      (∀ pc < 64, t.pcLive pc = (s.pcLive pc && !(pc == r.pc && s.sweepFails r))) ∧
      (s.power.cold = false → s.pcLive r.pc = true → s.sweepFails r = true → t.reg Reg.MEM_STATUS_REHASH_PENDING = 1)) ∧
  (∀ (s : State) (l : List SweepPc), s.flag Reg.MEM_STATUS_SWEEPING = false → Ignored (.hbmSweepDone l) s) ∧
  (∀ (s : State) (pc : Fin 64), 1 ≤ s.reg Reg.GLB_STATUS_INSTAR → Completes (.rowRefresh pc) s fun t =>
    t.out = .refresh pc false :: s.out ∧ t.hbm.openRows = s.hbm.openRows.filter (fun r => r.1 % 64 != pc.val) ∧
    (∀ k, t.memWord k = s.memWord k) ∧ Keeps [.hbm, .out] [] s t) ∧
  ∀ (s : State) (pc : Fin 64), s.reg Reg.GLB_STATUS_INSTAR = 0 → Ignored (.rowRefresh pc) s

/-- The statements ClauseAlerts and ClauseSweeps together. A command whose condition does not hold changes nothing: the model's
choice, log 5. What the manual leaves open of HBM is free or fixed by log 12: where a refresh may come among them. -/
def Obligations.AlertsAndSweeps : Prop := ClauseAlerts ∧ ClauseSweeps

/-! ### Temperatures, performance levels and calibration (R398 to R409, R419, R442, R443) -/

/-- R398, R399, R406, R407: a sample shows each sensor's reading and its validity; the die's level follows its highest sensor with
hysteresis, and stands at warn or above while one of them is invalid. From limit on the writing stripe aborts and the core slows
down. -/
def Sys2Proof.Machine.ClauseSensors : Prop :=
  (∀ (s : State) (v : Vector SensorReading 12), s.housekeeper = true → s.cal.readings.length = 12 →
    let lo := s.reg Reg.CAL_THERM_DIE_LEVEL
    Completes (.sensorSample v) s fun t =>
      (∀ n (h : n < 12), t.reg (Reg.CAL_SENSOR_TEMP n) = unsignedOf 16 v[n].temp ∧
        t.reg (Reg.CAL_SENSOR_VALID n) = b2n (readingGood v[n]) ∧
        bitOf (t.reg Reg.CAL_THERM_INVALID) n = !readingGood v[n]) ∧
      ((∃ n, ∃ h : n < 9, readingGood v[n] = false) → 1 ≤ t.reg Reg.CAL_THERM_DIE_LEVEL) ∧
      ((∀ n (h : n < 12), readingGood v[n] = true) → ∀ m, ∀ hm : m < 9, (∀ n (h : n < 9), v[n].temp ≤ v[m].temp) →
        let hi := nextLevel lo v[m].temp s.dieThr (4 * max 1 (s.reg Reg.CAL_THR_DIE_HYST))
        t.reg Reg.CAL_THERM_DIE_LEVEL = hi ∧
        (lo < 2 → 2 ≤ hi → (∀ g < 16, s.inService g = false) →
          t.reg Reg.PWR_STATUS_PL = max (s.reg Reg.PWR_STATUS_PL) (if hi = 3 then 2 else min 2 (s.reg Reg.PWR_STATUS_PL + 1)) ∧
          ∀ p r, Writes s p r → Aborts t p.par.id .stripeAborted))) ∧
  ∀ (s : State) (v : Vector SensorReading 12), s.housekeeper = false → Ignored (.sensorSample v) s

/-- R407, R442, R443: a wanted performance level applies between stripes or in a data pause when nothing holds it; else it is
pending. So with no stripe bound a slower level that PL_LIMIT asks for applies at once. -/
def Sys2Proof.Machine.ClauseLevels : Prop :=
  (∀ s : State, s.housekeeper = true → s.levelWanted ≠ s.reg Reg.PWR_STATUS_PL → s.power.emergency ≤ 2 →
    (s.levelBoundary = true → s.levelHeld = false → Completes .plChange s fun t =>
      t.reg Reg.PWR_STATUS_PL = s.levelWanted ∧ t.reg Reg.PWR_STATUS_PL_PENDING = 0 ∧
      Keeps [.counters, .draw] [Reg.PWR_STATUS_PL, Reg.PWR_STATUS_PL_PENDING, ovf 0] s t) ∧
    ((s.levelBoundary = false ∨ s.levelHeld = true) → Completes .plChange s fun t =>
      t.reg Reg.PWR_STATUS_PL_PENDING = 1 ∧
      (s.flag Reg.MEM_STATUS_SWEEPING = true → t.reg Reg.MEM_STATUS_RATE_PENDING = 1) ∧
      Keeps [.counters] [Reg.PWR_STATUS_PL_PENDING, Reg.MEM_STATUS_RATE_PENDING, ovf 0] s t)) ∧
  (∀ s : State, s.housekeeper = true → s.native = true → s.stripes = [] → s.power.emergency = 0 →
    s.reg Reg.PWR_STATUS_PL < min 2 (s.reg Reg.PWR_CTL_PL_LIMIT) → s.reg Reg.MEM_STATUS_SWEEPING = 0 → s.reg Reg.CAL_STATUS_RUNNING = 0 →
    (∀ g < 16, s.grp g ≠ grpEq ∧ s.grp g ≠ grpVerify) → Completes .plChange s fun t =>
      t.reg Reg.PWR_STATUS_PL = min 2 (s.reg Reg.PWR_CTL_PL_LIMIT) ∧ t.reg Reg.PWR_STATUS_PL_PENDING = 0 ∧
      Keeps [.counters, .draw] [Reg.PWR_STATUS_PL, Reg.PWR_STATUS_PL_PENDING, ovf 0] s t) ∧
  ∀ s : State, s.levelWanted = s.reg Reg.PWR_STATUS_PL → Ignored .plChange s

/-- The statements ClauseSensors and ClauseLevels together. A command whose condition does not hold changes nothing: the model's
choice, log 5. Core cycles lost to a change are free, log 15; the sources of entries follow log 30. -/
def Obligations.Temperatures : Prop := ClauseSensors ∧ ClauseLevels

/-- Item i's measurement has succeeded: valid, not failed, no longer running, with the readings of its start as its reference. -/
def Sys2Proof.Machine.Measured (s t : State) (i : Nat) : Prop :=
  bitOf (t.reg Reg.CAL_STATUS_VALID) i = true ∧ bitOf (t.reg Reg.CAL_STATUS_FAIL) i = false ∧
  bitOf (t.reg Reg.CAL_STATUS_RUNNING) i = false ∧ (t.calItem i).ref = some (s.calItem i).begun ∧ t.posted 15 i 1

/-- R345, R400 to R405: a due item starts, all but deskew only with no stripe moving; a measurement commits its result with the readings of
its start, a failed one keeps the previous result; a CAL_RUN completes with its counts. -/
def Sys2Proof.Machine.ClauseItems : Prop :=
  (∀ (s : State) (i : Fin 4), bitOf (s.reg Reg.CAL_STATUS_DUE) i = true → bitOf (s.reg Reg.CAL_STATUS_RUNNING) i = false →
    s.clocked = true → 3 ≤ s.reg Reg.GLB_STATUS_INSTAR → (i.val = 0 ∨ s.stripeMoving = false) → Completes (.calItemStart i) s fun t =>
      (∀ n < 4, bitOf (t.reg Reg.CAL_STATUS_DUE) n = (bitOf (s.reg Reg.CAL_STATUS_DUE) n && n != i.val)) ∧
      (∀ n < 4, bitOf (t.reg Reg.CAL_STATUS_RUNNING) n = (bitOf (s.reg Reg.CAL_STATUS_RUNNING) n || n == i.val)) ∧
      (t.calItem i).begun = s.cal.readings ∧ Keeps [.cal] [Reg.CAL_STATUS_DUE, Reg.CAL_STATUS_RUNNING] s t) ∧
  (∀ (s : State) (i : Fin 4), (bitOf (s.reg Reg.CAL_STATUS_DUE) i = false ∨ (i.val ≠ 0 ∧ s.stripeMoving = true)) →
    Ignored (.calItemStart i) s) ∧
  (∀ s : State, s.jobs = [] →
    (∀ ts : List (Option Nat), bitOf (s.reg Reg.CAL_STATUS_RUNNING) 0 = true → (∀ g < 16, (goodCode (ts.getD g none)).isSome = true) →
      Completes (.calItemDone 0 (.deskew ts)) s fun t => Measured s t 0 ∧ ∀ g < 16, vget t.cal.targets g none = ts.getD g none) ∧
    (∀ (x y : Nat) (l : Bool), bitOf (s.reg Reg.CAL_STATUS_RUNNING) 1 = true → Completes (.calItemDone 1 (.dac x y l)) s fun t =>
      Measured s t 1 ∧ t.reg Reg.CAL_DAC_SPARES_X = x % 2 ^ Reg.CAL_DAC_SPARES_X.width ∧
      t.reg Reg.CAL_DAC_SPARES_Y = y % 2 ^ Reg.CAL_DAC_SPARES_Y.width ∧ t.reg Reg.CAL_STATUS_DAC_LIMITED = b2n l) ∧
    (∀ a b c : Nat, bitOf (s.reg Reg.CAL_STATUS_RUNNING) 2 = true → Completes (.calItemDone 2 (.interpolator a b c)) s fun t =>
      Measured s t 2 ∧ t.reg Reg.STG_LAT = a % 2 ^ Reg.STG_LAT.width) ∧
    (∀ a b : Int, bitOf (s.reg Reg.CAL_STATUS_RUNNING) 3 = true → Completes (.calItemDone 3 (.adc a b)) s fun t =>
      Measured s t 3 ∧ t.reg Reg.CAL_ADC_OFS_CH0 = unsignedOf 16 a ∧ t.reg Reg.CAL_ADC_OFS_CH1 = unsignedOf 16 b) ∧
    ∀ i : Fin 4, bitOf (s.reg Reg.CAL_STATUS_RUNNING) i = true → Completes (.calItemDone i .failed) s fun t =>
      bitOf (t.reg Reg.CAL_STATUS_FAIL) i = true ∧ bitOf (t.reg Reg.CAL_STATUS_RUNNING) i = false ∧
      t.reg Reg.CAL_STATUS_VALID = s.reg Reg.CAL_STATUS_VALID ∧ (t.calItem i).ref = (s.calItem i).ref ∧ t.posted 15 i 2 ∧
      (bitOf (s.reg Reg.CAL_STATUS_FAIL) i = false → t.reg (causeField 8) = 1)) ∧
  (∀ (s : State) (i : Fin 4) (o : Origin) (c k : Nat), bitOf (s.reg Reg.CAL_STATUS_RUNNING) i = true →
    s.jobs = [.calRun o [i.val] c k] → s.cprOf o.ring ≤ 4 → Completes (.calItemDone i .failed) s fun t =>
      t.jobs = [] ∧ t.heldCpl (s.cprOf o.ring) = s.heldCpl (s.cprOf o.ring) ++ [Completion.mk' o .ok c (k + 1) 0]) ∧
  ∀ (s : State) (i : Fin 4) (m : CalMeasure), bitOf (s.reg Reg.CAL_STATUS_RUNNING) i = false → Ignored (.calItemDone i m) s

/-- R404: a group's deskew code moves one step at a time toward its target, and rests there. -/
def Sys2Proof.Machine.ClauseDeskew : Prop :=
  (∀ (s : State) (g : Fin 16) (c : Nat), vget s.cal.targets g none = some c → c ≤ 255 → Completes (.calDeskewStep g) s fun t =>
    let old := s.reg (deskewCode g)
    t.reg (deskewCode g) = (if old < c then old + 1 else if c < old then old - 1 else old) ∧
    vget t.cal.targets g none = (if t.reg (deskewCode g) = c then none else some c) ∧
    (∀ n, n ≠ g.val → vget t.cal.targets n none = vget s.cal.targets n none) ∧ Keeps [.cal, .counters] [deskewCode g, ovf 22] s t) ∧
  ∀ (s : State) (g : Fin 16), vget s.cal.targets g none = none → Ignored (.calDeskewStep g) s

/-- R345, R408, R419: BEAM_CHECK ends with each beam fired alone, 16 windows at gray 0 and 16 at the largest gray, and in native mode
scanned in X and in Y; its table written to the host, its counts in the completion, and where it asked for it the beams loaded. -/
def Sys2Proof.Machine.ClauseEyespot : Prop :=
  (∀ (s : State) (o : Origin) (addr : Nat) (load : Bool) (l : List EyeReading), s.jobs = [.beamCheck o addr load] →
    l.length = 262144 → (s.auxAxis s.shuttleAxis).move = none → s.clocked = true → s.cprOf o.ring ≤ 4 →
    let b := l.mapIdx fun i r => eyeBeam s.native (s.reg Reg.CAL_EYE_REF) (s.reg Reg.CAL_EYE_CTL_WEAK) i r
    Completes (.beamCheckDone l) s fun t =>
      t.jobs = [] ∧ (∀ b < 262144, .eyespot b 0 16 ∈ t.out ∧ .eyespot b (if s.native then 63 else 15) 16 ∈ t.out ∧
        (s.native = true → .eyeScan b false ∈ t.out ∧ .eyeScan b true ∈ t.out)) ∧ (load = true → t.reg Reg.BEM_STATUS_BT_VALID = 1 ∧ t.reg Reg.BEM_STATUS_DM_VALID = 1) ∧
      (load = false → t.beams = s.beams ∧ t.defects = s.defects) ∧
      (s.native = true → .hostWrite addr (b.flatMap Beam.bytes ++ defectBytes b) ∈ t.out ∧
        Finishes s t o.ring (Completion.mk' o .ok (beamCount b .weak) (beamCount b .dead) (beamCount b .stuckOn))) ∧
      (s.native = false → .hostWrite addr (b.flatMap Beam.xk2Bytes) ∈ t.out ∧
        Finishes s t o.ring (Completion.mk' o .ok (beamCount b .dead) 0 0))) ∧
  ∀ (s : State) (l : List EyeReading), s.jobs = [] → Ignored (.beamCheckDone l) s

/-- The statements ClauseItems, ClauseDeskew and ClauseEyespot together. A command whose condition does not hold changes
nothing: the model's choice, log 5. The edge that a scan did not find is free, log 16; what a CAL_RUN counts follows log 23. -/
def Obligations.CalibrationAndEyespot : Prop := ClauseItems ∧ ClauseDeskew ∧ ClauseEyespot

/-! ### The block as a whole -/

/-- A step on a state with command i at the front of its queue is exec of i on the state with the queue's rest (the block's
interface; the model's own). A command leaves the queue as it finds it. The queue is the model's own, log 35. -/
def Obligations.StepRunsTheFrontCommand : Prop :=
  ∀ (s : State) (i : Instr) (rest : List Instr), s.pending = i :: rest → step s = exec i { s with pending := rest }

/-- The state after n steps, where none of them is a fault or a refusal. -/
def Sys2Proof.Machine.runs : Nat → State → Option State
  | 0, s => some s
  | n + 1, s => match step s with
    | .next t => runs n t
    | _ => none

/-- Commands run first in, first out: after as many steps as l is long, a queue that began with l has exactly its rest left, and
no step was a fault or a refusal. The queue is the model's own, log 35; that no command stops the
block, log 2. -/
def Obligations.QueueRunsInOrder : Prop :=
  ∀ (l rest : List Instr) (s : State), s.pending = l ++ rest → ∃ t, runs l.length s = some t ∧ t.pending = rest ∧ t.part = s.part

/-- The command is a COLD_RESET. -/
def Sys2Proof.Machine.isColdReset (i : Instr) : Bool := match i with | .coldReset _ _ => true | _ => false

/-- No command of a list is a COLD_RESET. -/
abbrev Sys2Proof.Machine.NoColdReset (l : List Instr) : Prop := ∀ i ∈ l, isColdReset i = false

/-- The latched mode and the part, with no cold reset waiting. -/
abbrev Sys2Proof.Machine.Latched (m : Mode) (p : Part) (s : State) : Prop := s.mode = m ∧ s.part = p ∧ NoColdReset s.pending

/-- R2, R3, R410 as an invariant: the mode stays as it was latched, and the part as it was made, while no cold reset waits: every
step keeps the mode, the part and that no cold reset waits. -/
def Obligations.ModeStaysLatched : Prop :=
  ∀ (m : Mode) (p : Part) (s t : State), Latched m p s → step s = .next t → Latched m p t

/-- R2: a cold reset latches the mode that MODESEL selects, high for native and low for XK2, and over any number of steps without one the
mode holds. -/
def Obligations.ModeIsSampledAtColdReset : Prop :=
  (∀ (s : State) (c : ColdCause) (m : Bool), s.coldActs c = true → Completes (.coldReset c m) s fun t =>
    t.mode = if m then .native else .xk2) ∧
  ∀ (n : Nat) (s : State), NoColdReset s.pending → ∃ t, runs n s = some t ∧ t.mode = s.mode ∧ t.part = s.part ∧
    t.pending = s.pending.drop n

/-- R410 as an invariant, at reset: the mode is the native one and no cold reset waits (log 4). -/
def Obligations.LatchedAtReset : Prop := Latched .native .fx640 State.reset

/-- R354, with log 1: with no command waiting one cycle of the 400 MHz clock passes: the increment of R354 and a slew in progress
are added to the counter, and the queue stays empty. With no checker locked, no rate of injected errors set, no byte waiting for
a check unit and the blanker's temperature as it shows, nothing else of the machine's work moves. -/
def Obligations.EmptyQueueLetsTimePass : Prop :=
  ∀ s : State, s.pending = [] → s.flag Reg.PWR_STATUS_RST_BUSY = false → ∃ t, step s = .next t ∧ t.pending = [] ∧
    ((t.time.units : Nat) : Int) = ((s.time.units : Int) + s.increment) % ((2 ^ 48 * fracSecond : Nat) : Int) ∧
    (s.power.state = .active → s.increment = ((0x280000000 : Nat) : Int) + s.sreg Reg.TIM_RATE + s.slewNow) ∧
    ((∀ g < 16, ∀ i < 11, s.reg (Reg.MPH_PRBS_CTL_LOCK g i) = 0 ∧ s.reg (Reg.MPH_PRBS_CTL_INJ_RATE g i) = 0) → s.obs.wfQueue = [] →
      (∀ e ∈ s.tempView, s.reg e.1 = e.2) →
      t.stripes = s.stripes ∧ t.packages = s.packages ∧ t.hbm = s.hbm ∧ t.link = s.link ∧ t.stage = s.stage ∧ t.out = s.out)

/-- The state after reset: every register field reads its reset value, no counter, event, stripe, package or command is there, and
the memory lists nothing. The table gives no word of a command any bits, so no word spells one. The values that the manual does
not give are those of logs 4 and 7, and FX640 in native mode is log 4's choice. -/
def Obligations.AfterReset : Prop :=
  (∀ f : Field, State.reset.reg f = f.rst % 2 ^ 32) ∧ State.reset.pending = [] ∧ State.reset.stripes = [] ∧ State.reset.packages = [] ∧
  State.reset.obs.events = [] ∧ (∀ b n, State.reset.counter b n = 0) ∧
  (∀ k, (State.reset.memWord k) = HbmWord.zero) ∧ ∀ (s : State) (nbits w : Nat), decodeTableWord nbits w = none ∧
    s.withFetchWord nbits w = s

/-- R298: each device address below the end of a map of live PCs lies in one place: two addresses in the same place are in the same
64-bit word; every word of every live PC has an address, which is mapped back to it. -/
def Obligations.MapIsOneToOne : Prop :=
  ∀ live : Nat → Bool, (∃ g < 64, live g = true) →
    let map := liveMap live
    (∀ g, g ∈ map ↔ g < 64 ∧ live g = true) ∧
    (∀ a, (hbmPlace map a).1 ∈ map) ∧ (∀ a b, hbmPlace map a = hbmPlace map b → a / 8 = b / 8) ∧
    ∀ pc ∈ map, ∀ word, hbmPlace map (hbmAddr map pc word) = (pc, word)

/-- R105, R106, R109, R111: what the cache stores of a plane is what the filler reads, whatever tokens the encoder chose: a block
that encodePlane hands on decodes to its plane and passes its check, raw or compressed. -/
def Obligations.CachedPlanesReadBack : Prop :=
  ∀ (rawOnly : Bool) (plane tokens : List Byte) (slot epoch seed : Nat), plane.length = 65536 →
    let x := encodePlane rawOnly plane tokens
    decodeBlock seed ⟨slot, epoch, x.raw, x.body, crc32cSeeded seed plane⟩ = some plane ∧ x.body.length ≤ 65536

/-- R95: a copy of n bytes from distance d, here on an output held newest first, leaves what was there and appends n bytes, each equal to
the byte d positions before it, appended ones included, so that a short distance repeats its pattern; a MATCH with D = 0 repeats the last
byte n times. -/
def Obligations.CopiesRepeatTheirPattern : Prop :=
  (∀ (d n : Nat) (out : List Byte), 1 ≤ d → d ≤ out.length →
    (ftcCopy d n out).length = out.length + n ∧ (ftcCopy d n out).drop n = out ∧
    ∀ i < n, (ftcCopy d n out).getD i 0 = (ftcCopy d n out).getD (i + d) 0) ∧
  ∀ (rowPitch c : Nat) (ops : List Byte) (b : Byte) (out : List Byte), 0x80 ≤ c → c < 0xC0 → leAt ops 0 2 = 0 →
    ∃ n d, ftcToken rowPitch c ops = .copy n d ∧ n = c - 0x80 + 3 ∧ ftcCopy d n (b :: out) = List.replicate n b ++ b :: out
end

