-- ==== Sys2Proof/Laws/SMap.lean ====
section
/-! SUPPORT. Sparse tables: a read after a write gives what was written, a write leaves every other key alone, and every
operation keeps the canonical form. -/
namespace Sys2Proof.Machine

variable {β : Type}

@[simp] theorem SMap.get_nil (d : Nat → β) (k : Nat) : SMap.get d [] k = d k := rfl

theorem SMap.get_cons (d : Nat → β) (a : Nat) (v : β) (t : SMap β) (k : Nat) :
    SMap.get d ((a, v) :: t) k = if a = k then v else SMap.get d t k := rfl

theorem SMap.get_put_same (d : Nat → β) (m : SMap β) (k : Nat) (v : β) : SMap.get d (SMap.put m k v) k = v := by
  induction m with
  | nil => simp [SMap.put, SMap.get]
  | cons e t ih =>
    obtain ⟨a, w⟩ := e
    unfold SMap.put
    split
    · simp [SMap.get]
    · split
      · simp [SMap.get]
      · simp_all [SMap.get]

theorem SMap.get_put_ne (d : Nat → β) (m : SMap β) (k j : Nat) (v : β) (h : j ≠ k) :
    SMap.get d (SMap.put m k v) j = SMap.get d m j := by
  induction m with
  | nil => simp [SMap.put, SMap.get, Ne.symm h]
  | cons e t ih =>
    obtain ⟨a, w⟩ := e
    unfold SMap.put
    split
    · simp [SMap.get, Ne.symm h]
    · split
      · simp_all [SMap.get, Ne.symm h]
      · simp_all [SMap.get]

theorem SMap.get_erase_same (d : Nat → β) (m : SMap β) (k : Nat) : SMap.get d (SMap.erase m k) k = d k := by
  induction m with
  | nil => rfl
  | cons e t ih =>
    obtain ⟨a, w⟩ := e
    by_cases h : a = k <;> simp_all [SMap.erase, SMap.get]

theorem SMap.get_erase_ne (d : Nat → β) (m : SMap β) (k j : Nat) (h : j ≠ k) :
    SMap.get d (SMap.erase m k) j = SMap.get d m j := by
  induction m with
  | nil => rfl
  | cons e t ih =>
    obtain ⟨a, w⟩ := e
    simp only [SMap.erase] at ih
    by_cases h' : a = k
    · subst h'
      simp [SMap.erase, SMap.get, Ne.symm h, ih]
    · simp [SMap.erase, SMap.get, h', ih]

/-- Read after write: the value written. -/
@[simp] theorem SMap.get_set_same [DecidableEq β] (d : Nat → β) (m : SMap β) (k : Nat) (v : β) :
    SMap.get d (SMap.set d m k v) k = v := by
  unfold SMap.set
  split
  · rename_i h; rw [SMap.get_erase_same, h]
  · exact SMap.get_put_same d m k v

/-- A write leaves every other key alone, under any default. -/
theorem SMap.get_set_ne [DecidableEq β] (d d' : Nat → β) (m : SMap β) (k j : Nat) (v : β) (h : j ≠ k) :
    SMap.get d (SMap.set d' m k v) j = SMap.get d m j := by
  unfold SMap.set
  split
  · exact SMap.get_erase_ne d m k j h
  · exact SMap.get_put_ne d m k j v h

/-- A read depends on the default at its own key only. -/
theorem SMap.get_congr (d d' : Nat → β) (m : SMap β) (k : Nat) (h : d k = d' k) : SMap.get d m k = SMap.get d' m k := by
  induction m with
  | nil => exact h
  | cons e t ih => obtain ⟨a, w⟩ := e; simp [SMap.get, ih]

/-! ### The canonical form -/

theorem SMap.wfFrom_weaken [DecidableEq β] (d : Nat → β) (m : SMap β) (lo lo' : Option Nat)
    (h : ∀ l, lo' = some l → ∃ l', lo = some l' ∧ l ≤ l') (hw : SMap.wfFrom d lo m = true) : SMap.wfFrom d lo' m = true := by
  cases m with
  | nil => rfl
  | cons e t =>
    obtain ⟨a, w⟩ := e
    unfold SMap.wfFrom at hw ⊢
    cases lo' with
    | none => simp_all
    | some l =>
      obtain ⟨l', rfl, hl⟩ := h l rfl
      simp only [Bool.and_eq_true, decide_eq_true_eq] at hw ⊢
      exact ⟨⟨by omega, hw.1.2⟩, hw.2⟩

theorem SMap.wfFrom_put [DecidableEq β] (d : Nat → β) (m : SMap β) (lo : Option Nat) (k : Nat) (v : β) (hv : v ≠ d k)
    (hl : ∀ l, lo = some l → l < k) (hw : SMap.wfFrom d lo m = true) : SMap.wfFrom d lo (SMap.put m k v) = true := by
  induction m generalizing lo with
  | nil => cases lo <;> simp_all [SMap.put, SMap.wfFrom]
  | cons e t ih =>
    obtain ⟨a, w⟩ := e
    unfold SMap.put
    simp only [SMap.wfFrom, Bool.and_eq_true, decide_eq_true_eq] at hw
    split
    · rename_i hk
      simp only [SMap.wfFrom, Bool.and_eq_true, decide_eq_true_eq]
      refine ⟨⟨?_, hv⟩, ⟨hk, hw.1.2⟩, hw.2⟩
      cases lo <;> simp_all
    · split
      · rename_i hk
        subst hk
        simp only [SMap.wfFrom, Bool.and_eq_true, decide_eq_true_eq]
        exact ⟨⟨hw.1.1, hv⟩, hw.2⟩
      · rename_i h1 h2
        simp only [SMap.wfFrom, Bool.and_eq_true, decide_eq_true_eq]
        exact ⟨hw.1, ih (some a) (fun l hl => by cases hl; omega) hw.2⟩

theorem SMap.wfFrom_filter [DecidableEq β] (d : Nat → β) (m : SMap β) (lo : Option Nat) (p : Nat × β → Bool)
    (hw : SMap.wfFrom d lo m = true) : SMap.wfFrom d lo (m.filter p) = true := by
  induction m generalizing lo with
  | nil => rfl
  | cons e t ih =>
    obtain ⟨a, w⟩ := e
    simp only [SMap.wfFrom, Bool.and_eq_true, decide_eq_true_eq] at hw
    by_cases h : p (a, w) = true
    · simp only [List.filter, h, SMap.wfFrom, Bool.and_eq_true, decide_eq_true_eq]
      exact ⟨hw.1, ih _ hw.2⟩
    · simp only [List.filter, h]
      refine SMap.wfFrom_weaken d _ (some a) lo ?_ (ih _ hw.2)
      rintro l rfl
      simp at hw
      exact ⟨a, rfl, by omega⟩

/-- A write keeps the canonical form. -/
theorem SMap.wf_set [DecidableEq β] (d : Nat → β) (m : SMap β) (k : Nat) (v : β) (hw : SMap.wf d m = true) :
    SMap.wf d (SMap.set d m k v) = true := by
  unfold SMap.set
  split
  · exact SMap.wfFrom_filter d m none _ hw
  · rename_i h; exact SMap.wfFrom_put d m none k v h (by simp) hw

/-- Cutting a table to some keys keeps the canonical form. -/
theorem SMap.wf_restrict [DecidableEq β] (d : Nat → β) (keep : Nat → Bool) (m : SMap β) (hw : SMap.wf d m = true) :
    SMap.wf d (SMap.restrict keep m) = true := SMap.wfFrom_filter d m none _ hw

end Sys2Proof.Machine
end

