-- ==== Sys2Proof/Laws/State.lean ====
section
/-! SUPPORT. The fields of State that each update leaves alone, one lemma each, by rfl. -/
namespace Sys2Proof.Machine

@[simp] theorem State.setReg_part (s : State) (f : Field) (v : Nat) : (s.setReg f v).part = s.part := rfl
@[simp] theorem State.setReg_mode (s : State) (f : Field) (v : Nat) : (s.setReg f v).mode = s.mode := rfl
@[simp] theorem State.setReg_power (s : State) (f : Field) (v : Nat) : (s.setReg f v).power = s.power := rfl
@[simp] theorem State.setReg_host (s : State) (f : Field) (v : Nat) : (s.setReg f v).host = s.host := rfl
@[simp] theorem State.setReg_obs (s : State) (f : Field) (v : Nat) : (s.setReg f v).obs = s.obs := rfl
@[simp] theorem State.setReg_time (s : State) (f : Field) (v : Nat) : (s.setReg f v).time = s.time := rfl
@[simp] theorem State.setReg_link (s : State) (f : Field) (v : Nat) : (s.setReg f v).link = s.link := rfl
@[simp] theorem State.setReg_stage (s : State) (f : Field) (v : Nat) : (s.setReg f v).stage = s.stage := rfl
@[simp] theorem State.setReg_looper (s : State) (f : Field) (v : Nat) : (s.setReg f v).looper = s.looper := rfl
@[simp] theorem State.setReg_hbm (s : State) (f : Field) (v : Nat) : (s.setReg f v).hbm = s.hbm := rfl
@[simp] theorem State.setReg_cal (s : State) (f : Field) (v : Nat) : (s.setReg f v).cal = s.cal := rfl
@[simp] theorem State.setReg_channels (s : State) (f : Field) (v : Nat) : (s.setReg f v).channels = s.channels := rfl
@[simp] theorem State.setReg_packages (s : State) (f : Field) (v : Nat) : (s.setReg f v).packages = s.packages := rfl
@[simp] theorem State.setReg_refused (s : State) (f : Field) (v : Nat) : (s.setReg f v).refused = s.refused := rfl
@[simp] theorem State.setReg_ages (s : State) (f : Field) (v : Nat) : (s.setReg f v).ages = s.ages := rfl
@[simp] theorem State.setReg_slices (s : State) (f : Field) (v : Nat) : (s.setReg f v).slices = s.slices := rfl
@[simp] theorem State.setReg_shadows (s : State) (f : Field) (v : Nat) : (s.setReg f v).shadows = s.shadows := rfl
@[simp] theorem State.setReg_rot (s : State) (f : Field) (v : Nat) : (s.setReg f v).rot = s.rot := rfl
@[simp] theorem State.setReg_ftc (s : State) (f : Field) (v : Nat) : (s.setReg f v).ftc = s.ftc := rfl
@[simp] theorem State.setReg_kernels (s : State) (f : Field) (v : Nat) : (s.setReg f v).kernels = s.kernels := rfl
@[simp] theorem State.setReg_gridJob (s : State) (f : Field) (v : Nat) : (s.setReg f v).gridJob = s.gridJob := rfl
@[simp] theorem State.setReg_beams (s : State) (f : Field) (v : Nat) : (s.setReg f v).beams = s.beams := rfl
@[simp] theorem State.setReg_defects (s : State) (f : Field) (v : Nat) : (s.setReg f v).defects = s.defects := rfl
@[simp] theorem State.setReg_stripes (s : State) (f : Field) (v : Nat) : (s.setReg f v).stripes = s.stripes := rfl
@[simp] theorem State.setReg_reports (s : State) (f : Field) (v : Nat) : (s.setReg f v).reports = s.reports := rfl
@[simp] theorem State.setReg_bands (s : State) (f : Field) (v : Nat) : (s.setReg f v).bands = s.bands := rfl
@[simp] theorem State.setReg_jobs (s : State) (f : Field) (v : Nat) : (s.setReg f v).jobs = s.jobs := rfl
@[simp] theorem State.setReg_lastTick (s : State) (f : Field) (v : Nat) : (s.setReg f v).lastTick = s.lastTick := rfl
@[simp] theorem State.setReg_out (s : State) (f : Field) (v : Nat) : (s.setReg f v).out = s.out := rfl
@[simp] theorem State.setReg_draw (s : State) (f : Field) (v : Nat) : (s.setReg f v).draw = s.draw := rfl
@[simp] theorem State.setReg_pending (s : State) (f : Field) (v : Nat) : (s.setReg f v).pending = s.pending := rfl

@[simp] theorem State.setFlag_part (s : State) (f : Field) (b : Bool) : (s.setFlag f b).part = s.part := rfl
@[simp] theorem State.setFlag_mode (s : State) (f : Field) (b : Bool) : (s.setFlag f b).mode = s.mode := rfl
@[simp] theorem State.setFlag_power (s : State) (f : Field) (b : Bool) : (s.setFlag f b).power = s.power := rfl
@[simp] theorem State.setFlag_host (s : State) (f : Field) (b : Bool) : (s.setFlag f b).host = s.host := rfl
@[simp] theorem State.setFlag_obs (s : State) (f : Field) (b : Bool) : (s.setFlag f b).obs = s.obs := rfl
@[simp] theorem State.setFlag_time (s : State) (f : Field) (b : Bool) : (s.setFlag f b).time = s.time := rfl
@[simp] theorem State.setFlag_link (s : State) (f : Field) (b : Bool) : (s.setFlag f b).link = s.link := rfl
@[simp] theorem State.setFlag_stage (s : State) (f : Field) (b : Bool) : (s.setFlag f b).stage = s.stage := rfl
@[simp] theorem State.setFlag_looper (s : State) (f : Field) (b : Bool) : (s.setFlag f b).looper = s.looper := rfl
@[simp] theorem State.setFlag_hbm (s : State) (f : Field) (b : Bool) : (s.setFlag f b).hbm = s.hbm := rfl
@[simp] theorem State.setFlag_cal (s : State) (f : Field) (b : Bool) : (s.setFlag f b).cal = s.cal := rfl
@[simp] theorem State.setFlag_channels (s : State) (f : Field) (b : Bool) : (s.setFlag f b).channels = s.channels := rfl
@[simp] theorem State.setFlag_packages (s : State) (f : Field) (b : Bool) : (s.setFlag f b).packages = s.packages := rfl
@[simp] theorem State.setFlag_refused (s : State) (f : Field) (b : Bool) : (s.setFlag f b).refused = s.refused := rfl
@[simp] theorem State.setFlag_ages (s : State) (f : Field) (b : Bool) : (s.setFlag f b).ages = s.ages := rfl
@[simp] theorem State.setFlag_slices (s : State) (f : Field) (b : Bool) : (s.setFlag f b).slices = s.slices := rfl
@[simp] theorem State.setFlag_shadows (s : State) (f : Field) (b : Bool) : (s.setFlag f b).shadows = s.shadows := rfl
@[simp] theorem State.setFlag_rot (s : State) (f : Field) (b : Bool) : (s.setFlag f b).rot = s.rot := rfl
@[simp] theorem State.setFlag_ftc (s : State) (f : Field) (b : Bool) : (s.setFlag f b).ftc = s.ftc := rfl
@[simp] theorem State.setFlag_kernels (s : State) (f : Field) (b : Bool) : (s.setFlag f b).kernels = s.kernels := rfl
@[simp] theorem State.setFlag_gridJob (s : State) (f : Field) (b : Bool) : (s.setFlag f b).gridJob = s.gridJob := rfl
@[simp] theorem State.setFlag_beams (s : State) (f : Field) (b : Bool) : (s.setFlag f b).beams = s.beams := rfl
@[simp] theorem State.setFlag_defects (s : State) (f : Field) (b : Bool) : (s.setFlag f b).defects = s.defects := rfl
@[simp] theorem State.setFlag_stripes (s : State) (f : Field) (b : Bool) : (s.setFlag f b).stripes = s.stripes := rfl
@[simp] theorem State.setFlag_reports (s : State) (f : Field) (b : Bool) : (s.setFlag f b).reports = s.reports := rfl
@[simp] theorem State.setFlag_bands (s : State) (f : Field) (b : Bool) : (s.setFlag f b).bands = s.bands := rfl
@[simp] theorem State.setFlag_jobs (s : State) (f : Field) (b : Bool) : (s.setFlag f b).jobs = s.jobs := rfl
@[simp] theorem State.setFlag_lastTick (s : State) (f : Field) (b : Bool) : (s.setFlag f b).lastTick = s.lastTick := rfl
@[simp] theorem State.setFlag_out (s : State) (f : Field) (b : Bool) : (s.setFlag f b).out = s.out := rfl
@[simp] theorem State.setFlag_draw (s : State) (f : Field) (b : Bool) : (s.setFlag f b).draw = s.draw := rfl
@[simp] theorem State.setFlag_pending (s : State) (f : Field) (b : Bool) : (s.setFlag f b).pending = s.pending := rfl

@[simp] theorem State.setRegs_part (s : State) (l : List (Field × Nat)) : (s.setRegs l).part = s.part := rfl
@[simp] theorem State.setRegs_mode (s : State) (l : List (Field × Nat)) : (s.setRegs l).mode = s.mode := rfl
@[simp] theorem State.setRegs_power (s : State) (l : List (Field × Nat)) : (s.setRegs l).power = s.power := rfl
@[simp] theorem State.setRegs_host (s : State) (l : List (Field × Nat)) : (s.setRegs l).host = s.host := rfl
@[simp] theorem State.setRegs_obs (s : State) (l : List (Field × Nat)) : (s.setRegs l).obs = s.obs := rfl
@[simp] theorem State.setRegs_time (s : State) (l : List (Field × Nat)) : (s.setRegs l).time = s.time := rfl
@[simp] theorem State.setRegs_link (s : State) (l : List (Field × Nat)) : (s.setRegs l).link = s.link := rfl
@[simp] theorem State.setRegs_stage (s : State) (l : List (Field × Nat)) : (s.setRegs l).stage = s.stage := rfl
@[simp] theorem State.setRegs_looper (s : State) (l : List (Field × Nat)) : (s.setRegs l).looper = s.looper := rfl
@[simp] theorem State.setRegs_hbm (s : State) (l : List (Field × Nat)) : (s.setRegs l).hbm = s.hbm := rfl
@[simp] theorem State.setRegs_cal (s : State) (l : List (Field × Nat)) : (s.setRegs l).cal = s.cal := rfl
@[simp] theorem State.setRegs_channels (s : State) (l : List (Field × Nat)) : (s.setRegs l).channels = s.channels := rfl
@[simp] theorem State.setRegs_packages (s : State) (l : List (Field × Nat)) : (s.setRegs l).packages = s.packages := rfl
@[simp] theorem State.setRegs_refused (s : State) (l : List (Field × Nat)) : (s.setRegs l).refused = s.refused := rfl
@[simp] theorem State.setRegs_ages (s : State) (l : List (Field × Nat)) : (s.setRegs l).ages = s.ages := rfl
@[simp] theorem State.setRegs_slices (s : State) (l : List (Field × Nat)) : (s.setRegs l).slices = s.slices := rfl
@[simp] theorem State.setRegs_shadows (s : State) (l : List (Field × Nat)) : (s.setRegs l).shadows = s.shadows := rfl
@[simp] theorem State.setRegs_rot (s : State) (l : List (Field × Nat)) : (s.setRegs l).rot = s.rot := rfl
@[simp] theorem State.setRegs_ftc (s : State) (l : List (Field × Nat)) : (s.setRegs l).ftc = s.ftc := rfl
@[simp] theorem State.setRegs_kernels (s : State) (l : List (Field × Nat)) : (s.setRegs l).kernels = s.kernels := rfl
@[simp] theorem State.setRegs_gridJob (s : State) (l : List (Field × Nat)) : (s.setRegs l).gridJob = s.gridJob := rfl
@[simp] theorem State.setRegs_beams (s : State) (l : List (Field × Nat)) : (s.setRegs l).beams = s.beams := rfl
@[simp] theorem State.setRegs_defects (s : State) (l : List (Field × Nat)) : (s.setRegs l).defects = s.defects := rfl
@[simp] theorem State.setRegs_stripes (s : State) (l : List (Field × Nat)) : (s.setRegs l).stripes = s.stripes := rfl
@[simp] theorem State.setRegs_reports (s : State) (l : List (Field × Nat)) : (s.setRegs l).reports = s.reports := rfl
@[simp] theorem State.setRegs_bands (s : State) (l : List (Field × Nat)) : (s.setRegs l).bands = s.bands := rfl
@[simp] theorem State.setRegs_jobs (s : State) (l : List (Field × Nat)) : (s.setRegs l).jobs = s.jobs := rfl
@[simp] theorem State.setRegs_lastTick (s : State) (l : List (Field × Nat)) : (s.setRegs l).lastTick = s.lastTick := rfl
@[simp] theorem State.setRegs_out (s : State) (l : List (Field × Nat)) : (s.setRegs l).out = s.out := rfl
@[simp] theorem State.setRegs_draw (s : State) (l : List (Field × Nat)) : (s.setRegs l).draw = s.draw := rfl
@[simp] theorem State.setRegs_pending (s : State) (l : List (Field × Nat)) : (s.setRegs l).pending = s.pending := rfl

@[simp] theorem State.addReg_part (s : State) (f : Field) (k : Nat) : (s.addReg f k).part = s.part := rfl
@[simp] theorem State.addReg_mode (s : State) (f : Field) (k : Nat) : (s.addReg f k).mode = s.mode := rfl
@[simp] theorem State.addReg_power (s : State) (f : Field) (k : Nat) : (s.addReg f k).power = s.power := rfl
@[simp] theorem State.addReg_host (s : State) (f : Field) (k : Nat) : (s.addReg f k).host = s.host := rfl
@[simp] theorem State.addReg_obs (s : State) (f : Field) (k : Nat) : (s.addReg f k).obs = s.obs := rfl
@[simp] theorem State.addReg_time (s : State) (f : Field) (k : Nat) : (s.addReg f k).time = s.time := rfl
@[simp] theorem State.addReg_link (s : State) (f : Field) (k : Nat) : (s.addReg f k).link = s.link := rfl
@[simp] theorem State.addReg_stage (s : State) (f : Field) (k : Nat) : (s.addReg f k).stage = s.stage := rfl
@[simp] theorem State.addReg_looper (s : State) (f : Field) (k : Nat) : (s.addReg f k).looper = s.looper := rfl
@[simp] theorem State.addReg_hbm (s : State) (f : Field) (k : Nat) : (s.addReg f k).hbm = s.hbm := rfl
@[simp] theorem State.addReg_cal (s : State) (f : Field) (k : Nat) : (s.addReg f k).cal = s.cal := rfl
@[simp] theorem State.addReg_channels (s : State) (f : Field) (k : Nat) : (s.addReg f k).channels = s.channels := rfl
@[simp] theorem State.addReg_packages (s : State) (f : Field) (k : Nat) : (s.addReg f k).packages = s.packages := rfl
@[simp] theorem State.addReg_refused (s : State) (f : Field) (k : Nat) : (s.addReg f k).refused = s.refused := rfl
@[simp] theorem State.addReg_ages (s : State) (f : Field) (k : Nat) : (s.addReg f k).ages = s.ages := rfl
@[simp] theorem State.addReg_slices (s : State) (f : Field) (k : Nat) : (s.addReg f k).slices = s.slices := rfl
@[simp] theorem State.addReg_shadows (s : State) (f : Field) (k : Nat) : (s.addReg f k).shadows = s.shadows := rfl
@[simp] theorem State.addReg_rot (s : State) (f : Field) (k : Nat) : (s.addReg f k).rot = s.rot := rfl
@[simp] theorem State.addReg_ftc (s : State) (f : Field) (k : Nat) : (s.addReg f k).ftc = s.ftc := rfl
@[simp] theorem State.addReg_kernels (s : State) (f : Field) (k : Nat) : (s.addReg f k).kernels = s.kernels := rfl
@[simp] theorem State.addReg_gridJob (s : State) (f : Field) (k : Nat) : (s.addReg f k).gridJob = s.gridJob := rfl
@[simp] theorem State.addReg_beams (s : State) (f : Field) (k : Nat) : (s.addReg f k).beams = s.beams := rfl
@[simp] theorem State.addReg_defects (s : State) (f : Field) (k : Nat) : (s.addReg f k).defects = s.defects := rfl
@[simp] theorem State.addReg_stripes (s : State) (f : Field) (k : Nat) : (s.addReg f k).stripes = s.stripes := rfl
@[simp] theorem State.addReg_reports (s : State) (f : Field) (k : Nat) : (s.addReg f k).reports = s.reports := rfl
@[simp] theorem State.addReg_bands (s : State) (f : Field) (k : Nat) : (s.addReg f k).bands = s.bands := rfl
@[simp] theorem State.addReg_jobs (s : State) (f : Field) (k : Nat) : (s.addReg f k).jobs = s.jobs := rfl
@[simp] theorem State.addReg_lastTick (s : State) (f : Field) (k : Nat) : (s.addReg f k).lastTick = s.lastTick := rfl
@[simp] theorem State.addReg_out (s : State) (f : Field) (k : Nat) : (s.addReg f k).out = s.out := rfl
@[simp] theorem State.addReg_draw (s : State) (f : Field) (k : Nat) : (s.addReg f k).draw = s.draw := rfl
@[simp] theorem State.addReg_pending (s : State) (f : Field) (k : Nat) : (s.addReg f k).pending = s.pending := rfl

@[simp] theorem State.emit_part (s : State) (o : Out) : (s.emit o).part = s.part := rfl
@[simp] theorem State.emit_mode (s : State) (o : Out) : (s.emit o).mode = s.mode := rfl
@[simp] theorem State.emit_regs (s : State) (o : Out) : (s.emit o).regs = s.regs := rfl
@[simp] theorem State.emit_power (s : State) (o : Out) : (s.emit o).power = s.power := rfl
@[simp] theorem State.emit_host (s : State) (o : Out) : (s.emit o).host = s.host := rfl
@[simp] theorem State.emit_obs (s : State) (o : Out) : (s.emit o).obs = s.obs := rfl
@[simp] theorem State.emit_time (s : State) (o : Out) : (s.emit o).time = s.time := rfl
@[simp] theorem State.emit_link (s : State) (o : Out) : (s.emit o).link = s.link := rfl
@[simp] theorem State.emit_stage (s : State) (o : Out) : (s.emit o).stage = s.stage := rfl
@[simp] theorem State.emit_looper (s : State) (o : Out) : (s.emit o).looper = s.looper := rfl
@[simp] theorem State.emit_hbm (s : State) (o : Out) : (s.emit o).hbm = s.hbm := rfl
@[simp] theorem State.emit_cal (s : State) (o : Out) : (s.emit o).cal = s.cal := rfl
@[simp] theorem State.emit_channels (s : State) (o : Out) : (s.emit o).channels = s.channels := rfl
@[simp] theorem State.emit_packages (s : State) (o : Out) : (s.emit o).packages = s.packages := rfl
@[simp] theorem State.emit_refused (s : State) (o : Out) : (s.emit o).refused = s.refused := rfl
@[simp] theorem State.emit_ages (s : State) (o : Out) : (s.emit o).ages = s.ages := rfl
@[simp] theorem State.emit_slices (s : State) (o : Out) : (s.emit o).slices = s.slices := rfl
@[simp] theorem State.emit_shadows (s : State) (o : Out) : (s.emit o).shadows = s.shadows := rfl
@[simp] theorem State.emit_rot (s : State) (o : Out) : (s.emit o).rot = s.rot := rfl
@[simp] theorem State.emit_ftc (s : State) (o : Out) : (s.emit o).ftc = s.ftc := rfl
@[simp] theorem State.emit_kernels (s : State) (o : Out) : (s.emit o).kernels = s.kernels := rfl
@[simp] theorem State.emit_gridJob (s : State) (o : Out) : (s.emit o).gridJob = s.gridJob := rfl
@[simp] theorem State.emit_beams (s : State) (o : Out) : (s.emit o).beams = s.beams := rfl
@[simp] theorem State.emit_defects (s : State) (o : Out) : (s.emit o).defects = s.defects := rfl
@[simp] theorem State.emit_stripes (s : State) (o : Out) : (s.emit o).stripes = s.stripes := rfl
@[simp] theorem State.emit_reports (s : State) (o : Out) : (s.emit o).reports = s.reports := rfl
@[simp] theorem State.emit_bands (s : State) (o : Out) : (s.emit o).bands = s.bands := rfl
@[simp] theorem State.emit_jobs (s : State) (o : Out) : (s.emit o).jobs = s.jobs := rfl
@[simp] theorem State.emit_lastTick (s : State) (o : Out) : (s.emit o).lastTick = s.lastTick := rfl
@[simp] theorem State.emit_draw (s : State) (o : Out) : (s.emit o).draw = s.draw := rfl
@[simp] theorem State.emit_pending (s : State) (o : Out) : (s.emit o).pending = s.pending := rfl

@[simp] theorem State.drawn_part (s : State) : (s.drawn).part = s.part := rfl
@[simp] theorem State.drawn_mode (s : State) : (s.drawn).mode = s.mode := rfl
@[simp] theorem State.drawn_regs (s : State) : (s.drawn).regs = s.regs := rfl
@[simp] theorem State.drawn_power (s : State) : (s.drawn).power = s.power := rfl
@[simp] theorem State.drawn_host (s : State) : (s.drawn).host = s.host := rfl
@[simp] theorem State.drawn_obs (s : State) : (s.drawn).obs = s.obs := rfl
@[simp] theorem State.drawn_time (s : State) : (s.drawn).time = s.time := rfl
@[simp] theorem State.drawn_link (s : State) : (s.drawn).link = s.link := rfl
@[simp] theorem State.drawn_stage (s : State) : (s.drawn).stage = s.stage := rfl
@[simp] theorem State.drawn_looper (s : State) : (s.drawn).looper = s.looper := rfl
@[simp] theorem State.drawn_hbm (s : State) : (s.drawn).hbm = s.hbm := rfl
@[simp] theorem State.drawn_cal (s : State) : (s.drawn).cal = s.cal := rfl
@[simp] theorem State.drawn_channels (s : State) : (s.drawn).channels = s.channels := rfl
@[simp] theorem State.drawn_packages (s : State) : (s.drawn).packages = s.packages := rfl
@[simp] theorem State.drawn_refused (s : State) : (s.drawn).refused = s.refused := rfl
@[simp] theorem State.drawn_ages (s : State) : (s.drawn).ages = s.ages := rfl
@[simp] theorem State.drawn_slices (s : State) : (s.drawn).slices = s.slices := rfl
@[simp] theorem State.drawn_shadows (s : State) : (s.drawn).shadows = s.shadows := rfl
@[simp] theorem State.drawn_rot (s : State) : (s.drawn).rot = s.rot := rfl
@[simp] theorem State.drawn_ftc (s : State) : (s.drawn).ftc = s.ftc := rfl
@[simp] theorem State.drawn_kernels (s : State) : (s.drawn).kernels = s.kernels := rfl
@[simp] theorem State.drawn_gridJob (s : State) : (s.drawn).gridJob = s.gridJob := rfl
@[simp] theorem State.drawn_beams (s : State) : (s.drawn).beams = s.beams := rfl
@[simp] theorem State.drawn_defects (s : State) : (s.drawn).defects = s.defects := rfl
@[simp] theorem State.drawn_stripes (s : State) : (s.drawn).stripes = s.stripes := rfl
@[simp] theorem State.drawn_reports (s : State) : (s.drawn).reports = s.reports := rfl
@[simp] theorem State.drawn_bands (s : State) : (s.drawn).bands = s.bands := rfl
@[simp] theorem State.drawn_jobs (s : State) : (s.drawn).jobs = s.jobs := rfl
@[simp] theorem State.drawn_lastTick (s : State) : (s.drawn).lastTick = s.lastTick := rfl
@[simp] theorem State.drawn_out (s : State) : (s.drawn).out = s.out := rfl
@[simp] theorem State.drawn_pending (s : State) : (s.drawn).pending = s.pending := rfl

@[simp] theorem State.count_part (s : State) (b n k : Nat) : (s.count b n k).part = s.part := rfl
@[simp] theorem State.count_mode (s : State) (b n k : Nat) : (s.count b n k).mode = s.mode := rfl
@[simp] theorem State.count_power (s : State) (b n k : Nat) : (s.count b n k).power = s.power := rfl
@[simp] theorem State.count_host (s : State) (b n k : Nat) : (s.count b n k).host = s.host := rfl
@[simp] theorem State.count_time (s : State) (b n k : Nat) : (s.count b n k).time = s.time := rfl
@[simp] theorem State.count_link (s : State) (b n k : Nat) : (s.count b n k).link = s.link := rfl
@[simp] theorem State.count_stage (s : State) (b n k : Nat) : (s.count b n k).stage = s.stage := rfl
@[simp] theorem State.count_looper (s : State) (b n k : Nat) : (s.count b n k).looper = s.looper := rfl
@[simp] theorem State.count_hbm (s : State) (b n k : Nat) : (s.count b n k).hbm = s.hbm := rfl
@[simp] theorem State.count_cal (s : State) (b n k : Nat) : (s.count b n k).cal = s.cal := rfl
@[simp] theorem State.count_channels (s : State) (b n k : Nat) : (s.count b n k).channels = s.channels := rfl
@[simp] theorem State.count_packages (s : State) (b n k : Nat) : (s.count b n k).packages = s.packages := rfl
@[simp] theorem State.count_refused (s : State) (b n k : Nat) : (s.count b n k).refused = s.refused := rfl
@[simp] theorem State.count_ages (s : State) (b n k : Nat) : (s.count b n k).ages = s.ages := rfl
@[simp] theorem State.count_slices (s : State) (b n k : Nat) : (s.count b n k).slices = s.slices := rfl
@[simp] theorem State.count_shadows (s : State) (b n k : Nat) : (s.count b n k).shadows = s.shadows := rfl
@[simp] theorem State.count_rot (s : State) (b n k : Nat) : (s.count b n k).rot = s.rot := rfl
@[simp] theorem State.count_ftc (s : State) (b n k : Nat) : (s.count b n k).ftc = s.ftc := rfl
@[simp] theorem State.count_kernels (s : State) (b n k : Nat) : (s.count b n k).kernels = s.kernels := rfl
@[simp] theorem State.count_gridJob (s : State) (b n k : Nat) : (s.count b n k).gridJob = s.gridJob := rfl
@[simp] theorem State.count_beams (s : State) (b n k : Nat) : (s.count b n k).beams = s.beams := rfl
@[simp] theorem State.count_defects (s : State) (b n k : Nat) : (s.count b n k).defects = s.defects := rfl
@[simp] theorem State.count_stripes (s : State) (b n k : Nat) : (s.count b n k).stripes = s.stripes := rfl
@[simp] theorem State.count_reports (s : State) (b n k : Nat) : (s.count b n k).reports = s.reports := rfl
@[simp] theorem State.count_bands (s : State) (b n k : Nat) : (s.count b n k).bands = s.bands := rfl
@[simp] theorem State.count_jobs (s : State) (b n k : Nat) : (s.count b n k).jobs = s.jobs := rfl
@[simp] theorem State.count_lastTick (s : State) (b n k : Nat) : (s.count b n k).lastTick = s.lastTick := rfl
@[simp] theorem State.count_out (s : State) (b n k : Nat) : (s.count b n k).out = s.out := rfl
@[simp] theorem State.count_draw (s : State) (b n k : Nat) : (s.count b n k).draw = s.draw := rfl
@[simp] theorem State.count_pending (s : State) (b n k : Nat) : (s.count b n k).pending = s.pending := rfl

@[simp] theorem State.clearCounter_part (s : State) (b n : Nat) : (s.clearCounter b n).part = s.part := rfl
@[simp] theorem State.clearCounter_mode (s : State) (b n : Nat) : (s.clearCounter b n).mode = s.mode := rfl
@[simp] theorem State.clearCounter_power (s : State) (b n : Nat) : (s.clearCounter b n).power = s.power := rfl
@[simp] theorem State.clearCounter_host (s : State) (b n : Nat) : (s.clearCounter b n).host = s.host := rfl
@[simp] theorem State.clearCounter_time (s : State) (b n : Nat) : (s.clearCounter b n).time = s.time := rfl
@[simp] theorem State.clearCounter_link (s : State) (b n : Nat) : (s.clearCounter b n).link = s.link := rfl
@[simp] theorem State.clearCounter_stage (s : State) (b n : Nat) : (s.clearCounter b n).stage = s.stage := rfl
@[simp] theorem State.clearCounter_looper (s : State) (b n : Nat) : (s.clearCounter b n).looper = s.looper := rfl
@[simp] theorem State.clearCounter_hbm (s : State) (b n : Nat) : (s.clearCounter b n).hbm = s.hbm := rfl
@[simp] theorem State.clearCounter_cal (s : State) (b n : Nat) : (s.clearCounter b n).cal = s.cal := rfl
@[simp] theorem State.clearCounter_channels (s : State) (b n : Nat) : (s.clearCounter b n).channels = s.channels := rfl
@[simp] theorem State.clearCounter_packages (s : State) (b n : Nat) : (s.clearCounter b n).packages = s.packages := rfl
@[simp] theorem State.clearCounter_refused (s : State) (b n : Nat) : (s.clearCounter b n).refused = s.refused := rfl
@[simp] theorem State.clearCounter_ages (s : State) (b n : Nat) : (s.clearCounter b n).ages = s.ages := rfl
@[simp] theorem State.clearCounter_slices (s : State) (b n : Nat) : (s.clearCounter b n).slices = s.slices := rfl
@[simp] theorem State.clearCounter_shadows (s : State) (b n : Nat) : (s.clearCounter b n).shadows = s.shadows := rfl
@[simp] theorem State.clearCounter_rot (s : State) (b n : Nat) : (s.clearCounter b n).rot = s.rot := rfl
@[simp] theorem State.clearCounter_ftc (s : State) (b n : Nat) : (s.clearCounter b n).ftc = s.ftc := rfl
@[simp] theorem State.clearCounter_kernels (s : State) (b n : Nat) : (s.clearCounter b n).kernels = s.kernels := rfl
@[simp] theorem State.clearCounter_gridJob (s : State) (b n : Nat) : (s.clearCounter b n).gridJob = s.gridJob := rfl
@[simp] theorem State.clearCounter_beams (s : State) (b n : Nat) : (s.clearCounter b n).beams = s.beams := rfl
@[simp] theorem State.clearCounter_defects (s : State) (b n : Nat) : (s.clearCounter b n).defects = s.defects := rfl
@[simp] theorem State.clearCounter_stripes (s : State) (b n : Nat) : (s.clearCounter b n).stripes = s.stripes := rfl
@[simp] theorem State.clearCounter_reports (s : State) (b n : Nat) : (s.clearCounter b n).reports = s.reports := rfl
@[simp] theorem State.clearCounter_bands (s : State) (b n : Nat) : (s.clearCounter b n).bands = s.bands := rfl
@[simp] theorem State.clearCounter_jobs (s : State) (b n : Nat) : (s.clearCounter b n).jobs = s.jobs := rfl
@[simp] theorem State.clearCounter_lastTick (s : State) (b n : Nat) : (s.clearCounter b n).lastTick = s.lastTick := rfl
@[simp] theorem State.clearCounter_out (s : State) (b n : Nat) : (s.clearCounter b n).out = s.out := rfl
@[simp] theorem State.clearCounter_draw (s : State) (b n : Nat) : (s.clearCounter b n).draw = s.draw := rfl
@[simp] theorem State.clearCounter_pending (s : State) (b n : Nat) : (s.clearCounter b n).pending = s.pending := rfl

@[simp] theorem State.msix_part (s : State) (v : Nat) : (s.msix v).part = s.part := rfl
@[simp] theorem State.msix_mode (s : State) (v : Nat) : (s.msix v).mode = s.mode := rfl
@[simp] theorem State.msix_regs (s : State) (v : Nat) : (s.msix v).regs = s.regs := rfl
@[simp] theorem State.msix_power (s : State) (v : Nat) : (s.msix v).power = s.power := rfl
@[simp] theorem State.msix_obs (s : State) (v : Nat) : (s.msix v).obs = s.obs := rfl
@[simp] theorem State.msix_time (s : State) (v : Nat) : (s.msix v).time = s.time := rfl
@[simp] theorem State.msix_link (s : State) (v : Nat) : (s.msix v).link = s.link := rfl
@[simp] theorem State.msix_stage (s : State) (v : Nat) : (s.msix v).stage = s.stage := rfl
@[simp] theorem State.msix_looper (s : State) (v : Nat) : (s.msix v).looper = s.looper := rfl
@[simp] theorem State.msix_hbm (s : State) (v : Nat) : (s.msix v).hbm = s.hbm := rfl
@[simp] theorem State.msix_cal (s : State) (v : Nat) : (s.msix v).cal = s.cal := rfl
@[simp] theorem State.msix_channels (s : State) (v : Nat) : (s.msix v).channels = s.channels := rfl
@[simp] theorem State.msix_packages (s : State) (v : Nat) : (s.msix v).packages = s.packages := rfl
@[simp] theorem State.msix_refused (s : State) (v : Nat) : (s.msix v).refused = s.refused := rfl
@[simp] theorem State.msix_ages (s : State) (v : Nat) : (s.msix v).ages = s.ages := rfl
@[simp] theorem State.msix_slices (s : State) (v : Nat) : (s.msix v).slices = s.slices := rfl
@[simp] theorem State.msix_shadows (s : State) (v : Nat) : (s.msix v).shadows = s.shadows := rfl
@[simp] theorem State.msix_rot (s : State) (v : Nat) : (s.msix v).rot = s.rot := rfl
@[simp] theorem State.msix_ftc (s : State) (v : Nat) : (s.msix v).ftc = s.ftc := rfl
@[simp] theorem State.msix_kernels (s : State) (v : Nat) : (s.msix v).kernels = s.kernels := rfl
@[simp] theorem State.msix_gridJob (s : State) (v : Nat) : (s.msix v).gridJob = s.gridJob := rfl
@[simp] theorem State.msix_beams (s : State) (v : Nat) : (s.msix v).beams = s.beams := rfl
@[simp] theorem State.msix_defects (s : State) (v : Nat) : (s.msix v).defects = s.defects := rfl
@[simp] theorem State.msix_stripes (s : State) (v : Nat) : (s.msix v).stripes = s.stripes := rfl
@[simp] theorem State.msix_reports (s : State) (v : Nat) : (s.msix v).reports = s.reports := rfl
@[simp] theorem State.msix_bands (s : State) (v : Nat) : (s.msix v).bands = s.bands := rfl
@[simp] theorem State.msix_jobs (s : State) (v : Nat) : (s.msix v).jobs = s.jobs := rfl
@[simp] theorem State.msix_lastTick (s : State) (v : Nat) : (s.msix v).lastTick = s.lastTick := rfl
@[simp] theorem State.msix_draw (s : State) (v : Nat) : (s.msix v).draw = s.draw := rfl
@[simp] theorem State.msix_pending (s : State) (v : Nat) : (s.msix v).pending = s.pending := rfl

@[simp] theorem State.message_part (s : State) (v : Nat) : (s.message v).part = s.part := rfl
@[simp] theorem State.message_mode (s : State) (v : Nat) : (s.message v).mode = s.mode := rfl
@[simp] theorem State.message_power (s : State) (v : Nat) : (s.message v).power = s.power := rfl
@[simp] theorem State.message_time (s : State) (v : Nat) : (s.message v).time = s.time := rfl
@[simp] theorem State.message_link (s : State) (v : Nat) : (s.message v).link = s.link := rfl
@[simp] theorem State.message_stage (s : State) (v : Nat) : (s.message v).stage = s.stage := rfl
@[simp] theorem State.message_looper (s : State) (v : Nat) : (s.message v).looper = s.looper := rfl
@[simp] theorem State.message_hbm (s : State) (v : Nat) : (s.message v).hbm = s.hbm := rfl
@[simp] theorem State.message_cal (s : State) (v : Nat) : (s.message v).cal = s.cal := rfl
@[simp] theorem State.message_channels (s : State) (v : Nat) : (s.message v).channels = s.channels := rfl
@[simp] theorem State.message_packages (s : State) (v : Nat) : (s.message v).packages = s.packages := rfl
@[simp] theorem State.message_refused (s : State) (v : Nat) : (s.message v).refused = s.refused := rfl
@[simp] theorem State.message_ages (s : State) (v : Nat) : (s.message v).ages = s.ages := rfl
@[simp] theorem State.message_slices (s : State) (v : Nat) : (s.message v).slices = s.slices := rfl
@[simp] theorem State.message_shadows (s : State) (v : Nat) : (s.message v).shadows = s.shadows := rfl
@[simp] theorem State.message_rot (s : State) (v : Nat) : (s.message v).rot = s.rot := rfl
@[simp] theorem State.message_ftc (s : State) (v : Nat) : (s.message v).ftc = s.ftc := rfl
@[simp] theorem State.message_kernels (s : State) (v : Nat) : (s.message v).kernels = s.kernels := rfl
@[simp] theorem State.message_gridJob (s : State) (v : Nat) : (s.message v).gridJob = s.gridJob := rfl
@[simp] theorem State.message_beams (s : State) (v : Nat) : (s.message v).beams = s.beams := rfl
@[simp] theorem State.message_defects (s : State) (v : Nat) : (s.message v).defects = s.defects := rfl
@[simp] theorem State.message_stripes (s : State) (v : Nat) : (s.message v).stripes = s.stripes := rfl
@[simp] theorem State.message_reports (s : State) (v : Nat) : (s.message v).reports = s.reports := rfl
@[simp] theorem State.message_bands (s : State) (v : Nat) : (s.message v).bands = s.bands := rfl
@[simp] theorem State.message_jobs (s : State) (v : Nat) : (s.message v).jobs = s.jobs := rfl
@[simp] theorem State.message_lastTick (s : State) (v : Nat) : (s.message v).lastTick = s.lastTick := rfl
@[simp] theorem State.message_draw (s : State) (v : Nat) : (s.message v).draw = s.draw := rfl
@[simp] theorem State.message_pending (s : State) (v : Nat) : (s.message v).pending = s.pending := rfl

@[simp] theorem State.onStripe_part (s : State) (id : Nat) (f : Stripe → Stripe) : (s.onStripe id f).part = s.part := rfl
@[simp] theorem State.onStripe_mode (s : State) (id : Nat) (f : Stripe → Stripe) : (s.onStripe id f).mode = s.mode := rfl
@[simp] theorem State.onStripe_regs (s : State) (id : Nat) (f : Stripe → Stripe) : (s.onStripe id f).regs = s.regs := rfl
@[simp] theorem State.onStripe_power (s : State) (id : Nat) (f : Stripe → Stripe) : (s.onStripe id f).power = s.power := rfl
@[simp] theorem State.onStripe_host (s : State) (id : Nat) (f : Stripe → Stripe) : (s.onStripe id f).host = s.host := rfl
@[simp] theorem State.onStripe_obs (s : State) (id : Nat) (f : Stripe → Stripe) : (s.onStripe id f).obs = s.obs := rfl
@[simp] theorem State.onStripe_time (s : State) (id : Nat) (f : Stripe → Stripe) : (s.onStripe id f).time = s.time := rfl
@[simp] theorem State.onStripe_link (s : State) (id : Nat) (f : Stripe → Stripe) : (s.onStripe id f).link = s.link := rfl
@[simp] theorem State.onStripe_stage (s : State) (id : Nat) (f : Stripe → Stripe) : (s.onStripe id f).stage = s.stage := rfl
@[simp] theorem State.onStripe_looper (s : State) (id : Nat) (f : Stripe → Stripe) : (s.onStripe id f).looper = s.looper := rfl
@[simp] theorem State.onStripe_hbm (s : State) (id : Nat) (f : Stripe → Stripe) : (s.onStripe id f).hbm = s.hbm := rfl
@[simp] theorem State.onStripe_cal (s : State) (id : Nat) (f : Stripe → Stripe) : (s.onStripe id f).cal = s.cal := rfl
@[simp] theorem State.onStripe_channels (s : State) (id : Nat) (f : Stripe → Stripe) : (s.onStripe id f).channels = s.channels := rfl
@[simp] theorem State.onStripe_packages (s : State) (id : Nat) (f : Stripe → Stripe) : (s.onStripe id f).packages = s.packages := rfl
@[simp] theorem State.onStripe_refused (s : State) (id : Nat) (f : Stripe → Stripe) : (s.onStripe id f).refused = s.refused := rfl
@[simp] theorem State.onStripe_ages (s : State) (id : Nat) (f : Stripe → Stripe) : (s.onStripe id f).ages = s.ages := rfl
@[simp] theorem State.onStripe_slices (s : State) (id : Nat) (f : Stripe → Stripe) : (s.onStripe id f).slices = s.slices := rfl
@[simp] theorem State.onStripe_shadows (s : State) (id : Nat) (f : Stripe → Stripe) : (s.onStripe id f).shadows = s.shadows := rfl
@[simp] theorem State.onStripe_rot (s : State) (id : Nat) (f : Stripe → Stripe) : (s.onStripe id f).rot = s.rot := rfl
@[simp] theorem State.onStripe_ftc (s : State) (id : Nat) (f : Stripe → Stripe) : (s.onStripe id f).ftc = s.ftc := rfl
@[simp] theorem State.onStripe_kernels (s : State) (id : Nat) (f : Stripe → Stripe) : (s.onStripe id f).kernels = s.kernels := rfl
@[simp] theorem State.onStripe_gridJob (s : State) (id : Nat) (f : Stripe → Stripe) : (s.onStripe id f).gridJob = s.gridJob := rfl
@[simp] theorem State.onStripe_beams (s : State) (id : Nat) (f : Stripe → Stripe) : (s.onStripe id f).beams = s.beams := rfl
@[simp] theorem State.onStripe_defects (s : State) (id : Nat) (f : Stripe → Stripe) : (s.onStripe id f).defects = s.defects := rfl
@[simp] theorem State.onStripe_reports (s : State) (id : Nat) (f : Stripe → Stripe) : (s.onStripe id f).reports = s.reports := rfl
@[simp] theorem State.onStripe_bands (s : State) (id : Nat) (f : Stripe → Stripe) : (s.onStripe id f).bands = s.bands := rfl
@[simp] theorem State.onStripe_jobs (s : State) (id : Nat) (f : Stripe → Stripe) : (s.onStripe id f).jobs = s.jobs := rfl
@[simp] theorem State.onStripe_lastTick (s : State) (id : Nat) (f : Stripe → Stripe) : (s.onStripe id f).lastTick = s.lastTick := rfl
@[simp] theorem State.onStripe_out (s : State) (id : Nat) (f : Stripe → Stripe) : (s.onStripe id f).out = s.out := rfl
@[simp] theorem State.onStripe_draw (s : State) (id : Nat) (f : Stripe → Stripe) : (s.onStripe id f).draw = s.draw := rfl
@[simp] theorem State.onStripe_pending (s : State) (id : Nat) (f : Stripe → Stripe) : (s.onStripe id f).pending = s.pending := rfl

@[simp] theorem State.onPackage_part (s : State) (id : Nat) (f : Package → Package) : (s.onPackage id f).part = s.part := rfl
@[simp] theorem State.onPackage_mode (s : State) (id : Nat) (f : Package → Package) : (s.onPackage id f).mode = s.mode := rfl
@[simp] theorem State.onPackage_regs (s : State) (id : Nat) (f : Package → Package) : (s.onPackage id f).regs = s.regs := rfl
@[simp] theorem State.onPackage_power (s : State) (id : Nat) (f : Package → Package) : (s.onPackage id f).power = s.power := rfl
@[simp] theorem State.onPackage_host (s : State) (id : Nat) (f : Package → Package) : (s.onPackage id f).host = s.host := rfl
@[simp] theorem State.onPackage_obs (s : State) (id : Nat) (f : Package → Package) : (s.onPackage id f).obs = s.obs := rfl
@[simp] theorem State.onPackage_time (s : State) (id : Nat) (f : Package → Package) : (s.onPackage id f).time = s.time := rfl
@[simp] theorem State.onPackage_link (s : State) (id : Nat) (f : Package → Package) : (s.onPackage id f).link = s.link := rfl
@[simp] theorem State.onPackage_stage (s : State) (id : Nat) (f : Package → Package) : (s.onPackage id f).stage = s.stage := rfl
@[simp] theorem State.onPackage_looper (s : State) (id : Nat) (f : Package → Package) : (s.onPackage id f).looper = s.looper := rfl
@[simp] theorem State.onPackage_hbm (s : State) (id : Nat) (f : Package → Package) : (s.onPackage id f).hbm = s.hbm := rfl
@[simp] theorem State.onPackage_cal (s : State) (id : Nat) (f : Package → Package) : (s.onPackage id f).cal = s.cal := rfl
@[simp] theorem State.onPackage_channels (s : State) (id : Nat) (f : Package → Package) : (s.onPackage id f).channels = s.channels := rfl
@[simp] theorem State.onPackage_refused (s : State) (id : Nat) (f : Package → Package) : (s.onPackage id f).refused = s.refused := rfl
@[simp] theorem State.onPackage_ages (s : State) (id : Nat) (f : Package → Package) : (s.onPackage id f).ages = s.ages := rfl
@[simp] theorem State.onPackage_slices (s : State) (id : Nat) (f : Package → Package) : (s.onPackage id f).slices = s.slices := rfl
@[simp] theorem State.onPackage_shadows (s : State) (id : Nat) (f : Package → Package) : (s.onPackage id f).shadows = s.shadows := rfl
@[simp] theorem State.onPackage_rot (s : State) (id : Nat) (f : Package → Package) : (s.onPackage id f).rot = s.rot := rfl
@[simp] theorem State.onPackage_ftc (s : State) (id : Nat) (f : Package → Package) : (s.onPackage id f).ftc = s.ftc := rfl
@[simp] theorem State.onPackage_kernels (s : State) (id : Nat) (f : Package → Package) : (s.onPackage id f).kernels = s.kernels := rfl
@[simp] theorem State.onPackage_gridJob (s : State) (id : Nat) (f : Package → Package) : (s.onPackage id f).gridJob = s.gridJob := rfl
@[simp] theorem State.onPackage_beams (s : State) (id : Nat) (f : Package → Package) : (s.onPackage id f).beams = s.beams := rfl
@[simp] theorem State.onPackage_defects (s : State) (id : Nat) (f : Package → Package) : (s.onPackage id f).defects = s.defects := rfl
@[simp] theorem State.onPackage_stripes (s : State) (id : Nat) (f : Package → Package) : (s.onPackage id f).stripes = s.stripes := rfl
@[simp] theorem State.onPackage_reports (s : State) (id : Nat) (f : Package → Package) : (s.onPackage id f).reports = s.reports := rfl
@[simp] theorem State.onPackage_bands (s : State) (id : Nat) (f : Package → Package) : (s.onPackage id f).bands = s.bands := rfl
@[simp] theorem State.onPackage_jobs (s : State) (id : Nat) (f : Package → Package) : (s.onPackage id f).jobs = s.jobs := rfl
@[simp] theorem State.onPackage_lastTick (s : State) (id : Nat) (f : Package → Package) : (s.onPackage id f).lastTick = s.lastTick := rfl
@[simp] theorem State.onPackage_out (s : State) (id : Nat) (f : Package → Package) : (s.onPackage id f).out = s.out := rfl
@[simp] theorem State.onPackage_draw (s : State) (id : Nat) (f : Package → Package) : (s.onPackage id f).draw = s.draw := rfl
@[simp] theorem State.onPackage_pending (s : State) (id : Nat) (f : Package → Package) : (s.onPackage id f).pending = s.pending := rfl

@[simp] theorem State.onGroup_part (s : State) (g : Nat) (f : Group → Group) : (s.onGroup g f).part = s.part := rfl
@[simp] theorem State.onGroup_mode (s : State) (g : Nat) (f : Group → Group) : (s.onGroup g f).mode = s.mode := rfl
@[simp] theorem State.onGroup_regs (s : State) (g : Nat) (f : Group → Group) : (s.onGroup g f).regs = s.regs := rfl
@[simp] theorem State.onGroup_power (s : State) (g : Nat) (f : Group → Group) : (s.onGroup g f).power = s.power := rfl
@[simp] theorem State.onGroup_host (s : State) (g : Nat) (f : Group → Group) : (s.onGroup g f).host = s.host := rfl
@[simp] theorem State.onGroup_obs (s : State) (g : Nat) (f : Group → Group) : (s.onGroup g f).obs = s.obs := rfl
@[simp] theorem State.onGroup_time (s : State) (g : Nat) (f : Group → Group) : (s.onGroup g f).time = s.time := rfl
@[simp] theorem State.onGroup_stage (s : State) (g : Nat) (f : Group → Group) : (s.onGroup g f).stage = s.stage := rfl
@[simp] theorem State.onGroup_looper (s : State) (g : Nat) (f : Group → Group) : (s.onGroup g f).looper = s.looper := rfl
@[simp] theorem State.onGroup_hbm (s : State) (g : Nat) (f : Group → Group) : (s.onGroup g f).hbm = s.hbm := rfl
@[simp] theorem State.onGroup_cal (s : State) (g : Nat) (f : Group → Group) : (s.onGroup g f).cal = s.cal := rfl
@[simp] theorem State.onGroup_channels (s : State) (g : Nat) (f : Group → Group) : (s.onGroup g f).channels = s.channels := rfl
@[simp] theorem State.onGroup_packages (s : State) (g : Nat) (f : Group → Group) : (s.onGroup g f).packages = s.packages := rfl
@[simp] theorem State.onGroup_refused (s : State) (g : Nat) (f : Group → Group) : (s.onGroup g f).refused = s.refused := rfl
@[simp] theorem State.onGroup_ages (s : State) (g : Nat) (f : Group → Group) : (s.onGroup g f).ages = s.ages := rfl
@[simp] theorem State.onGroup_slices (s : State) (g : Nat) (f : Group → Group) : (s.onGroup g f).slices = s.slices := rfl
@[simp] theorem State.onGroup_shadows (s : State) (g : Nat) (f : Group → Group) : (s.onGroup g f).shadows = s.shadows := rfl
@[simp] theorem State.onGroup_rot (s : State) (g : Nat) (f : Group → Group) : (s.onGroup g f).rot = s.rot := rfl
@[simp] theorem State.onGroup_ftc (s : State) (g : Nat) (f : Group → Group) : (s.onGroup g f).ftc = s.ftc := rfl
@[simp] theorem State.onGroup_kernels (s : State) (g : Nat) (f : Group → Group) : (s.onGroup g f).kernels = s.kernels := rfl
@[simp] theorem State.onGroup_gridJob (s : State) (g : Nat) (f : Group → Group) : (s.onGroup g f).gridJob = s.gridJob := rfl
@[simp] theorem State.onGroup_beams (s : State) (g : Nat) (f : Group → Group) : (s.onGroup g f).beams = s.beams := rfl
@[simp] theorem State.onGroup_defects (s : State) (g : Nat) (f : Group → Group) : (s.onGroup g f).defects = s.defects := rfl
@[simp] theorem State.onGroup_stripes (s : State) (g : Nat) (f : Group → Group) : (s.onGroup g f).stripes = s.stripes := rfl
@[simp] theorem State.onGroup_reports (s : State) (g : Nat) (f : Group → Group) : (s.onGroup g f).reports = s.reports := rfl
@[simp] theorem State.onGroup_bands (s : State) (g : Nat) (f : Group → Group) : (s.onGroup g f).bands = s.bands := rfl
@[simp] theorem State.onGroup_jobs (s : State) (g : Nat) (f : Group → Group) : (s.onGroup g f).jobs = s.jobs := rfl
@[simp] theorem State.onGroup_lastTick (s : State) (g : Nat) (f : Group → Group) : (s.onGroup g f).lastTick = s.lastTick := rfl
@[simp] theorem State.onGroup_out (s : State) (g : Nat) (f : Group → Group) : (s.onGroup g f).out = s.out := rfl
@[simp] theorem State.onGroup_draw (s : State) (g : Nat) (f : Group → Group) : (s.onGroup g f).draw = s.draw := rfl
@[simp] theorem State.onGroup_pending (s : State) (g : Nat) (f : Group → Group) : (s.onGroup g f).pending = s.pending := rfl

@[simp] theorem State.onSlice_part (s : State) (i : Nat) (f : Slice → Slice) : (s.onSlice i f).part = s.part := rfl
@[simp] theorem State.onSlice_mode (s : State) (i : Nat) (f : Slice → Slice) : (s.onSlice i f).mode = s.mode := rfl
@[simp] theorem State.onSlice_regs (s : State) (i : Nat) (f : Slice → Slice) : (s.onSlice i f).regs = s.regs := rfl
@[simp] theorem State.onSlice_power (s : State) (i : Nat) (f : Slice → Slice) : (s.onSlice i f).power = s.power := rfl
@[simp] theorem State.onSlice_host (s : State) (i : Nat) (f : Slice → Slice) : (s.onSlice i f).host = s.host := rfl
@[simp] theorem State.onSlice_obs (s : State) (i : Nat) (f : Slice → Slice) : (s.onSlice i f).obs = s.obs := rfl
@[simp] theorem State.onSlice_time (s : State) (i : Nat) (f : Slice → Slice) : (s.onSlice i f).time = s.time := rfl
@[simp] theorem State.onSlice_link (s : State) (i : Nat) (f : Slice → Slice) : (s.onSlice i f).link = s.link := rfl
@[simp] theorem State.onSlice_stage (s : State) (i : Nat) (f : Slice → Slice) : (s.onSlice i f).stage = s.stage := rfl
@[simp] theorem State.onSlice_looper (s : State) (i : Nat) (f : Slice → Slice) : (s.onSlice i f).looper = s.looper := rfl
@[simp] theorem State.onSlice_hbm (s : State) (i : Nat) (f : Slice → Slice) : (s.onSlice i f).hbm = s.hbm := rfl
@[simp] theorem State.onSlice_cal (s : State) (i : Nat) (f : Slice → Slice) : (s.onSlice i f).cal = s.cal := rfl
@[simp] theorem State.onSlice_channels (s : State) (i : Nat) (f : Slice → Slice) : (s.onSlice i f).channels = s.channels := rfl
@[simp] theorem State.onSlice_packages (s : State) (i : Nat) (f : Slice → Slice) : (s.onSlice i f).packages = s.packages := rfl
@[simp] theorem State.onSlice_refused (s : State) (i : Nat) (f : Slice → Slice) : (s.onSlice i f).refused = s.refused := rfl
@[simp] theorem State.onSlice_ages (s : State) (i : Nat) (f : Slice → Slice) : (s.onSlice i f).ages = s.ages := rfl
@[simp] theorem State.onSlice_shadows (s : State) (i : Nat) (f : Slice → Slice) : (s.onSlice i f).shadows = s.shadows := rfl
@[simp] theorem State.onSlice_rot (s : State) (i : Nat) (f : Slice → Slice) : (s.onSlice i f).rot = s.rot := rfl
@[simp] theorem State.onSlice_ftc (s : State) (i : Nat) (f : Slice → Slice) : (s.onSlice i f).ftc = s.ftc := rfl
@[simp] theorem State.onSlice_kernels (s : State) (i : Nat) (f : Slice → Slice) : (s.onSlice i f).kernels = s.kernels := rfl
@[simp] theorem State.onSlice_gridJob (s : State) (i : Nat) (f : Slice → Slice) : (s.onSlice i f).gridJob = s.gridJob := rfl
@[simp] theorem State.onSlice_beams (s : State) (i : Nat) (f : Slice → Slice) : (s.onSlice i f).beams = s.beams := rfl
@[simp] theorem State.onSlice_defects (s : State) (i : Nat) (f : Slice → Slice) : (s.onSlice i f).defects = s.defects := rfl
@[simp] theorem State.onSlice_stripes (s : State) (i : Nat) (f : Slice → Slice) : (s.onSlice i f).stripes = s.stripes := rfl
@[simp] theorem State.onSlice_reports (s : State) (i : Nat) (f : Slice → Slice) : (s.onSlice i f).reports = s.reports := rfl
@[simp] theorem State.onSlice_bands (s : State) (i : Nat) (f : Slice → Slice) : (s.onSlice i f).bands = s.bands := rfl
@[simp] theorem State.onSlice_jobs (s : State) (i : Nat) (f : Slice → Slice) : (s.onSlice i f).jobs = s.jobs := rfl
@[simp] theorem State.onSlice_lastTick (s : State) (i : Nat) (f : Slice → Slice) : (s.onSlice i f).lastTick = s.lastTick := rfl
@[simp] theorem State.onSlice_out (s : State) (i : Nat) (f : Slice → Slice) : (s.onSlice i f).out = s.out := rfl
@[simp] theorem State.onSlice_draw (s : State) (i : Nat) (f : Slice → Slice) : (s.onSlice i f).draw = s.draw := rfl
@[simp] theorem State.onSlice_pending (s : State) (i : Nat) (f : Slice → Slice) : (s.onSlice i f).pending = s.pending := rfl

@[simp] theorem State.onCpl_part (s : State) (c : Nat) (f : CplRing → CplRing) : (s.onCpl c f).part = s.part := rfl
@[simp] theorem State.onCpl_mode (s : State) (c : Nat) (f : CplRing → CplRing) : (s.onCpl c f).mode = s.mode := rfl
@[simp] theorem State.onCpl_regs (s : State) (c : Nat) (f : CplRing → CplRing) : (s.onCpl c f).regs = s.regs := rfl
@[simp] theorem State.onCpl_power (s : State) (c : Nat) (f : CplRing → CplRing) : (s.onCpl c f).power = s.power := rfl
@[simp] theorem State.onCpl_obs (s : State) (c : Nat) (f : CplRing → CplRing) : (s.onCpl c f).obs = s.obs := rfl
@[simp] theorem State.onCpl_time (s : State) (c : Nat) (f : CplRing → CplRing) : (s.onCpl c f).time = s.time := rfl
@[simp] theorem State.onCpl_link (s : State) (c : Nat) (f : CplRing → CplRing) : (s.onCpl c f).link = s.link := rfl
@[simp] theorem State.onCpl_stage (s : State) (c : Nat) (f : CplRing → CplRing) : (s.onCpl c f).stage = s.stage := rfl
@[simp] theorem State.onCpl_looper (s : State) (c : Nat) (f : CplRing → CplRing) : (s.onCpl c f).looper = s.looper := rfl
@[simp] theorem State.onCpl_hbm (s : State) (c : Nat) (f : CplRing → CplRing) : (s.onCpl c f).hbm = s.hbm := rfl
@[simp] theorem State.onCpl_cal (s : State) (c : Nat) (f : CplRing → CplRing) : (s.onCpl c f).cal = s.cal := rfl
@[simp] theorem State.onCpl_channels (s : State) (c : Nat) (f : CplRing → CplRing) : (s.onCpl c f).channels = s.channels := rfl
@[simp] theorem State.onCpl_packages (s : State) (c : Nat) (f : CplRing → CplRing) : (s.onCpl c f).packages = s.packages := rfl
@[simp] theorem State.onCpl_refused (s : State) (c : Nat) (f : CplRing → CplRing) : (s.onCpl c f).refused = s.refused := rfl
@[simp] theorem State.onCpl_ages (s : State) (c : Nat) (f : CplRing → CplRing) : (s.onCpl c f).ages = s.ages := rfl
@[simp] theorem State.onCpl_slices (s : State) (c : Nat) (f : CplRing → CplRing) : (s.onCpl c f).slices = s.slices := rfl
@[simp] theorem State.onCpl_shadows (s : State) (c : Nat) (f : CplRing → CplRing) : (s.onCpl c f).shadows = s.shadows := rfl
@[simp] theorem State.onCpl_rot (s : State) (c : Nat) (f : CplRing → CplRing) : (s.onCpl c f).rot = s.rot := rfl
@[simp] theorem State.onCpl_ftc (s : State) (c : Nat) (f : CplRing → CplRing) : (s.onCpl c f).ftc = s.ftc := rfl
@[simp] theorem State.onCpl_kernels (s : State) (c : Nat) (f : CplRing → CplRing) : (s.onCpl c f).kernels = s.kernels := rfl
@[simp] theorem State.onCpl_gridJob (s : State) (c : Nat) (f : CplRing → CplRing) : (s.onCpl c f).gridJob = s.gridJob := rfl
@[simp] theorem State.onCpl_beams (s : State) (c : Nat) (f : CplRing → CplRing) : (s.onCpl c f).beams = s.beams := rfl
@[simp] theorem State.onCpl_defects (s : State) (c : Nat) (f : CplRing → CplRing) : (s.onCpl c f).defects = s.defects := rfl
@[simp] theorem State.onCpl_stripes (s : State) (c : Nat) (f : CplRing → CplRing) : (s.onCpl c f).stripes = s.stripes := rfl
@[simp] theorem State.onCpl_reports (s : State) (c : Nat) (f : CplRing → CplRing) : (s.onCpl c f).reports = s.reports := rfl
@[simp] theorem State.onCpl_bands (s : State) (c : Nat) (f : CplRing → CplRing) : (s.onCpl c f).bands = s.bands := rfl
@[simp] theorem State.onCpl_jobs (s : State) (c : Nat) (f : CplRing → CplRing) : (s.onCpl c f).jobs = s.jobs := rfl
@[simp] theorem State.onCpl_lastTick (s : State) (c : Nat) (f : CplRing → CplRing) : (s.onCpl c f).lastTick = s.lastTick := rfl
@[simp] theorem State.onCpl_out (s : State) (c : Nat) (f : CplRing → CplRing) : (s.onCpl c f).out = s.out := rfl
@[simp] theorem State.onCpl_draw (s : State) (c : Nat) (f : CplRing → CplRing) : (s.onCpl c f).draw = s.draw := rfl
@[simp] theorem State.onCpl_pending (s : State) (c : Nat) (f : CplRing → CplRing) : (s.onCpl c f).pending = s.pending := rfl

end Sys2Proof.Machine
end

