-- ==== Sys2Proof/Laws/Ops.lean ====
section
/-! SUPPORT. The shared operations: what each does to register fields and counters, and its frame. -/
namespace Sys2Proof.Machine

/-! ### Register fields -/

theorem reg_regsSet_same (m : SMap (BitVec 32)) (s : State) (f : Field) (v : Nat) (h : f.width ≤ 32) :
    State.reg { s with regs := regsSet m f v } f = v % 2 ^ f.width := by
  have : v % 2 ^ f.width < 2 ^ 32 := lt_of_lt_of_le (Nat.mod_lt _ (by positivity)) (Nat.pow_le_pow_right (by omega) h)
  simpa [State.reg, regsSet] using this

theorem reg_regsSet_ne (m : SMap (BitVec 32)) (s : State) (f g : Field) (v : Nat) (h : g.key ≠ f.key) :
    State.reg { s with regs := regsSet m f v } g = State.reg { s with regs := m } g := by
  simp [State.reg, regsSet, SMap.get_set_ne _ _ _ _ _ _ h]

/-- A field reads as it was set, cut to its width. -/
theorem State.reg_setReg_same (s : State) (f : Field) (v : Nat) (h : f.width ≤ 32) : (s.setReg f v).reg f = v % 2 ^ f.width :=
  reg_regsSet_same s.regs s f v h

/-- Setting a field leaves every other alone. -/
theorem State.reg_setReg_ne (s : State) (f g : Field) (v : Nat) (h : g.key ≠ f.key) : (s.setReg f v).reg g = s.reg g :=
  reg_regsSet_ne s.regs s f g v h

theorem State.reg_setFlag_same (s : State) (f : Field) (b : Bool) (h : f.width ≤ 32) (hw : 0 < f.width) :
    (s.setFlag f b).reg f = b2n b := by
  unfold State.setFlag
  rw [State.reg_setReg_same _ _ _ h, Nat.mod_eq_of_lt]
  have : 2 ^ 1 ≤ 2 ^ f.width := Nat.pow_le_pow_right (by omega) hw
  cases b
  · simp [b2n]
  · simp [b2n]; omega

theorem State.setRegs_nil (s : State) : s.setRegs [] = s := rfl

theorem State.setRegs_cons (s : State) (f : Field) (v : Nat) (l : List (Field × Nat)) :
    s.setRegs ((f, v) :: l) = (s.setReg f v).setRegs l := rfl

/-- A field reads the same when the register table is the same. -/
theorem State.reg_congr (s t : State) (f : Field) (h : t.regs = s.regs) : t.reg f = s.reg f := by simp [State.reg, h]

@[simp] theorem State.reg_emit (s : State) (o : Out) (f : Field) : (s.emit o).reg f = s.reg f := rfl
@[simp] theorem State.reg_drawn (s : State) (f : Field) : s.drawn.reg f = s.reg f := rfl
@[simp] theorem State.reg_onStripe (s : State) (id : Nat) (g : Stripe → Stripe) (f : Field) : (s.onStripe id g).reg f = s.reg f := rfl
@[simp] theorem State.reg_onPackage (s : State) (id : Nat) (g : Package → Package) (f : Field) : (s.onPackage id g).reg f = s.reg f := rfl
@[simp] theorem State.reg_onGroup (s : State) (i : Nat) (g : Group → Group) (f : Field) : (s.onGroup i g).reg f = s.reg f := rfl
@[simp] theorem State.reg_onSlice (s : State) (i : Nat) (g : Slice → Slice) (f : Field) : (s.onSlice i g).reg f = s.reg f := rfl
@[simp] theorem State.reg_onCpl (s : State) (i : Nat) (g : CplRing → CplRing) (f : Field) : (s.onCpl i g).reg f = s.reg f := rfl
@[simp] theorem State.reg_msix (s : State) (v : Nat) (f : Field) : (s.msix v).reg f = s.reg f := rfl

/-! ### Frames -/

theorem Keeps.refl (ps : List Piece) (fs : List Field) (s : State) : Keeps ps fs s s :=
  ⟨fun p _ => by cases p <;> simp [Piece.same], fun _ _ => rfl⟩

theorem Piece.same_trans (p : Piece) (s t u : State) (h : p.same s t) (h' : p.same t u) : p.same s u := by
  cases p <;> simp_all [Piece.same]

/-- Frames compose. -/
theorem Keeps.trans {ps ps' : List Piece} {fs fs' : List Field} {s t u : State} (h : Keeps ps fs s t) (h' : Keeps ps' fs' t u) :
    Keeps (ps ++ ps') (fs ++ fs') s u := by
  refine ⟨fun p hp => ?_, fun f hf => ?_⟩
  · simp only [List.mem_append, not_or] at hp
    exact p.same_trans s t u (h.1 p hp.1) (h'.1 p hp.2)
  · simp only [List.mem_append] at hf
    rw [h'.2 f fun g hg => hf g (.inr hg), h.2 f fun g hg => hf g (.inl hg)]

/-- A wider frame. -/
theorem Keeps.mono {ps ps' : List Piece} {fs fs' : List Field} {s t : State} (h : Keeps ps fs s t) (hp : ps ⊆ ps') (hf : fs ⊆ fs') :
    Keeps ps' fs' s t :=
  ⟨fun p hp' => h.1 p fun hm => hp' (hp hm), fun f hf' => h.2 f fun g hg => hf' g (hf hg)⟩

theorem State.setReg_keeps (s : State) (f : Field) (v : Nat) : Keeps [] [f] s (s.setReg f v) :=
  ⟨fun p _ => by cases p <;> simp [Piece.same], fun g hg => State.reg_setReg_ne s f g v (by simpa [eq_comm] using hg)⟩

theorem State.setFlag_keeps (s : State) (f : Field) (b : Bool) : Keeps [] [f] s (s.setFlag f b) := s.setReg_keeps f _

theorem State.addReg_keeps (s : State) (f : Field) (k : Nat) : Keeps [] [f] s (s.addReg f k) := s.setReg_keeps f _

theorem State.setRegs_keeps (s : State) (l : List (Field × Nat)) : Keeps [] (l.map Prod.fst) s (s.setRegs l) := by
  induction l generalizing s with
  | nil => exact Keeps.refl _ _ _
  | cons e t ih => exact (s.setReg_keeps e.1 e.2).trans (ih _)

theorem State.emit_keeps (s : State) (o : Out) : Keeps [.out] [] s (s.emit o) :=
  ⟨fun p hp => by cases p <;> simp_all [Piece.same, State.emit], fun _ _ => rfl⟩

theorem State.drawn_keeps (s : State) : Keeps [.draw] [] s s.drawn :=
  ⟨fun p hp => by cases p <;> simp_all [Piece.same, State.drawn], fun _ _ => rfl⟩

theorem setOvf_keeps (m : SMap (BitVec 32)) (s t : State) (b n : Nat) (f : Field) (h : (ovf b).key ≠ f.key) :
    State.reg { t with regs := setOvf m s b n } f = State.reg { t with regs := m } f :=
  reg_regsSet_ne m t (ovf b) f _ (Ne.symm h)

/-- A count changes the counters and OVF bits of its block, and nothing else. -/
theorem State.count_keeps (s : State) (b n k : Nat) : Keeps [.counters] [ovf b] s (s.count b n k) := by
  refine ⟨fun p hp => by cases p <;> simp_all [Piece.same, State.count], fun f hf => ?_⟩
  have hf : (ovf b).key ≠ f.key := by simpa using hf
  unfold State.count
  dsimp only
  split
  · rfl
  · split
    · split
      · exact setOvf_keeps s.regs s _ b (n + 1) f hf
      · rfl
    · split
      · exact setOvf_keeps s.regs s _ b n f hf
      · rfl

theorem State.msix_keeps (s : State) (v : Nat) : Keeps [.out, .host] [] s (s.msix v) :=
  ⟨fun p hp => by cases p <;> simp_all [Piece.same, State.msix], fun _ _ => rfl⟩

theorem State.message_keeps (s : State) (v : Nat) : Keeps [.out, .host, .counters] [ovf 1] s (s.message v) :=
  ((s.msix_keeps v).trans (State.count_keeps _ 1 1 1)).mono (by simp) (by simp)

/-- What is done when a condition holds keeps what the deed keeps. -/
theorem State.when_keeps {ps : List Piece} {fs : List Field} (s : State) (b : Bool) (f : State → State)
    (h : b = true → Keeps ps fs s (f s)) : Keeps ps fs s (s.when b f) := by
  unfold State.when
  split
  · rename_i hb; exact h hb
  · exact Keeps.refl _ _ _

/-- Raising a cause changes its bit, the message path and the counters of GLB and HIF. -/
theorem State.raise_keeps (s : State) (n : Nat) :
    Keeps [.out, .host, .counters] [causeField n, ovf 0, ovf 1] s (s.raise n) := by
  unfold State.raise
  have h1 := (s.setFlag_keeps (causeField n) true).trans (State.count_keeps _ 0 2 1)
  have h2 := h1.trans (State.when_keeps (fs := [ovf 0]) (ps := [.counters]) _ (s.causeMasked n) (·.count 0 3 1)
    fun _ => State.count_keeps _ 0 3 1)
  refine (h2.trans (State.when_keeps (ps := [.out, .host, .counters]) (fs := [ovf 1]) _ _ (·.message 5)
    fun _ => State.message_keeps _ 5)).mono (by simp) (by simp)

theorem ovf_key (b : Nat) : (ovf b).key = 32 * (0x19010 + 4 * (b / 4)) := by simp [ovf, Reg.PMC_OVF, Field.key]

/-! ### Outcomes -/

/-- What a command answers: its end state with queue, part and mode as they were. -/
theorem answer_eq (s t : State) : answer s t = .next { t with pending := s.pending, part := s.part, mode := s.mode } := rfl

/-- A command completes when its answer is an `answer` of a state that has the property. -/
theorem Completes.of_answer {i : Instr} {s t : State} {p : State → Prop} (h : exec i s = answer s t)
    (hp : p { t with pending := s.pending, part := s.part, mode := s.mode }) : Completes i s p := ⟨_, h, hp⟩

/-- `answer` keeps what the end state keeps, and the queue, part and mode. -/
theorem Keeps.answered {ps : List Piece} {fs : List Field} {s t : State} (h : Keeps ps fs s t) :
    Keeps (ps.filter fun p => p != .pending && p != .part && p != .mode) fs s
      { t with pending := s.pending, part := s.part, mode := s.mode } := by
  refine ⟨fun p hp => ?_, fun f hf => h.2 f hf⟩
  by_cases hm : p ∈ ps
  · have : p = .pending ∨ p = .part ∨ p = .mode := by
      simp only [List.mem_filter, not_and, hm, true_implies] at hp
      cases p <;> simp_all
    rcases this with rfl | rfl | rfl <;> simp [Piece.same]
  · have := h.1 p hm
    cases p <;> simp_all [Piece.same]

/-! ### Vectors -/

theorem vget_vmod_same {α : Type} {n : Nat} (v : Vector α n) (i : Nat) (f : α → α) (d : α) (h : i < n) :
    vget (vmod v i f) i d = f (vget v i d) := by simp [vget, vmod, h]

theorem vget_vmod_ne {α : Type} {n : Nat} (v : Vector α n) (i j : Nat) (f : α → α) (d : α) (h : j ≠ i) :
    vget (vmod v i f) j d = vget v j d := by
  unfold vget vmod
  split
  · split
    · rename_i hj hi
      simp [Ne.symm h]
    · rfl
  · rfl

end Sys2Proof.Machine
end

