-- ==== Sys2Proof/Laws/Hbm.lean ====
section
/-! SUPPORT. HBM's words: a read after a write gives the word written, a write leaves every other word alone, and every operation
that writes words keeps the canonical form, which reset has. -/
namespace Sys2Proof.Machine

/-! ### What leaves HBM alone -/

theorem State.when_hbm (s : State) (b : Bool) (f : State → State) (h : ∀ t : State, (f t).hbm = t.hbm) : (s.when b f).hbm = s.hbm := by
  unfold State.when; split
  · exact h s
  · rfl

theorem State.raise_hbm (s : State) (n : Nat) : (s.raise n).hbm = s.hbm := by
  unfold State.raise
  rw [State.when_hbm _ _ _ fun t => State.message_hbm t 5, State.when_hbm _ _ _ fun t => State.count_hbm t 0 3 1]
  rfl

theorem State.ringMessage_hbm (s : State) (c : Nat) : (s.ringMessage c).hbm = s.hbm := by
  unfold State.ringMessage
  rw [State.when_hbm _ _ _ fun t => State.message_hbm t _]

theorem State.event_hbm (s : State) (type source kind detail : Nat) : (s.event type source kind detail).hbm = s.hbm := by
  unfold State.event
  split
  · exact State.ringMessage_hbm _ evr
  · exact State.raise_hbm _ 6

theorem State.logMem_hbm (s : State) (kind : Nat) (st : Status) (pc addr : Nat) : (s.logMem kind st pc addr).hbm = s.hbm := by
  unfold State.logMem
  refine State.when_hbm _ _ _ fun t => ?_
  rw [State.when_hbm _ _ _ fun u => State.raise_hbm u 4]
  rfl

/-! ### Reads and writes of a word -/

theorem find_renewed_same {β : Type} (l : List (Nat × β)) (key : Nat) (w : β) (h : (l.any fun e => e.1 == key) = true) :
    (l.map fun e => if e.1 == key then (key, w) else e).find? (fun e => e.1 == key) = some (key, w) := by
  induction l with
  | nil => simp at h
  | cons e l ih =>
    rw [List.map_cons, List.find?_cons]
    by_cases he : e.1 = key
    · simp [he]
    · have hf : (e.1 == key) = false := by simpa using he
      rw [List.any_cons, hf, Bool.false_or] at h
      rw [hf]
      simp only [Bool.false_eq_true, if_false, hf]
      exact ih h

theorem find_renewed_ne {β : Type} (l : List (Nat × β)) (key k : Nat) (w : β) (hk : k ≠ key) :
    (l.map fun e => if e.1 == key then (key, w) else e).find? (fun e => e.1 == k) = l.find? (fun e => e.1 == k) := by
  induction l with
  | nil => rfl
  | cons e l ih =>
    rw [List.map_cons, List.find?_cons, List.find?_cons, ih]
    by_cases he : e.1 = key
    · have hf : (key == k) = false := by simpa using Ne.symm hk
      simp [he, hf]
    · have hf : (e.1 == key) = false := by simpa using he
      simp [hf]

/-- Read after write: the word written. -/
theorem State.memWord_setMemWord_same (s : State) (key : Nat) (w : HbmWord) : (s.setMemWord key w).memWord key = w := by
  unfold State.setMemWord
  split
  · rename_i h
    unfold State.memWord
    rw [find_renewed_same _ _ _ h]
  · rename_i h
    unfold State.memWord
    have hn : s.hbm.remap.find? (fun e => e.1 == key) = none := by
      rw [List.find?_eq_none]
      intro e he hek
      exact h (List.any_eq_true.mpr ⟨e, he, hek⟩)
    simp only [hn]
    exact SMap.get_set_same _ _ _ _

/-- A write leaves every other word alone. -/
theorem State.memWord_setMemWord_ne (s : State) (key k : Nat) (w : HbmWord) (hk : k ≠ key) :
    (s.setMemWord key w).memWord k = s.memWord k := by
  unfold State.setMemWord
  split
  · unfold State.memWord
    rw [find_renewed_ne _ _ _ _ hk]
  · unfold State.memWord
    simp only [SMap.get_set_ne _ _ _ _ _ _ hk]

/-! ### The canonical form -/

/-- The canonical form is that of both tables. -/
theorem Memory.wf_iff (h : HbmUnit) :
    Memory.wf h = true ↔ SMap.wf (fun _ => HbmWord.zero) h.words = true ∧ SMap.wf (fun _ => 0) h.checkErr = true :=
  Bool.and_eq_true_iff

/-- Writing a word keeps the canonical form. -/
theorem State.wf_setMemWord (s : State) (key : Nat) (w : HbmWord) (h : Memory.wf s.hbm = true) :
    Memory.wf (s.setMemWord key w).hbm = true := by
  unfold State.setMemWord
  split
  · exact h
  · exact (Memory.wf_iff _).mpr ⟨SMap.wf_set _ _ _ _ ((Memory.wf_iff _).mp h).1, ((Memory.wf_iff _).mp h).2⟩

/-- Moving a hard word to the remap table keeps the canonical form. -/
theorem State.wf_harden (s : State) (key addr : Nat) (good bad : HbmWord) (h : Memory.wf s.hbm = true) :
    Memory.wf (s.harden key addr good bad).hbm = true := by
  unfold State.harden
  have hl : Memory.wf (s.logMem 5 .ok (keyPc key) addr).hbm = true := by rw [State.logMem_hbm]; exact h
  dsimp only
  split
  · rw [State.setReg_hbm]
    exact (Memory.wf_iff _).mpr ⟨SMap.wf_set (fun _ => HbmWord.zero) (s.logMem 5 .ok (keyPc key) addr).hbm.words key HbmWord.zero
      ((Memory.wf_iff _).mp hl).1, ((Memory.wf_iff _).mp hl).2⟩
  · have hs := State.wf_setMemWord (s.logMem 5 .ok (keyPc key) addr) key bad hl
    split
    · exact hs
    · unfold State.memEvent
      rw [State.event_hbm]
      exact hs

/-- A write-back keeps the canonical form. -/
theorem State.wf_writeBack (s : State) (key addr : Nat) (good bad : HbmWord) (hard : Bool) (h : Memory.wf s.hbm = true) :
    Memory.wf (s.writeBack key addr good bad hard).hbm = true := by
  unfold State.writeBack
  split
  · exact State.wf_harden s key addr good bad h
  · exact State.wf_setMemWord s key good h

/-- Storing a whole word keeps the canonical form. -/
theorem State.wf_storeWhole (s : State) (key addr : Nat) (d : BitVec 64) (h : Memory.wf s.hbm = true) :
    Memory.wf (s.storeWhole key addr d).hbm = true := by
  unfold State.storeWhole
  split <;> exact State.wf_setMemWord s key _ h

theorem State.wf_forAll {α : Type} (s : State) (l : List α) (f : α → State → State)
    (hf : ∀ a t, Memory.wf (State.hbm t) = true → Memory.wf (f a t).hbm = true) (h : Memory.wf s.hbm = true) :
    Memory.wf (s.forAll l f).hbm = true := by
  unfold State.forAll
  induction l generalizing s with
  | nil => exact h
  | cons a l ih => exact ih _ (hf a s h)

/-- Removing entries keeps a table's form. -/
theorem SMap.wf_eraseAll {β : Type} [DecidableEq β] (d : Nat → β) (keys : List Nat) (key : Nat → Nat) (m : SMap β)
    (h : SMap.wf d m = true) : SMap.wf d (keys.foldl (fun m j => SMap.erase m (key j)) m) = true := by
  induction keys generalizing m with
  | nil => exact h
  | cons j keys ih => exact ih _ (SMap.wfFrom_filter d m none _ h)

/-- Fresh check symbols keep the canonical form. -/
theorem State.wf_freshChecks (s : State) (pc page : Nat) (h : Memory.wf s.hbm = true) : Memory.wf (s.freshChecks pc page).hbm = true := by
  have hc := SMap.wf_eraseAll (fun _ => (0 : BitVec 72)) (List.range 32) (checkKey pc page) s.hbm.checkErr ((Memory.wf_iff _).mp h).2
  rw [Memory.wf_iff]
  unfold State.freshChecks
  refine ⟨((Memory.wf_iff _).mp h).1, ?_⟩
  dsimp only
  convert hc using 2

/-- Upset check symbols keep the canonical form. -/
theorem State.wf_upsetChecks (s : State) (pc page : Nat) (l : List (Fin 32 × BitVec 72)) (h : Memory.wf s.hbm = true) :
    Memory.wf (s.upsetChecks pc page l).hbm = true := by
  refine (Memory.wf_iff _).mpr ⟨((Memory.wf_iff _).mp h).1, ?_⟩
  have hc := ((Memory.wf_iff _).mp h).2
  unfold State.upsetChecks
  dsimp only
  generalize s.hbm.checkErr = m at hc
  induction l generalizing m with
  | nil => exact hc
  | cons e l ih => exact ih _ (SMap.wf_set _ _ _ _ hc)

/-- Repairing a page keeps the canonical form. -/
theorem State.wf_repairPage (s : State) (pc page key addr : Nat) (hard : Bool) (h : Memory.wf s.hbm = true) :
    Memory.wf (s.repairPage pc page key addr hard).hbm = true := by
  unfold State.repairPage
  refine State.wf_forAll _ _ _ (fun k t ht => ?_) (State.wf_freshChecks _ _ _ h)
  dsimp only
  split
  · exact State.wf_writeBack _ _ _ _ _ _ ht
  · unfold State.when
    split
    · exact State.wf_setMemWord _ _ _ ht
    · exact ht

/-- Recomputing a page's checks keeps the canonical form. -/
theorem State.wf_recompute (s : State) (pc page key : Nat) (h : Memory.wf s.hbm = true) :
    Memory.wf (s.recompute pc page key).hbm = true := by
  unfold State.recompute
  refine State.wf_forAll _ _ _ (fun k t ht => ?_) (State.wf_freshChecks _ _ _ h)
  dsimp only
  split
  · rw [State.when_hbm _ _ _ fun u => by rfl]
    exact State.wf_setMemWord _ _ _ ht
  · exact State.wf_setMemWord _ _ _ ht

theorem State.persistentLost_hbm (s : State) : s.persistentLost.hbm = s.hbm := State.when_hbm _ _ _ fun _ => rfl

/-- Taking a PC out of service keeps the canonical form. -/
theorem State.wf_disablePc (s : State) (pc : Nat) (h : Memory.wf s.hbm = true) : Memory.wf (s.disablePc pc).hbm = true := by
  unfold State.disablePc
  rw [State.persistentLost_hbm, State.setReg_hbm]
  exact (Memory.wf_iff _).mpr ⟨SMap.wfFrom_filter _ s.hbm.words none _ ((Memory.wf_iff _).mp h).1,
    SMap.wfFrom_filter _ s.hbm.checkErr none _ ((Memory.wf_iff _).mp h).2⟩

/-- What a warm reset and Chrysalis keep of HBM has the canonical form. -/
theorem HbmUnit.wf_kept (u : HbmUnit) (h : Memory.wf u = true) : Memory.wf u.kept = true := h

/-- Reset's memory has the canonical form. -/
theorem State.wf_reset : Memory.wf State.reset.hbm = true := rfl

end Sys2Proof.Machine
end

