-- ==== Sys2Proof/Laws/Lanes.lean ====
section
/-! SUPPORT. Transmitters: a read after a change gives the change, every other transmitter is left alone, and all that sending
symbols can do. -/
namespace Sys2Proof.Machine

@[simp] theorem State.line_onLine_same (s : State) (key : Nat) (f : Line → Line) : (s.onLine key f).line key = f (s.line key) := by
  simp [State.onLine, State.line]

theorem State.line_onLine_ne (s : State) (key j : Nat) (f : Line → Line) (h : j ≠ key) : (s.onLine key f).line j = s.line j := by
  simp [State.onLine, State.line, SMap.get_set_ne _ _ _ _ _ _ h]

@[simp] theorem State.reg_onLine (s : State) (key : Nat) (f : Line → Line) (g : Field) : (s.onLine key f).reg g = s.reg g := rfl
@[simp] theorem State.group_onLine (s : State) (key : Nat) (f : Line → Line) (g : Nat) : (s.onLine key f).group g = s.group g := rfl
@[simp] theorem State.out_onLine (s : State) (key : Nat) (f : Line → Line) : (s.onLine key f).out = s.out := rfl

theorem State.onLine_keeps (s : State) (key : Nat) (f : Line → Line) : Keeps [.link] [] s (s.onLine key f) :=
  ⟨fun p hp => by cases p <;> simp_all [Piece.same, State.onLine], fun _ _ => rfl⟩

/-- What leaves when a lane sends is told the disparity at which it begins. -/
@[simp] theorem State.out_sendOn (s : State) (key : Nat) (what : Bool → Out) (l : List Symbol) :
    (s.sendOn key what l).out = what (s.disparity key) :: s.out := rfl

/-- The lane goes on at the disparity after its last symbol. -/
theorem State.line_sendOn_same (s : State) (key : Nat) (what : Bool → Out) (l : List Symbol) :
    (s.sendOn key what l).line key =
      { s.line key with sent := (s.line key).sent + 1, rd := (codeAll (s.disparity key) l).2 } :=
  s.line_onLine_same key fun l' => { l' with sent := l'.sent + 1, rd := (codeAll (s.disparity key) l).2 }

theorem State.line_sendOn_ne (s : State) (key j : Nat) (what : Bool → Out) (l : List Symbol) (h : j ≠ key) :
    (s.sendOn key what l).line j = s.line j := s.line_onLine_ne key j (fun l' => { l' with sent := l'.sent + 1, rd := (codeAll (s.disparity key) l).2 }) h

/-- Sending changes the transmitters and what leaves, nothing else. -/
theorem State.sendOn_keeps (s : State) (key : Nat) (what : Bool → Out) (l : List Symbol) :
    Keeps [.link, .out] [] s (s.sendOn key what l) :=
  (s.onLine_keeps key _).trans ((s.onLine key _).emit_keeps _)

theorem codeAll_append (rd : Bool) (a b : List Symbol) : codeAll rd (a ++ b) =
    ((codeAll rd a).1 ++ (codeAll (codeAll rd a).2 b).1, (codeAll (codeAll rd a).2 b).2) := by
  induction a generalizing rd with
  | nil => rfl
  | cons x a ih => simp [codeAll, ih]

end Sys2Proof.Machine
end

