-- ==== Sys2Proof/Tests/Slice0.lean ====
section
/-! SUPPORT. Tests: a witness for the hypotheses of each statement, clause by clause, the checks of WellFormed, and single commands. -/
namespace Sys2Proof.Tests
set_option Elab.async false
open Sys2Proof.Machine

/-- Bring-up done, native mode. -/
def up : State := { State.reset with power := { State.reset.power with starting := false, cold := false } }.setRegs [(Reg.GLB_STATUS_INSTAR, 4), (Reg.FLT_OP_ACK_WAIT, 0)]
/-- The same with some register fields set. -/
def on (l : List (Field × Nat)) : State := up.setRegs l
/-- XK2 mode. -/
def xk : State := { up with mode := .xk2 }
/-- Another power state. -/
def pow (p : Power) (s : State) : State := { s with power := { s.power with state := p } }
/-- A command waits: bytes set in a zeroed descriptor (offset, width, value), at the head of its ring. -/
def desc (n : Nat) (l : List (Nat × Nat × Nat)) : List Byte :=
  l.foldl (fun b e => b.take e.1 ++ leBytes e.2.1 e.2.2 ++ b.drop (e.1 + e.2.1)) (List.replicate n 0)
def fet (n : Nat) (l : List (Nat × Nat × Nat)) (buf : HostRead := .ok []) : Fetched := ⟨3, desc n l, buf⟩
def cmd (s : State) (ring : Nat) (d : Fetched) : State := s.onSub ring fun r => { r with fetched := [d] }
/-- Stripe 5: 64 rows, one pass. -/
def par : Params := ⟨5, 64, 16, 1, 1, 8, .none, .none, none, 0xFFFFFFFF, 0xFFFFFFFF, 1000, 0, 0, 0, 0, 0⟩
/-- Stripe 5 as bound, and on its way. -/
def str : Stripe := up.newStripe par ⟨8, 1, 0⟩ false
def run0 : Run := str.passRun 0
def tick : Run := { run0 with ticked := true, announced := true, next := 3, fixed := [(3, 3000000), (2, 2000000), (1, 1000000)] }
def wr : Stripe := { str with state := .write, run := some tick, checked := true }
def has (s : State) (p : Stripe) : State := { s with stripes := [p] }
def writing : State := has up wr
def aux1 : AuxMove := ⟨none, 10, 10, false, true, 100, true, false, .ok, [], 160, 0⟩
/-- Descriptors of the CTR and of the XK2 ring, with some fields set. -/
def d8 (op : Nat) (l : List (Nat × Nat × Nat)) : Fetched := fet 64 ((0, 1, op) :: l)
def d9 (op : Nat) (l : List (Nat × Nat × Nat)) : Fetched := fet 32 ((0, 1, op) :: l)
/-- They head their rings. -/
def c8 (op : Nat) (l : List (Nat × Nat × Nat)) (s : State := up) : State := cmd s 8 (d8 op l)
def c9 (op : Nat) (l : List (Nat × Nat × Nat)) (s : State := xk) : State := cmd s 9 (d9 op l)
/-- Every group READY towards a far end that carries everything; the data lanes of group 2 idle. -/
def linked (s : State) : State :=
  { s with link := { s.link with groups := s.link.groups.map fun (g : Group) => { g with far := some ⟨4, 63, 0⟩ } } }.setRegs
    ((List.range 16).map (fun g => (Reg.MPH_GRP_STATUS_STATE g, grpReady)) ++
      (List.range 8).map fun i => (Reg.MPH_LSTATE_STATE 2 i, laneL0))
/-- Ready to bind. -/
def ready (s : State) : State :=
  { (linked s).setRegs [(Reg.BEM_STATUS_BT_VALID, 1), (Reg.BEM_STATUS_DM_VALID, 1), (Reg.STG_CTL_SP_EN, 1), (Reg.LPR_CTL_EN, 1),
      (Reg.FRM_DWELL_DELAY, 32), (Reg.FRM_DWELL_LEN, 100), (Reg.STG_TSYNC_LEAD, 2000), (Reg.MEM_STATUS_TRAINED, 1),
      (Reg.MEM_STATUS_LIVE0, 32), (Reg.MEM_STATUS_LIVE1, 32)] with
    looper := { s.looper with banks := vmod s.looper.banks 0 fun _ => some (bankOf []) } }
/-- A settled package of stripe 5, without figures. -/
def pk : Package := ⟨5, { Flx.empty with phase := .done, np := 16, len := 64, stripe := 5 }, [], true, [], [], 0, [], .replicate 5 0, 0⟩
def staged (s : State) : State := { s with packages := [pk] }

namespace Time

def ptp := on [(Reg.TIM_PTP_CTL_EN, 1), (Reg.TIM_CTL_SRC, 1)]
def x1 : State := { up with time := { up.time with heldStep := some (-5) } }
theorem witness_StepsOfTheCounter :
    ((up.linkUp = true) ∧ (up.native = true)) ∧
    ((up.linkUp = true) ∧ (up.native = true)) ∧
    ((writing.linkUp = true) ∧ (writing.native = true)) ∧
    ((up.linkUp = true) ∧ (up.native = true) ∧ ((17#32).getLsbD 4 = true)) ∧
    ((x1.time.heldStep = some (-5)) ∧ (x1.stepBlocked = false)) ∧
    (writing.stepBlocked = true ∨ writing.time.heldStep = none) := by
  refine ⟨?_, ?_, ?_, ?_, ?_, ?_⟩ <;> decide +kernel
def x2 : State := on [(Reg.FLT_SVC_SESSION, 1)]
theorem witness_TimeRegisters :
    ((up.linkUp = true) ∧ (up.native = true)) ∧
    ((up.linkUp = true) ∧ (up.native = true)) ∧
    ((up.linkUp = true) ∧ (up.native = true)) ∧
    (up.linkUp = true) ∧
    (x2.reg Reg.FLT_SVC_SESSION = 1) := by
  refine ⟨?_, ?_, ?_, ?_, ?_⟩ <;> decide +kernel
def x3 : State := ptp.setReg Reg.TIM_STATUS_GUARD_TRIP 1
def x4 : State := ptp.setReg Reg.TIM_CTL_GUARD 1
def x5 : State := ptp.setReg Reg.TIM_CTL_GUARD 0
def x6 : State := { ptp with time := { ptp.time with tsq := (List.range 8).map fun i => (i, i) } }
def x7 : State := { ptp with time := { ptp.time with tsq := [(8, 3), (9, 5)], syncDiff := some 100 } }
theorem witness_PtpMeasurement :
    ((ptp.reg Reg.TIM_PTP_CTL_EN = 1) ∧ (ptp.reg Reg.TIM_CTL_SRC = 1)) ∧
    ((x3.reg Reg.TIM_PTP_CTL_EN = 1) ∧ (x3.reg Reg.TIM_CTL_SRC = 1)) ∧
    ((x4.reg Reg.TIM_PTP_CTL_EN = 1) ∧ (x4.reg Reg.TIM_CTL_SRC = 1)) ∧
    ((x5.reg Reg.TIM_PTP_CTL_EN = 1) ∧ (x5.reg Reg.TIM_CTL_SRC = 1)) ∧
    ((ptp.reg Reg.TIM_PTP_CTL_EN = 1) ∧ (ptp.time.grandmaster ≠ some 9)) ∧
    (ptp.reg Reg.TIM_PTP_CTL_EN = 1) ∧
    (x6.reg Reg.TIM_PTP_CTL_EN = 1) ∧
    ((List.find? (fun e => e.1 == (9#16).toNat) x7.time.tsq = some ((9#16).toNat, 5)) ∧ (x7.time.syncDiff = some 100)) ∧
    (List.find? (fun e => e.1 == (9#16).toNat) ptp.time.tsq = none) := by
  refine ⟨?_, ?_, ?_, ?_, ?_, ?_, ?_, ?_, ?_⟩ <;> decide +kernel
def x8 : State := ptp.setReg Reg.TIM_CTL_SRC 2
def x9 : State := ptp.setRegs [(Reg.TIM_CTL_HOLD, 1), (Reg.TIM_RATE, 5)]
def x10 : State := on [(Reg.TIM_CTL_SRC, 2)]
def x11 : State := on [(Reg.TIM_CTL_SRC, 3)]
def x12 : State := { up with time := { up.time with lastPps := some 0 } }
def x13 : State := { on [(Reg.TIM_CTL_SRC, 1)] with time := { up.time with lastPps := some 0 } }
theorem witness_LossOfMasterAndPps :
    ((ptp.reg Reg.TIM_PTP_CTL_EN = 1) ∧ (ptp.reg Reg.TIM_CTL_SRC = 1 ∨ ptp.reg Reg.TIM_CTL_SRC = 2) ∧ ((Instr.ptpAnnounceTimeout, 1) ∈
      [(Instr.ptpAnnounceTimeout, 1), (Instr.ptpSyncTimeout, 2), (Instr.ethBlockLockLost, 4)])) ∧
    ((x8.reg Reg.TIM_PTP_CTL_EN = 1) ∧ (x8.reg Reg.TIM_CTL_SRC = 1 ∨ x8.reg Reg.TIM_CTL_SRC = 2) ∧ ((Instr.ptpSyncTimeout, 2) ∈
      [(Instr.ptpAnnounceTimeout, 1), (Instr.ptpSyncTimeout, 2), (Instr.ethBlockLockLost, 4)])) ∧
    ((x9.reg Reg.TIM_PTP_CTL_EN = 1) ∧ (x9.reg Reg.TIM_CTL_SRC = 1 ∨ x9.reg Reg.TIM_CTL_SRC = 2) ∧ ((Instr.ethBlockLockLost, 4) ∈
      [(Instr.ptpAnnounceTimeout, 1), (Instr.ptpSyncTimeout, 2), (Instr.ethBlockLockLost, 4)])) ∧
    (x10.reg Reg.TIM_CTL_SRC = 2) ∧
    (x11.reg Reg.TIM_CTL_SRC = 3) ∧
    ((x12.native = true) ∧ (x12.time.lastPps = some 0) ∧ (499999999999 < 0 + 500000000000)) ∧
    ((x13.native = true) ∧ (∀ last ∈ x13.time.lastPps, last + 500000000000 ≤ 500000000000)) ∧
    (xk.native = false) ∧
    ((x10.native = true) ∧ (∀ last ∈ x10.time.lastPps, last + 500000000000 ≤ 1000000000300)) := by
  refine ⟨?_, ?_, ?_, ?_, ?_, ?_, ?_, ?_, ?_⟩ <;> decide +kernel

end Time

namespace Rings

def ringOn := on [(Reg.HIF_SQ_CTL_EN 2, 1), (Reg.HIF_SQ_CTL_LOG2_SIZE 2, 4)]
def fetching := ringOn.onSub 2 fun r => { r with tail := 3 }
def fetchingCons := (fetching.setReg (Reg.HIF_SQ_STATUS_CONS 2) 15)
def kA : Completion := Completion.mk' ⟨2, 3, 0⟩ .stripeAborted 7 1 8
def kB : Completion := Completion.mk' ⟨2, 4, 0⟩ .ok 7 1 9
def holding (c : Nat) (s : State) : State := s.onCpl c fun r => { r with held := [kA, kB], dirty := true, holding := true }
def x1 : State := on [(Reg.HIF_CPR_CTL_EN 1, 1), (Reg.HIF_CPR_CTL_LOG2_SIZE 1, 4), (Reg.HIF_CPR_IDX_W 1, 9)]
def x2 : State := on [(Reg.HIF_EVR_CTL_EN, 1), (Reg.HIF_EVR_CTL_LOG2_SIZE, 4)]
def x3 : State := on [(Reg.HIF_CPR_CTL_EN 1, 1), (Reg.HIF_CPR_CTL_LOG2_SIZE 1, 4)]
theorem witness_Doorbells :
    ((ringOn.native = true) ∧ (ringOn.linkUp = true) ∧ (ringOn.flag (Reg.HIF_SQ_CTL_EN 2) = true ∧ (15#32).toNat < 2 ^ 16 ∧ (15#32).toNat <
      2 ^ ringOn.reg (Reg.HIF_SQ_CTL_LOG2_SIZE 2))) ∧
    ((ringOn.native = true) ∧ (ringOn.linkUp = true) ∧ (¬(ringOn.flag (Reg.HIF_SQ_CTL_EN 2) = true ∧ (16#32).toNat < 2 ^ 16 ∧ (16#32).toNat
      < 2 ^ ringOn.reg (Reg.HIF_SQ_CTL_LOG2_SIZE 2)))) ∧
    ((x1.native = true) ∧ (x1.linkUp = true) ∧ (x1.cplGood 1 (9#32).toNat = true)) ∧
    ((x2.native = true) ∧ (x2.linkUp = true) ∧ (x2.cplGood 4 (0#32).toNat = true)) ∧
    ((x3.native = true) ∧ (x3.linkUp = true) ∧ (x3.cplGood 1 (16#32).toNat = false)) ∧
    ((xk.native = false) ∧ (xk.linkUp = true)) ∧
    ((xk.native = false) ∧ (xk.linkUp = true)) := by
  refine ⟨?_, ?_, ?_, ?_, ?_, ?_, ?_⟩ <;> decide +kernel
def x4 : State := on [(Reg.HIF_SQ_BASE_LO_ADDR 3, 64)]
def x5 : State := on [(Reg.HIF_SQ_CTL_EN 3, 1)]
theorem witness_RingEnable :
    ((up.native = true) ∧ (up.linkUp = true) ∧ ((132097#32).getLsbD 0 = true) ∧ (up.access.flag (Reg.HIF_SQ_CTL_EN 3) = false) ∧ (4 ≤ bits
      (132097#32).toNat 8 5) ∧ (bits (132097#32).toNat 8 5 ≤ 16) ∧ (up.access.reg (Reg.HIF_SQ_BASE_LO_ADDR 3) % 4096 = 0)) ∧
    ((up.native = true) ∧ (up.linkUp = true) ∧ ((131841#32).getLsbD 0 = true) ∧ (up.access.flag (Reg.HIF_SQ_CTL_EN 3) = false) ∧ (bits
      (131841#32).toNat 8 5 < 4 ∨ 16 < bits (131841#32).toNat 8 5 ∨ up.access.reg (Reg.HIF_SQ_BASE_LO_ADDR 3) % 4096 ≠ 0)) ∧
    ((x4.native = true) ∧ (x4.linkUp = true) ∧ ((132097#32).getLsbD 0 = true) ∧ (x4.access.flag (Reg.HIF_SQ_CTL_EN 3) = false) ∧ (bits
      (132097#32).toNat 8 5 < 4 ∨ 16 < bits (132097#32).toNat 8 5 ∨ x4.access.reg (Reg.HIF_SQ_BASE_LO_ADDR 3) % 4096 ≠ 0)) ∧
    ((x5.native = true) ∧ (x5.linkUp = true) ∧ ((132097#32).getLsbD 0 = true) ∧ (x5.access.reg (Reg.HIF_SQ_CTL_EN 3) = 1) ∧ (x5.access.reg
      (Reg.HIF_SQ_CTL_LOG2_SIZE 3) < 32)) ∧
    ((up.native = true) ∧ (up.linkUp = true) ∧ ((132097#32).getLsbD 0 = true) ∧ (up.access.flag (Reg.HIF_CPR_CTL_EN 3) = false) ∧ (4 ≤ bits
      (132097#32).toNat 8 5) ∧ (bits (132097#32).toNat 8 5 ≤ 16) ∧ (up.access.reg (Reg.HIF_CPR_BASE_LO_ADDR 3) % 4096 = 0)) := by
  refine ⟨?_, ?_, ?_, ?_, ?_⟩ <;> decide +kernel
theorem witness_DescriptorFetches :
    (fetchingCons.fetches 2 = true) ∧
    (fetchingCons.fetches 2 = true) ∧
    (up.fetches 2 = false) := by
  refine ⟨?_, ?_, ?_⟩ <;> decide +kernel
def x6 : State := holding 1 (on [(Reg.HIF_CPR_CTL_EN 1, 1), (Reg.HIF_CPR_CTL_LOG2_SIZE 1, 4), (Reg.HIF_CPR_IDX_W 1, 15), (Reg.HIF_CPR_IDX_HEAD 1, 5)])
def x7 : List Completion := [kB]
def x8 : State := holding 4 (xk.setRegs [(Reg.XK2_CTL_CPL_EN, 1), (Reg.XK2_CPL_CTL_LOG2_SIZE, 4)])
def x9 : State := { holding 1 (on [(Reg.HIF_CPR_CTL_HOLDOFF 1, 9)]) with host := { (holding 1 up).host with msixTable := [(7, 0)] } }
theorem witness_CompletionsAndHoldoff :
    ((x6.clocked = true) ∧ (x6.cplRoom 1 = true) ∧ (x6.heldCpl 1 = kA :: x7)) ∧
    ((x8.clocked = true) ∧ (x8.cplRoom 4 = true) ∧ (x8.heldCpl 4 = kA :: x7)) ∧
    ((x9.native = true) ∧ (x9.host.vectorMasked (x9.reg (Reg.HIF_CPR_CTL_VECTOR 1)) = false) ∧ ((vget x9.host.cpl 1 CplRing.init).holding =
      true) ∧ ((vget x9.host.cpl 1 CplRing.init).dirty = true)) ∧
    ((vget up.host.cpl 4 CplRing.init).dirty = false) := by
  refine ⟨?_, ?_, ?_, ?_⟩ <;> decide +kernel

end Rings

namespace Descriptors

def tl (t i : Nat) := d8 2 [(8, 1, t), (9, 1, i), (16, 8, 64), (24, 4, tableLen t)]
def xl := d9 4 [(16, 4, 1048576)]
def ld := { d8 0x10 [(1, 1, 1), (16, 4, 3), (20, 4, 5)] with buf := .ok [1, 2, 3, 4] }
def xld (a : Nat) := { d9 1 [(1, 1, a), (16, 4, 3), (20, 4, 5)] with buf := .ok [1, 2, 3, 4] }
def x1 : State := c8 2 [(2, 1, 5)]
def x2 : Fetched := d8 2 [(2, 1, 5)]
def x3 : State := c8 10 [(2, 1, 5)]
def x4 : Fetched := d8 10 [(2, 1, 5)]
def x5 : State := c8 13 [(2, 1, 5)]
def x6 : Fetched := d8 13 [(2, 1, 5)]
def x7 : State := cmd up 7 (d8 16 [(2, 1, 5)])
def x8 : Fetched := d8 16 [(2, 1, 5)]
def x9 : State := c9 5 [(4, 1, 5)]
def x10 : Fetched := d9 5 [(4, 1, 5)]
def x11 : State := c8 14 []
def x12 : Fetched := d8 14 []
def x13 : State := c9 8 []
def x14 : Fetched := d9 8 []
def x15 : State := c8 1 []
def x16 : Fetched := d8 1 []
theorem witness_DescriptorsThatOnlyComplete :
    (((Instr.tableLoad (HostRead.ok []), 2) ∈ [(Instr.nop, 1), (Instr.tableLoad (HostRead.ok []), 2), (Instr.stripeResume, 4),
      (Instr.stripeAbort, 5), (Instr.stripeEnd, 6), (Instr.ledgerRead, 7), (Instr.counterSnapshot, 8), (Instr.calRun, 9), (Instr.beamCheck,
      10), (Instr.switchBack true, 11), (Instr.axisMove, 12), (Instr.axisStop, 13)]) ∧ (Heads x1 8 (Instr.tableLoad (HostRead.ok []), 2).2
      x2) ∧ (byteAt x2.desc 1 = 0) ∧ (byteAt x2.desc 2 ≠ 0)) ∧
    (((Instr.beamCheck, 10) ∈ [(Instr.nop, 1), (Instr.tableLoad (HostRead.ok []), 2), (Instr.stripeResume, 4), (Instr.stripeAbort, 5),
      (Instr.stripeEnd, 6), (Instr.ledgerRead, 7), (Instr.counterSnapshot, 8), (Instr.calRun, 9), (Instr.beamCheck, 10), (Instr.switchBack
      true, 11), (Instr.axisMove, 12), (Instr.axisStop, 13)]) ∧ (Heads x3 8 (Instr.beamCheck, 10).2 x4) ∧ (byteAt x4.desc 1 = 0) ∧ (byteAt
      x4.desc 2 ≠ 0)) ∧
    (((Instr.axisStop, 13) ∈ [(Instr.nop, 1), (Instr.tableLoad (HostRead.ok []), 2), (Instr.stripeResume, 4), (Instr.stripeAbort, 5),
      (Instr.stripeEnd, 6), (Instr.ledgerRead, 7), (Instr.counterSnapshot, 8), (Instr.calRun, 9), (Instr.beamCheck, 10), (Instr.switchBack
      true, 11), (Instr.axisMove, 12), (Instr.axisStop, 13)]) ∧ (Heads x5 8 (Instr.axisStop, 13).2 x6) ∧ (byteAt x6.desc 1 = 0) ∧ (byteAt
      x6.desc 2 ≠ 0)) ∧
    ((Heads x7 7 16 x8) ∧ (byteAt x8.desc 1 = 0) ∧ (byteAt x8.desc 2 ≠ 0)) ∧
    (((Instr.xk2BeamCheck, 5) ∈ [(Instr.xk2Layout, 1), (Instr.stripeStop, 3), (Instr.xk2TableLoad (HostRead.ok []), 4),
      (Instr.xk2BeamCheck, 5), (Instr.auxMove, 6), (Instr.auxStop, 7)]) ∧ (Heads x9 9 (Instr.xk2BeamCheck, 5).2 x10) ∧ (byteAt x10.desc 1 =
      0) ∧ (byteAt x10.desc 4 ≠ 0)) ∧
    ((x11.head? 8 = some x12) ∧ (x11.cprOf 8 ≤ 4) ∧ (opcodeKnown 8 (byteAt x12.desc 0) = false)) ∧
    ((x13.head? 9 = some x14) ∧ (x13.native = false) ∧ (xk2OpKnown (byteAt x14.desc 0) = false)) ∧
    ((Heads x15 8 1 x16) ∧ (Zero x16.desc 1 64)) := by
  refine ⟨?_, ?_, ?_, ?_, ?_, ?_, ?_, ?_⟩ <;> decide +kernel
def x17 : State := cmd up 8 (tl 1 0)
def x18 : Fetched := tl 1 0
def x19 : State := cmd up 8 (tl 4 1)
def x20 : Fetched := tl 4 1
def x21 : State := cmd up 8 (tl 3 0)
def x22 : Fetched := tl 3 0
theorem witness_TableLoads :
    ((Heads x17 8 2 x18) ∧ (Zero x18.desc 1 8) ∧ (Zero x18.desc 10 16) ∧ (Zero x18.desc 28 64) ∧ (leAt x18.desc 16 8 % 8 = 0) ∧ (byteAt
      x18.desc 8 ≤ 4) ∧ (byteAt x18.desc 9 < tableIndices (byteAt x18.desc 8)) ∧ (byteAt x18.desc 8 = 2 → x17.part = Part.fx640) ∧ (byteAt
      x18.desc 8 = 4 → x17.bankBusy (byteAt x18.desc 9) = false) ∧ (leAt x18.desc 24 4 = tableLen (byteAt x18.desc 8))) ∧
    ((Heads x19 8 2 x20) ∧ (Zero x20.desc 1 8) ∧ (Zero x20.desc 10 16) ∧ (Zero x20.desc 28 64) ∧ (leAt x20.desc 16 8 % 8 = 0) ∧ (byteAt
      x20.desc 8 ≤ 4) ∧ (byteAt x20.desc 9 < tableIndices (byteAt x20.desc 8)) ∧ (byteAt x20.desc 8 = 2 → x19.part = Part.fx640) ∧ (byteAt
      x20.desc 8 = 4 → x19.bankBusy (byteAt x20.desc 9) = false) ∧ (leAt x20.desc 24 4 = tableLen (byteAt x20.desc 8))) ∧
    ((Heads x21 8 2 x22) ∧ (Zero x22.desc 1 8) ∧ (Zero x22.desc 10 16) ∧ (Zero x22.desc 28 64) ∧ (leAt x22.desc 16 8 % 8 = 0) ∧ (byteAt
      x22.desc 8 ≤ 4) ∧ (byteAt x22.desc 9 < tableIndices (byteAt x22.desc 8)) ∧ (byteAt x22.desc 8 = 2 → x21.part = Part.fx640) ∧ (byteAt
      x22.desc 8 = 4 → x21.bankBusy (byteAt x22.desc 9) = false) ∧ (leAt x22.desc 24 4 = tableLen (byteAt x22.desc 8))) := by
  refine ⟨?_, ?_, ?_⟩ <;> decide +kernel
def x23 : State := cmd up 6 ld
def x24 : List Byte := [1, 2, 3, 4]
def x25 : State := cmd xk 9 (xld 0)
def x26 : Fetched := xld 0
def x27 : State := cmd xk 9 (xld 1)
def x28 : Fetched := xld 1
theorem witness_LayoutBuffersQueue :
    ((Heads x23 6 16 ld) ∧ (ld.buf = HostRead.ok x24) ∧ (byteAt ld.desc 1 < 2) ∧ (Zero ld.desc 2 8) ∧ (1 ≤ leAt ld.desc 16 4) ∧ (leAt
      ld.desc 16 4 ≤ 16777216) ∧ (Zero ld.desc 24 64) ∧ ((x23.channel 6).drain = none)) ∧
    ((Heads x25 9 1 x26) ∧ (x26.buf = HostRead.ok x24) ∧ (byteAt x26.desc 1 = 0) ∧ (Zero x26.desc 4 8) ∧ (1 ≤ leAt x26.desc 16 4) ∧ (leAt
      x26.desc 16 4 ≤ 16777216) ∧ (Zero x26.desc 24 32) ∧ ((x25.channel 0).drain = none)) ∧
    ((Heads x27 9 1 x28) ∧ (byteAt x28.desc 1 = 1) ∧ (Zero x28.desc 4 8) ∧ (1 ≤ leAt x28.desc 16 4) ∧ (leAt x28.desc 16 4 ≤ 16777216) ∧
      (Zero x28.desc 24 32)) := by
  refine ⟨?_, ?_, ?_⟩ <;> decide +kernel

end Descriptors

namespace Commands

def sb := d8 3 [(8,4,5),(12,4,64),(16,2,40),(18,1,1),(19,1,1),(20,1,8),(32,4,1000)]
def ss := d9 2 [(20,4,5),(24,4,64)]
def heldp : Stripe := { str with state := .held, resumeAt := some 9, checked := true }
def rs (n : Nat) := d8 n [(8,4,5)]
def sp3 := d9 3 [(20,4,5)]
def lr (k : Nat) := d8 7 [(12,1,k),(1,1,1),(8,4,5),(20,4,1),(24,8,0x1000),(16,4,1)]
def rep : State := { up with reports := [⟨5, 64, [⟨1, 2, 3, 4, 5, 6⟩], [⟨1, 2, [3]⟩, ⟨4, 5, []⟩]⟩] }
def snp := d8 8 [(8,8,128),(16,4,5000)]
def cal (k : Nat) := d8 9 [(1,1,1),(8,1,k)]
def eye : State := on ([(Reg.CAL_EYE_REF, 5), (Reg.CAL_EYE_PARK_POS, 90)] ++ (List.range 4).flatMap fun n => [(Reg.AUX_VEL_VSTART n, 10), (Reg.AUX_VEL_VMAX n, 10), (Reg.AUX_MIN_LIMIT n, 0), (Reg.AUX_MAX_LIMIT n, 1000)])
def bc := d8 10 [(1,1,1),(8,8,64),(16,4,2129920)]
def bc9 := d9 5 [(8,8,64),(16,4,1048576)]
def sw (k i : Nat) := d8 11 [(8,1,k),(9,1,i)]
def ax (y : Nat) := d8 12 [(16,8,y)]
def stgOn := on [(Reg.STG_CTL_SP_EN, 1), (Reg.SKP_YMAX_Y, 10)]
def ax2 := d8 12 [(8,1,3),(16,8,50)]
def ax9 := d9 6 [(8,8,50),(24,1,2)]
def ym : YMove := ⟨none, 500, false, none, [], 0, ⟨5, 5, 1, 5⟩⟩
def amv : AuxMove := ⟨some ⟨8, 1, 0⟩, 10, 10, false, true, 1000000000, false, false, .ok, [], 160, 0⟩
def amg (s : State) : State := s.onAux 2 fun a => { a with move := some amv }
def x1 : State := cmd (ready up) 8 sb
def x2 : State := cmd (ready xk) 9 ss
def x3 : State := cmd (has up str) 8 sb
def x4 : State := { up with stripes := [str, str, str, str] }
theorem witness_StripesBind :
    ((Heads x1 8 3 sb) ∧ (Zero sb.desc 1 8) ∧ (firstRefusal (bodyCheck x1 sb.desc) = none) ∧ (MayBind x1 (Params.ofDesc sb.desc) 8 12)) ∧
    ((Heads x2 9 2 ss) ∧ (Zero ss.desc 1 2) ∧ (Zero ss.desc 4 8) ∧ (Zero ss.desc 28 32) ∧ (lengthOk (leAt ss.desc 24 4) 80 = true) ∧
      (MayBind x2 (Params.xk2 ss.desc) 20 24)) ∧
    ((Heads x3 8 3 sb) ∧ (Zero sb.desc 1 8) ∧ (firstRefusal (bodyCheck x3 sb.desc) = none) ∧ (x3.stripes.length < 4) ∧ (x3.stripe? (leAt
      sb.desc 8 4) = some str)) ∧
    (4 ≤ x4.stripes.length) := by
  refine ⟨?_, ?_, ?_, ?_⟩ <;> decide +kernel
def x5 : State := cmd (has (ready up) heldp) 8 (rs 4)
def x6 : Fetched := rs 4
def x7 : State := cmd up 8 (rs 4)
def x8 : State := cmd writing 8 (rs 4)
def x9 : State := cmd (has up heldp) 8 (rs 5)
def x10 : Fetched := rs 5
def x11 : State := cmd writing 8 (rs 5)
def x12 : State := cmd (has up str) 8 (rs 6)
def x13 : Fetched := rs 6
def x14 : State := cmd writing 8 (rs 6)
def x15 : State := cmd (has xk str) 9 sp3
theorem witness_StripesResumeAndEnd :
    ((Heads x5 8 4 x6) ∧ (Zero x6.desc 1 8) ∧ (Zero x6.desc 16 64) ∧ (leAt x6.desc 12 4 ≤ x5.modeMax) ∧ (x5.stripe? (leAt x6.desc 8 4) =
      some heldp) ∧ (firstRefusal (x5.resumeChecks heldp) = none)) ∧
    ((Heads x7 8 4 x6) ∧ (Zero x6.desc 1 8) ∧ (Zero x6.desc 16 64) ∧ (leAt x6.desc 12 4 ≤ x7.modeMax) ∧ (x7.stripe? (leAt x6.desc 8 4) =
      none)) ∧
    ((Heads x8 8 4 x6) ∧ (Zero x6.desc 1 8) ∧ (Zero x6.desc 16 64) ∧ (leAt x6.desc 12 4 ≤ x8.modeMax) ∧ (x8.stripe? (leAt x6.desc 8 4) =
      some wr) ∧ (wr.needPkg = none) ∧ (wr.state ≠ StripeState.held)) ∧
    ((Heads x9 8 5 x10) ∧ (Zero x10.desc 1 8) ∧ (Zero x10.desc 12 64) ∧ (x9.stripe? (leAt x10.desc 8 4) = some heldp) ∧ (heldp.state =
      StripeState.held)) ∧
    ((Heads x11 8 5 x10) ∧ (Zero x10.desc 1 8) ∧ (Zero x10.desc 12 64) ∧ (x11.stripe? (leAt x10.desc 8 4) = some wr) ∧ (x11.active? = some
      wr) ∧ (wr.state = StripeState.write) ∧ (wr.run = some tick) ∧ (tick.ticked = true) ∧ (wr.bv.role = 0)) ∧
    ((Heads x12 8 6 x13) ∧ (Zero x13.desc 1 8) ∧ (Zero x13.desc 12 64) ∧ (x12.stripe? (leAt x13.desc 8 4) = some str) ∧ (str.state =
      StripeState.bound)) ∧
    ((Heads x14 8 6 x13) ∧ (Zero x13.desc 1 8) ∧ (Zero x13.desc 12 64) ∧ (x14.stripe? (leAt x13.desc 8 4) = some wr) ∧ (wr.state.moving =
      true)) ∧
    ((Heads x15 9 3 sp3) ∧ (Zero sp3.desc 1 2) ∧ (Zero sp3.desc 4 20) ∧ (Zero sp3.desc 24 32) ∧ (x15.stripe? (leAt sp3.desc 20 4) = some
      str) ∧ (str.state = StripeState.bound)) := by
  refine ⟨?_, ?_, ?_, ?_, ?_, ?_, ?_, ?_⟩ <;> decide +kernel
def x16 : State := cmd rep 8 (lr 1)
def x17 : Fetched := lr 1
def x18 : Report := ⟨5, 64, [⟨1, 2, 3, 4, 5, 6⟩], [⟨1, 2, [3]⟩, ⟨4, 5, []⟩]⟩
def x19 : State := cmd rep 8 (lr 0)
def x20 : Fetched := lr 0
def x21 : State := cmd up 8 snp
def x22 : State := cmd up 8 (cal 6)
def x23 : Fetched := cal 6
def x24 : State := cmd writing 8 (cal 1)
def x25 : Fetched := cal 1
def x26 : State := cmd writing 8 (cal 3)
def x27 : Fetched := cal 3
def x28 : State := cmd eye 8 bc
def x29 : State := cmd (eye.setReg Reg.CAL_STATUS_DUE 8) 8 bc
def x30 : State := cmd up 8 bc
def x31 : State := cmd { eye with mode := .xk2 } 9 bc9
theorem witness_ReportsCalibrationAndBeamChecks :
    ((Heads x16 8 7 x17) ∧ (byteAt x17.desc 1 < 2) ∧ (Zero x17.desc 2 8) ∧ (byteAt x17.desc 12 ≤ 1) ∧ (Zero x17.desc 13 16) ∧ (1 ≤ leAt
      x17.desc 20 4) ∧ (leAt x17.desc 24 8 % 16 = 0) ∧ (Zero x17.desc 32 64) ∧ (x16.reportOf (leAt x17.desc 8 4) = some x18) ∧ ((x18.source
      (byteAt x17.desc 12)).isEmpty = false)) ∧
    ((Heads x19 8 7 x20) ∧ (byteAt x20.desc 1 < 2) ∧ (Zero x20.desc 2 8) ∧ (byteAt x20.desc 12 ≤ 1) ∧ (Zero x20.desc 13 16) ∧ (1 ≤ leAt
      x20.desc 20 4) ∧ (leAt x20.desc 24 8 % 16 = 0) ∧ (Zero x20.desc 32 64) ∧ (x19.reportOf (leAt x20.desc 8 4) = some x18) ∧ ((x18.source
      (byteAt x20.desc 12)).isEmpty = false)) ∧
    ((Heads x21 8 8 snp) ∧ (Zero snp.desc 1 8) ∧ (leAt snp.desc 8 8 % 64 = 0) ∧ (4672 ≤ leAt snp.desc 16 4) ∧ (Zero snp.desc 20 64)) ∧
    ((Heads x22 8 9 x23) ∧ (byteAt x23.desc 1 = 1) ∧ (Zero x23.desc 2 8) ∧ (byteAt x23.desc 8 < 16) ∧ (byteAt x23.desc 8 ≠ 0) ∧ (Zero
      x23.desc 9 64) ∧ (byteAt x23.desc 8 = 1 ∨ x22.stripeMoving = false) ∧ (x22.reg Reg.CAL_STATUS_DUE < 16)) ∧
    ((Heads x24 8 9 x25) ∧ (byteAt x25.desc 1 = 1) ∧ (Zero x25.desc 2 8) ∧ (byteAt x25.desc 8 < 16) ∧ (byteAt x25.desc 8 ≠ 0) ∧ (Zero
      x25.desc 9 64) ∧ (byteAt x25.desc 8 = 1 ∨ x24.stripeMoving = false) ∧ (x24.reg Reg.CAL_STATUS_DUE < 16)) ∧
    ((Heads x26 8 9 x27) ∧ (byteAt x27.desc 1 = 1) ∧ (Zero x27.desc 2 8) ∧ (byteAt x27.desc 8 < 16) ∧ (byteAt x27.desc 8 ≠ 0) ∧ (Zero
      x27.desc 9 64) ∧ (byteAt x27.desc 8 ≠ 1) ∧ (x26.stripeMoving = true)) ∧
    ((Heads x28 8 10 bc) ∧ (byteAt bc.desc 1 < 2) ∧ (Zero bc.desc 2 8) ∧ (leAt bc.desc 8 8 % 8 = 0) ∧ (leAt bc.desc 16 4 = 2129920) ∧ (Zero
      bc.desc 20 64) ∧ (firstRefusal x28.beamChecks = none) ∧ (x28.shuttleAxis < 4) ∧ (x28.sreg Reg.CAL_EYE_PARK_POS ≠ x28.auxPos
      x28.shuttleAxis)) ∧
    ((Heads x29 8 10 bc) ∧ (byteAt bc.desc 1 < 2) ∧ (Zero bc.desc 2 8) ∧ (leAt bc.desc 8 8 % 8 = 0) ∧ (leAt bc.desc 16 4 = 2129920) ∧ (Zero
      bc.desc 20 64) ∧ (firstRefusal x29.beamChecks = none) ∧ (x29.shuttleAxis < 4) ∧ (x29.sreg Reg.CAL_EYE_PARK_POS ≠ x29.auxPos
      x29.shuttleAxis)) ∧
    ((Heads x30 8 10 bc) ∧ (byteAt bc.desc 1 < 2) ∧ (Zero bc.desc 2 8) ∧ (leAt bc.desc 8 8 % 8 = 0) ∧ (leAt bc.desc 16 4 = 2129920) ∧ (Zero
      bc.desc 20 64) ∧ (x30.reg Reg.CAL_EYE_REF = 0)) ∧
    ((Heads x31 9 5 bc9) ∧ (Zero bc9.desc 1 2) ∧ (Zero bc9.desc 4 8) ∧ (leAt bc9.desc 16 4 = 1048576) ∧ (Zero bc9.desc 20 32) ∧
      (firstRefusal x31.beamChecks = none) ∧ (x31.shuttleAxis < 4) ∧ (x31.sreg Reg.CAL_EYE_PARK_POS ≠ x31.auxPos x31.shuttleAxis)) := by
  refine ⟨?_, ?_, ?_, ?_, ?_, ?_, ?_, ?_, ?_, ?_⟩ <;> decide +kernel
def x32 : State := cmd (on [(spareUsed 9, 1)]) 8 (sw 0 9)
def x33 : Fetched := sw 0 9
def x34 : State := cmd up 8 (sw 0 9)
def x35 : State := cmd (on [(Reg.LPR_ENGINE_STANDBY, 1)]) 8 (sw 1 0)
def x36 : Fetched := sw 1 0
def x37 : State := cmd (on [(Reg.FLT_STATUS_SLICE_FAILED, 4), (Reg.FLT_STATUS_MOLT_SECTOR, 2)]) 8 (sw 2 2)
def x38 : Fetched := sw 2 2
def x39 : State := cmd stgOn 8 (ax 640000)
def x40 : Fetched := ax 640000
def x41 : State := cmd stgOn 8 (ax 640001)
def x42 : Fetched := ax 640001
def x43 : State := cmd eye 8 ax2
def x44 : State := cmd { eye with mode := .xk2 } 9 ax9
def x45 : State := c8 13 [(8,1,3)]
def x46 : Fetched := d8 13 [(8,1,3)]
def x47 : State := c9 7 [(24,1,2)]
def x48 : Fetched := d9 7 [(24,1,2)]
def x49 : State := amg (c8 13 [(8,1,3)])
def x50 : State := amg (c9 7 [(24,1,2)])
def x51 : State := { c8 13 [] with stage := { up.stage with yMove := some ym } }
def x52 : Fetched := d8 13 []
theorem witness_SwitchBackAndAxisCommands :
    ((Heads x32 8 11 x33) ∧ (Zero x33.desc 1 8) ∧ (Zero x33.desc 10 64) ∧ (x32.stripeMoving = false) ∧ (byteAt x33.desc 8 = 0) ∧ (byteAt
      x33.desc 9 < 16) ∧ (x32.flag (spareUsed (byteAt x33.desc 9)) = true) ∧ (true = true)) ∧
    ((Heads x32 8 11 x33) ∧ (Zero x33.desc 1 8) ∧ (Zero x33.desc 10 64) ∧ (x32.stripeMoving = false) ∧ (byteAt x33.desc 8 = 0) ∧ (byteAt
      x33.desc 9 < 16) ∧ (x32.flag (spareUsed (byteAt x33.desc 9)) = true) ∧ (false = false)) ∧
    ((Heads x34 8 11 x33) ∧ (Zero x33.desc 1 8) ∧ (Zero x33.desc 10 64) ∧ (x34.stripeMoving = false) ∧ (byteAt x33.desc 8 = 0) ∧ (byteAt
      x33.desc 9 < 16) ∧ (x34.flag (spareUsed (byteAt x33.desc 9)) = false)) ∧
    ((Heads x35 8 11 x36) ∧ (Zero x36.desc 1 8) ∧ (Zero x36.desc 10 64) ∧ (x35.stripeMoving = false) ∧ (byteAt x36.desc 8 = 1) ∧ (byteAt
      x36.desc 9 = 0) ∧ (x35.reg Reg.LPR_ENGINE_STANDBY = 1)) ∧
    ((Heads x37 8 11 x38) ∧ (Zero x38.desc 1 8) ∧ (Zero x38.desc 10 64) ∧ (x37.stripeMoving = false) ∧ (byteAt x38.desc 8 = 2) ∧ (byteAt
      x38.desc 9 < 4) ∧ (x37.part = Part.fx640) ∧ (bitOf (x37.reg Reg.FLT_STATUS_SLICE_FAILED) (byteAt x38.desc 9) = true)) ∧
    ((Heads x39 8 12 x40) ∧ (Zero x40.desc 1 16) ∧ (Zero x40.desc 24 64) ∧ (x39.stripes = []) ∧ (x39.flag Reg.STG_CTL_SP_EN = true) ∧
      (x39.moveBlocked = none) ∧ (x39.yWithin (s64 x40.desc 16) = true)) ∧
    ((Heads x41 8 12 x42) ∧ (Zero x42.desc 1 16) ∧ (Zero x42.desc 24 64) ∧ (x41.stripes = []) ∧ (x41.flag Reg.STG_CTL_SP_EN = true) ∧
      (x41.moveBlocked = none) ∧ (x41.yWithin (s64 x42.desc 16) = false)) ∧
    ((x43.moveBlocked = none) ∧ (x43.checking = false) ∧ (x43.auxVelGood 2 = true) ∧ (x43.auxWithin 2 50 = true) ∧ ((x43.auxAxis 2).move =
      none) ∧ (50 ≠ x43.auxPos 2) ∧ ((Instr.axisMove, 8, 12) ∈ [(Instr.axisMove, 8, 12), (Instr.auxMove, 9, 6)]) ∧ (Heads x43
      (Instr.axisMove, 8, 12).2.1 (Instr.axisMove, 8, 12).2.2 ax2) ∧ ((Instr.axisMove, 8, 12).2.1 = 8 → Zero ax2.desc 1 8 ∧ byteAt ax2.desc
      8 = 2 + 1 ∧ Zero ax2.desc 9 16 ∧ s64 ax2.desc 16 = 50 ∧ Zero ax2.desc 24 64) ∧ ((Instr.axisMove, 8, 12).2.1 = 9 → Zero ax2.desc 1 2 ∧
      Zero ax2.desc 4 8 ∧ s64 ax2.desc 8 = 50 ∧ Zero ax2.desc 16 24 ∧ byteAt ax2.desc 24 = 2 ∧ Zero ax2.desc 25 32) ∧ (-2147483648 ≤ 50) ∧
      (50 ≤ 2147483647)) ∧
    ((x44.moveBlocked = none) ∧ (x44.checking = false) ∧ (x44.auxVelGood 2 = true) ∧ (x44.auxWithin 2 50 = true) ∧ ((x44.auxAxis 2).move =
      none) ∧ (50 ≠ x44.auxPos 2) ∧ ((Instr.auxMove, 9, 6) ∈ [(Instr.axisMove, 8, 12), (Instr.auxMove, 9, 6)]) ∧ (Heads x44 (Instr.auxMove,
      9, 6).2.1 (Instr.auxMove, 9, 6).2.2 ax9) ∧ ((Instr.auxMove, 9, 6).2.1 = 8 → Zero ax9.desc 1 8 ∧ byteAt ax9.desc 8 = 2 + 1 ∧ Zero
      ax9.desc 9 16 ∧ s64 ax9.desc 16 = 50 ∧ Zero ax9.desc 24 64) ∧ ((Instr.auxMove, 9, 6).2.1 = 9 → Zero ax9.desc 1 2 ∧ Zero ax9.desc 4 8
      ∧ s64 ax9.desc 8 = 50 ∧ Zero ax9.desc 16 24 ∧ byteAt ax9.desc 24 = 2 ∧ Zero ax9.desc 25 32) ∧ (-2147483648 ≤ 50) ∧ (50 ≤ 2147483647))
      ∧
    (((x45.auxAxis 2).move = none) ∧ ((x45.auxAxis 2).kept = none) ∧ (Heads x45 8 13 x46) ∧ (Zero x46.desc 1 8) ∧ (byteAt x46.desc 8 = 2 +
      1) ∧ (Zero x46.desc 9 64)) ∧
    (((x47.auxAxis 2).move = none) ∧ ((x47.auxAxis 2).kept = none) ∧ (Heads x47 9 7 x48) ∧ (Zero x48.desc 1 2) ∧ (Zero x48.desc 4 24) ∧
      (byteAt x48.desc 24 = 2) ∧ (Zero x48.desc 25 32)) ∧
    (((x49.auxAxis 2).move = some amv) ∧ (x49.auxStopAt 2 amv amv.dec ≠ x49.auxPos 2) ∧ ((Instr.axisStop, 8, 13) ∈ [(Instr.axisStop, 8,
      13), (Instr.auxStop, 9, 7)]) ∧ (Heads x49 (Instr.axisStop, 8, 13).2.1 (Instr.axisStop, 8, 13).2.2 x46) ∧ ((Instr.axisStop, 8, 13).2.1
      = 8 → Zero x46.desc 1 8 ∧ byteAt x46.desc 8 = 2 + 1 ∧ Zero x46.desc 9 64) ∧ ((Instr.axisStop, 8, 13).2.1 = 9 → Zero x46.desc 1 2 ∧
      Zero x46.desc 4 24 ∧ byteAt x46.desc 24 = 2 ∧ Zero x46.desc 25 32)) ∧
    (((x50.auxAxis 2).move = some amv) ∧ (x50.auxStopAt 2 amv amv.dec ≠ x50.auxPos 2) ∧ ((Instr.auxStop, 9, 7) ∈ [(Instr.axisStop, 8, 13),
      (Instr.auxStop, 9, 7)]) ∧ (Heads x50 (Instr.auxStop, 9, 7).2.1 (Instr.auxStop, 9, 7).2.2 x48) ∧ ((Instr.auxStop, 9, 7).2.1 = 8 → Zero
      x48.desc 1 8 ∧ byteAt x48.desc 8 = 2 + 1 ∧ Zero x48.desc 9 64) ∧ ((Instr.auxStop, 9, 7).2.1 = 9 → Zero x48.desc 1 2 ∧ Zero x48.desc 4
      24 ∧ byteAt x48.desc 24 = 2 ∧ Zero x48.desc 25 32)) ∧
    ((Heads x51 8 13 x52) ∧ (Zero x52.desc 1 64) ∧ (x51.stripeMoving = false) ∧ (x51.stage.yMove = some ym)) := by
  refine ⟨?_, ?_, ?_, ?_, ?_, ?_, ?_, ?_, ?_, ?_, ?_, ?_, ?_, ?_⟩ <;> decide +kernel

end Commands

namespace Reset

def busy0 : State := (ready up).setRegs [(Reg.PWR_RESET_CNT_SOFT, 255), (Reg.AUX_POS 1, 77), (Reg.FRM_NAK_CTL_NAK_WINDOW, 9), (Reg.TIM_CTL_SRC, 2)]
def busy : State := { busy0 with stripes := [str], jobs := [.snapshot ⟨8, 1, 0⟩ 0 none], beams := [(3, { Beam.plain with gain := 7 })], obs := { up.obs with counters := [(3, 7)] } }
def lows := ((ready up).setRegs ((List.range 16).map fun g => (Reg.MPH_GRP_STATUS_STATE g, grpLow))).setRegs [(Reg.GLB_STATUS_INSTAR, 2), (Reg.MEM_STATUS_RATE, (ready up).rateAsked)]
def x1 : State := { busy with mode := .xk2 }
def x2 : State := on [(Reg.GLB_CTL_LOCK, 1), (Reg.PWR_STATUS_RST_BUSY, 1)]
theorem witness_SoftResets :
    ((busy.linkUp = true) ∧ (busy.softBusy = false) ∧ (busy.power.starting = false) ∧ (Quiet busy) ∧ ((Instr.softReset 1#32, 0, true) ∈
      [(Instr.softReset 1#32, 0, true), (Instr.xk2SoftReset 1#32, 8, false)]) ∧ ((1#32).getLsbD (Instr.softReset 1#32, 0, true).2.1 = true)
      ∧ (busy.native = (Instr.softReset 1#32, 0, true).2.2)) ∧
    ((x1.linkUp = true) ∧ (x1.softBusy = false) ∧ (x1.power.starting = false) ∧ (Quiet x1) ∧ ((Instr.xk2SoftReset 256#32, 8, false) ∈
      [(Instr.softReset 256#32, 0, true), (Instr.xk2SoftReset 256#32, 8, false)]) ∧ ((256#32).getLsbD (Instr.xk2SoftReset 256#32, 8,
      false).2.1 = true) ∧ (x1.native = (Instr.xk2SoftReset 256#32, 8, false).2.2)) ∧
    ((x2.linkUp = true) ∧ (x2.native = true) ∧ ((2147483649#32).getLsbD 0 = true) ∧ (x2.flag Reg.GLB_CTL_LOCK = true) ∧ (x2.lockDiffers
      (2147483649#32).toNat = false) ∧ (x2.softBusy = true)) := by
  refine ⟨?_, ?_, ?_⟩ <;> decide +kernel
def x3 : State := on [(Reg.PWR_STATUS_RST_BUSY, 1)]
def x4 : State := pow .chrysalis busy
def x5 : State := pow .chrysalis up
theorem witness_WarmResetsAndFlr :
    ((busy.linkUp = true) ∧ (busy.softBusy = false) ∧ (Quiet busy) ∧ ((Instr.pcieHotReset, 4, false) ∈ [(Instr.pcieHotReset, 4, false),
      (Instr.flr, 5, true)]) ∧ ((Instr.pcieHotReset, 4, false).2.2 = true → busy.native = true ∧ busy.power.flrBusy = false)) ∧
    ((busy.linkUp = true) ∧ (busy.softBusy = false) ∧ (Quiet busy) ∧ ((Instr.flr, 5, true) ∈ [(Instr.pcieHotReset, 4, false), (Instr.flr,
      5, true)]) ∧ ((Instr.flr, 5, true).2.2 = true → busy.native = true ∧ busy.power.flrBusy = false)) ∧
    ((x3.linkUp = true) ∧ (x3.softBusy = true) ∧ (Instr.flr ∈ [Instr.pcieHotReset, Instr.flr]) ∧ (Instr.flr = Instr.flr → x3.native =
      true)) ∧
    (xk.native = false) ∧
    ((busy.warmActs WarmCause.resetN = true) ∧ (busy.power.starting = false)) ∧
    ((x4.warmActs WarmCause.perst = true) ∧ (x4.power.starting = false)) ∧
    ((State.reset.warmActs WarmCause.resetN = true) ∧ (State.reset.power.starting = true)) ∧
    (x5.warmActs WarmCause.resetN = false) := by
  refine ⟨?_, ?_, ?_, ?_, ?_, ?_, ?_, ?_⟩ <;> decide +kernel
def x6 : State := pow .idle busy
def x7 : State := pow .cocoon busy
def x8 : State := { pow .cocoon busy with power := { up.power with state := .cocoon, brownout := true } }
def x9 : State := pow .off up
def x10 : State := pow .off State.reset
def x11 : State := pow .cocoon (on [(Reg.PWR_WAKE_EN, 8), (Reg.PWR_ALARM_LO_SEC, 0), (Reg.PWR_ALARM_HI_SEC, 0)])
theorem witness_ColdResetAndCocoon :
    (busy.power.state = Power.active ∨ busy.power.state = Power.idle ∨ busy.power.state = Power.chrysalis) ∧
    (x6.power.state = Power.active ∨ x6.power.state = Power.idle ∨ x6.power.state = Power.chrysalis) ∧
    (x7.coldActs ColdCause.vin = true) ∧
    (x8.power.state = Power.cocoon) ∧
    (x9.power.state = Power.off) ∧
    (x9.power.state = Power.cocoon ∨ x9.power.state = Power.off) ∧
    ((busy.power.state = Power.active ∨ busy.power.state = Power.idle ∨ busy.power.state = Power.chrysalis) ∧ ((Instr.brownout, true) ∈
      [(Instr.brownout, true), (Instr.cocoonEntry, false)])) ∧
    ((x4.power.state = Power.active ∨ x4.power.state = Power.idle ∨ x4.power.state = Power.chrysalis) ∧ ((Instr.cocoonEntry, false) ∈
      [(Instr.brownout, true), (Instr.cocoonEntry, false)])) ∧
    (x7.power.state = Power.cocoon) ∧
    (x10.power.state = Power.off) ∧
    ((x11.power.state = Power.cocoon) ∧ (x11.native = true) ∧ (bitOf (x11.reg Reg.PWR_WAKE_EN) 3 = true) ∧ (x11.alarmAt ≤ x11.time.sec)) ∧
    (up.power.state ≠ Power.cocoon) := by
  refine ⟨?_, ?_, ?_, ?_, ?_, ?_, ?_, ?_, ?_, ?_, ?_, ?_⟩ <;> decide +kernel
def x12 : State := ready up
def x13 : State := pow .chrysalis (busy0.setReg Reg.PWR_WAKE_EN 15)
theorem witness_IdleChrysalisAndWake :
    ((x12.native = true) ∧ (x12.linkUp = true) ∧ (bits (1#32).toNat 0 2 = 1) ∧ (x12.access.stripeBusy = false) ∧ (x12.access.busyMoving =
      false)) ∧
    ((writing.native = true) ∧ (writing.linkUp = true) ∧ (bits (1#32).toNat 0 2 = 1) ∧ (writing.access.stripeBusy = true ∨
      writing.access.busyMoving = true)) ∧
    ((busy0.native = true) ∧ (busy0.linkUp = true) ∧ (bits (2#32).toNat 0 2 = 2) ∧ (busy0.stripes = []) ∧ (busy0.busyMoving = false)) ∧
    ((x6.wakeEnabled WakeSource.host = true) ∧ (x6.native = true) ∧ (x6.power.state = Power.idle)) ∧
    ((x13.wakeEnabled WakeSource.svc = true) ∧ (x13.native = true) ∧ (x13.power.state = Power.chrysalis)) ∧
    (up.wakeEnabled WakeSource.svc = false) := by
  refine ⟨?_, ?_, ?_, ?_, ?_, ?_⟩ <;> decide +kernel
def x14 : State := on [(Reg.GLB_STATUS_INSTAR, 1)]
def x15 : State := (ready up).setRegs [(Reg.GLB_STATUS_INSTAR, 3), (Reg.FLT_STATUS_SPARE_STATE, 1)]
theorem witness_BringUp :
    ((State.reset.power.state = Power.active) ∧ (State.reset.instar = 0)) ∧
    ((x14.power.state = Power.active) ∧ (x14.instar = 1)) ∧
    (x14.instar = 1) ∧
    ((lows.power.state = Power.active) ∧ (lows.instar = 2) ∧ (lows.memorySwept = true) ∧ (∀ g < 16, lows.grp g = grpLow ∨ lows.grp g =
      grpOut)) ∧
    ((x15.power.state = Power.active) ∧ (x15.instar = 3) ∧ (∀ g < 16, x15.grp g = grpReady ∨ x15.grp g = grpOut) ∧ (x15.reg
      Reg.CAL_STATUS_DUE = 0) ∧ (x15.reg Reg.CAL_STATUS_RUNNING = 0)) ∧
    (up.power.state ≠ Power.active ∨ 4 ≤ up.instar) := by
  refine ⟨?_, ?_, ?_, ?_, ?_, ?_⟩ <;> decide +kernel

end Reset

namespace Panel

def ym : YMove := ⟨none, 500, false, none, [], 0, ⟨5, 5, 1, 5⟩⟩
def mvg (l : List (Field × Nat)) : State := { on l with stage := { up.stage with yMove := some ym } }
def chk : State := { linked up with jobs := [.beamCheck ⟨8, 1, 0⟩ 64 true] }
def x1 : State := on [(Reg.FLT_OP_ESTOP, 1)]
def x2 : State := on [(Reg.FLT_OP_ESTOP, 1), (Reg.FLT_OP_ESTOP_A, 1)]
def x3 : State := on [(Reg.FLT_OP_ESTOP_A, 1)]
def x4 : State := on [(Reg.FLT_OP_ACK_WAIT, 1)]
theorem witness_Estop :
    ((chk.panelOn = true) ∧ (chk.reg Reg.FLT_OP_ESTOP = 0) ∧ (Quiet chk)) ∧
    ((writing.panelOn = true) ∧ (writing.reg Reg.FLT_OP_ESTOP = 0) ∧ (Writes writing wr tick)) ∧
    ((x1.panelOn = true) ∧ (x1.reg Reg.FLT_OP_ESTOP = 1)) ∧
    ((x2.panelOn = true) ∧ (x2.reg Reg.FLT_OP_ESTOP = 1)) ∧
    (up.reg Reg.FLT_OP_ESTOP = 0) ∧
    ((x3.panelOn = true) ∧ (x3.flag Reg.FLT_OP_ESTOP_A ≠ x3.flag Reg.FLT_OP_ESTOP_B)) ∧
    (up.flag Reg.FLT_OP_ESTOP_A = up.flag Reg.FLT_OP_ESTOP_B) ∧
    (x4.power.state = Power.active) := by
  refine ⟨?_, ?_, ?_, ?_, ?_, ?_, ?_, ?_⟩ <;> decide +kernel
def x5 : State := mvg []
def x6 : State := mvg [(Reg.FLT_OP_KEY_ON, 1)]
def x7 : State := on [(Reg.FLT_OP_DOOR_OPEN, 1)]
def x8 : State := mvg [(Reg.FLT_OP_KEY_ON, 1), (Reg.FLT_OP_DOOR_OPEN, 1)]
def x9 : State := on [(Reg.FLT_OP_SVC_PRESENT, 1), (Reg.FLT_SVC_SESSION, 1)]
theorem witness_DoorKeyAndService :
    ((x5.panelOn = true) ∧ (x5.reg Reg.FLT_OP_DOOR_OPEN = 0) ∧ (x5.active? = none)) ∧
    ((x6.panelOn = true) ∧ (x6.reg Reg.FLT_OP_DOOR_OPEN = 0) ∧ (x6.active? = none)) ∧
    ((writing.panelOn = true) ∧ (writing.reg Reg.FLT_OP_DOOR_OPEN = 0) ∧ (Writes writing wr tick)) ∧
    ((x7.panelOn = true) ∧ (x7.reg Reg.FLT_OP_DOOR_OPEN = 1)) ∧
    (up.reg Reg.FLT_OP_DOOR_OPEN = 0) ∧
    ((up.panelOn = true) ∧ (up.native = true) ∧ (up.flag Reg.FLT_OP_KEY_ON ≠ true)) ∧
    ((x8.panelOn = true) ∧ (x8.native = true) ∧ (x8.flag Reg.FLT_OP_KEY_ON ≠ false)) ∧
    (xk.native = false) ∧
    ((up.power.state = Power.active) ∧ (up.native = true) ∧ (up.reg Reg.FLT_OP_SVC_PRESENT = 0)) ∧
    ((x9.panelOn = true) ∧ (x9.native = true) ∧ (x9.reg Reg.FLT_OP_SVC_PRESENT = 1)) ∧
    (xk.native = false) := by
  refine ⟨?_, ?_, ?_, ?_, ?_, ?_, ?_, ?_, ?_, ?_, ?_⟩ <;> decide +kernel

end Panel

namespace Writing

def con := on [(Reg.FLT_SVC_SESSION, 1), (Reg.FLT_OP_KEY_ON, 1)]
def um (s : State) : State := { s with host := { s.host with msixTable := [(23, 0)] } }
def cnt := { on [(Reg.PMC_OVF 2, 8), (Reg.PMC_CHAIN 1, 5)] with obs := { up.obs with counters := [(5, 9), (65, 3), (66, 4)] } }
def x1 : State := on [(Reg.FLT_OP_ESTOP, 1)]
def x2 : State := { up with host := { up.host with msixPending := [5] } }
def x3 : State := on [(Reg.FLT_SVC_SESSION, 1)]
theorem witness_RegisterWrites :
    ((up.linkUp = true) ∧ (up.native = true) ∧ (plainOffset 8196)) ∧
    ((x1.linkUp = true) ∧ (x1.native = true) ∧ (plainOffset 94212)) ∧
    ((up.linkUp = true) ∧ (up.native = true) ∧ (plainOffset 16448)) ∧
    ((up.linkUp = true) ∧ (131072 % 4 = 0) ∧ (up.takesWrite 131072 = false)) ∧
    ((x2.linkUp = true) ∧ (x2.native = true) ∧ (5 < 64) ∧ (5 ∈ x2.host.msixPending) ∧ ((0#32).getLsbD 0 = false)) ∧
    (up.linkUp = true) ∧
    ((State.reset.linkUp = false) ∧ (8196 % 4 = 0)) ∧
    ((con.reg Reg.FLT_SVC_SESSION = 1) ∧ (con.consoleWriteEn = true)) ∧
    ((con.reg Reg.FLT_SVC_SESSION = 1) ∧ (con.consoleWriteEn = false ∨ consoleMayWrite 8196 = false)) ∧
    ((x3.reg Reg.FLT_SVC_SESSION = 1) ∧ (x3.consoleWriteEn = false ∨ consoleMayWrite 94208 = false)) ∧
    (up.reg Reg.FLT_SVC_SESSION = 0) := by
  refine ⟨?_, ?_, ?_, ?_, ?_, ?_, ?_, ?_, ?_, ?_, ?_⟩ <;> decide +kernel
def x4 : State := um (on [(causeField 3, 1), (causeField 4, 1), (Reg.GLB_IRQ_MASK, 0)])
def x5 : State := um (on [(causeField 3, 1)])
def x6 : State := on [(Reg.GLB_CTL_LOCK, 1)]
theorem witness_CausesMaskAndLock :
    ((x4.linkUp = true) ∧ (x4.native = true)) ∧
    ((x5.linkUp = true) ∧ (x5.native = true)) ∧
    ((up.linkUp = true) ∧ (up.native = true) ∧ ((2147485440#32).getLsbD 0 = false) ∧ (up.access.reg Reg.GLB_CTL_LOCK = 0)) ∧
    ((x6.linkUp = true) ∧ (x6.native = true) ∧ ((2147485440#32).getLsbD 0 = false) ∧ (x6.access.reg Reg.GLB_CTL_LOCK = 1) ∧
      (x6.access.lockDiffers (2147485440#32).toNat = true)) ∧
    ((x6.linkUp = true) ∧ (x6.native = true) ∧ ((2147483648#32).getLsbD 0 = false) ∧ (x6.access.reg Reg.GLB_CTL_LOCK = 1) ∧
      (x6.access.lockDiffers (2147483648#32).toNat = false)) := by
  refine ⟨?_, ?_, ?_, ?_, ?_⟩ <;> decide +kernel
def x7 : State := { up with jobs := [.snapshot ⟨8, 1, 0⟩ 128 none] }
def x8 : Origin := ⟨8, 1, 0⟩
theorem witness_Counters :
    ((cnt.linkUp = true) ∧ (cnt.native = true) ∧ ((3#32).getLsbD 1 = true)) ∧
    ((cnt.linkUp = true) ∧ (cnt.native = true) ∧ ((1#32).getLsbD 1 = false)) ∧
    ((cnt.linkUp = true) ∧ (cnt.native = true)) ∧
    (cnt.linkUp = true) ∧
    (con.reg Reg.FLT_SVC_SESSION = 1) ∧
    ((x7.clocked = true) ∧ (x7.cprOf x8.ring ≤ 4) ∧ (List.filter x7.mayCapture x7.jobs = [CmdJob.snapshot x8 128 none])) ∧
    (List.filter up.mayCapture up.jobs = []) := by
  refine ⟨?_, ?_, ?_, ?_, ?_, ?_, ?_⟩ <;> decide +kernel
def x9 : State := { up with obs := { up.obs with wfQueue := [(2, [1]), (3, [4])] } }
def x10 : WfWidth := .w16
theorem witness_CheckUnits :
    ((up.linkUp = true) ∧ (up.native = true) ∧ (up.part = Part.fx640) ∧ (bits (22#32).toNat 0 2 = 2)) ∧
    ((up.linkUp = true) ∧ (up.native = true) ∧ (up.part = Part.fx640) ∧ (bits (14#32).toNat 0 2 = 2)) ∧
    ((up.linkUp = true) ∧ (up.native = true) ∧ (up.part = Part.fx640) ∧ (5 < 6) ∧ ((1#32).getLsbD 0 = true) ∧ (∀ e ∈ up.obs.wfQueue, e.1 ≠
      5)) ∧
    ((up.linkUp = true) ∧ (up.native = true) ∧ (up.part = Part.fx640) ∧ (5 < 6) ∧ (up.obs.wfQueue.length < 16)) ∧
    ((up.linkUp = true) ∧ (up.native = true) ∧ (up.part = Part.fx640) ∧ (5 < 6) ∧ (∀ e ∈ up.obs.wfQueue, e.1 ≠ 5)) ∧
    ((x9.linkUp = true) ∧ (x9.part = Part.fx640) ∧ (x9.obs.wfQueue.length ≤ 16)) ∧
    ((up.linkUp = true) ∧ (up.native = true) ∧ (up.part = Part.fx640) ∧ (6 ≤ 7) ∧ (Instr.wfStart 7 1#32 ∈ [Instr.wfStart 7 1#32,
      Instr.wfData 7 x10 1#32, Instr.wfValAccess 7 (WfAccess.writeLo 1#32)])) := by
  refine ⟨?_, ?_, ?_, ?_, ?_, ?_, ?_⟩ <;> decide +kernel
def x11 : State := xk.setReg Reg.XK2_EQ_ADDR_INDEX 720
def x12 : State := linked xk
def x13 : State := has (linked xk) wr
theorem witness_Xk2Image :
    ((xk.linkUp = true) ∧ (xk.native = false) ∧ (xk.access.reg Reg.XK2_EQ_ADDR_INDEX < 720)) ∧
    ((xk.linkUp = true) ∧ (xk.native = false) ∧ (xk.access.reg Reg.XK2_EQ_ADDR_INDEX < 720)) ∧
    ((x11.linkUp = true) ∧ (x11.native = false) ∧ (720 ≤ x11.access.reg Reg.XK2_EQ_ADDR_INDEX)) ∧
    ((x12.linkUp = true) ∧ (x12.native = false) ∧ ((4294903813#32).getLsbD 11 = true)) ∧
    ((x13.linkUp = true) ∧ (x13.native = false) ∧ ((4294903813#32).getLsbD 11 = true)) ∧
    ((xk.linkUp = true) ∧ (xk.native = false)) := by
  refine ⟨?_, ?_, ?_, ?_, ?_, ?_⟩ <;> decide +kernel

end Writing

namespace Muash

def lm (ty : Nat) (body : List Byte) : LinkMsg := ⟨linkMessage ty 7 body, true⟩
def bad : LinkMsg := ⟨(linkMessage 6 7 [1, 3]).set 3 9, true⟩
def gst (st : Nat) (f : Group → Group := id) (l : List (Field × Nat) := []) (s : State := linked up) : State :=
  (s.setRegs ((Reg.MPH_GRP_STATUS_STATE 2, st) :: l)).onGroup 2 f
def capm (p : Byte) : LinkMsg := lm 1 [4, 63, 0, 0, 2, p]
def vres : List (Nat × Bool) := (List.range 8).map fun i => (i, true)
def prb (lane : Byte) (e : Byte) (n : Nat) : LinkMsg := lm 5 ([lane, 0] ++ leBytes 4 n ++ [e, 0, 0, 0, 1])
def ver : State := gst grpVerify (fun k => { k with results := vres })
def verc : State := ver.onGroup 2 fun k => { k with rateChange := true }
def heldBut (l : List Nat) : Group → Group := fun k => { k with held := (List.range 9).filter fun i => !l.contains i }
def runA : Run := { run0 with announced := true }
def strA : Stripe := { str with state := .runup, run := some runA }
def ann : State := has (linked up) strA
def w0 : Switch := ⟨19, 4, 5, false, 0⟩
def fl0 : FrameLog := ⟨2, [], true, [], [], [], false⟩
def wrf : Stripe := { wr with frames := [fl0] }
def wro : Stripe := { wr with older := [(1, [20])] }
def due : Group → Group := fun k => { k with switchDue := [19] }
def x1 : State := gst 0
def x2 : State := gst grpCaps
def x3 : LinkMsg := capm 1
def x4 : LinkMsg := capm 0
def x5 : State := gst grpLow (fun k => { k with held := [1] })
def x6 : LinkMsg := prb 8 0 (2 ^ (ver.verifyLog2 2 - 20))
def x7 : LinkMsg := prb 8 0 (2 ^ (verc.verifyLog2 2 - 20))
def x8 : State := gst grpVerify id [] (linked xk)
def x9 : State := gst grpVerify (fun k => { k with rateChange := true }) [] (linked xk)
def x10 : State := gst grpEq
def x11 : LinkMsg := lm 2 [3, 0, 1, 0]
def x12 : State := gst grpEq id [] (linked xk)
def x13 : LinkMsg := lm 2 [3, 0, 3, 9]
theorem witness_GroupBringUpAndTaps :
    ((x1.grp 2 = grpOff) ∧ (2 ≤ x1.reg Reg.GLB_STATUS_INSTAR)) ∧
    ((Good x2 2 x3) ∧ (x2.grp 2 = grpCaps) ∧ (byteAt x3.bytes 0 = 1) ∧ (byteAt x3.bytes 7 = 1) ∧ (leAt x3.bytes 4 2 = x2.reg
      Reg.FRM_DEVICE_DEVICE_ID)) ∧
    ((Good x2 2 x4) ∧ (x2.grp 2 = grpCaps) ∧ (byteAt x4.bytes 0 = 1) ∧ (byteAt x4.bytes 7 ≠ 1 ∨ leAt x4.bytes 4 2 ≠ x2.reg
      Reg.FRM_DEVICE_DEVICE_ID)) ∧
    (x2.grp 2 = grpCaps) ∧
    ((x5.grp 2 = grpLow) ∧ (3 ≤ x5.reg Reg.GLB_STATUS_INSTAR)) ∧
    ((Good ver 2 x6) ∧ (ver.grp 2 = grpVerify) ∧ (ver.native = true) ∧ (byteAt x6.bytes 0 = 5) ∧ (byteAt x6.bytes 2 ∈ ver.required 2) ∧
      (leAt x6.bytes 8 4 = 0) ∧ (byteAt x6.bytes 12 = 1) ∧ (leAt x6.bytes 4 4 = 2 ^ (ver.verifyLog2 2 - 20)) ∧ (∀ i ∈ ver.required 2, i ≠
      byteAt x6.bytes 2 → (i, true) ∈ (ver.group 2).results) ∧ ((ver.group 2).rateChange = false) ∧ ((ver.group 2).stepLater = false)) ∧
    ((Good verc 2 x7) ∧ (verc.grp 2 = grpVerify) ∧ (verc.native = true) ∧ (byteAt x7.bytes 0 = 5) ∧ (byteAt x7.bytes 2 ∈ verc.required 2) ∧
      (leAt x7.bytes 8 4 = 0) ∧ (byteAt x7.bytes 12 = 1) ∧ (leAt x7.bytes 4 4 = 2 ^ (verc.verifyLog2 2 - 20)) ∧ (∀ i ∈ verc.required 2, i ≠
      byteAt x7.bytes 2 → (i, true) ∈ (verc.group 2).results) ∧ ((verc.group 2).rateChange = true)) ∧
    ((x8.grp 2 = grpVerify) ∧ (x8.native = false) ∧ ((x8.group 2).rateChange = false)) ∧
    ((x9.grp 2 = grpVerify) ∧ (x9.native = false) ∧ ((x9.group 2).rateChange = true)) ∧
    ((Good x10 2 x11) ∧ (byteAt x11.bytes 0 = 2) ∧ (x10.native = true) ∧ (byteAt x11.bytes 2 ≤ 8)) ∧
    ((Good x12 2 x11) ∧ (byteAt x11.bytes 0 = 2) ∧ (x12.native = false)) ∧
    ((Good x10 2 x13) ∧ (byteAt x13.bytes 0 = 2) ∧ (x10.native = true) ∧ (byteAt x13.bytes 2 ≤ 8)) := by
  refine ⟨?_, ?_, ?_, ?_, ?_, ?_, ?_, ?_, ?_, ?_, ?_, ?_⟩ <;> decide +kernel
def x14 : State := gst grpAlign (heldBut [3])
def x15 : State := gst grpEq (heldBut [3]) [(Reg.MPH_GRP_STATUS_RATE 2, 3)]
def x16 : State := gst grpAlign (heldBut [3, 5])
def x17 : State := gst grpEq (heldBut [3, 5]) [(Reg.MPH_GRP_STATUS_RATE 2, 3)]
def x18 : List ℕ := [3, 5]
def x19 : State := gst grpVerify id [(Reg.MPH_GRP_STATUS_RATE 2, 3)]
def x20 : List ℕ := [0, 1, 2, 3, 4, 5, 6, 7, 8]
def x21 : State := gst grpReady id [(Reg.MPH_GRP_STATUS_SPARE_FIT 2, 1)]
def x22 : State := gst grpReady (fun k => { k with reports := [true, true, true] })
def x23 : LinkMsg := prb 8 0 1
def x24 : State := has (linked up) str
def x25 : State := linked up
def x26 : State := gst grpReady id [(Reg.MPH_GRP_STATUS_RATE_PENDING 2, 1)]
def x27 : State := gst grpLow
def x28 : State := gst grpLow id [(Reg.MPH_GRP_CTL_MAX_RATE 2, 1)]
theorem witness_GroupRetrainsAndFailures :
    (((Instr.alignTimeout 2, grpAlign, grpLow) ∈ [(Instr.alignTimeout 2, grpAlign, grpLow), (Instr.eqTimeout 2, grpEq, grpVerify)]) ∧
      (x14.grp 2 = (Instr.alignTimeout 2, grpAlign, grpLow).2.1) ∧ (x14.unheld 2 = [3]) ∧ (3 < 8) ∧ (8 ∉ (x14.group 2).failed) ∧
      (x14.spareTaken 2 = false)) ∧
    (((Instr.eqTimeout 2, grpEq, grpVerify) ∈ [(Instr.alignTimeout 2, grpAlign, grpLow), (Instr.eqTimeout 2, grpEq, grpVerify)]) ∧ (x15.grp
      2 = (Instr.eqTimeout 2, grpEq, grpVerify).2.1) ∧ (x15.unheld 2 = [3]) ∧ (3 < 8) ∧ (8 ∉ (x15.group 2).failed) ∧ (x15.spareTaken 2 =
      false)) ∧
    ((x16.grp 2 = grpAlign) ∧ (2 ≤ (List.filter (fun x => x != 8) (x16.unheld 2)).length)) ∧
    ((1 ≤ x17.reg (Reg.MPH_GRP_STATUS_RATE 2)) ∧ (x17.reg (Reg.MPH_GRP_STATUS_RATE 2) ≤ 4) ∧ (2 ≤ (List.filter (fun x => x != 8)
      x18).length) ∧ (Instr.eqTimeout 2 ∈ [Instr.eqTimeout 2, Instr.verifyTimeout 2]) ∧ (Instr.eqTimeout 2 = Instr.eqTimeout 2 → x17.grp 2
      = grpEq ∧ x18 = x17.unheld 2) ∧ (Instr.eqTimeout 2 = Instr.verifyTimeout 2 → x17.grp 2 = grpVerify ∧ x17.native = true ∧ (x17.group
      2).rateChange = false ∧ x18 = List.filter (fun k => !(x17.group 2).results.any fun r => r.1 == k) (x17.required 2))) ∧
    ((1 ≤ x19.reg (Reg.MPH_GRP_STATUS_RATE 2)) ∧ (x19.reg (Reg.MPH_GRP_STATUS_RATE 2) ≤ 4) ∧ (2 ≤ (List.filter (fun x => x != 8)
      x20).length) ∧ (Instr.verifyTimeout 2 ∈ [Instr.eqTimeout 2, Instr.verifyTimeout 2]) ∧ (Instr.verifyTimeout 2 = Instr.eqTimeout 2 →
      x19.grp 2 = grpEq ∧ x20 = x19.unheld 2) ∧ (Instr.verifyTimeout 2 = Instr.verifyTimeout 2 → x19.grp 2 = grpVerify ∧ x19.native = true
      ∧ (x19.group 2).rateChange = false ∧ x20 = List.filter (fun k => !(x19.group 2).results.any fun r => r.1 == k) (x19.required 2))) ∧
    ((x21.native = true) ∧ (x21.grp 2 = grpReady) ∧ (x21.flag (spareUsed 2) = false)) ∧
    ((Good x22 2 x23) ∧ (x22.grp 2 = grpReady) ∧ (x22.native = true) ∧ (byteAt x23.bytes 0 = 5) ∧ (byteAt x23.bytes 2 = 8) ∧ (x22.flag
      (spareUsed 2) = false) ∧ (x22.inL2 2 = false) ∧ (8 ∉ (x22.group 2).failed) ∧ (leAt x23.bytes 8 4 = 0) ∧ (byteAt x23.bytes 12 = 1) ∧
      ((x22.group 2).reports = [true, true, true])) ∧
    ((x24.linkUp = true) ∧ (x24.native = true) ∧ (BitVec.getLsbD (16 + (↑(up.reg (Reg.MPH_GRP_CTL_MAX_RATE 2)) : Word)) 4 = true) ∧
      (BitVec.getLsbD (16 + (↑(up.reg (Reg.MPH_GRP_CTL_MAX_RATE 2)) : Word)) 5 = false) ∧ (x24.access.flag (Reg.MPH_GRP_CTL_L2_REQ 2) =
      false) ∧ (bits (BitVec.toNat (16 + (↑(up.reg (Reg.MPH_GRP_CTL_MAX_RATE 2)) : Word))) 0 3 = x24.access.reg (Reg.MPH_GRP_CTL_MAX_RATE
      2)) ∧ (x24.stripeBusy = true) ∧ (x24.access.training 2 = true → (x24.access.group 2).agreed ≤ x24.access.agreed 2)) ∧
    ((x25.linkUp = true) ∧ (x25.native = true) ∧ (BitVec.getLsbD (16 + (↑(up.reg (Reg.MPH_GRP_CTL_MAX_RATE 2)) : Word)) 4 = true) ∧
      (BitVec.getLsbD (16 + (↑(up.reg (Reg.MPH_GRP_CTL_MAX_RATE 2)) : Word)) 5 = false) ∧ (x25.access.flag (Reg.MPH_GRP_CTL_L2_REQ 2) =
      false) ∧ (bits (BitVec.toNat (16 + (↑(up.reg (Reg.MPH_GRP_CTL_MAX_RATE 2)) : Word))) 0 3 = x25.access.reg (Reg.MPH_GRP_CTL_MAX_RATE
      2)) ∧ (x25.stripeBusy = false) ∧ (x25.access.grp 2 ≠ grpVerify)) ∧
    ((x26.flag (Reg.MPH_GRP_STATUS_RATE_PENDING 2) = true) ∧ (x26.stripeBusy = false) ∧ (x26.grp 2 ≠ grpVerify)) ∧
    (up.flag (Reg.MPH_GRP_STATUS_RATE_PENDING 2) = false ∨ up.stripeBusy = true) ∧
    ((x27.linkUp = true) ∧ (x27.native = true) ∧ ((1#32).getLsbD 4 = false) ∧ ((1#32).getLsbD 5 = false) ∧ (x27.access.flag
      (Reg.MPH_GRP_CTL_L2_REQ 2) = false)) ∧
    ((x28.linkUp = true) ∧ (x28.native = true) ∧ ((4#32).getLsbD 4 = false) ∧ ((4#32).getLsbD 5 = false) ∧ (x28.access.flag
      (Reg.MPH_GRP_CTL_L2_REQ 2) = false)) ∧
    ((x25.linkUp = true) ∧ (x25.native = true)) ∧
    ((x24.linkUp = true) ∧ (x24.native = true)) := by
  refine ⟨?_, ?_, ?_, ?_, ?_, ?_, ?_, ?_, ?_, ?_, ?_, ?_, ?_, ?_, ?_⟩ <;> decide +kernel
def x29 : State := gst grpReady id [(Reg.MPH_LSTATE_STATE 2 3, laneL1)]
def x30 : State := gst grpReady (fun k => { k with retrainLanes := [3], held := [3, 4] }) [(Reg.MPH_LSTATE_STATE 2 3, laneL1)]
def x31 : State := gst grpReady id ((Reg.MPH_GRP_CTL_L2_REQ 2, 1) :: (List.range 10).map fun i => (Reg.MPH_LSTATE_STATE 2 i, laneL2))
def x32 : State := gst grpEq (fun k => { k with l2Exit := true })
def x33 : State := gst grpReady id [(Reg.MPH_PRBS_BITS 2 3, 5)]
def x34 : State := gst grpReady id [(Reg.MPH_PRBS_CTL_CHK_EN 2 3, 1), (Reg.MPH_PRBS_CTL_LOCK 2 3, 1)]
def x35 : State := gst grpReady id [(Reg.MPH_PRBS_CTL_CHK_EN 2 3, 1)]
theorem witness_LanePowerAndTests :
    ((x25.grp 2 = grpReady) ∧ (x25.reg (Reg.MPH_LSTATE_STATE 2 3) = laneL0) ∧ (x25.active? = none)) ∧
    ((x29.reg (Reg.MPH_LSTATE_STATE 2 3) = laneL1) ∧ (3 ∉ (x29.group 2).retrainLanes)) ∧
    ((x30.reg (Reg.MPH_LSTATE_STATE 2 3) = laneL1) ∧ (3 ∈ (x30.group 2).retrainLanes)) ∧
    ((x25.linkUp = true) ∧ (x25.native = true) ∧ (BitVec.getLsbD (32 + (↑(up.reg (Reg.MPH_GRP_CTL_MAX_RATE 2)) : Word)) 4 = false) ∧ (bits
      (BitVec.toNat (32 + (↑(up.reg (Reg.MPH_GRP_CTL_MAX_RATE 2)) : Word))) 0 3 = x25.access.reg (Reg.MPH_GRP_CTL_MAX_RATE 2)) ∧
      (BitVec.getLsbD (32 + (↑(up.reg (Reg.MPH_GRP_CTL_MAX_RATE 2)) : Word)) 5 = true) ∧ (x25.stripeBusy = false) ∧ (x25.access.grp 2 =
      grpReady)) ∧
    ((x31.linkUp = true) ∧ (x31.native = true) ∧ (BitVec.getLsbD (↑(up.reg (Reg.MPH_GRP_CTL_MAX_RATE 2)) : Word) 4 = false) ∧ (bits
      (BitVec.toNat (↑(up.reg (Reg.MPH_GRP_CTL_MAX_RATE 2)) : Word)) 0 3 = x31.access.reg (Reg.MPH_GRP_CTL_MAX_RATE 2)) ∧ (BitVec.getLsbD
      (↑(up.reg (Reg.MPH_GRP_CTL_MAX_RATE 2)) : Word) 5 = false) ∧ (x31.access.flag (Reg.MPH_GRP_CTL_L2_REQ 2) = true) ∧ (x31.access.inL2 2
      = true) ∧ (x31.access.grp 2 = grpReady)) ∧
    ((x32.group 2).l2Exit = true) ∧
    ((x10.group 2).l2Exit = false) ∧
    ((x25.linkUp = true) ∧ (x25.native = true) ∧ ((18#32).getLsbD 4 = true) ∧ ((18#32).getLsbD 8 = false) ∧ (x25.access.flag
      (Reg.MPH_PRBS_CTL_GEN_EN 2 3) = false) ∧ (x25.genAllowed 3 = true)) ∧
    ((x25.linkUp = true) ∧ (x25.native = true) ∧ ((18#32).getLsbD 4 = true) ∧ ((18#32).getLsbD 8 = false) ∧ (x25.access.flag
      (Reg.MPH_PRBS_CTL_GEN_EN 2 8) = false) ∧ (x25.genAllowed 8 = false)) ∧
    ((x33.linkUp = true) ∧ (x33.native = true) ∧ ((33#32).getLsbD 4 = false) ∧ (x33.access.flag (Reg.MPH_PRBS_CTL_GEN_EN 2 3) = false) ∧
      ((33#32).getLsbD 5 = true) ∧ (x33.access.flag (Reg.MPH_PRBS_CTL_CHK_EN 2 3) = false) ∧ (x33.access.flag (Reg.MPH_PRBS_CTL_LOCK 2 3) =
      false)) ∧
    ((x34.linkUp = true) ∧ (x34.native = true) ∧ ((0#32).getLsbD 4 = false) ∧ (x34.access.flag (Reg.MPH_PRBS_CTL_GEN_EN 2 3) = false) ∧
      ((0#32).getLsbD 5 = false)) ∧
    ((x25.linkUp = true) ∧ (x25.native = true) ∧ ((256#32).getLsbD 4 = false) ∧ (x25.access.flag (Reg.MPH_PRBS_CTL_GEN_EN 2 3) = false) ∧
      ((256#32).getLsbD 8 = true)) ∧
    (x35.flag (Reg.MPH_PRBS_CTL_CHK_EN 2 3) = true) := by
  refine ⟨?_, ?_, ?_, ?_, ?_, ?_, ?_, ?_, ?_, ?_, ?_, ?_, ?_⟩ <;> decide +kernel
def x36 : LinkMsg := lm 6 [0]
def x37 : LinkMsg := lm 6 [2]
def x38 : State := gst grpReady (fun k => { k with switch := some w0 })
def x39 : LinkMsg := lm 6 [3, 19]
def x40 : LinkMsg := lm 6 [5]
def x41 : LinkMsg := lm 4 [1, 2, 3]
theorem witness_ReturnMessagesAndReports :
    ((x25.hears 2 = true) ∧ (linkCrcGood bad.bytes bad.padOk = false) ∧ (Instr.statusNak 2 bad ∈ [Instr.returnLaneLoss 2 bad,
      Instr.statusNak 2 bad, Instr.statusAlive 2 bad, Instr.statusReady 2 bad, Instr.statusSpareReady 2 bad, Instr.statusLaneDown 2 bad,
      Instr.statusHot 2 bad, Instr.tempMessage 2 bad, Instr.reservedLinkMessage 2 bad, Instr.caps 2 bad, Instr.tapReq 2 bad,
      Instr.prbsResult 2 bad])) ∧
    ((x25.hears 2 = true) ∧ (linkCrcGood bad.bytes bad.padOk = false) ∧ (Instr.caps 2 bad ∈ [Instr.returnLaneLoss 2 bad, Instr.statusNak 2
      bad, Instr.statusAlive 2 bad, Instr.statusReady 2 bad, Instr.statusSpareReady 2 bad, Instr.statusLaneDown 2 bad, Instr.statusHot 2
      bad, Instr.tempMessage 2 bad, Instr.reservedLinkMessage 2 bad, Instr.caps 2 bad, Instr.tapReq 2 bad, Instr.prbsResult 2 bad])) ∧
    ((up.hears 2 = false) ∧ (Instr.tapReq 2 bad ∈ [Instr.returnLaneLoss 2 bad, Instr.statusNak 2 bad, Instr.statusAlive 2 bad,
      Instr.statusReady 2 bad, Instr.statusSpareReady 2 bad, Instr.statusLaneDown 2 bad, Instr.statusHot 2 bad, Instr.tempMessage 2 bad,
      Instr.reservedLinkMessage 2 bad, Instr.caps 2 bad, Instr.tapReq 2 bad, Instr.prbsResult 2 bad])) ∧
    ((Good x25 2 x36) ∧ (Instr.statusAlive 2 (lm 6 [0]) ∈ [Instr.statusAlive 2 x36, Instr.reservedLinkMessage 2 x36])) ∧
    ((Good ann 2 x37) ∧ (byteAt x37.bytes 0 = 6) ∧ (byteAt x37.bytes 2 = 2) ∧ (ann.active? = some strA) ∧ (strA.run = some runA) ∧
      (runA.announced = true) ∧ (runA.ended = false)) ∧
    ((Good x38 2 x39) ∧ (byteAt x39.bytes 0 = 6) ∧ (byteAt x39.bytes 2 = 3) ∧ ((x38.group 2).switch = some w0) ∧ (w0.lane = byteAt
      x39.bytes 3)) ∧
    ((x25.active? = none) ∧ (x25.inService 2 = true) ∧ (x25.reg Reg.CAL_THERM_BLK_LEVEL ≤ 3) ∧ (Good x25 2 x40) ∧ (byteAt x40.bytes 0 = 6)
      ∧ (byteAt x40.bytes 2 = 5)) ∧
    ((x25.active? = none) ∧ (x25.inService 2 = true) ∧ (x25.reg Reg.CAL_THERM_BLK_LEVEL ≤ 3)) ∧
    ((x25.active? = none) ∧ (Good x25 2 x41) ∧ (byteAt x41.bytes 0 = 4)) ∧
    (up.inService 2 = false) := by
  refine ⟨?_, ?_, ?_, ?_, ?_, ?_, ?_, ?_, ?_, ?_⟩ <;> decide +kernel
def x42 : LinkMsg := lm 6 [1, 20]
def x43 : State := has (linked up) wrf
def x44 : LinkMsg := lm 6 [1, 20, 2]
def x45 : State := has (linked up) wro
def x46 : LinkMsg := lm 6 [1, 20, 1]
def x47 : State := { (linked up).setReg Reg.FRM_SPARE_CTL_NAK_LIMIT 2 with link := { (linked up).link with naks := [(20, 0), (20, 0), (21, 0)] } }
def x48 : State := (linked up).setReg Reg.FRM_SPARE_CTL_NAK_LIMIT 0
def x49 : LinkMsg := lm 6 [4, 19]
def x50 : LinkMsg := lm 6 [4, 255]
def x51 : State := gst grpAlign
def x52 : State := has (gst grpReady due [(Reg.MPH_GRP_STATUS_SPARE_FIT 2, 1)]) wr
def x53 : List ℕ := ([] : List Nat)
def x54 : State := has (gst grpReady due) wr
def x55 : State := has (gst grpReady (fun k => { k with switch := some w0 })) wr
def x56 : State := has (linked up) wr
theorem witness_RefusedFramesAndSwitchOver :
    ((Good x25 2 x42) ∧ (byteAt x42.bytes 0 = 6) ∧ (byteAt x42.bytes 2 = 1) ∧ (x25.active? = none)) ∧
    ((Good x43 2 x44) ∧ (byteAt x44.bytes 0 = 6) ∧ (byteAt x44.bytes 2 = 1) ∧ (x43.active? = some wrf) ∧ (x43.stripe? wrf.par.id = some
      wrf) ∧ (wrf.run = some tick) ∧ (tick.launched (leAt x44.bytes 4 4) = true) ∧ (byteAt x44.bytes 3 < 128) ∧ (List.find? (fun f =>
      f.tick == leAt x44.bytes 4 4) wrf.frames = some fl0) ∧ (byteAt x44.bytes 3 ∉ fl0.lost) ∧ (fl0.accounted = true) ∧ (tick.notPast (leAt
      x44.bytes 4 4 + wrf.bv.nakWindow) x43.now = true)) ∧
    ((Good x45 2 x46) ∧ (byteAt x46.bytes 0 = 6) ∧ (byteAt x46.bytes 2 = 1) ∧ (x45.active? = some wro) ∧ (wro.run = some tick) ∧ (∀ f ∈
      wro.frames, f.tick ≠ leAt x46.bytes 4 4) ∧ (∃ e ∈ wro.older, e.1 = leAt x46.bytes 4 4 ∧ byteAt x46.bytes 3 ∈ e.2)) ∧
    ((x47.grp (20 / 8) = grpReady) ∧ (20 ∉ (x47.group (20 / 8)).switchDue) ∧ (0 < x47.reg Reg.FRM_SPARE_CTL_NAK_LIMIT) ∧ (x47.reg
      Reg.FRM_SPARE_CTL_NAK_LIMIT ≤ (List.filter (fun e => e.1 == 20 && decide (x47.now ≤ e.2 + millisecond)) x47.link.naks).length)) ∧
    ((x48.grp (20 / 8) = grpReady) ∧ (20 ∉ (x48.group (20 / 8)).switchDue) ∧ (x48.reg Reg.FRM_SPARE_CTL_NAK_LIMIT = 0)) ∧
    ((x25.grp 2 = grpReady) ∧ (x25.flag (spareUsed 2) = false) ∧ (8 * 2 + 4 ∉ (x25.group 2).switchDue)) ∧
    ((Good x25 2 x49) ∧ (byteAt x49.bytes 0 = 6) ∧ (byteAt x49.bytes 2 = 4) ∧ (byteAt x49.bytes 3 < 128) ∧ (x25.grp (byteAt x49.bytes 3 /
      8) = grpReady) ∧ (x25.reg (Reg.MPH_LSTATE_STATE (byteAt x49.bytes 3 / 8) (x25.laneSlot (byteAt x49.bytes 3))) ≠ laneL1) ∧ (x25.reg
      (Reg.MPH_LSTATE_STATE (byteAt x49.bytes 3 / 8) (x25.laneSlot (byteAt x49.bytes 3))) ≠ laneL2) ∧ (byteAt x49.bytes 3 ∉ (x25.group
      (byteAt x49.bytes 3 / 8)).switchDue)) ∧
    ((Good x29 2 x49) ∧ (byteAt x49.bytes 0 = 6) ∧ (byteAt x49.bytes 2 = 4) ∧ (byteAt x49.bytes 3 < 128) ∧ (x29.grp (byteAt x49.bytes 3 /
      8) = grpReady) ∧ (x29.reg (Reg.MPH_LSTATE_STATE (byteAt x49.bytes 3 / 8) (x29.laneSlot (byteAt x49.bytes 3))) = laneL1 ∨ x29.reg
      (Reg.MPH_LSTATE_STATE (byteAt x49.bytes 3 / 8) (x29.laneSlot (byteAt x49.bytes 3))) = laneL2)) ∧
    ((Good x25 2 x50) ∧ (byteAt x50.bytes 0 = 6) ∧ (byteAt x50.bytes 2 = 4) ∧ (byteAt x50.bytes 3 = 255) ∧ (x25.active? = none) ∧ (x25.grp
      2 = grpReady)) ∧
    ((Good x51 2 x50) ∧ (byteAt x50.bytes 0 = 6) ∧ (byteAt x50.bytes 2 = 4) ∧ (byteAt x50.bytes 3 = 255) ∧ (x51.grp 2 = grpAlign ∨ x51.grp
      2 = grpEq ∨ x51.grp 2 = grpVerify)) ∧
    (((x52.group 2).switchDue = 19 :: x53) ∧ (Writes x52 wr tick) ∧ (wr.abortDue = false) ∧ (tick.instantOf tick.next = some 3000000) ∧
      ((x52.group 2).switch = none) ∧ (x52.spareServes 2 = true)) ∧
    (((x54.group 2).switchDue = 19 :: x53) ∧ (Writes x54 wr tick) ∧ (wr.abortDue = false) ∧ (tick.instantOf tick.next = some 3000000) ∧
      ((x54.group 2).switch.isSome = true ∨ x54.spareServes 2 = false)) ∧
    (((x55.group 2).switch = some w0) ∧ (w0.ready = false) ∧ (Writes x55 wr tick)) ∧
    (∀ w ∈ (up.group 2).switch, w.ready = true) ∧
    (Writes x56 wr tick) ∧
    (up.active? = none) := by
  refine ⟨?_, ?_, ?_, ?_, ?_, ?_, ?_, ?_, ?_, ?_, ?_, ?_, ?_, ?_, ?_, ?_⟩ <;> decide +kernel

end Muash

namespace Moving

def word (seq pos : Nat) : BitVec 80 :=
  let body := seq * 2 ^ 56 + pos * 2 ^ 8 + 1
  BitVec.ofNat 80 (0xB8 * 2 ^ 72 + body * 2 ^ 8 + (crc8 (beBytes 8 body)).toNat)
def badWord : BitVec 80 := 5
def lane (l : Nat) (f : StageLane → StageLane) (s : State) : State := s.onLane l f
def port (lock : Nat) (l : List (Field × Nat)) : State := on ([(Reg.STG_CTL_EN, 1), (Reg.STG_STATUS_LOCK, lock)] ++ l)
def ym : YMove := ⟨some ⟨8, 1, 0⟩, 500, false, none, [], 0, ⟨5, 5, 1, 5⟩⟩
def spOn : State := { on [(Reg.STG_CTL_SP_EN, 1), (Reg.SKP_VA_VMAX, 5), (Reg.SKP_VA_AMAX, 5)] with stage := { up.stage with yMove := some ym, spSeq := 255 } }
def wrv : Stripe := { wr with bv := { wr.bv with vmax := 100, amax := 100, jmax := 100 } }
def tkc : Run := { tick with caps := (1000, 1000) }
def wrl : Stripe := { wrv with run := some tkc, fill := .replicate 4 100000, par := { par with len := 100000 } }
def skp : State := { staged (has (on [(Reg.SKP_PLAN_MARGIN, 10), (Reg.SKP_PLAN_LOW, 1), (Reg.STG_CTL_SP_EN, 1)]) wrl) with stage := { up.stage with fTarget := 2000 } }
def rdy : Stripe := { str with fill := .replicate 4 100000, checked := true, run := some run0 }
def rdyL : Stripe := { rdy with par := { rdy.par with len := 100000 } }
def rdyX : Stripe := { rdy with xk2 := true }
def tran : Stripe := { str with state := .transit, run := some run0, checked := true }
def tout : Stripe := { str with state := .runout, run := some { tick with ended := true }, checked := true }
def tab : Stripe := { wr with state := .aborting, cause := some .stripeAborted, resumeAt := some 3 }
def tru : Stripe := { str with state := .runup, run := some { run0 with announced := true }, checked := true }
def wrn : Stripe := { wr with par := { par with len := 640 }, run := some { tick with last := 30 } }
def tkn : Run := { tick with last := 30 }
def tke : Run := { tick with last := 2 }
def wre : Stripe := { wr with run := some tke }
def tk60 : Run := { tick with next := 60, last := 90 }
def wrs : Stripe := { wr with run := some tk60, sweeps := [(2, [1]), (3, [])] }
def wrs2 : Stripe := { wr with sweeps := [(2, [1]), (3, [])] }
def abt : Stripe := { wr with state := .aborting, abortDue := true, cause := some .estop }
def tkb : Run := { tick with ended := true, complete := true, next := 90 }
def tsc : Stripe := { tout with run := some tkb, par := { par with p := 2 }, sweeps := [(2, [1])] }
def tkr : Run := { tick with ended := true, rest := true }
def two : Stripe := { tout with run := some tkr, par := { par with p := 2 } }
def tsw : Stripe := { two with run := some { tkr with complete := true }, sweeps := [(2, [1])] }
def one : Stripe := { tout with run := some tkr }
def xw : Stripe := { wr with xk2 := true }
def grp (r : Nat) : State := on [(Reg.STG_CTL_ROLE, r), (Reg.STG_TSYNC_LEAD, 2000)]
def tmsg (fl t : Nat) : List Byte := tickMessage fl t 700 30 40 50 9
def fol : Stripe := { wr with bv := { wr.bv with role := 2 } }
def mas : Stripe := { wr with bv := { wr.bv with role := 1 } }
def rmsg (fl : Nat) : List Byte := runMessage fl str run0 run0.first run0.last 3
def mst : Stripe := { str with bv := { str.bv with role := 1 }, run := some run0, checked := true }
def mrun (rep : Bool) : State := { has (grp 1) mst with stage := { up.stage with tsRun := some (rmsg 0, 7000), tsRepeat := rep } }
def eng (b0 b1 : Bool) (l : List (Field × Nat)) : State :=
  let t := on ([(Reg.LPR_STATUS_ENGAGED, 1)] ++ l)
  { t with looper := { t.looper with banks := ((vmod (vmod t.looper.banks 0 fun _ => if b0 then some (bankOf []) else none) 1 fun _ => if b1 then some (bankOf []) else none)) } }
def swp (h : Bool) : State := { eng true true [] with looper := { (eng true true []).looper with swap := true, holdLock := h } }
def imp (s : State) : State := { s.setRegs [(Reg.STG_CTL_SP_EN, 1), (Reg.STG_STATUS_LOCK, 2)] with stage := { s.stage with spActive := true }, looper := { s.looper with implausible := 5000 } }
def hld (s : State) : State := { s with looper := { s.looper with holdLock := true } }
def axs (m : AuxMove) : State := (up.onAux 2 fun a => { a with move := some m }).setReg (Reg.AUX_STATUS_STATE 2) 1
def am0 : AuxMove := ⟨some ⟨8, 1, 0⟩, 10, 10, false, true, 100, true, false, .ok, [], 160, 0⟩
def am1 : AuxMove := { am0 with target := 1, goal := 1 }
def amw : AuxMove := { am0 with waking := true }
def x1 : State := lane 2 (fun k => { k with streak := 15, lastSeq := 4 }) (port 1 [])
def x2 : State := lane 2 (fun k => { k with lastSeq := 255, missed := 2, hist := [1,2,3,4,5,6,7,8,9] }) (port 4 [])
def x3 : State := lane 1 (fun k => { k with lastSeq := 7, hist := [1,2,3,4,5,6,7,8,9] }) (port 7 [])
def x4 : State := lane 1 (fun k => { k with lastSeq := 7, missed := 3 }) (port 7 [])
def x5 : State := lane 1 (fun k => { k with missed := 16 }) (port 7 [])
def x6 : State := lane 1 (fun k => { k with missed := 4 }) (has (port 7 []) wr)
def x7 : State := has (on [(Reg.SKP_PLAN_MARGIN, 10), (Reg.STG_CTL_SP_EN, 1)]) wrv
def x8 : State := has up wr
theorem witness_StageAndSkipper :
    ((x1.portOn = true) ∧ (x1.locked 2 = false) ∧ (sampleGood (word 5 77) = true) ∧ ((x1.stageLane 2).streak = 15) ∧ (wordSeq (word 5 77) =
      ((x1.stageLane 2).lastSeq + 1) % 256) ∧ (2 = 1 → x1.looper.sampleX = none)) ∧
    ((x2.portOn = true) ∧ (x2.locked 2 = true) ∧ ((x2.stageLane 2).good (word 0 77) = true)) ∧
    ((x3.portOn = true) ∧ (x3.locked 1 = true) ∧ ((x3.stageLane 1).good (word 8 77) = true) ∧ (x3.active? = none)) ∧
    ((x4.portOn = true) ∧ (x4.locked 1 = true) ∧ ((x4.stageLane 1).good badWord = false) ∧ (3 ≤ (x4.stageLane 1).missed) ∧ (1 = 1 →
      x4.looper.sampleX = none)) ∧
    ((x5.portOn = true) ∧ (x5.locked 1 = true) ∧ (16 ≤ (x5.stageLane 1).missed)) ∧
    ((x6.portOn = true) ∧ (4 ≤ (x6.stageLane 1).missed) ∧ (Writes x6 wr tick)) ∧
    ((up.stageLane 1).missed < 4 ∨ up.inRun = false) ∧
    ((spOn.native = true) ∧ (spOn.flag Reg.STG_CTL_SP_EN = true) ∧ (spOn.role ≠ 2) ∧ (spOn.setPointAllowed 9 1 20 = true)) ∧
    ((spOn.native = true) ∧ (spOn.flag Reg.STG_CTL_SP_EN = true) ∧ (spOn.role ≠ 2) ∧ (spOn.setPointAllowed 9 1 21 = false)) ∧
    ((x7.native = true) ∧ (x7.flag Reg.STG_CTL_SP_EN = true) ∧ (Writes x7 wrv tick) ∧ ((x7.planReserves wrv tick).1 < x7.criticalReserve
      wrv (x7.planReserves wrv tick).1 (x7.planReserves wrv tick).2 ∨ x7.leastCache wrv tick = none ∧ x7.planStep wrv tick (x7.rateCap wrv
      tick.caps).1 (x7.planReserves wrv tick).2 = none)) ∧
    ((skp.native = true) ∧ (skp.flag Reg.STG_CTL_SP_EN = true) ∧ (Writes skp wrl tkc) ∧ (skp.criticalReserve wrl (skp.planReserves wrl
      tkc).1 (skp.planReserves wrl tkc).2 ≤ (skp.planReserves wrl tkc).1) ∧ (skp.stage.emergency = false) ∧ ((skp.rateCap wrl tkc.caps).1 *
      (↑64 : ℚ) / 64 < skp.stage.fTarget) ∧ (skp.leastCache wrl tkc = none) ∧ (skp.planStep wrl tkc (skp.rateCap wrl tkc.caps).1
      (skp.planReserves wrl tkc).2 = some 64)) ∧
    (x8.active? = none ∨ x8.flag Reg.STG_CTL_SP_EN = false) ∧
    (up.active? = none ∨ up.flag Reg.STG_CTL_SP_EN = false) := by
  refine ⟨?_, ?_, ?_, ?_, ?_, ?_, ?_, ?_, ?_, ?_, ?_, ?_, ?_⟩ <;> decide +kernel
def x9 : State := staged (has up rdy)
def x10 : State := staged (has (linked xk) rdyX)
def x11 : State := staged (has (on [(Reg.FLT_STATUS_SLICE_FAILED, 4), (Reg.FLT_STATUS_MOLT_SECTOR, 7)]) rdy)
def x12 : State := has (linked up) tran
def x13 : State := has up tout
def x14 : Run := { tick with ended := true }
def x15 : State := has up tab
def x16 : State := has up tru
def x17 : Run := { run0 with announced := true }
def x18 : Origin := ⟨8, 1, 0⟩
theorem witness_StripeStarts :
    ((x9.nextToStart = some rdy) ∧ (x9.stripe? rdy.par.id = some rdy) ∧ (rdy.run = some run0) ∧ (rdy.state = StripeState.bound) ∧
      (x9.stageFree = true) ∧ (x9.operatorReady = true) ∧ (x9.clocked = true) ∧ (x9.packageReady rdy = true) ∧ (x9.flag
      Reg.MEM_STATUS_SWEEPING = false) ∧ (x9.sectorsWork = true) ∧ (x9.startConditions rdy run0 = true) ∧ (rdy.bv.role = 0)) ∧
    ((x10.nextToStart = some rdyX) ∧ (x10.stripe? rdyX.par.id = some rdyX) ∧ (rdyX.run = some run0) ∧ (rdyX.state = StripeState.bound) ∧
      (x10.stageFree = true) ∧ (x10.operatorReady = true) ∧ (x10.clocked = true) ∧ (x10.packageReady rdyX = true) ∧ (x10.flag
      Reg.MEM_STATUS_SWEEPING = false) ∧ (x10.sectorsWork = true) ∧ (x10.startConditions rdyX run0 = true) ∧ (rdyX.bv.role = 0)) ∧
    ((x11.nextToStart = some rdy) ∧ (x11.stripe? rdy.par.id = some rdy) ∧ (rdy.run = some run0) ∧ (rdy.state = StripeState.bound) ∧
      (x11.stageFree = true) ∧ (x11.operatorReady = true) ∧ (x11.clocked = true) ∧ (x11.packageReady rdy = true) ∧ (x11.flag
      Reg.MEM_STATUS_SWEEPING = false) ∧ (x11.sectorsWork = false) ∧ (x11.cprOf rdy.owner.ring ≤ 4)) ∧
    (up.operatorReady = false ∨ up.stageFree = false ∨ up.nextToStart = none ∨ up.flag Reg.MEM_STATUS_SWEEPING = true) ∧
    ((x12.stage.yMove = none) ∧ (x12.softBusy = false) ∧ (x12.active? = some tran) ∧ (x12.stripe? tran.par.id = some tran) ∧ (tran.run =
      some run0) ∧ (tran.xk2 = false) ∧ (tran.state = StripeState.transit) ∧ (tran.bv.role = 0) ∧ (0 = tran.startPos)) ∧
    ((x12.stage.yMove = none) ∧ (x12.softBusy = false) ∧ (x12.active? = some tran) ∧ (x12.stripe? tran.par.id = some tran) ∧ (tran.run =
      some run0) ∧ (tran.xk2 = false) ∧ (tran.state = StripeState.transit) ∧ (tran.bv.role = 0) ∧ (1 ≠ tran.startPos)) ∧
    ((x13.stage.yMove = none) ∧ (x13.softBusy = false) ∧ (x13.active? = some tout) ∧ (x13.stripe? tout.par.id = some tout) ∧ (tout.run =
      some x14) ∧ (tout.xk2 = false) ∧ (tout.state = StripeState.runout) ∧ (x14.complete = false)) ∧
    ((x15.stage.yMove = none) ∧ (x15.softBusy = false) ∧ (x15.active? = some tab) ∧ (x15.stripe? tab.par.id = some tab) ∧ (tab.run = some
      tick) ∧ (tab.xk2 = false) ∧ (tab.state = StripeState.aborting) ∧ (tab.abortDue = false)) ∧
    ((x16.stage.yMove = none) ∧ (x16.softBusy = false) ∧ (x16.active? = some tru) ∧ (x16.stripe? tru.par.id = some tru) ∧ (tru.run = some
      x17) ∧ (tru.xk2 = false) ∧ (tru.state = StripeState.runup) ∧ (x17.announced = true) ∧ (x17.ticked = false) ∧ (x16.allReady tru =
      false)) ∧
    ((spOn.stage.yMove = some ym) ∧ (ym.origin = some x18) ∧ (ym.stopping = none) ∧ (ym.reversing = false) ∧ (ym.stopCmd = []) ∧
      (spOn.softBusy = false) ∧ (spOn.cprOf x18.ring ≤ 4)) := by
  refine ⟨?_, ?_, ?_, ?_, ?_, ?_, ?_, ?_, ?_, ?_⟩ <;> decide +kernel
def x19 : State := staged (has (linked up) wrn)
def x20 : State := staged (has (linked up) wre)
def x21 : State := has (linked up) wrs
def x22 : List ℕ := [1]
def x23 : List (ℕ × List ℕ) := [(3, ([] : List Nat))]
def x24 : State := has (linked up) wrs2
def x25 : State := has (linked up) abt
def x26 : State := has up two
def x27 : Run := two.passRun 1
def x28 : State := has up tsw
def x29 : Run := { tkr with complete := true }
def x30 : State := has (linked up) tsc
def x31 : List (ℕ × List ℕ) := ([] : List (Nat × List Nat))
def x32 : Run := tsc.passRun 1
def x33 : State := staged (has up one)
theorem witness_FrameLaunches :
    ((Writes x19 wrn tkn) ∧ (wrn.abortDue = false) ∧ (tkn.announced = true) ∧ (tkn.instantOf tkn.next = some 3000000) ∧ (tkn.first <
      tkn.next) ∧ (tkn.next ≤ tkn.last)) ∧
    ((Writes x20 wre tke) ∧ (wre.abortDue = false) ∧ (tke.announced = true) ∧ (tke.instantOf tke.next = some 3000000) ∧ (tke.first <
      tke.next) ∧ (tke.next = tke.last + 1)) ∧
    (up.active? = none) ∧
    ((Writes x21 wrs tk60) ∧ (wrs.sweeps = (2, x22) :: x23)) ∧
    ((Writes x21 wrs tk60) ∧ (wrs.sweeps = (2, x22) :: x23) ∧ (2 + 48 ≤ tk60.next)) ∧
    ((Writes x24 wrs2 tick) ∧ (wrs2.sweeps = (2, x22) :: x23) ∧ (tick.complete = false) ∧ (tick.next < 2 + 48)) ∧
    ((x25.active? = some abt) ∧ (x25.stripe? abt.par.id = some abt) ∧ (abt.run = some tick) ∧ (abt.state = StripeState.aborting) ∧
      (abt.abortDue = true) ∧ (abt.abortAt = none) ∧ (abt.cause = some Status.estop) ∧ (abt.xk2 = false) ∧ (tick.instantOf tick.next = some
      3000000) ∧ (tick.first < tick.next) ∧ (x25.softBusy = false)) ∧
    ((x13.active? = some tout) ∧ (x13.stripe? tout.par.id = some tout) ∧ (tout.run = some x14) ∧ (tout.state = StripeState.runout) ∧
      (tout.xk2 = false) ∧ (x13.softBusy = false) ∧ (x14.rest = false)) ∧
    ((x26.active? = some two) ∧ (x26.stripe? two.par.id = some two) ∧ (two.run = some tkr) ∧ (two.state = StripeState.runout) ∧ (two.xk2 =
      false) ∧ (x26.softBusy = false) ∧ (tkr.rest = true) ∧ (two.sweeps = []) ∧ (two.nextRun = some x27)) ∧
    ((x28.active? = some tsw) ∧ (x28.stripe? tsw.par.id = some tsw) ∧ (tsw.run = some x29) ∧ (tsw.state = StripeState.runout) ∧ (tsw.xk2 =
      false) ∧ (x28.softBusy = false) ∧ (x29.rest = true) ∧ (tsw.sweeps ≠ [])) ∧
    ((x30.active? = some tsc) ∧ (x30.stripe? tsc.par.id = some tsc) ∧ (tsc.run = some tkb) ∧ (tsc.state = StripeState.runout) ∧
      (tkb.complete = true) ∧ (tsc.sweeps = (2, x22) :: x31) ∧ (2 + 48 ≤ tkb.next + tsc.bv.nakWindow) ∧ (tsc.nextRun = some x32)) ∧
    ((x33.active? = some one) ∧ (x33.stripe? one.par.id = some one) ∧ (one.run = some tkr) ∧ (one.state = StripeState.runout) ∧ (one.xk2 =
      false) ∧ (x33.softBusy = false) ∧ (tkr.rest = true) ∧ (one.sweeps = []) ∧ (one.nextRun = none)) := by
  refine ⟨?_, ?_, ?_, ?_, ?_, ?_, ?_, ?_, ?_, ?_, ?_, ?_⟩ <;> decide +kernel
def x34 : State := has xk xw
def x35 : State := { has xk xw with stage := { xk.stage with lastEdge := some 8000000 } }
def x36 : State := { xk with stage := { xk.stage with pastEnd := true } }
def x37 : State := { xk with jobs := [.beamCheck ⟨9, 1, 0⟩ 64 true] }
def x38 : State := grp 2
def x39 : List Byte := (tmsg 0 5).set 3 9
def x40 : State := grp 1
def x41 : List Byte := (tmsg 0 5)
def x42 : State := has (grp 2) fol
def x43 : List Byte := (tmsg 0 3)
def x44 : State := has (grp 1) mas
def x45 : State := { has (grp 1) mas with stage := { up.stage with tsMissing := 1 } }
def x46 : List Byte := rmsg 0
def x47 : State := mrun false
def x48 : List Byte := rmsg 4
def x49 : State := mrun true
theorem witness_TickInAndLockGroups :
    ((x34.native = false) ∧ (x34.checking = false) ∧ (x34.active? = some xw) ∧ (x34.stripe? xw.par.id = some xw) ∧ (xw.run = some tick) ∧
      (tick.ended = false) ∧ (tick.nextFixed ≤ tick.last + 1) ∧ (∀ e ∈ x34.stage.lastEdge, e + xk2MinPeriod ≤ 9000000)) ∧
    ((x35.native = false) ∧ (x35.checking = false) ∧ (x35.active? = some xw) ∧ (x35.stripe? xw.par.id = some xw) ∧ (xw.run = some tick) ∧
      (tick.ended = false) ∧ (tick.nextFixed ≤ tick.last + 1) ∧ (x35.stage.lastEdge = some 8000000) ∧ (9000000 < 8000000 + xk2MinPeriod)) ∧
    ((xk.native = false) ∧ (xk.checking = false) ∧ (xk.active? = none) ∧ (xk.stage.pastEnd = false)) ∧
    ((x36.native = false) ∧ (x36.checking = false) ∧ (x36.active? = none) ∧ (x36.stage.pastEnd = true)) ∧
    (up.native = true ∨ up.checking = true) ∧
    (x37.native = true ∨ x37.checking = true) ∧
    ((x38.tsyncOn = true) ∧ (ticksyncGood x39 = false) ∧ (Instr.ticksyncTickMessage ((tmsg 0 5).set 3 9) 7000 ∈ [Instr.ticksyncTickMessage
      x39 7000, Instr.ticksyncRunMessage x39 7000])) ∧
    (up.tsyncOn = false) ∧
    ((x40.tsyncOn = true) ∧ (ticksyncGood x41 = true) ∧ (byteAt x41 0 = 1) ∧ (x40.groupRole = 1) ∧ (bitOf (byteAt x41 1) 1 = false)) ∧
    ((x42.tsyncOn = true) ∧ (ticksyncGood x43 = true) ∧ (byteAt x43 0 = 1) ∧ (x42.active? = some fol) ∧ (x42.stripe? fol.par.id = some fol)
      ∧ (fol.run = some tick) ∧ (fol.bv.role = 2) ∧ (fol.ticking = true) ∧ ((leAt x43 2 4 + 1) % 2 ^ 32 = tick.nextFixed) ∧ (bitOf (byteAt
      x43 1) 0 = false)) ∧
    ((x42.native = true) ∧ (x42.active? = some fol) ∧ (x42.stripe? fol.par.id = some fol) ∧ (fol.run = some tick) ∧ (fol.ticking = true) ∧
      (tick.ticked = true) ∧ (fol.xk2 = false) ∧ (fol.bv.role = 2)) ∧
    ((x44.native = true) ∧ (x44.active? = some mas) ∧ (x44.stripe? mas.par.id = some mas) ∧ (mas.run = some tick) ∧ (mas.ticking = true) ∧
      (tick.ticked = true) ∧ (mas.xk2 = false) ∧ (mas.bv.role = 1) ∧ (x44.stage.tsReturned = none) ∧ (x44.stage.tsMissing = 0)) ∧
    ((x45.native = true) ∧ (x45.active? = some mas) ∧ (x45.stripe? mas.par.id = some mas) ∧ (mas.run = some tick) ∧ (mas.ticking = true) ∧
      (tick.ticked = true) ∧ (mas.xk2 = false) ∧ (mas.bv.role = 1) ∧ (x45.stage.tsReturned = none) ∧ (1 ≤ x45.stage.tsMissing) ∧ (mas.state
      = StripeState.write)) ∧
    ((x38.tsyncOn = true) ∧ (ticksyncGood x46 = true) ∧ (byteAt x46 0 = 2) ∧ (x38.groupRole = 2) ∧ (bitOf (byteAt x46 1) 4 = false)) ∧
    ((x47.tsyncOn = true) ∧ (ticksyncGood x48 = true) ∧ (byteAt x48 0 = 2) ∧ (x47.groupRole = 1) ∧ (x47.runStripe = some (mst, run0)) ∧
      (x47.stage.tsRun = some (x46, 7000)) ∧ (bitOf (byteAt x48 1) 4 = false) ∧ (bitOf (byteAt x48 1) 3 = false) ∧ (bitOf (byteAt x48 1) 2
      = true) ∧ (100 ≤ x47.reg Reg.STG_TSYNC_LEAD)) ∧
    ((x49.runStripe = some (mst, run0)) ∧ (x49.tsyncOn = true) ∧ (x49.groupRole = 1) ∧ (x49.stage.tsRepeat = true)) := by
  refine ⟨?_, ?_, ?_, ?_, ?_, ?_, ?_, ?_, ?_, ?_, ?_, ?_, ?_, ?_, ?_, ?_⟩ <;> decide +kernel
def x50 : State := eng true false []
def x51 : State := eng true true []
def x52 : State := eng true true [(Reg.LPR_STATUS_ENGAGED, 0)]
def x53 : State := swp false
def x54 : State := swp true
def x55 : State := { on [(Reg.LPR_ENGINE_STANDBY, 1)] with jobs := [.switchLooper ⟨8, 1, 0⟩] }
def x56 : State := imp writing
def x57 : State := imp spOn
def x58 : State := hld up
def x59 : State := hld writing
theorem witness_Looper :
    ((∀ p ∈ x50.stripes, p.ticking = false) ∧ (x50.flag Reg.LPR_STATUS_ENGAGED = true) ∧ (x50.looper.swap = false)) ∧
    (up.flag Reg.LPR_STATUS_ENGAGED = false ∨ ∃ p ∈ up.stripes, p.ticking = true) ∧
    ((x50.linkUp = true) ∧ (x50.native = true) ∧ ((3#32).getLsbD 1 = true) ∧ (x50.access.reg Reg.LPR_STATUS_BANK ≤ 1) ∧
      (x50.access.bankValid (1 - x50.access.reg Reg.LPR_STATUS_BANK) = false)) ∧
    ((x51.linkUp = true) ∧ (x51.native = true) ∧ ((3#32).getLsbD 1 = true) ∧ (x51.access.reg Reg.LPR_STATUS_BANK ≤ 1) ∧
      (x51.access.bankValid (1 - x51.access.reg Reg.LPR_STATUS_BANK) = true) ∧ (x51.looper.swap = false) ∧ (x51.access.flag
      Reg.LPR_STATUS_ENGAGED = true)) ∧
    ((x52.linkUp = true) ∧ (x52.native = true) ∧ ((3#32).getLsbD 1 = true) ∧ (x52.access.reg Reg.LPR_STATUS_BANK ≤ 1) ∧
      (x52.access.bankValid (1 - x52.access.reg Reg.LPR_STATUS_BANK) = true) ∧ (x52.looper.swap = false) ∧ (x52.access.flag
      Reg.LPR_STATUS_ENGAGED = false)) ∧
    ((x53.looper.swap = true) ∧ (x53.flag Reg.LPR_STATUS_ENGAGED = true) ∧ (x53.reg Reg.LPR_STATUS_BANK ≤ 1) ∧ (x53.looper.holdLock =
      false) ∧ (x53.looper.holdGap = false)) ∧
    ((x54.looper.swap = true) ∧ (x54.flag Reg.LPR_STATUS_ENGAGED = true) ∧ (x54.reg Reg.LPR_STATUS_BANK ≤ 1) ∧ (x54.looper.holdLock = true
      ∨ x54.looper.holdGap = true)) ∧
    ((x55.jobs = [CmdJob.switchLooper x18]) ∧ (x55.cprOf x18.ring ≤ 4)) ∧
    ((x55.jobs = [CmdJob.switchLooper x18]) ∧ (x55.cprOf x18.ring ≤ 4)) ∧
    ((x56.modelOn = true) ∧ (x56.plausN ≤ x56.looper.implausible) ∧ (Writes x56 wr tick)) ∧
    ((x57.modelOn = true) ∧ (x57.plausN ≤ x57.looper.implausible) ∧ (x57.inRun = false) ∧ (x57.stage.yMove = some ym)) ∧
    (up.looper.implausible < up.plausN) ∧
    ((x58.looper.holdLock = true) ∧ (x58.reg Reg.LPR_ENGINE_STANDBY = 0) ∧ (x58.reg Reg.LPR_ENGINE_ACTIVE ≤ 1)) ∧
    ((x59.looper.holdLock = true) ∧ (true = true ∨ x59.reg Reg.LPR_ENGINE_STANDBY = 1) ∧ (Writes x59 wr tick)) ∧
    (up.looper.holdLock = false) := by
  refine ⟨?_, ?_, ?_, ?_, ?_, ?_, ?_, ?_, ?_, ?_, ?_, ?_, ?_, ?_, ?_⟩ <;> decide +kernel
def x60 : State := axs am0
def x61 : State := axs am1
def x62 : State := axs amw
def x63 : State := up.setReg (Reg.AUX_STATUS_IHOLD 2) 0
theorem witness_AuxSteps :
    (((x60.auxAxis 2).move = some am0) ∧ (am0.waking = false) ∧ (x60.softBusy = false) ∧ ((if am0.up = true then x60.auxPos 2 + 1 else
      x60.auxPos 2 - 1) ≤ 2147483647) ∧ (-2147483648 ≤ if am0.up = true then x60.auxPos 2 + 1 else x60.auxPos 2 - 1)) ∧
    (((x61.auxAxis 2).move = some am1) ∧ (am1.waking = false) ∧ (x61.softBusy = false) ∧ ((if am1.up = true then x61.auxPos 2 + 1 else
      x61.auxPos 2 - 1) ≤ 2147483647) ∧ (-2147483648 ≤ if am1.up = true then x61.auxPos 2 + 1 else x61.auxPos 2 - 1)) ∧
    (((x62.auxAxis 2).move = some amw) ∧ (amw.waking = true)) ∧
    (((x60.auxAxis 2).move = some am0) ∧ (am0.waking = false)) ∧
    (((x63.auxAxis 2).move = none) ∧ (x63.reg (Reg.AUX_STATUS_IHOLD 2) = 0)) := by
  refine ⟨?_, ?_, ?_, ?_, ?_⟩ <;> decide +kernel

end Moving

namespace Drawing

def sqr : CellDef := ⟨0, [.figure 0 [(0, 0), (400, 0), (400, 400), (0, 400)] 8], 1, none⟩
def pkf : Package := { pk with flx := { pk.flx with np := 40, cellCount := 1, classes := [⟨256, false, false⟩], cells := [sqr] }, sets := [(0, [0])] }
def pkt (t : Tile) : Package := { pkf with tiles := [(0, t)] }
def old511 : Tile := { Tile.fresh with epoch := 511, placed := true }
def withP (k : Package) (s : State) : State := { s with packages := [k] }
def freeE (i e : Nat) (s : State) : State := s.onEngine i e fun _ => ⟨none, true, none⟩
def smp : Stripe := { str with bv := { str.bv with shadowLog2 := 1, rot := 0 } }
def h0 (ph : ShadowPhase) : Shadow := ⟨5, 0, 0, 0, 1, [⟨0, some 9⟩], ph, 2⟩
def job (ph : JobKind) (ep : Nat) : Job := ⟨5, 0, 0, ep, ph, [0], false, 0, false⟩
def busyE (ep : Nat) (s : State) : State := (s.onEngine 0 3 fun _ => ⟨some (job .own ep), false, none⟩).onSlice 0 fun c => { c with bands := [(5, 0)] }
def byp : Stripe := { wr with bypass := .replicate 5 true }
def pke : Package := { pkf with flx := { pkf.flx with cells := [] } }
def wraw : Stripe := { wr with bv := { wr.bv with rawOnly := true } }
def full : Package := { pkf with tiles := (List.range 16).map fun i => (tileKey 0 (i + 1), { Tile.fresh with direct := [(0, [])] }) }
def doneE : State := up.onEngine 0 3 fun _ => ⟨none, false, some (up.now, 1, 2)⟩
def fenced (i : Nat) (s : State) : State := (s.setReg (Reg.SLC_STATUS_ENG_FENCED i) 0x1F).onSlice i fun c => { c with fenceLimit := 4 }
def mis : Package := { pkf with selfmis := .replicate 5 16 }
def spw : Stripe := { str with spareWrong := 4, bv := { str.bv with spareLimit := 4 } }
def fl (k : Package) : State := withP k (has up { wr with fill := .replicate 4 (-1) })
def wf0 : Stripe := { wr with fill := .replicate 4 (-1) }
def wfb : Stripe := { wf0 with begun := true }
def emp : Tile := { Tile.fresh with placed := true, cached := true, empty := [0] }
def rot0 : Tile := { emp with empty := [], blocks := [⟨0, 0, true, [1], 0⟩] }
def cmpare (ph : ShadowPhase) (t : Tile) (s : State) : State := { withP (pkt t) s with shadows := [h0 ph] }
def t9 : Tile := { emp with blocks := [⟨0, 0, true, [1], 9⟩], empty := [], hold := true }
def t8 : Tile := { emp with blocks := [⟨0, 0, true, [1], 8⟩], empty := [], hold := true }
def tst (i : Nat) (l : List (Field × Nat)) : State := (on l).onSlice i fun c => { c with testing := true }
def kn : Kernel := ⟨1, 1, 1, [0], [[1, 1]]⟩
def ker : Stripe := { str with bv := { str.bv with kernel := some kn } }
def kag : Stripe := { ker with grid := some (dcuGrid kn pk.flx pk.rho), gridStall := [1] }
def fblk : List Byte := [0x46, 0x54, 1, 2] ++ leBytes 4 3 ++ leBytes 4 3 ++ [0, 0, 0, 0, 7, 8, 9]
def lb (l : List Byte) : LayoutBuf := ⟨⟨2, 1, 0⟩, 5, true, l.length, .ok l, 0⟩
def chn (ch : Nat) (q : List LayoutBuf) (p : Option Assembly) : State := up.onChannel ch fun c => { c with queue := q, pkg := p }
def pbeg : List Byte := [1, 0, 4, 0, 0, 0, 0, 0] ++ leBytes 2 2 ++ leBytes 2 40 ++ leBytes 4 5 ++ leBytes 4 64 ++ leBytes 4 1 ++ List.replicate 8 0
def asm (b : List Byte) (f : Flx) : Assembly := ⟨5, b, f, [], 0, none⟩
def pbeg1 : Flx := Flx.empty.take pbeg
def fdone : Flx := { pkf.flx with offset := 4 }
def fterr : PkgRefusal := ⟨5, .ftcIllegalCode, 4, 0, 0, 0⟩
def asmE : Assembly := { asm [1, 2, 3, 4] fdone with ftcErr := some fterr }
def x1 : State := withP pkf (has up smp)
def x2 : State := withP (pkt old511) writing
def x3 : Package := pkt old511
def x4 : State := { withP pkf up with shadows := [h0 .thirdQueued] }
def x5 : Shadow := h0 .thirdQueued
def x6 : State := busyE 0 up
theorem witness_TilesArePlaced :
    ((x1.engineServes 0 3 = true) ∧ ((x1.engine 0 3).job = none) ∧ (x1.clocked = true) ∧ (x1.shadowIn ShadowPhase.thirdQueued 0 = none) ∧
      (x1.sectorOf 0 = some 0) ∧ (x1.nextTile 0 0 = some (pkf, 0, 0)) ∧ (x1.package? pkf.stripe = some pkf) ∧ ((pkf.tile 0 0).placed = true
      → (pkf.tile 0 0).epoch ≠ 511)) ∧
    ((x2.engineServes 0 3 = true) ∧ ((x2.engine 0 3).job = none) ∧ (x2.clocked = true) ∧ (x2.shadowIn ShadowPhase.thirdQueued 0 = none) ∧
      (x2.sectorOf 0 = some 0) ∧ (x2.nextTile 0 0 = some (x3, 0, 0)) ∧ (x2.package? x3.stripe = some x3) ∧ ((x3.tile 0 0).placed = true) ∧
      ((x3.tile 0 0).epoch = 511) ∧ (Writes x2 wr tick) ∧ (wr.par.id = x3.stripe)) ∧
    ((x4.engineServes 2 3 = true) ∧ ((x4.engine 2 3).job = none) ∧ (x4.clocked = true) ∧ (x4.shadowIn ShadowPhase.thirdQueued 2 = some x5))
      ∧
    ((up.engineServes 2 3 = true) ∧ ((up.engine 2 3).job = none) ∧ (up.clocked = true)) ∧
    ((x6.engine 0 3).job ≠ none) := by
  refine ⟨?_, ?_, ?_, ?_, ?_⟩ <;> decide +kernel
def x7 : State := withP pkf up
def x8 : State := has up byp
def x9 : State := busyE 1 (withP pkf up)
def x10 : Job := job .own 1
def x11 : PlaneBody := ⟨0, []⟩
def x12 : Job := job .own 0
def x13 : PlaneBody := ⟨1, []⟩
theorem witness_BinsAndPlanes :
    ((x7.clocked = true) ∧ (0 ≠ 4 ∨ x7.part = Part.fx640) ∧ (x7.bandOf 0 0 = some pkf)) ∧
    (up.bandOf 0 0 = none) ∧
    ((x8.active? = some byp) ∧ (vget byp.bypass 0 false = true)) ∧
    (up.active? = none) ∧
    (((x9.engine 0 3).job = some x10) ∧ (x9.clocked = true) ∧ (x10.kind = JobKind.own) ∧ (x10.slots.head? = some x11.slot) ∧ (x9.bandFilled
      0 x10 = true) ∧ (x9.package? x10.stripe = some pkf) ∧ ((pkf.tile x10.col x10.row).epoch ≠ x10.epoch)) ∧
    ((up.engine 0 3).job = none) ∧
    (((x6.engine 0 3).job = some x12) ∧ (x12.slots.head? ≠ some x13.slot)) := by
  refine ⟨?_, ?_, ?_, ?_, ?_, ?_, ?_⟩ <;> decide +kernel
def x14 : State := busyE 0 (withP pkf up)
def x15 : State := fenced 2 (on [(Reg.FLT_STATUS_MOLT_SECTOR, 7), (Reg.FLT_STATUS_SPARE_STATE, 0)])
def x16 : State := has (fenced 2 (on [(Reg.FLT_STATUS_MOLT_SECTOR, 7), (Reg.FLT_STATUS_SPARE_STATE, 1)])) wr
def x17 : State := has (fenced 4 (on [(Reg.FLT_STATUS_MOLT_SECTOR, 1), (Reg.FLT_STATUS_SPARE_STATE, 2)])) wr
def x18 : State := withP mis (on [(Reg.FLT_STATUS_MOLT_SECTOR, 7), (Reg.FLT_STATUS_SPARE_STATE, 0)])
def x19 : State := on [(Reg.FLT_STATUS_SLICE_FAILED, 4)]
def x20 : State := { has (on [(Reg.FLT_STATUS_SPARE_STATE, 0)]) spw with shadows := [h0 .spare] }
def x21 : State := has up str
theorem witness_SlicesFail :
    ((x14.engine 0 3).job = some x12) ∧
    (((doneE.engine 0 3).job = none) ∧ ((doneE.engine 0 3).done = some (up.now, 1, 2)) ∧ ((up.now, 1, 2).1 = doneE.now)) ∧
    (((up.engine 0 3).job = none) ∧ (∀ (d : ℕ × ℕ × ℕ), (up.engine 0 3).done = some d → d.1 ≠ up.now)) ∧
    ((x15.sliceUp 2 = true) ∧ (Instr.fenceLimitExceeded 2 = Instr.fenceLimitExceeded 2 ∧ (x15.slice 2).fenceLimit < x15.fencedCount 2 ∨
      Instr.fenceLimitExceeded 2 = Instr.selfmisLimitReached 2 ∧ ∃ k ∈ x15.packages, x15.selfmisLimit k.stripe ≤ vget k.selfmis 2 0) ∧ (2 <
      4) ∧ (x15.spareFree = true)) ∧
    ((x16.sliceUp 2 = true) ∧ (Instr.fenceLimitExceeded 2 = Instr.fenceLimitExceeded 2 ∧ (x16.slice 2).fenceLimit < x16.fencedCount 2 ∨
      Instr.fenceLimitExceeded 2 = Instr.selfmisLimitReached 2 ∧ ∃ k ∈ x16.packages, x16.selfmisLimit k.stripe ≤ vget k.selfmis 2 0) ∧ (2 <
      4) ∧ (x16.spareFree = false) ∧ (Writes x16 wr tick)) ∧
    ((x17.sliceUp 4 = true) ∧ (Instr.fenceLimitExceeded 4 = Instr.fenceLimitExceeded 4 ∧ (x17.slice 4).fenceLimit < x17.fencedCount 4 ∨
      Instr.fenceLimitExceeded 4 = Instr.selfmisLimitReached 4 ∧ ∃ k ∈ x17.packages, x17.selfmisLimit k.stripe ≤ vget k.selfmis 4 0) ∧ (4 =
      4)) ∧
    ((x18.sliceUp 2 = true) ∧ (Instr.selfmisLimitReached 2 = Instr.fenceLimitExceeded 2 ∧ (x18.slice 2).fenceLimit < x18.fencedCount 2 ∨
      Instr.selfmisLimitReached 2 = Instr.selfmisLimitReached 2 ∧ ∃ k ∈ x18.packages, x18.selfmisLimit k.stripe ≤ vget k.selfmis 2 0) ∧ (2
      < 4) ∧ (x18.spareFree = true)) ∧
    (x19.sliceUp 2 = false) ∧
    ((x20.reg Reg.FLT_STATUS_SPARE_STATE ≠ 1) ∧ (x20.part = Part.fx640) ∧ (∃ p ∈ x20.stripes, max 1 p.bv.spareLimit ≤ p.spareWrong)) ∧
    (∀ p ∈ x21.stripes, p.spareWrong < max 1 p.bv.spareLimit) := by
  refine ⟨?_, ?_, ?_, ?_, ?_, ?_, ?_, ?_, ?_, ?_⟩ <;> decide +kernel
def x22 : State := fl pk
def x23 : State := withP pkf (has up wfb)
def x24 : State := fl (pkt emp)
def x25 : Package := pkt emp
def x26 : State := fl (pkt rot0)
def x27 : Package := pkt rot0
theorem witness_WindowFills :
    ((x22.filling = some wf0) ∧ (x22.stripe? wf0.par.id = some wf0) ∧ (wf0.run = some tick) ∧ (x22.package? wf0.par.id = some pk) ∧
      (x22.clocked = true) ∧ (wf0.xk2 = false) ∧ (wf0.mayFill tick 0 ((vget wf0.fill 0 (-1) + 1) / 256).toNat = true) ∧ (pk.nextCommit 0
      ((vget wf0.fill 0 (-1) + 1) / 256).toNat = none)) ∧
    ((x23.filling = some wfb) ∧ (x23.stripe? wfb.par.id = some wfb) ∧ (wfb.run = some tick) ∧ (x23.package? wfb.par.id = some pkf) ∧
      (x23.clocked = true) ∧ (wfb.xk2 = false) ∧ (wfb.mayFill tick 0 ((vget wfb.fill 0 (-1) + 1) / 256).toNat = true) ∧ (tick.repair =
      false) ∧ (pkf.nextCommit 0 ((vget wfb.fill 0 (-1) + 1) / 256).toNat = some 0) ∧ (wfb.begun = true) ∧ ((pkf.tile 0 ((vget wfb.fill 0
      (-1) + 1) / 256).toNat).hold = true ∨ (pkf.tile 0 ((vget wfb.fill 0 (-1) + 1) / 256).toNat).ready (Machine.setOf pkf.sets 0 ((vget
      wfb.fill 0 (-1) + 1) / 256).toNat) = false)) ∧
    ((x24.filling = some wf0) ∧ (x24.stripe? wf0.par.id = some wf0) ∧ (wf0.run = some tick) ∧ (x24.package? wf0.par.id = some x25) ∧
      (x24.clocked = true) ∧ (wf0.xk2 = false) ∧ (wf0.mayFill tick 0 ((vget wf0.fill 0 (-1) + 1) / 256).toNat = true) ∧ (tick.repair =
      false) ∧ (x25.nextCommit 0 ((vget wf0.fill 0 (-1) + 1) / 256).toNat = some 0) ∧ ((x25.tile 0 ((vget wf0.fill 0 (-1) + 1) /
      256).toNat).hold = false) ∧ ((x25.tile 0 ((vget wf0.fill 0 (-1) + 1) / 256).toNat).ready (Machine.setOf x25.sets 0 ((vget wf0.fill 0
      (-1) + 1) / 256).toNat) = true) ∧ (x25.tileFails 0 ((vget wf0.fill 0 (-1) + 1) / 256).toNat = false) ∧ (wf0.par.k * tick.ahead ≤ 256
      * ((vget wf0.fill 0 (-1) + 1) / 256).toNat + 4095)) ∧
    ((x26.filling = some wf0) ∧ (x26.stripe? wf0.par.id = some wf0) ∧ (wf0.run = some tick) ∧ (x26.package? wf0.par.id = some x27) ∧
      (x26.clocked = true) ∧ (wf0.xk2 = false) ∧ (wf0.mayFill tick 0 ((vget wf0.fill 0 (-1) + 1) / 256).toNat = true) ∧ (tick.repair =
      false) ∧ (x27.nextCommit 0 ((vget wf0.fill 0 (-1) + 1) / 256).toNat = some 0) ∧ ((x27.tile 0 ((vget wf0.fill 0 (-1) + 1) /
      256).toNat).hold = false) ∧ ((x27.tile 0 ((vget wf0.fill 0 (-1) + 1) / 256).toNat).ready (Machine.setOf x27.sets 0 ((vget wf0.fill 0
      (-1) + 1) / 256).toNat) = true) ∧ (x27.tileFails 0 ((vget wf0.fill 0 (-1) + 1) / 256).toNat = true) ∧ ((x27.tile 0 ((vget wf0.fill 0
      (-1) + 1) / 256).toNat).epoch ≠ 511)) ∧
    (up.filling = none) := by
  refine ⟨?_, ?_, ?_, ?_, ?_⟩ <;> decide +kernel
def x28 : State := cmpare .spare t9 up
def x29 : Shadow := h0 .spare
def x30 : Package := pkt t9
def x31 : List PlaneCrc := [⟨0, some 9⟩]
def x32 : State := cmpare .spare t8 up
def x33 : Package := pkt t8
def x34 : State := cmpare .third t9 up
def x35 : Shadow := h0 .third
def x36 : State := cmpare .third t8 (has up str)
def x37 : List PlaneCrc := [⟨0, some 8⟩]
def x38 : State := cmpare .third t8 up
def x39 : State := cmpare .third t8 writing
def x40 : List PlaneCrc := [⟨0, some 7⟩]
theorem witness_ComparisonsSettle :
    ((List.find? (fun h => h.phase == ShadowPhase.spare) x28.shadows = some x29) ∧ (x28.comparable x29 = some (t9, 1)) ∧ (x28.package?
      x29.stripe = some x30) ∧ (t9.agrees 1 x31 = true) ∧ (t9.disputed = false)) ∧
    ((List.find? (fun h => h.phase == ShadowPhase.spare) x32.shadows = some x29) ∧ (x32.comparable x29 = some (t8, 1)) ∧ (x32.package?
      x29.stripe = some x33) ∧ (t8.agrees 1 x31 = false) ∧ (x32.thirdSlice x29.owner = some 2)) ∧
    ((List.find? (fun h => h.phase == ShadowPhase.third) x34.shadows = some x35) ∧ (x34.comparable x35 = some (t9, 1)) ∧ (x34.package?
      x35.stripe = some x30) ∧ (t9.agrees 1 x35.spare = true)) ∧
    ((List.find? (fun h => h.phase == ShadowPhase.third) x36.shadows = some x35) ∧ (x36.comparable x35 = some (t8, 1)) ∧ (x36.package?
      x35.stripe = some x33) ∧ (t8.agrees 1 x35.spare = false) ∧ (t8.agrees 1 x37 = true)) ∧
    ((List.find? (fun h => h.phase == ShadowPhase.third) x38.shadows = some x35) ∧ (x38.comparable x35 = some (t8, 1)) ∧ (x38.package?
      x35.stripe = some x33) ∧ (t8.agrees 1 x35.spare = false) ∧ (t8.agrees 1 x31 = false) ∧ (crcsAgree 1 x35.spare x31 = true) ∧
      (x35.owner < 4)) ∧
    ((List.find? (fun h => h.phase == ShadowPhase.third) x39.shadows = some x35) ∧ (x39.comparable x35 = some (t8, 1)) ∧ (x39.package?
      x35.stripe = some x33) ∧ (t8.agrees 1 x35.spare = false) ∧ (t8.agrees 1 x40 = false) ∧ (crcsAgree 1 x35.spare x40 = false) ∧ (Writes
      x39 wr tick) ∧ (wr.par.id = x35.stripe)) ∧
    (up.shadows = []) := by
  refine ⟨?_, ?_, ?_, ?_, ?_, ?_, ?_⟩ <;> decide +kernel
def x41 : State := tst 2 [(Reg.FLT_STATUS_SLICE_FAILED, 4)]
def x42 : State := tst 4 [(Reg.FLT_STATUS_SPARE_STATE, 1)]
def x43 : State := withP pk (has up ker)
def x44 : State := withP pk (has up kag)
def x45 : State := { withP pk (has up ker) with gridJob := some ⟨5, false⟩ }
def x46 : GridJob := ⟨5, false⟩
theorem witness_SelfTestsAndGrids :
    (((x41.slice 2).testing = true) ∧ (2 < 4) ∧ (true = true ∧ false = false ∧ x41.fencedCount 2 ≤ x41.reg (Reg.SLC_CTL_FENCE_LIMIT 2))) ∧
    (((x41.slice 2).testing = true) ∧ (2 < 4) ∧ (¬(true = true ∧ true = false ∧ x41.fencedCount 2 ≤ x41.reg (Reg.SLC_CTL_FENCE_LIMIT 2)))) ∧
    (((x42.slice 4).testing = true) ∧ (4 = 4)) ∧
    ((up.slice 2).testing = false) ∧
    ((x43.clocked = true) ∧ (x43.dcuFree = true) ∧ (x43.native = true) ∧ (x43.part = Part.fx640) ∧ (x43.nextGrid = some (ker, pk))) ∧
    ((x44.clocked = true) ∧ (x44.dcuFree = true) ∧ (x44.native = true) ∧ (x44.part = Part.fx640) ∧ (x44.nextGrid = some (kag, pk))) ∧
    (up.dcuFree = false ∨ up.native = false ∨ up.part = Part.fx632 ∨ up.nextGrid = none) ∧
    ((x45.gridJob = some x46) ∧ (x45.stripe? x46.stripe = some ker) ∧ (x45.package? x46.stripe = some pk) ∧ (ker.bv.kernel = some kn) ∧
      (x45.clocked = true) ∧ (5 ≤ gridCycles kn (pk.gridSize.1 * pk.gridSize.2))) ∧
    (up.gridJob = none) := by
  refine ⟨?_, ?_, ?_, ?_, ?_, ?_, ?_, ?_, ?_⟩ <;> decide +kernel
def x47 : State := chn 3 [lb fblk] none
def x48 : LayoutBuf := lb fblk
def x49 : List LayoutBuf := ([] : List LayoutBuf)
def x50 : FtcBlock := ⟨[7, 8, 9], 19⟩
def x51 : State := chn 1 [lb [1, 2, 3]] none
def x52 : LayoutBuf := lb [1, 2, 3]
def x53 : List Byte := [1, 2, 3]
def x54 : FtcErr := ⟨.ftcIllegalCode, 0, []⟩
def x55 : State := chn 3 [] (some (asm pbeg Flx.empty))
def x56 : Assembly := asm pbeg Flx.empty
def x57 : State := chn 3 [] (some (asm [9] Flx.empty))
def x58 : Assembly := asm [9] Flx.empty
def x59 : FlxErr := ⟨.flxBadRecord, 0, 0⟩
def x60 : State := chn 3 [] (some (asm [1, 2, 3, 4, 5] fdone))
def x61 : Assembly := asm [1, 2, 3, 4, 5] fdone
def x62 : State := chn 3 [] (some (asm [1, 2, 3, 4] fdone))
def x63 : Assembly := asm [1, 2, 3, 4] fdone
def x64 : SMap (List ℕ) := [(0, [0])]
def x65 : State := chn 3 [] (some asmE)
def x66 : State := chn 3 [] (some (asm [1] Flx.empty))
def x67 : Assembly := asm [1] Flx.empty
def x68 : State := (chn 3 [] (some (asm [1] Flx.empty))).setReg (Reg.HIF_SQ_CTL_EN 3) 1
def x69 : State := { up with power := { up.power with state := .cocoon } }
theorem witness_PackagesArrive :
    ((x47.clocked = true) ∧ ((x47.channel 3).queue = x48 :: x49) ∧ (x48.ftc = true) ∧ (x48.buf = HostRead.ok fblk) ∧ (x47.wantsMore 3 =
      true) ∧ (((x47.channel 3).assembly x48).stripe = x48.stripe) ∧ (ftcDecode (List.drop x48.taken fblk) = Except.ok x50) ∧ (2 ≤ 3 ∨
      ftcCheckGood (((x47.channel 3).assembly x48).stripe * 2 ^ 32 + ((x47.channel 3).assembly x48).blockIndex) (List.drop x48.taken fblk)
      x50.output = true)) ∧
    ((x51.clocked = true) ∧ ((x51.channel 1).queue = x52 :: x49) ∧ (x52.ftc = true) ∧ (x52.buf = HostRead.ok x53) ∧ (x51.wantsMore 1 =
      true) ∧ (((x51.channel 1).assembly x52).stripe = x52.stripe) ∧ (ftcDecode (List.drop x52.taken x53) = Except.error x54) ∧ (1 < 2) ∧
      (x51.stripe? ((x51.channel 1).assembly x52).stripe = none)) ∧
    ((x55.clocked = true) ∧ ((x55.channel 3).pkg = some x56) ∧ (x55.wantsMore 3 = false) ∧ (x56.flx.phase ≠ FlxPhase.done) ∧ (x55.parse 3
      x56 = FlxStep.next pbeg1 32) ∧ (x55.checkKept x56 pbeg1 = true)) ∧
    ((x57.clocked = true) ∧ ((x57.channel 3).pkg = some x58) ∧ (x57.wantsMore 3 = false) ∧ (x58.flx.phase ≠ FlxPhase.done) ∧ (x57.parse 3
      x58 = FlxStep.refuse x59) ∧ (x58.ftcErr = none) ∧ (x57.stripe? x58.stripe = none)) ∧
    ((x60.clocked = true) ∧ ((x60.channel 3).pkg = some x61) ∧ (x60.wantsMore 3 = false) ∧ (x61.flx.phase = FlxPhase.done) ∧
      (x61.flx.offset < x61.bytes.length) ∧ (x60.stripe? x61.stripe = none)) ∧
    ((x62.clocked = true) ∧ ((x62.channel 3).pkg = some x63) ∧ (x62.wantsMore 3 = false) ∧ (x62.prepassTurn 3 = true) ∧ (x62.stripe?
      x63.stripe = none) ∧ (classSets x63.flx.np x63.flx.len x63.flx.figures [] = Except.ok x64)) ∧
    ((x65.clocked = true) ∧ ((x65.channel 3).pkg = some asmE) ∧ (x65.wantsMore 3 = false) ∧ (asmE.flx.phase = FlxPhase.done) ∧
      (asmE.flx.offset = asmE.bytes.length) ∧ (asmE.ftcErr = some fterr) ∧ (fterr.stripe = asmE.stripe) ∧ (x65.stripe? asmE.stripe = none))
      ∧
    ((x60.clocked = true) ∧ ((x60.channel 3).pkg = some x61) ∧ (x60.wantsMore 3 = false) ∧ (x60.prepassTurn 3 = false)) ∧
    ((x66.clocked = true) ∧ ((x66.channel 3).pkg = some x67) ∧ ((x66.channel 3).queue = []) ∧ (x67.flx.phase ≠ FlxPhase.done) ∧ (x66.parse
      3 x67 = FlxStep.wait) ∧ (x67.ftcErr = none) ∧ (x66.streamEnded 3 = true) ∧ (x66.stripe? x67.stripe = none)) ∧
    ((x68.clocked = true) ∧ ((x68.channel 3).pkg = some x67) ∧ ((x68.channel 3).queue = []) ∧ (x67.flx.phase ≠ FlxPhase.done) ∧ (x68.parse
      3 x67 = FlxStep.wait) ∧ (x67.ftcErr = none) ∧ (x68.streamEnded 3 = false)) ∧
    (x69.clocked = false) := by
  refine ⟨?_, ?_, ?_, ?_, ?_, ?_, ?_, ?_, ?_, ?_, ?_⟩ <;> decide +kernel

end Drawing

namespace Hbm

def mem (l : List (Field × Nat)) : State :=
  let t := on ([(Reg.BEM_STATUS_BT_VALID, 1), (Reg.BEM_STATUS_DM_VALID, 1), (Reg.MEM_PC_LIVE 0, 0xFFFFFFFF), (Reg.MEM_PC_LIVE 1, 0xFFFFFFFF)] ++ l)
  { t with hbm := { t.hbm with map := liveMap fun _ => true } }
def put (addr : Nat) (w : HbmWord) (s : State) : State := { s with hbm := { s.hbm with words := [(s.memKey addr, w)] } }
def wd : HbmWord := HbmWord.of 0x1122334455667788
def rq : HbmReq := ⟨.tables, .openRow, 64, none, false, 5#72, false⟩
def dec (w : HbmWord) (l : List (Field × Nat)) : State := { put 64 w (mem l) with hbm := { (put 64 w (mem l)).hbm with decodes := [rq] } }
def chan (al : Bool) (n : Nat) (s : State) : State := s.onHbmChannel 3 fun _ => ⟨[.activate 6 5, .write 9], al, n⟩
def due : State := { mem [(Reg.MEM_STATUS_TRAINED, 1)] with hbm := { (mem []).hbm with sweepDue := true } }
def wide : EyeScan := ⟨0xFFFFF000, 0x3FFFF0⟩
def narrow : EyeScan := ⟨0xFF, 0xFF⟩
def scan : SweepPc := ⟨37, [⟨wide, [], wide⟩, ⟨narrow, List.replicate 3 narrow, narrow⟩]⟩
def x1 : State := mem [(Reg.MEM_STATUS_SWEEPING, 1)]
def x2 : State := mem [(Reg.MEM_PC_LIVE 0, 0), (Reg.MEM_PC_LIVE 1, 0)]
def x3 : Requester := .tables
def x4 : State := put 64 wd (mem [])
def x5 : List Byte := [1, 2, 3]
def x6 : State := put 64 wd (mem [(Reg.MEM_FLIP_CTL_ARM, 1), (Reg.MEM_FLIP_LO_MASK, 5)])
def x7 : List Byte := [1, 2, 3, 4, 5, 6, 7, 8]
theorem witness_WordsOfMemory :
    ((x1.clocked = true) ∧ (64 < x1.hbmEnd) ∧ (x1.mustWait (x1.memKey 64) = true)) ∧
    ((x2.clocked = true) ∧ (64 < x2.hbmEnd) ∧ (x2.mustWait (x2.memKey 64) = false) ∧ (x2.pcLive (keyPc (x2.memKey 64)) = false) ∧ (x3 ∈
      [Requester.ingest, Requester.tables, Requester.tableLoad]) ∧ (x3 = Requester.tables → x2.tablesHeld = true)) ∧
    ((x4.clocked = true) ∧ (64 < x4.hbmEnd) ∧ (x4.mustWait (x4.memKey 64) = false) ∧ (x4.pcLive (keyPc (x4.memKey 64)) = true) ∧ (({
      x4.memWord (x4.memKey 64) with err := (x4.memWord (x4.memKey 64)).err ^^^ 0#72 }).light = Light.clean)) ∧
    ((x4.clocked = true) ∧ (64 < x4.hbmEnd) ∧ (x4.mustWait (x4.memKey 64) = false) ∧ (x4.pcLive (keyPc (x4.memKey 64)) = true) ∧ (({
      x4.memWord (x4.memKey 64) with err := (x4.memWord (x4.memKey 64)).err ^^^ 4#72 }).light = Light.fix 2) ∧ (x4.overtaken (x4.memKey 64)
      = false)) ∧
    ((x4.clocked = true) ∧ (64 < x4.hbmEnd) ∧ (x4.mustWait (x4.memKey 64) = false) ∧ (x4.pcLive (keyPc (x4.memKey 64)) = true) ∧ (({
      x4.memWord (x4.memKey 64) with err := (x4.memWord (x4.memKey 64)).err ^^^ 4#72 }).light = Light.fix 2) ∧ (x4.overtaken (x4.memKey 64)
      = false)) ∧
    ((x4.clocked = true) ∧ (64 < x4.hbmEnd) ∧ (x4.mustWait (x4.memKey 64) = false) ∧ (x4.pcLive (keyPc (x4.memKey 64)) = true) ∧ (({
      x4.memWord (x4.memKey 64) with err := (x4.memWord (x4.memKey 64)).err ^^^ 5#72 }).light = Light.bad ∨ ({ x4.memWord (x4.memKey 64)
      with err := (x4.memWord (x4.memKey 64)).err ^^^ 5#72 }).light = Light.poisoned)) ∧
    ((x4.clocked = true) ∧ (1 ≤ x5.length) ∧ (66 % 8 + x5.length ≤ 8) ∧ (66 + x5.length ≤ x4.hbmEnd) ∧ (x4.mustWait (x4.memKey 66) = false)
      ∧ (x4.pcLive (keyPc (x4.memKey 66)) = true) ∧ ((x4.memWord (x4.memKey 66)).light = Light.clean)) ∧
    ((x6.clocked = true) ∧ (1 ≤ x7.length) ∧ (64 % 8 + x7.length ≤ 8) ∧ (64 + x7.length ≤ x6.hbmEnd) ∧ (x6.mustWait (x6.memKey 64) = false)
      ∧ (x6.pcLive (keyPc (x6.memKey 64)) = true) ∧ ((x6.memWord (x6.memKey 64)).light = Light.clean)) := by
  refine ⟨?_, ?_, ?_, ?_, ?_, ?_, ?_, ?_⟩ <;> decide +kernel
def x8 : State := dec wd [(Reg.MEM_FLIP_CTL_STRONG_FAIL, 1), (Reg.MEM_FLIP_ADDR_LO_ADDR, 8)]
def x9 : List HbmReq := ([] : List HbmReq)
def x10 : List (Fin 32 × BitVec 72) := ([(3, 1#72)] : List (Fin 32 × BitVec 72))
def x11 : State := dec (HbmWord.poisonOf 7) []
def x12 : List (Fin 32 × BitVec 72) := ([] : List (Fin 32 × BitVec 72))
def x13 : State := dec { wd with err := 5#72 } []
def x14 : List (Fin 32 × BitVec 72) := ([(3, 1#72), (4, 5#72)] : List (Fin 32 × BitVec 72))
theorem witness_StrongDecodes :
    ((x8.clocked = true) ∧ (x8.hbm.decodes = rq :: x9) ∧ (x8.hbm.waiting = []) ∧ (rq.bytes = none) ∧ (rq.who ∈ [Requester.ingest,
      Requester.tables, Requester.tableLoad]) ∧ (rq.who = Requester.tables → x8.tablesHeld = true) ∧ (((x8.upsetChecks (keyPc (x8.memKey
      rq.addr)) (keyPage (x8.memKey rq.addr)) x10).strongFail (keyPc (x8.memKey rq.addr)) (keyPage (x8.memKey rq.addr)) || !(x8.upsetChecks
      (keyPc (x8.memKey rq.addr)) (keyPage (x8.memKey rq.addr)) x10).decodes (keyPc (x8.memKey rq.addr)) (keyPage (x8.memKey rq.addr))) =
      true)) ∧
    ((x11.clocked = true) ∧ (x11.hbm.decodes = rq :: x9) ∧ (x11.hbm.waiting = []) ∧ (rq.bytes = none) ∧ (rq.who ∈ [Requester.ingest,
      Requester.tables, Requester.tableLoad]) ∧ (rq.who = Requester.tables → x11.tablesHeld = true) ∧ (((x11.upsetChecks (keyPc (x11.memKey
      rq.addr)) (keyPage (x11.memKey rq.addr)) x12).strongFail (keyPc (x11.memKey rq.addr)) (keyPage (x11.memKey rq.addr)) ||
      !(x11.upsetChecks (keyPc (x11.memKey rq.addr)) (keyPage (x11.memKey rq.addr)) x12).decodes (keyPc (x11.memKey rq.addr)) (keyPage
      (x11.memKey rq.addr))) = false) ∧ ((x11.memWord (x11.memKey rq.addr)).light = Light.poisoned) ∧ ((x11.memWord (x11.memKey
      rq.addr)).data = (x11.memWord (x11.memKey rq.addr)).stored)) ∧
    ((x13.clocked = true) ∧ (x13.hbm.decodes = rq :: x9) ∧ (x13.hbm.waiting = []) ∧ (rq.bytes = none) ∧ (rq.who ∈ [Requester.ingest,
      Requester.tables, Requester.tableLoad]) ∧ (rq.who = Requester.tables → x13.tablesHeld = true) ∧ (((x13.upsetChecks (keyPc (x13.memKey
      rq.addr)) (keyPage (x13.memKey rq.addr)) x14).strongFail (keyPc (x13.memKey rq.addr)) (keyPage (x13.memKey rq.addr)) ||
      !(x13.upsetChecks (keyPc (x13.memKey rq.addr)) (keyPage (x13.memKey rq.addr)) x14).decodes (keyPc (x13.memKey rq.addr)) (keyPage
      (x13.memKey rq.addr))) = false) ∧ (¬((x13.memWord (x13.memKey rq.addr)).light = Light.poisoned ∧ (x13.memWord (x13.memKey
      rq.addr)).data = (x13.memWord (x13.memKey rq.addr)).stored))) ∧
    (up.hbm.decodes = []) := by
  refine ⟨?_, ?_, ?_, ?_⟩ <;> decide +kernel
def x15 : State := { chan true 1 (mem []) with hbm := { (chan true 1 (mem [])).hbm with openRows := [(6, 5, 1), (8, 5, 1)] } }
def x16 : State := has (chan true 4 (mem [])) wr
def x17 : State := on [(Reg.MEM_STATUS_SWEEPING, 1), (Reg.MEM_STATUS_RATE, 2)]
def x18 : State := { mem [] with hbm := { (mem []).hbm with openRows := [(6, 5, 1), (8, 5, 1)] } }
theorem witness_AlertsAndSweeps :
    (((x15.hbmChannel 3).alert = true) ∧ (x15.hbm.waiting = [])) ∧
    ((up.hbmChannel 3).alert = false) ∧
    ((4 ≤ (x16.hbmChannel 3).alerts) ∧ (x16.hbm.waiting = []) ∧ (x16.hbm.decodes = []) ∧ (x16.pcLive (2 * 3) = true)) ∧
    ((up.hbmChannel 3).alerts < 4) ∧
    ((up.linkUp = true) ∧ (up.native = true) ∧ (Instr.hbmSweepRequest 257#32 ∈ [Instr.hbmSweepRequest 257#32, Instr.hbmRateRequest
      257#32])) ∧
    ((x17.linkUp = true) ∧ (x17.native = true) ∧ (Instr.hbmRateRequest 1#32 ∈ [Instr.hbmSweepRequest 1#32, Instr.hbmRateRequest 1#32])) ∧
    ((up.linkUp = true) ∧ (up.native = true)) ∧
    ((due.hbm.sweepDue = true) ∧ (due.flag Reg.MEM_STATUS_SWEEPING = false) ∧ (∀ p ∈ due.stripes, p.state.moving = false) ∧ (2 ≤ due.reg
      Reg.GLB_STATUS_INSTAR) ∧ (due.power.state = Power.active)) ∧
    (x1.hbm.sweepDue = false ∨ x1.flag Reg.MEM_STATUS_SWEEPING = true ∨ ∃ p ∈ x1.stripes, p.state.moving = true) ∧
    ((x1.flag Reg.MEM_STATUS_SWEEPING = true) ∧ (x1.hbm.waiting = []) ∧ (scan.pc < 64)) ∧
    (up.flag Reg.MEM_STATUS_SWEEPING = false) ∧
    (1 ≤ x18.reg Reg.GLB_STATUS_INSTAR) ∧
    (State.reset.reg Reg.GLB_STATUS_INSTAR = 0) := by
  refine ⟨?_, ?_, ?_, ?_, ?_, ?_, ?_, ?_, ?_, ?_, ?_, ?_, ?_⟩ <;> decide +kernel

end Hbm

namespace Heat

def rd (a b : Int) (ok : Bool) : Vector SensorReading 12 := (Vector.replicate 12 ⟨a, true⟩).set 4 ⟨b, ok⟩
def pl (l : List (Field × Nat)) : State := on ([(Reg.PWR_CTL_PL_LIMIT, 1), (Reg.PWR_STATUS_PL, 0)] ++ l)
def running (i : Nat) : State := on [(Reg.CAL_STATUS_RUNNING, 2 ^ i)]
def desk (c : Option Nat) : State := { up with cal := { up.cal with targets := vmod up.cal.targets 3 fun _ => c } }
def x1 : State := pl []
def x2 : State := pl [(Reg.MEM_STATUS_SWEEPING, 1)]
theorem witness_Temperatures :
    ((up.housekeeper = true) ∧ (up.cal.readings.length = 12)) ∧
    ((writing.housekeeper = true) ∧ (writing.cal.readings.length = 12)) ∧
    ((writing.housekeeper = true) ∧ (writing.cal.readings.length = 12)) ∧
    (State.reset.housekeeper = false) ∧
    ((x1.housekeeper = true) ∧ (x1.levelWanted ≠ x1.reg Reg.PWR_STATUS_PL) ∧ (x1.power.emergency ≤ 2) ∧ (x1.levelBoundary = true) ∧
      (x1.levelHeld = false)) ∧
    ((x2.housekeeper = true) ∧ (x2.levelWanted ≠ x2.reg Reg.PWR_STATUS_PL) ∧ (x2.power.emergency ≤ 2) ∧ (x2.levelBoundary = false ∨
      x2.levelHeld = true)) ∧
    ((x1.housekeeper = true) ∧ (x1.native = true) ∧ (x1.stripes = []) ∧ (x1.power.emergency = 0) ∧ (x1.reg Reg.PWR_STATUS_PL < min 2
      (x1.reg Reg.PWR_CTL_PL_LIMIT)) ∧ (x1.reg Reg.MEM_STATUS_SWEEPING = 0) ∧ (x1.reg Reg.CAL_STATUS_RUNNING = 0) ∧ (∀ g < 16, x1.grp g ≠
      grpEq ∧ x1.grp g ≠ grpVerify)) ∧
    (up.levelWanted = up.reg Reg.PWR_STATUS_PL) := by
  refine ⟨?_, ?_, ?_, ?_, ?_, ?_, ?_, ?_⟩ <;> decide +kernel
def x3 : State := on [(Reg.CAL_STATUS_DUE, 7)]
def x4 : State := running 1
def x5 : State := running 0
def x6 : List (Option ℕ) := List.replicate 16 (some 9)
def x7 : State := running 2
def x8 : State := running 3
def x9 : State := { running 2 with jobs := [.calRun ⟨8, 1, 0⟩ [2] 3 4] }
def x10 : Origin := ⟨8, 1, 0⟩
def x11 : State := desk (some 9)
def x12 : State := desk (some 1)
theorem witness_CalibrationAndEyespot :
    ((bitOf (x3.reg Reg.CAL_STATUS_DUE) 1 = true) ∧ (bitOf (x3.reg Reg.CAL_STATUS_RUNNING) 1 = false) ∧ (x3.clocked = true) ∧ (3 ≤ x3.reg
      Reg.GLB_STATUS_INSTAR) ∧ (1 = 0 ∨ x3.stripeMoving = false)) ∧
    ((bitOf (up.reg Reg.CAL_STATUS_DUE) 1 = false ∨ 1 ≠ 0 ∧ up.stripeMoving = true)) ∧
    ((x4.jobs = []) ∧ (bitOf (x4.reg Reg.CAL_STATUS_RUNNING) 1 = true)) ∧
    ((x5.jobs = []) ∧ (bitOf (x5.reg Reg.CAL_STATUS_RUNNING) 0 = true) ∧ (∀ g < 16, (goodCode (x6.getD g none)).isSome = true)) ∧
    ((x7.jobs = []) ∧ (bitOf (x7.reg Reg.CAL_STATUS_RUNNING) 2 = true)) ∧
    ((x8.jobs = []) ∧ (bitOf (x8.reg Reg.CAL_STATUS_RUNNING) 3 = true)) ∧
    ((x7.jobs = []) ∧ (bitOf (x7.reg Reg.CAL_STATUS_RUNNING) 2 = true)) ∧
    ((bitOf (x9.reg Reg.CAL_STATUS_RUNNING) 2 = true) ∧ (x9.jobs = [CmdJob.calRun x10 [2] 3 4]) ∧ (x9.cprOf x10.ring ≤ 4)) ∧
    (bitOf (up.reg Reg.CAL_STATUS_RUNNING) 2 = false) ∧
    ((vget x11.cal.targets 3 none = some 9) ∧ (9 ≤ 255)) ∧
    ((vget x12.cal.targets 3 none = some 1) ∧ (1 ≤ 255)) ∧
    (vget up.cal.targets 3 none = none) ∧
    (up.jobs = []) := by
  refine ⟨?_, ?_, ?_, ?_, ?_, ?_, ?_, ?_, ?_, ?_, ?_, ?_, ?_⟩ <;> decide +kernel

end Heat

namespace Block

def q2 : State := { up with pending := [.heldStepApply, .flrComplete, .cocoonAlarm] }
def x1 : List Instr := [Instr.flrComplete, .cocoonAlarm]
theorem witness_StepRunsTheFrontCommand :
    (q2.pending = Instr.heldStepApply :: x1) := by decide +kernel
def x2 : List Instr := [Instr.heldStepApply, .flrComplete]
def x3 : List Instr := [Instr.cocoonAlarm]
theorem witness_QueueRunsInOrder :
    (q2.pending = x2 ++ x3) := by decide +kernel
theorem witness_ModeIsSampledAtColdReset :
    (up.coldActs ColdCause.poreset = true) ∧
    (NoColdReset q2.pending) := by
  refine ⟨?_, ?_⟩ <;> decide +kernel
theorem witness_EmptyQueueLetsTimePass :
    ((up.pending = []) ∧ (up.flag Reg.PWR_STATUS_RST_BUSY = false)) := by decide +kernel

end Block

/-! ### Witnesses over long data, and for premises that quantify -/

theorem coverage_empty (np len x y : Nat) : coverage np len [] x y = 0 := by
  have m : min (0 : Rat) ((np : Rat) * np) = 0 := min_eq_left (by positivity)
  have f : Rat.floor 0 = 0 := rfl
  simp [coverage, m, f]

theorem plane_empty (np len col row : Nat) : ∀ y ∈ coveragePlane np len [] col row, y = 0 := by
  intro y h
  obtain ⟨i, -, rfl⟩ := List.mem_map.1 h
  simp [coverage_empty]

/-- A plane of an empty bin is zero. -/
theorem plane_bare (k : Package) (col row slot : Nat)
    (h : binOf k.flx.np k.flx.len k.flx.figures col row ((setOf k.sets col row).getD slot 0) = []) :
    ∀ y ∈ k.plane col row slot, y = 0 := by
  unfold Package.plane
  simp only [h]
  exact plane_empty _ _ _ _

theorem plane_length (k : Package) (col row slot : Nat) : (k.plane col row slot).length = 65536 := by
  simp [Package.plane, coveragePlane]

/-- The first byte of a plane. -/
theorem plane_first (k : Package) (col row slot : Nat) :
    BitVec.ofNat 8 (coverage k.flx.np k.flx.len
      (binOf k.flx.np k.flx.len k.flx.figures col row ((setOf k.sets col row).getD slot 0)) (256 * col) (256 * row)) ∈
      k.plane col row slot :=
  List.mem_map.2 ⟨0, by simp, by simp⟩

theorem raw_body (plane tokens : List Byte) : (encodePlane true plane tokens).body = plane := by simp [encodePlane]

namespace Drawing

/-- A stripe whose figures were lost between the pre-pass and here: its class set still names class 0. -/
def bare : State := busyE 0 (withP pke up)
def rawUp : State :=
  busyE 0 (withP pkf { on [(Reg.MEM_STATUS_LIVE0, 32), (Reg.MEM_STATUS_LIVE1, 32)] with ftc := ⟨0, true⟩ })
def noRoom : State := busyE 0 (withP pkf (has (on [(Reg.MEM_STATUS_LIVE0, 0), (Reg.MEM_STATUS_LIVE1, 0)]) wraw))
def noneToMake : State := busyE 0 (withP pkf { on [(Reg.MEM_STATUS_LIVE0, 0), (Reg.MEM_STATUS_LIVE1, 0)] with ftc := ⟨0, true⟩ })
def passing : State := busyE 0 (withP pkf (has up byp))
def storeFull : State := busyE 0 (withP full (has up byp))

theorem pke_plane : ∀ y ∈ pke.plane 0 0 0, y = 0 := plane_bare pke 0 0 0 (by decide +kernel)

theorem pkf_plane : ∃ y ∈ pkf.plane 0 0 0, y ≠ 0 := ⟨_, plane_first pkf 0 0 0, by decide +kernel⟩

theorem pkf_length : (pkf.plane 0 0 0).length = 65536 := plane_length pkf 0 0 0

/-- A plane of zeros. -/
theorem witness_BinsAndPlanes_empty :
    (bare.engine 0 3).job = some (job .own 0) ∧ bare.clocked = true ∧ (job .own 0).kind = .own ∧
    (job .own 0).slots.head? = some 0 ∧ bare.bandFilled 0 (job .own 0) = true ∧ bare.package? 5 = some pke ∧
    (pke.tile 0 0).epoch = 0 ∧ ∀ y ∈ pke.plane 0 0 0, y = 0 :=
  ⟨by decide +kernel, by decide +kernel, by decide +kernel, by decide +kernel, by decide +kernel, by decide +kernel,
   by decide +kernel, pke_plane⟩

/-- A plane that is stored. -/
theorem witness_BinsAndPlanes_stored :
    (rawUp.engine 0 3).job = some (job .own 0) ∧ rawUp.clocked = true ∧ (job .own 0).kind = .own ∧
    (job .own 0).slots.head? = some 0 ∧ rawUp.bandFilled 0 (job .own 0) = true ∧ rawUp.package? 5 = some pkf ∧
    (pkf.tile 0 0).epoch = 0 ∧ (∃ y ∈ pkf.plane 0 0 0, y ≠ 0) ∧ (job .own 0).direct = false ∧
    rawUp.bypassed 0 5 = false ∧ rawUp.storeFits (20 + (encodePlane (rawUp.rawOnly 5) (pkf.plane 0 0 0) []).body.length) = true := by
  have h : rawUp.rawOnly 5 = true := by decide +kernel
  rw [h, raw_body, pkf_length]
  exact ⟨by decide +kernel, by decide +kernel, by decide +kernel, by decide +kernel, by decide +kernel, by decide +kernel,
    by decide +kernel, pkf_plane, by decide +kernel, by decide +kernel, by decide +kernel⟩

/-- A plane that finds no room. -/
theorem witness_BinsAndPlanes_bypass :
    (noRoom.engine 0 3).job = some (job .own 0) ∧ noRoom.clocked = true ∧ (job .own 0).kind = .own ∧
    (job .own 0).slots.head? = some 0 ∧ noRoom.bandFilled 0 (job .own 0) = true ∧ noRoom.package? 5 = some pkf ∧
    (pkf.tile 0 0).epoch = 0 ∧ (∃ y ∈ pkf.plane 0 0 0, y ≠ 0) ∧ (job .own 0).direct = false ∧
    noRoom.bypassed 0 5 = false ∧ noRoom.storeFits (20 + (encodePlane (noRoom.rawOnly 5) (pkf.plane 0 0 0) []).body.length) = false ∧
    noRoom.isWriting 5 = true ∧ noRoom.evictable 0 = none ∧ pkf.directRoom (job .own 0) = true := by
  have h : noRoom.rawOnly 5 = true := by decide +kernel
  rw [h, raw_body, pkf_length]
  exact ⟨by decide +kernel, by decide +kernel, by decide +kernel, by decide +kernel, by decide +kernel, by decide +kernel,
    by decide +kernel, pkf_plane, by decide +kernel, by decide +kernel, by decide +kernel, by decide +kernel, by decide +kernel,
    by decide +kernel⟩

/-- A plane of a package that is not yet writing, with nothing newer to evict. -/
theorem witness_BinsAndPlanes_held :
    (noneToMake.engine 0 3).job = some (job .own 0) ∧ noneToMake.clocked = true ∧ noneToMake.bandFilled 0 (job .own 0) = true ∧
    noneToMake.package? 5 = some pkf ∧ (pkf.tile 0 0).epoch = 0 ∧ (∃ y ∈ pkf.plane 0 0 0, y ≠ 0) ∧ (job .own 0).direct = false ∧
    noneToMake.bypassed 0 5 = false ∧
    noneToMake.storeFits (20 + (encodePlane (noneToMake.rawOnly 5) (pkf.plane 0 0 0) []).body.length) = false ∧
    noneToMake.isWriting 5 = false ∧ noneToMake.evictable (pkf.age + 1) = none := by
  have h : noneToMake.rawOnly 5 = true := by decide +kernel
  rw [h, raw_body, pkf_length]
  exact ⟨by decide +kernel, by decide +kernel, by decide +kernel, by decide +kernel, by decide +kernel, pkf_plane, by decide +kernel,
    by decide +kernel, by decide +kernel, by decide +kernel, by decide +kernel⟩

/-- Planes in bypass: one for which the filler's store has room, one for which it has none. -/
theorem witness_BinsAndPlanes_direct :
    ((passing.engine 0 3).job = some (job .own 0) ∧ passing.clocked = true ∧ passing.bandFilled 0 (job .own 0) = true ∧
      passing.package? 5 = some pkf ∧ (pkf.tile 0 0).epoch = 0 ∧ (∃ y ∈ pkf.plane 0 0 0, y ≠ 0) ∧ passing.bypassed 0 5 = true ∧
      pkf.directRoom (job .own 0) = true) ∧
    (storeFull.engine 0 3).job = some (job .own 0) ∧ storeFull.clocked = true ∧ storeFull.bandFilled 0 (job .own 0) = true ∧
      storeFull.package? 5 = some full ∧ (full.tile 0 0).epoch = 0 ∧ (∃ y ∈ full.plane 0 0 0, y ≠ 0) ∧ storeFull.bypassed 0 5 = true ∧
      full.directRoom (job .own 0) = false :=
  ⟨⟨by decide +kernel, by decide +kernel, by decide +kernel, by decide +kernel, by decide +kernel, pkf_plane, by decide +kernel,
    by decide +kernel⟩, by decide +kernel, by decide +kernel, by decide +kernel, by decide +kernel, by decide +kernel,
    ⟨_, plane_first full 0 0 0, by decide +kernel⟩, by decide +kernel, by decide +kernel⟩

theorem witness_CachedPlanesReadBack : (List.replicate 65536 (7 : Byte)).length = 65536 := List.length_replicate

theorem witness_CopiesRepeatTheirPattern :
    (1 ≤ 3 ∧ 3 ≤ ([1, 2, 3] : List Byte).length) ∧ 0x80 ≤ 0xBF ∧ 0xBF < 0xC0 ∧ leAt ([0, 0] : List Byte) 0 2 = 0 := by
  decide +kernel

end Drawing

namespace Commands

/-- Every beam has the entry 0, 1, 0, 0. -/
def beams4 : List Byte := (List.replicate 262144 [0, 1, 0, 0]).flatten
def xkLoad : Fetched := d9 4 [(16, 4, 1048576)]

theorem quads (n i : Nat) (h : i < n) (q : List Byte) (hq : q.length = 4) :
    ((List.replicate n q).flatten.drop (4 * i)).take 4 = q := by
  obtain ⟨k, rfl⟩ := Nat.exists_eq_add_of_lt h
  have e : List.replicate (i + k + 1) q = List.replicate i q ++ q :: List.replicate k q := by
    rw [← List.replicate_succ, List.replicate_append_replicate]
    congr 1
  have d : 4 * i = (List.replicate i q).flatten.length := by
    simp [List.length_flatten, hq, Nat.mul_comm]
  rw [e, List.flatten_append, List.flatten_cons, d, List.drop_left, ← hq, List.take_left]

theorem flatten_length (n : Nat) (q : List Byte) : (List.replicate n q).flatten.length = n * q.length := by
  simp [List.length_flatten]

theorem beams4_length : beams4.length = 1048576 := flatten_length 262144 [0, 1, 0, 0]

theorem witness_TableLoads_xk2 :
    Heads (cmd xk 9 xkLoad) 9 4 xkLoad ∧ Zero xkLoad.desc 1 2 ∧ Zero xkLoad.desc 4 8 ∧ leAt xkLoad.desc 16 4 = 1048576 ∧
    Zero xkLoad.desc 20 32 ∧ xk2TableBad (beams4.take 1048576) = none := by
  refine ⟨by decide +kernel, by decide +kernel, by decide +kernel, by decide +kernel, by decide +kernel, ?_⟩
  rw [List.take_of_length_le beams4_length.le]
  refine List.findSome?_eq_none_iff.2 fun i hi => ?_
  have h : xk2BeamBad [0, 1, 0, 0] = none := by decide +kernel
  rw [beams4, quads 262144 i (List.mem_range.1 hi) _ rfl, h]
  rfl

end Commands

namespace Heat

def eyes : List EyeReading := List.replicate 262144 ⟨0, 100, some 0, some 0⟩
def checking : State := { up with jobs := [.beamCheck ⟨8, 1, 0⟩ 0x1000 true] }

theorem witness_CalibrationAndEyespot_beams :
    checking.jobs = [.beamCheck ⟨8, 1, 0⟩ 0x1000 true] ∧ eyes.length = 262144 ∧
    (checking.auxAxis checking.shuttleAxis).move = none ∧ checking.clocked = true ∧ checking.cprOf 8 ≤ 4 :=
  ⟨rfl, List.length_replicate, by decide +kernel, by decide +kernel, by decide +kernel⟩

end Heat

namespace Block

/-- One command waits; it takes a step. -/
def one : State := { up with pending := [.heldStepApply] }

theorem witness_ModeStaysLatched : Latched .native .fx640 one ∧ ∃ t, step one = .next t :=
  ⟨by decide +kernel, _, rfl⟩

theorem witness_EmptyQueueLetsTimePass_still :
    (∀ g < 16, ∀ i < 11, up.reg (Reg.MPH_PRBS_CTL_LOCK g i) = 0 ∧ up.reg (Reg.MPH_PRBS_CTL_INJ_RATE g i) = 0) ∧ up.obs.wfQueue = [] ∧
    ∀ e ∈ up.tempView, up.reg e.1 = e.2 := by
  decide +kernel

theorem witness_MapIsOneToOne : ∃ g < 64, (fun n : Nat => n % 3 == 1) g = true := ⟨1, by decide, by decide⟩

end Block

/-! ### The checks of WellFormed: each refuses a term that breaks it -/

theorem refused_tableLoad (b : List Byte) (h : b.length = 2 ^ 32) : (Instr.tableLoad (.ok b)).wf = false := by
  simp [Instr.wf, HostRead.hasLength, h]
theorem refused_xk2TableLoad (b : List Byte) (h : b.length = 2 ^ 32) : (Instr.xk2TableLoad (.ok b)).wf = false := by
  simp [Instr.wf, HostRead.hasLength, h]
theorem refused_descriptor : (Instr.descriptorFetch 9 (.ok (List.replicate 64 0)) .error).wf = false := by decide
theorem refused_buffer (b : List Byte) (h : b.length = 2 ^ 32) : (Instr.descriptorFetch 0 .error (.ok b)).wf = false := by
  simp [Instr.wf, HostRead.hasLength, h]
theorem refused_offset : (Instr.registerWrite 0x3 0).wf = false ∧ (Instr.consoleWrite 0x100000 0).wf = false := by decide
theorem refused_instarAdvance : (Instr.instarAdvance 1 0 none 6 16 []).wf = false ∧ (Instr.instarAdvance 1 0 none 5 3 []).wf = false ∧
    (Instr.instarAdvance 1 0 none 5 16 [64]).wf = false := by decide
theorem refused_setPointWord : (Instr.setPointWord (2 ^ 47) 0 0).wf = false ∧ (Instr.setPointWord 0 (2 ^ 31) 0).wf = false ∧
    (Instr.setPointWord 0 0 (2 ^ 23)).wf = false := by decide
theorem refused_frameLaunch : (Instr.frameLaunch [3, 3] 0 0 []).wf = false := by decide
theorem refused_ticksync : (Instr.ticksyncTickMessage (List.replicate 16 0) 0).wf = false ∧
    (Instr.ticksyncRunMessage [] 0).wf = false := by decide
theorem refused_slots : (Instr.planeDone 0 0 ⟨4, []⟩).wf = false ∧ (Instr.shadowCompare [⟨4, none⟩]).wf = false ∧
    (Instr.thirdOpinion [⟨0, none⟩, ⟨5, none⟩]).wf = false := by decide
theorem refused_message : (Instr.statusNak 0 ⟨List.replicate 15 0, true⟩).wf = false := by decide
theorem refused_sensor : (Instr.sensorSample (.replicate 12 ⟨32768, true⟩)).wf = false := by decide
theorem refused_measures : (CalMeasure.deskew []).wf = false ∧ (CalMeasure.dac 65536 0 true).wf = false ∧
    (CalMeasure.interpolator (2 ^ 20) 0 0).wf = false ∧ (CalMeasure.adc 32768 0).wf = false ∧
    (Instr.calItemDone 0 (.deskew [])).wf = false := by decide
theorem refused_beamCheckDone : (Instr.beamCheckDone []).wf = false := by decide
theorem refused_hbm : (Instr.hbmWrite .bins .openRow 0 []).wf = false ∧ (Instr.hbmSweepDone [⟨64, []⟩]).wf = false := by decide
theorem refused_ptp : (Instr.ptpSync 0 1000000000 0 0 0 true none).wf = false ∧ (Instr.ptpAnnounce (2 ^ 64) true).wf = false := by
  decide

/-! ### Numbers of the manual's worked examples -/

/-- R452: the results of "123456789". -/
def digits : List Byte := [0x31, 0x32, 0x33, 0x34, 0x35, 0x36, 0x37, 0x38, 0x39]
theorem test_checks : crc32c digits = 0xE3069283 ∧ crc32 digits = 0xCBF43926 ∧ crc16 digits = 0x29B1 ∧
    (crcRun 3 (crcInit 3) digits).toNat = 0x6C40DF5F0B497347 := by decide +kernel

/-- "FTC compression": the block of 36 bytes, and where its errors fall. -/
def block (orig comp pitch : Nat) : List Byte := [0x46, 0x54, 1, 1] ++ leBytes 4 orig ++ leBytes 4 comp ++ leBytes 2 pitch ++ [0, 0]
  ++ [1, 2, 3, 4] ++ [7, 0, 0, 0x40, 0xFF, 0xFF, 0x40, 0, 0, 0x45, 0x40, 0, 0xFF, 0x81, 0, 0]
def failsAt (b : List Byte) : Option (Status × Nat) := match ftcDecode b with | .ok _ => none | .error e => some (e.status, e.offset)
theorem test_ftc_block : (match ftcDecode (block 24 16 8) with | .ok b => (b.output.drop 16, b.length) | .error _ => ([], 0)) =
    ([0, 0, 0x40, 0xFF, 0xFF, 0xFF, 0xFF, 0xFF], 36) := by decide +kernel
theorem test_ftc_errors : failsAt (block 24 16 16) = some (.ftcDistBeyondHistory, 29) ∧
    failsAt (block 24 15 8) = some (.ftcTruncated, 35) ∧ failsAt (block 22 16 8) = some (.ftcLenOverrun, 33) := by decide +kernel

/-- "Raster slices": the left edge of the class 1 trapezoid, and its cache seed. -/
def edge : List Fig := [⟨1, [(160000, 400000), (240000, 400000), (239600, 400800), (160400, 400800)], 184⟩]
theorem test_coverage : ([(2000, 5000), (2000, 5001), (2001, 5001), (2004, 5009)].map fun p => coverage 80 1000000 edge p.1 p.2) =
    [191, 64, 255, 64] := by decide +kernel
theorem test_cacheSeed : cacheSeed 0x123 19 7 0 0 = 0x000001230009B800 := by decide

/-- "Write geometry": ticks of a pass, and one visit. -/
theorem test_geometry : ticksPerPass 1000000 4 = 251025 ∧ beamX 133 330 = 2645 ∧ visitY 4 516 133 = 1000 := by decide

/-- "Frame assembly": header, seed and the bytes of row 5. -/
theorem test_frame : frameSeed 251285 0x123 5 82 = 0x0003D59500B48123 ∧
    frameHeader 251285 0x123 82 {} = [0x95, 0xD5, 3, 0, 0x23, 1, 0x52, 0] := by decide +kernel
theorem test_gray : ((grayPayload true (List.replicate 20 0 ++ [37, 38, 38, 37] ++ List.replicate 8 0)).drop 15).take 3 =
    [0xA5, 0x69, 0x96] := by decide +kernel

/-- "Motion": the stop from 48 mm/s, and at 62/64 of it; the intervals of an auxiliary axis. -/
theorem test_stop : stopTicks (speedOf 4 80 1200000) 1000000000 100000000000 40 = 34800 ∧
    stopTicks (speedOf 4 80 1162500) 1000000000 100000000000 40 = 32841 := by decide +kernel
theorem test_aux : [30000, 50000, 70000].map auxInterval = [578035, 448430, 378788] := by decide +kernel

/-- "Looper": a bank change while section 3 is saturated. -/
def bank1 : Coef := ⟨0x100000, 0, 0, -267386880, 0, 64000⟩
theorem test_bumpless : bumpless 48 (some 64000) bank1 ⟨0, 0, 48000 * 65536, 40000 * 65536⟩ =
    ⟨39812 * 65536 + 32768, 0, 48000 * 65536, 40000 * 65536⟩ := by decide +kernel
theorem test_dacCode : dacCode (-40000 * 65536) 4294967 0 false = -163840 ∧ dacCode (-48000 * 65536) 4294967 0 false = -196608 := by
  decide +kernel

/-- "HBM": device address 0x2_4000_1235 with every PC live. -/
theorem test_place : hbmPlace (liveMap fun _ => true) 0x240001235 = (37, 256 * 73728 + 70) := by decide +kernel

/-- "Running as an XK2": the REGION record of the overrun. -/
theorem test_record : Record.bytes (region repCut 0 495906 4095 999999) =
    [2, 4, 0, 0, 0x22, 0x91, 7, 0, 0xFF, 0xF, 0, 0, 0x3F, 0x42, 0xF, 0] := by decide +kernel

/-- "Register map": GLB_CAPS of an FX640. -/
theorem test_caps : ((Reg.fieldsAt 0x0C).map fun f => up.reads f * 2 ^ f.lo).sum = 0x0016103D := by decide +kernel

/-- "Beam engines": a beam of gain 1.0, one of gain 0.75, and a trim row. -/
theorem test_gray_choice : bestGray 63 0x4000 1197 = 37 ∧ bestGray 63 0x3000 899 = 37 ∧ bestGray 63 0x1C00 510 = 36 ∧
    visitShare 0 16384 448512 (visitDose true 32 8192 0) = 1197 := by decide +kernel

/-- "DCU": cell 10 of the first iteration. -/
theorem test_rnd : rnd (2 ^ 48) 14680064 = 19173961 ∧ targetRaw (255 * 8192 * 22229982) = 10854 := by decide +kernel

/-- "Frame assembly", from the tables of IEEE 802.3 Clause 36 (log 41): D0.0, K27.7, K28.5 and D21.5 begun at negative disparity. -/
theorem test_symbols : ((dxy 0 0).code false).1 = 0b1001110100 ∧ ((kxy 27 7).code false).1 = 0b1101101000 ∧
    (kxy 28 5).code false = (0b0011111010, true) ∧ ((dxy 21 5).code true).1 = 0b1010101010 := by decide

/-- "Memory integrity": an eye passing at taps 12 to 31, and a shorter one above it. -/
theorem test_eye : longestRun 0x3FFE00FFFFF000 = (12, 20) ∧ eyeCentre 0x3FFE00FFFFF000 = 21 ∧ eyeNarrow 0x3FFE00FFFFF000 = false := by
  decide +kernel

end Sys2Proof.Tests
end

section
/-! SUPPORT. The latched mode and the part along a run (R2, R3, R410), and the state after reset. -/
namespace Sys2Proof.Machine

open Sys2Proof

/-! ### What every command leaves alone -/

/-- A command other than COLD_RESET ends in an `answer`: it never stops the block (log 2). -/
theorem exec_eq_answer (i : Instr) (s : State) (h : isColdReset i = false) : ∃ t, exec i s = answer s t := by
  cases i
  case coldReset => simp [isColdReset] at h
  all_goals exact ⟨_, rfl⟩

/-- A step takes the front command off the queue, and without a cold reset it completes with the mode and the part as they were. -/
theorem step_of_noColdReset (s : State) (h : NoColdReset s.pending) :
    ∃ t, step s = .next t ∧ t.mode = s.mode ∧ t.part = s.part ∧ t.pending = s.pending.drop 1 := by
  unfold step
  split
  case h_1 hp => exact ⟨_, rfl, rfl, rfl, by simp [idle, hp]⟩
  case h_2 i rest hp =>
    obtain ⟨t, ht⟩ := exec_eq_answer i { s with pending := rest } (h i (by simp [hp]))
    exact ⟨_, ht, rfl, rfl, by simp [hp]⟩

/-- What is left of a queue without a cold reset has none. -/
theorem NoColdReset.drop {l : List Instr} (h : NoColdReset l) (n : Nat) : NoColdReset (l.drop n) :=
  fun i hi => h i (List.mem_of_mem_drop hi)

/-- Settles O53: a step of a queue without a cold reset is an `answer`, which keeps mode and part. -/
theorem modeStaysLatched : Obligations.ModeStaysLatched := by
  rintro m p s t ⟨hm, hp, hq⟩ hs
  obtain ⟨u, hu, hmode, hpart, hpending⟩ := step_of_noColdReset s hq
  obtain rfl : u = t := by simpa [hu] using hs
  exact ⟨hmode.trans hm, hpart.trans hp, hpending ▸ hq.drop 1⟩

/-- Any number of steps without a cold reset completes, and takes as many commands off the queue. -/
theorem runs_of_noColdReset (n : Nat) (s : State) (h : NoColdReset s.pending) :
    ∃ t, runs n s = some t ∧ t.mode = s.mode ∧ t.part = s.part ∧ t.pending = s.pending.drop n := by
  induction n generalizing s with
  | zero => exact ⟨s, rfl, rfl, rfl, rfl⟩
  | succ n ih =>
    obtain ⟨u, hu, hmode, hpart, hpending⟩ := step_of_noColdReset s h
    obtain ⟨t, ht, htm, htp, htq⟩ := ih u (hpending ▸ h.drop 1)
    refine ⟨t, by simp [runs, hu, ht], htm.trans hmode, htp.trans hpart, ?_⟩
    rw [htq, hpending, List.drop_drop, Nat.add_comm]

/-- A cold reset that acts completes with the mode that MODESEL selects. -/
theorem exec_coldReset (s : State) (c : ColdCause) (m : Bool) (h : s.coldActs c = true) : exec (.coldReset c m) s =
    .next { s.coldStart c m with mode := if m then .native else .xk2, part := s.part, pending := s.pending } := by
  show execColdReset c m s = _
  simp [execColdReset, h]

/-- Settles O54: the first part by COLD_RESET's own equation, the second by induction on the number of steps. -/
theorem modeIsSampledAtColdReset : Obligations.ModeIsSampledAtColdReset :=
  ⟨fun s c m h => ⟨_, exec_coldReset s c m h, rfl⟩, runs_of_noColdReset⟩

/-- After reset a field reads its reset value. -/
theorem State.reg_reset (f : Field) : State.reset.reg f = f.rst % 2 ^ 32 := rfl

/-- Settles O57: reset's tables are empty, so each read gives the default. -/
theorem afterReset : Obligations.AfterReset :=
  ⟨State.reg_reset, rfl, rfl, rfl, rfl, fun _ _ => rfl, fun _ => rfl, fun _ _ _ => ⟨rfl, rfl⟩⟩

end Sys2Proof.Machine
end

section
/-! SUPPORT. Cold reset and Cocoon (R2, R428, R430, R433, R435, R436, R438): what each keeps of the register fields and of the
state. -/
namespace Sys2Proof.Machine

open Sys2Proof

/-! ### Kept fields -/

/-- A restricted table reads as before at the keys it keeps, and as the default elsewhere. -/
theorem SMap.get_restrict {β : Type} (d : Nat → β) (keep : Nat → Bool) (m : SMap β) (k : Nat) :
    SMap.get d (SMap.restrict keep m) k = if keep k then SMap.get d m k else d k := by
  unfold SMap.restrict
  induction m with
  | nil => simp
  | cons e t ih =>
    obtain ⟨a, v⟩ := e
    rw [List.filter_cons, SMap.get_cons]
    by_cases hk : a = k
    · subst hk
      by_cases ha : keep a = true <;> simp_all [SMap.get_cons]
    · by_cases ha : keep a = true <;> simp [ha, hk, SMap.get_cons, ih]

/-- A state whose register table is another's, cut to the fields that `keep` keeps, retains those fields. -/
theorem Retains.of_keepFields {keep : Field → Bool} {s t : State} (h : t.regs = keepFields keep s.regs) : Retains keep [] s t := by
  intro f hf _
  simp only [State.reg, h, keepFields, SMap.get_restrict, hf]
  split <;> rfl

/-- What is retained is a matter of the register tables. -/
theorem Retains.of_regs {keep : Field → Bool} {but : List Field} {s s' t t' : State} (h : Retains keep but s t)
    (hs : s'.regs = s.regs) (ht : t'.regs = t.regs) : Retains keep but s' t' := by
  intro f hf hb
  rw [State.reg_congr t t' f ht, State.reg_congr s s' f hs]
  exact h f hf hb

/-- A field set afterwards joins the exceptions. -/
theorem Retains.setReg {keep : Field → Bool} {but : List Field} {s t : State} (h : Retains keep but s t) (g : Field) (v : Nat) :
    Retains keep (g :: but) s (t.setReg g v) := by
  intro f hf hb
  rw [State.reg_setReg_ne t g f v (hb g (by simp)).symm]
  exact h f hf fun e he => hb e (by simp [he])

/-- A retained field of the register table reads as before. -/
theorem Retains.reg_eq {keep : Field → Bool} {s t : State} (h : Retains keep [] s t) {f : Field} (hf : Reg.fieldOfKey f.key = some f)
    (hk : keep f = true) : t.reg f = s.reg f := by
  rw [h f hf (by simp), if_pos hk]

/-- A field of the register table that is not retained reads its reset value. -/
theorem Retains.reg_eq_reset {keep : Field → Bool} {s t : State} (h : Retains keep [] s t) {f : Field}
    (hf : Reg.fieldOfKey f.key = some f) (hk : keep f = false) : t.reg f = State.reset.reg f := by
  rw [h f hf (by simp), if_neg (by simp [hk])]

/-- With supply in the Cocoon domain class K and the lands stay. -/
theorem State.keepK_retains_classK (s : State) (p : PowerUnit) : Retains (fun f => f.cls == .k || f.land) [] s (s.keepK true p) :=
  Retains.of_keepFields rfl

/-- Without it the lands alone stay. -/
theorem State.keepK_retains_lands (s : State) (p : PowerUnit) : Retains (fun f => f.land) [] s (s.keepK false p) :=
  Retains.of_keepFields rfl

/-! ### Cold reset -/

/-- What is done when a condition holds, field by field. -/
theorem State.reg_when (s : State) (b : Bool) (g : State → State) (f : Field) :
    (s.when b g).reg f = if b then (g s).reg f else s.reg f := by
  unfold State.when
  split <;> rfl

/-- VIN's return touches register fields only. -/
theorem State.vinReturns_eq (s t : State) : ∃ r, s.vinReturns t = { t with regs := r } := by
  unfold State.vinReturns State.when
  split
  · split
    · split <;> exact ⟨_, rfl⟩
    · split <;> exact ⟨_, rfl⟩
  · exact ⟨_, rfl⟩

/-- Outside Cocoon VIN's return leaves nothing to record. -/
theorem State.vinReturns_of_ne_cocoon (s t : State) (h : s.power.state ≠ .cocoon) : s.vinReturns t = t := by
  simp [State.vinReturns, State.when, h]

/-- Beside its register fields a cold reset leaves what the loss of classes P and V does. -/
theorem State.coldStart_eq (s : State) (c : ColdCause) (m : Bool) :
    ∃ r, s.coldStart c m = { s.keepK (s.power.state != .off) (PowerUnit.coldStart m) with regs := r } := by
  obtain ⟨r, hr⟩ := s.vinReturns_eq (s.keepK (s.power.state != .off) (PowerUnit.coldStart m))
  unfold State.coldStart
  rw [hr]
  exact ⟨_, rfl⟩

/-- A cold reset that acts completes with what holds of its end state. -/
theorem completes_coldReset {s : State} {c : ColdCause} {m : Bool} {p : State → Prop} (h : s.coldActs c = true)
    (hp : p { s.coldStart c m with mode := if m then .native else .xk2, part := s.part, pending := s.pending }) :
    Completes (.coldReset c m) s p :=
  ⟨_, exec_coldReset s c m h, hp⟩

/-- LAST_RESET names the cause of a cold reset. -/
theorem State.coldStart_lastReset (s : State) (m : Bool) :
    (s.coldStart .vin m).reg Reg.PWR_STATUS_LAST_RESET = 0 ∧ (s.coldStart .poreset m).reg Reg.PWR_STATUS_LAST_RESET = 1 :=
  ⟨State.reg_setReg_same _ _ _ (by decide), State.reg_setReg_same _ _ _ (by decide)⟩

/-- Outside Cocoon a cold reset retains what the loss of classes P and V leaves, LAST_RESET aside. -/
theorem State.coldStart_retains {keep : Field → Bool} (s : State) (c : ColdCause) (m : Bool) (h : s.power.state ≠ .cocoon)
    (hk : Retains keep [] s (s.keepK (s.power.state != .off) (PowerUnit.coldStart m))) :
    Retains keep [Reg.PWR_STATUS_LAST_RESET] s (s.coldStart c m) := by
  unfold State.coldStart
  rw [State.vinReturns_of_ne_cocoon s _ h]
  exact hk.setReg _ _

/-- VIN's return shows that the crystal ran. -/
theorem State.vinReturns_xtalRan (s t : State) (h : s.power.state = .cocoon) :
    (s.vinReturns t).reg Reg.TIM_STATUS_XTAL_RAN = 1 := by
  have hb : Reg.TIM_STATUS_XTAL_RAN.key ≠ Reg.PWR_RESET_CNT_BROWNOUT.key := by decide
  have hw : Reg.TIM_STATUS_XTAL_RAN.key ≠ Reg.PWR_WAKE_CAUSE.key := by decide
  have hset (u : State) : (u.setReg Reg.TIM_STATUS_XTAL_RAN 1).reg Reg.TIM_STATUS_XTAL_RAN = 1 :=
    State.reg_setReg_same _ _ _ (by decide)
  simp [State.vinReturns, State.reg_when, h, State.addReg, State.reg_setReg_ne _ _ _ _ hb, State.reg_setReg_ne _ _ _ _ hw, hset]

/-- VIN's return counts a brown-out. -/
theorem State.vinReturns_brownouts (s t : State) (h : s.power.state = .cocoon) :
    (s.vinReturns t).reg Reg.PWR_RESET_CNT_BROWNOUT =
      if s.power.brownout then min 255 (t.reg Reg.PWR_RESET_CNT_BROWNOUT + 1) else t.reg Reg.PWR_RESET_CNT_BROWNOUT := by
  have hx : Reg.PWR_RESET_CNT_BROWNOUT.key ≠ Reg.TIM_STATUS_XTAL_RAN.key := by decide
  have hw : Reg.PWR_RESET_CNT_BROWNOUT.key ≠ Reg.PWR_WAKE_CAUSE.key := by decide
  have hadd (u : State) : (u.addReg Reg.PWR_RESET_CNT_BROWNOUT 1).reg Reg.PWR_RESET_CNT_BROWNOUT =
      min 255 (u.reg Reg.PWR_RESET_CNT_BROWNOUT + 1) := by
    rw [State.addReg, State.reg_setReg_same _ _ _ (by decide)]
    simp only [Reg.PWR_RESET_CNT_BROWNOUT]
    omega
  simp [State.vinReturns, State.reg_when, h, hadd, State.reg_setReg_ne _ _ _ _ hx, State.reg_setReg_ne _ _ _ _ hw]

/-- While the Cocoon domain has supply a cold reset keeps the time base's count. -/
theorem State.coldStart_units (s : State) (c : ColdCause) (m : Bool) (h : s.power.state ≠ .off) :
    (s.coldStart c m).time.units = s.time.units := by
  obtain ⟨r, hr⟩ := s.coldStart_eq c m
  rw [hr, bne_iff_ne.2 h]
  rfl

/-- Without supply the time base starts afresh. -/
theorem State.coldStart_time_of_off (s : State) (c : ColdCause) (m : Bool) (h : s.power.state = .off) :
    (s.coldStart c m).time = State.reset.time := by
  obtain ⟨r, hr⟩ := s.coldStart_eq c m
  rw [hr, h]
  rfl

/-- Out of Cocoon a cold reset shows that the crystal ran. -/
theorem State.coldStart_xtalRan (s : State) (c : ColdCause) (m : Bool) (h : s.power.state = .cocoon) :
    (s.coldStart c m).reg Reg.TIM_STATUS_XTAL_RAN = 1 :=
  (State.reg_setReg_ne _ _ _ _ (by decide)).trans (s.vinReturns_xtalRan _ h)

/-- Out of Cocoon a cold reset counts the brown-out that led there. -/
theorem State.coldStart_brownouts (s : State) (c : ColdCause) (m : Bool) (h : s.power.state = .cocoon) :
    (s.coldStart c m).reg Reg.PWR_RESET_CNT_BROWNOUT =
      if s.power.brownout then min 255 (s.reg Reg.PWR_RESET_CNT_BROWNOUT + 1) else s.reg Reg.PWR_RESET_CNT_BROWNOUT := by
  have hkept := (s.keepK_retains_classK (PowerUnit.coldStart m)).reg_eq (f := Reg.PWR_RESET_CNT_BROWNOUT) (by decide +kernel) rfl
  refine (State.reg_setReg_ne _ _ _ _ (by decide)).trans ?_
  rw [s.vinReturns_brownouts _ h, h, ← hkept]
  rfl

theorem clauseColdReset : ClauseColdReset := by
  refine ⟨fun s c m h => ?_, fun s c m h => ?_, fun s m h => ?_, fun s m h => ?_, fun s m h => ?_⟩
  -- With VIN present: class K, the lands and the time base stay.
  · have hc : s.power.state ≠ .cocoon := by rintro hc; simp [hc] at h
    have ho : s.power.state ≠ .off := by rintro ho; simp [ho] at h
    have hk : Retains (fun f => f.cls == .k || f.land) [] s (s.keepK (s.power.state != .off) (PowerUnit.coldStart m)) :=
      bne_iff_ne.2 ho ▸ s.keepK_retains_classK _
    refine completes_coldReset (by simp [State.coldActs, hc, ho]) ⟨?_, s.coldStart_units c m ho, ?_⟩
    · exact (s.coldStart_retains c m hc hk).of_regs rfl rfl
    · cases c
      · exact (s.coldStart_lastReset m).1
      · exact (s.coldStart_lastReset m).2
  -- Whatever the power state: the mode is latched and every unit starts afresh.
  · refine completes_coldReset h ?_
    obtain ⟨r, hr⟩ := s.coldStart_eq c m
    rw [hr]
    exact ⟨rfl, rfl, rfl, rfl, rfl, rfl, rfl, rfl, rfl, rfl, rfl⟩
  -- VIN's return out of Cocoon.
  · have ho : s.power.state ≠ .off := by simp [h]
    exact completes_coldReset rfl ⟨s.coldStart_xtalRan .vin m h, s.coldStart_units .vin m ho, s.coldStart_brownouts .vin m h⟩
  -- VIN's return after class K was lost.
  · have hc : s.power.state ≠ .cocoon := by simp [h]
    have hk : Retains (fun f => f.land) [] s (s.keepK (s.power.state != .off) (PowerUnit.coldStart m)) :=
      by rw [h]; exact s.keepK_retains_lands _
    exact completes_coldReset rfl ⟨(s.coldStart_retains .vin m hc hk).of_regs rfl rfl, s.coldStart_time_of_off .vin m h⟩
  -- PORESET_N without VIN.
  · show execColdReset .poreset m s = _
    rcases h with h | h <;> simp [execColdReset, State.coldActs, h]

/-! ### Cocoon -/

/-- After reset the time base stands at zero. -/
theorem State.units_reset : State.reset.time.units = 0 := by
  simp [TimeUnit.units, State.reset]

/-- An answer of the state itself leaves it as it was. -/
theorem answer_self (s : State) : answer s s = .next s := rfl

/-- Entry into Cocoon from any state with VIN. -/
theorem State.toCocoon_eq (s : State) (b : Bool) (h : s.power.state = .active ∨ s.power.state = .idle ∨ s.power.state = .chrysalis) :
    s.toCocoon b = (s.when s.native (·.emit (.dac (s.restCode 0) (s.restCode 1)))).keepK true (s.power.down .cocoon b) := by
  unfold State.toCocoon
  rcases h with h | h | h <;> rw [h] <;> rfl

theorem clauseCocoon : ClauseCocoon := by
  refine ⟨fun s h x hx => ?_, fun s h => ?_, fun s h => ?_, fun s hc hn ha ht => ?_, fun s h => ⟨?_, ?_⟩⟩
  -- A brown-out, or the removal of VIN: class K, the lands and the time base stay.
  · have he : exec x.1 s = answer s (s.toCocoon x.2) := by
      simp only [List.mem_cons, List.not_mem_nil, or_false] at hx
      rcases hx with rfl | rfl <;> rfl
    refine Completes.of_answer he ?_
    rw [s.toCocoon_eq x.2 h]
    refine ⟨rfl, rfl, ?_, ?_, rfl, rfl, rfl, rfl, rfl, fun hn => ?_⟩
    · refine (State.keepK_retains_classK _ (s.power.down .cocoon x.2)).of_regs ?_ rfl
      cases s.native <;> rfl
    · cases s.native <;> rfl
    · rw [hn]
      rfl
  -- Loss of VKEEP.
  · refine Completes.of_answer (t := s.keepK false (s.power.down .off false)) ?_ ⟨rfl, ?_, rfl⟩
    · show execVkeepLoss s = _
      simp [execVkeepLoss, h, State.when]
    · exact (s.keepK_retains_lands _).of_regs rfl rfl
  -- The Cocoon domain comes back.
  · refine Completes.of_answer (t := s.keepK false (s.power.down .cocoon false)) ?_ ⟨rfl, ?_, ?_, State.units_reset, ?_⟩
    · show execCocoonDomainPowerUp s = _
      simp [execCocoonDomainPowerUp, h, State.when]
    · exact (s.keepK_retains_lands _).reg_eq_reset (f := Reg.PWR_STATUS_K_LOST) (by decide +kernel) (by decide)
    · exact (s.keepK_retains_lands _).reg_eq_reset (f := Reg.TIM_STATUS_VALID) (by decide +kernel) (by decide)
    · exact (s.keepK_retains_lands _).of_regs rfl rfl
  -- An alarm that is due in Cocoon.
  · have hw : s.wakeEnabled .alarm = true := by simp [State.wakeEnabled, ha, ht]
    refine Completes.of_answer (t := { s with power := { s.power with pwrreqLow := true } }) ?_ ⟨rfl, ?_, fun _ _ => rfl⟩
    · show execCocoonAlarm s = _
      simp [execCocoonAlarm, hc, hn, hw, State.when]
    · intro p hp
      cases p <;> simp_all [Piece.same]
  -- Outside Cocoon there is neither an alarm nor a loss of VKEEP.
  · show execCocoonAlarm s = _
    simp [execCocoonAlarm, h, State.when, answer_self]
  · show execVkeepLoss s = _
    simp [execVkeepLoss, h, State.when, answer_self]

/-- Settles O19, by what `keepK` retains of the register table and leaves of the other pieces. -/
theorem coldResetAndCocoon : Obligations.ColdResetAndCocoon := ⟨clauseColdReset, clauseCocoon⟩

end Sys2Proof.Machine
end

section
/-! SUPPORT. Register writes under the access codes (R11): the fields at an offset without rules of its own have distinct keys and
fit a register, so a write gives each its value and leaves every other field alone. -/
namespace Sys2Proof.Machine

open Sys2Proof

/-! ### The fields at an offset (R459, R465) -/

theorem plainSingles_nodup : ((Reg.singles.filter fun f => plainOffset f.off).map Field.key).Nodup := by decide +kernel

theorem singles_width : ∀ f ∈ Reg.singles, f.width ≤ 32 := by decide +kernel

theorem families_fields : ∀ fam ∈ Reg.families, ∀ n < fam.count,
    ((fam.fields n).map Field.key).Nodup ∧ ∀ f ∈ fam.fields n, f.width ≤ 32 := by decide +kernel

/-- No register of a family is one of another family. -/
theorem families_apart : Reg.families.Pairwise fun a b => ∀ n < a.count, b.fieldsAt (a.base + a.stride * n) = [] := by decide +kernel

/-- No register of a family is one that stands alone. -/
theorem plainSingles_apart_families : ∀ f ∈ Reg.singles.filter fun f => plainOffset f.off, ∀ fam ∈ Reg.families,
    fam.fieldsAt f.off = [] := by decide +kernel

/-- At an offset a family has no field, or those of one of its registers. -/
theorem Reg.Family.fieldsAt_cases (fam : Family) (off : Nat) : fam.fieldsAt off = [] ∨
    ∃ n < fam.count, off = fam.base + fam.stride * n ∧ fam.fieldsAt off = fam.fields n := by
  unfold Reg.Family.fieldsAt
  split
  next h =>
    obtain ⟨hbase, hmod, hcount⟩ := h
    refine .inr ⟨_, hcount, ?_, rfl⟩
    have := Nat.div_add_mod (off - fam.base) fam.stride
    omega
  next => exact .inl rfl

/-- The fields of the families at an offset have distinct keys: they are those of one register. -/
theorem familyFields_nodup (off : Nat) : ((Reg.families.flatMap fun fam => fam.fieldsAt off).map Field.key).Nodup := by
  rw [List.map_flatMap, List.nodup_flatMap]
  constructor
  · intro fam hfam
    rcases fam.fieldsAt_cases off with h | ⟨n, hn, -, h⟩
    · simp [h]
    · rw [h]
      exact (families_fields fam hfam n hn).1
  · refine families_apart.imp fun {a b} hab => ?_
    rcases a.fieldsAt_cases off with h | ⟨n, hn, rfl, -⟩
    · simp [Function.onFun, h]
    · simp [Function.onFun, hab n hn]

/-- At a plain offset stands a register of one family, or one that stands alone. -/
theorem fieldsAt_of_plain {off : Nat} (h : plainOffset off) : Reg.fieldsAt off = Reg.singles.filter (fun f => f.off = off) ∨
    Reg.fieldsAt off = Reg.families.flatMap fun fam => fam.fieldsAt off := by
  have hslots : Reg.slotFieldsAt off = [] := if_neg (by omega)
  unfold Reg.fieldsAt
  rw [hslots, List.append_nil]
  by_cases hs : ∃ f ∈ Reg.singles, f.off = off
  · obtain ⟨f, hf, rfl⟩ := hs
    have hplain : f ∈ Reg.singles.filter fun f => plainOffset f.off := List.mem_filter.2 ⟨hf, decide_eq_true h⟩
    have hnil : (Reg.families.flatMap fun fam => fam.fieldsAt f.off) = [] :=
      List.flatMap_eq_nil_iff.2 (plainSingles_apart_families f hplain)
    exact .inl (by rw [hnil, List.append_nil])
  · have hnil : Reg.singles.filter (fun f => f.off = off) = [] :=
      List.filter_eq_nil_iff.2 fun f hf ho => hs ⟨f, hf, of_decide_eq_true ho⟩
    exact .inr (by rw [hnil, List.nil_append])

/-- The fields at a plain offset have distinct keys. -/
theorem fieldsAt_nodup {off : Nat} (h : plainOffset off) : ((Reg.fieldsAt off).map Field.key).Nodup := by
  rcases fieldsAt_of_plain h with he | he
  · rw [he]
    refine plainSingles_nodup.sublist ((List.monotone_filter_right _ fun f hf => ?_).map _)
    simpa [of_decide_eq_true hf] using h
  · exact he ▸ familyFields_nodup off

/-- The fields at a plain offset fit a register. -/
theorem width_of_mem_fieldsAt {off : Nat} (h : plainOffset off) : ∀ f ∈ Reg.fieldsAt off, f.width ≤ 32 := by
  intro f hf
  rcases fieldsAt_of_plain h with he | he
  · exact singles_width f (List.mem_of_mem_filter (he ▸ hf))
  · obtain ⟨fam, hfam, hmem⟩ := List.mem_flatMap.1 (he ▸ hf)
    rcases fam.fieldsAt_cases off with hnil | ⟨n, hn, -, hfields⟩
    · simp [hnil] at hmem
    · exact (families_fields fam hfam n hn).2 f (hfields ▸ hmem)

/-! ### A write to the fields of a register (R11) -/

/-- A field is written under its access code. -/
theorem reg_writtenField_same {s : State} {m : SMap (BitVec 32)} {f : Field} (v : Nat) (hw : f.width ≤ 32)
    (hm : State.reg { s with regs := m } f = s.reg f) : State.reg { s with regs := writtenField s v m f } f = written s v f := by
  unfold writtenField written
  cases f.acc
  case rw => rw [reg_regsSet_same m s f _ hw, bits, Nat.mod_mod]
  case w1c => exact reg_regsSet_same m s f _ hw
  case ro => exact hm
  case wo => exact hm
  case rwl => exact hm

/-- Writing a field leaves every other alone. -/
theorem reg_writtenField_ne (s : State) (v : Nat) (m : SMap (BitVec 32)) (g f : Field) (h : g.key ≠ f.key) :
    State.reg { s with regs := writtenField s v m g } f = State.reg { s with regs := m } f := by
  unfold writtenField
  cases g.acc
  case rw => exact reg_regsSet_ne m s g f _ h.symm
  case w1c => exact reg_regsSet_ne m s g f _ h.symm
  case ro => rfl
  case wo => rfl
  case rwl => rfl

/-- Writing fields leaves every other alone. -/
theorem reg_writtenFields_ne (s : State) (v : Nat) (m : SMap (BitVec 32)) (l : List Field) (f : Field) (h : ∀ g ∈ l, g.key ≠ f.key) :
    State.reg { s with regs := l.foldl (writtenField s v) m } f = State.reg { s with regs := m } f := by
  induction l generalizing m with
  | nil => rfl
  | cons g l ih =>
    rw [List.foldl_cons, ih _ fun g' hg' => h g' (List.mem_cons_of_mem _ hg')]
    exact reg_writtenField_ne s v m g f (h g List.mem_cons_self)

/-- Each of several fields with distinct keys is written under its access code. -/
theorem reg_writtenFields_mem {s : State} {m : SMap (BitVec 32)} {l : List Field} (v : Nat) (hl : (l.map Field.key).Nodup)
    {f : Field} (hf : f ∈ l) (hw : f.width ≤ 32) (hm : State.reg { s with regs := m } f = s.reg f) :
    State.reg { s with regs := l.foldl (writtenField s v) m } f = written s v f := by
  induction l generalizing m with
  | nil => simp at hf
  | cons g l ih =>
    obtain ⟨hg, hl⟩ := List.nodup_cons.1 hl
    rw [List.foldl_cons]
    rcases List.mem_cons.1 hf with rfl | hf
    · rw [reg_writtenFields_ne s v _ l f fun e he heq => hg (heq ▸ List.mem_map_of_mem he)]
      exact reg_writtenField_same v hw hm
    · have hne : g.key ≠ f.key := fun heq => hg (heq ▸ List.mem_map_of_mem hf)
      exact ih hl hf ((reg_writtenField_ne s v m g f hne).trans hm)

/-- A write to a plain offset gives each field there its value. -/
theorem State.reg_writeFields (s : State) (v : Nat) {off : Nat} (h : plainOffset off) {f : Field} (hf : f ∈ Reg.fieldsAt off) :
    (s.writeFields off v).reg f = written s v f :=
  reg_writtenFields_mem v (fieldsAt_nodup h) hf (width_of_mem_fieldsAt h f hf) rfl

/-- A write to a register changes its fields only. -/
theorem State.writeFields_keeps (s : State) (off v : Nat) : Keeps [] (Reg.fieldsAt off) s (s.writeFields off v) :=
  ⟨fun p _ => by cases p <;> simp [Piece.same, State.writeFields], fun f hf => reg_writtenFields_ne s v s.regs _ f hf⟩

/-- What is written to a field depends on what the field held. -/
theorem written_congr {s t : State} (v : Nat) {f : Field} (h : t.reg f = s.reg f) : written t v f = written s v f := by
  simp only [written, h]

end Sys2Proof.Machine
end

section
/-! SUPPORT. What a BAR0 access does before the register takes it (R433, R435, R445): it ends Idle and is counted, and leaves the
queue, the part, the mode and the rings alone. -/
namespace Sys2Proof.Machine

open Sys2Proof

/-! ### Frames of the pieces alone -/

/-- Every piece but those named is as before; register fields may change. -/
def KeepsPieces (ps : List Piece) (s t : State) : Prop := ∀ p : Piece, p ∉ ps → p.same s t

theorem Keeps.pieces {ps : List Piece} {fs : List Field} {s t : State} (h : Keeps ps fs s t) : KeepsPieces ps s t := h.1

theorem KeepsPieces.refl (ps : List Piece) (s : State) : KeepsPieces ps s s := (Keeps.refl ps [] s).pieces

theorem KeepsPieces.trans {ps : List Piece} {s t u : State} (h : KeepsPieces ps s t) (h' : KeepsPieces ps t u) : KeepsPieces ps s u :=
  fun p hp => p.same_trans s t u (h p hp) (h' p hp)

theorem KeepsPieces.mono {ps ps' : List Piece} {s t : State} (h : KeepsPieces ps s t) (hp : ps ⊆ ps') : KeepsPieces ps' s t :=
  fun p hp' => h p fun hm => hp' (hp hm)

/-- What is done under a condition keeps what the deed keeps. -/
theorem KeepsPieces.when {ps : List Piece} {s t : State} (h : KeepsPieces ps s t) (b : Bool) {f : State → State}
    (hf : ∀ u, KeepsPieces ps u (f u)) : KeepsPieces ps s (t.when b f) := by
  unfold State.when
  split
  · exact h.trans (hf t)
  · exact h

/-- What is done for each of a list keeps what each deed keeps. -/
theorem KeepsPieces.forAll {ps : List Piece} {α : Type} {s t : State} (h : KeepsPieces ps s t) (l : List α) {f : α → State → State}
    (hf : ∀ a u, KeepsPieces ps u (f a u)) : KeepsPieces ps s (t.forAll l f) := by
  unfold State.forAll
  induction l generalizing t with
  | nil => exact h
  | cons a l ih => exact ih (h.trans (hf a t))

theorem KeepsPieces.setRegs {ps : List Piece} {s t : State} (h : KeepsPieces ps s t) (l : List (Field × Nat)) :
    KeepsPieces ps s (t.setRegs l) := h.trans ((t.setRegs_keeps l).pieces.mono (by simp))

theorem KeepsPieces.setReg {ps : List Piece} {s t : State} (h : KeepsPieces ps s t) (f : Field) (v : Nat) :
    KeepsPieces ps s (t.setReg f v) := h.trans ((t.setReg_keeps f v).pieces.mono (by simp))

/-- What the lanes and their groups may change beside register fields. -/
def linkPieces : List Piece := [.link, .out]

theorem KeepsPieces.emit {s t : State} (h : KeepsPieces linkPieces s t) (o : Out) : KeepsPieces linkPieces s (t.emit o) :=
  h.trans ((t.emit_keeps o).pieces.mono (by simp [linkPieces]))

theorem State.onGroup_pieces (s : State) (g : Nat) (f : Group → Group) : KeepsPieces linkPieces s (s.onGroup g f) :=
  fun p hp => by cases p <;> simp_all [linkPieces, Piece.same]

theorem KeepsPieces.onGroup {s t : State} (h : KeepsPieces linkPieces s t) (g : Nat) (f : Group → Group) :
    KeepsPieces linkPieces s (t.onGroup g f) := h.trans (t.onGroup_pieces g f)

/-! ### A group leaves L2 (R237) -/

theorem State.sendTsq_pieces (s : State) (g phase : Nat) (times : Option Nat) (i : Nat) :
    KeepsPieces linkPieces s (s.sendTsq g phase times i) :=
  (KeepsPieces.refl _ s).when _ fun u => (u.sendOn_keeps _ _ _).pieces

theorem State.train_pieces (s : State) (g phase : Nat) (times : Option Nat) : KeepsPieces linkPieces s (s.train g phase times) :=
  (KeepsPieces.refl _ s).forAll _ fun i u => u.sendTsq_pieces g phase times i

theorem State.sendPattern_pieces (s : State) (g i pattern : Nat) : KeepsPieces linkPieces s (s.sendPattern g i pattern) :=
  (KeepsPieces.refl _ s).when _ fun u => ((u.onLine_keeps _ _).pieces.mono (by simp [linkPieces])).emit _

theorem State.enterVerify_pieces (s : State) (g : Nat) : KeepsPieces linkPieces s (s.enterVerify g) := by
  unfold State.enterVerify
  extract_lets t
  have ht : KeepsPieces linkPieces s t := ((KeepsPieces.refl _ s).setReg _ _).onGroup g _
  exact (ht.trans (t.train_pieces _ _ _)).when _ fun u => (KeepsPieces.refl _ u).forAll _ fun i v => v.sendPattern_pieces g i 2

theorem State.alignSleepers_pieces (s : State) (g : Nat) : KeepsPieces linkPieces s (s.alignSleepers g) :=
  ((((KeepsPieces.refl _ s).setRegs _).onGroup g _).emit _).trans (State.train_pieces _ _ _ _)

theorem State.setInitialTaps_pieces (s : State) (g n : Nat) : KeepsPieces linkPieces s (s.setInitialTaps g n) :=
  (KeepsPieces.refl _ s).forAll _ fun _ u => (KeepsPieces.refl _ u).setRegs _

theorem State.leaveL2_pieces (s : State) (g : Nat) : KeepsPieces linkPieces s (s.leaveL2 g) := by
  refine (KeepsPieces.refl _ s).when _ fun s => ?_
  extract_lets n a b t u
  have hb : KeepsPieces linkPieces s b :=
    (((KeepsPieces.refl _ s).setRegs _).setRegs _).forAll _ fun _ v => (KeepsPieces.refl _ v).setRegs _
  have ht : KeepsPieces linkPieces s t := (hb.trans (State.setInitialTaps_pieces _ g n)).onGroup g _
  have hu : KeepsPieces linkPieces s u := (ht.setReg _ _).emit _
  split
  · exact ht.trans (t.alignSleepers_pieces g)
  · split
    · exact hu.trans (u.enterVerify_pieces g)
    · exact hu.trans (State.train_pieces _ _ _ _)

/-! ### A BAR0 access (R433, R445) -/

/-- What a BAR0 access may change beside register fields. -/
def accessPieces : List Piece := [.link, .out, .power, .counters]

theorem State.setPower_pieces (s : State) (p : PowerUnit) : KeepsPieces accessPieces s { s with power := p } :=
  fun q hq => by cases q <;> simp_all [accessPieces, Piece.same]

theorem State.leaveIdle_pieces (s : State) (src : Nat) : KeepsPieces accessPieces s (s.leaveIdle src) := by
  refine (KeepsPieces.refl _ s).when _ fun s => ?_
  have hc : KeepsPieces accessPieces s (s.count 2 4 1) := (s.count_keeps 2 4 1).pieces.mono (by simp [accessPieces])
  have ha := hc.trans ((s.count 2 4 1).setPower_pieces { s.power with state := .active })
  exact (ha.setReg _ _).forAll _ fun g u => (KeepsPieces.refl _ u).when _ fun v =>
    (v.leaveL2_pieces g).mono (by simp [linkPieces, accessPieces])

theorem State.access_pieces (s : State) : KeepsPieces accessPieces s s.access :=
  (s.leaveIdle_pieces 0).trans ((State.count_keeps _ 0 6 1).pieces.mono (by simp [accessPieces]))

@[simp] theorem State.access_pending (s : State) : s.access.pending = s.pending := s.access_pieces .pending (by decide)
@[simp] theorem State.access_part (s : State) : s.access.part = s.part := s.access_pieces .part (by decide)
@[simp] theorem State.access_mode (s : State) : s.access.mode = s.mode := s.access_pieces .mode (by decide)
@[simp] theorem State.access_host (s : State) : s.access.host = s.host := s.access_pieces .host (by decide)
@[simp] theorem State.access_native (s : State) : s.access.native = s.native := by simp [State.native]

end Sys2Proof.Machine
end

section
/-! SUPPORT. Register writes and accesses that do nothing (R11, R322, R323, R394, R410, R460, R462). -/
namespace Sys2Proof.Machine

open Sys2Proof

/-! ### The end of a command -/

/-- Where the end state has the queue, part and mode already, a command answers that state. -/
theorem answer_eq_next {s t : State} (hq : t.pending = s.pending) (hp : t.part = s.part) (hm : t.mode = s.mode) :
    answer s t = .next t := by
  unfold answer
  rw [← hq, ← hp, ← hm]

/-- A command whose end state keeps the pieces but some, the queue, part and mode not among them, answers that state. -/
theorem answer_of_pieces {ps : List Piece} {s t : State} (h : KeepsPieces ps s t)
    (hps : Piece.pending ∉ ps ∧ Piece.part ∉ ps ∧ Piece.mode ∉ ps) : answer s t = .next t :=
  answer_eq_next (h .pending hps.1) (h .part hps.2.1) (h .mode hps.2.2)

/-- A command that follows a BAR0 access ends as if it had begun after it. -/
theorem answer_access (s t : State) : answer s t = answer s.access t := by simp [answer]

/-! ### The bus (R410, R412, R433, R445) -/

theorem State.bus_taken {s : State} {off : Nat} (hl : s.linkUp = true) (ht : s.takesWrite off = true) (f : State → State) :
    s.bus off f = f s.access := by simp [State.bus, State.when, hl, ht]

theorem State.bus_not_taken {s : State} {off : Nat} (hl : s.linkUp = true) (ht : s.takesWrite off = false) (f : State → State) :
    s.bus off f = s.access := by simp [State.bus, State.when, hl, ht]

theorem State.bus_down {s : State} (off : Nat) (hl : s.linkUp = false) (f : State → State) : s.bus off f = s := by
  simp [State.bus, State.when, hl]

/-- An aligned write goes to the bus. -/
theorem exec_registerWrite (s : State) {off : Nat} (v : Word) (h : off % 4 = 0) :
    exec (.registerWrite off v) s = answer s (s.bus off (hostWrite off v.toNat)) := by
  show execRegisterWrite off v s = _
  rw [execRegisterWrite, if_pos h]

/-! ### Plain offsets -/

/-- Native mode takes a write outside the XK2 image to a unit that both parts have. -/
theorem State.takesWrite_native {s : State} {off : Nat} (hn : s.native = true) (hoff : off < 0x20000 ∨ 0xFE000 ≤ off)
    (ha : absentOn632 off = false) : s.takesWrite off = true := by
  simpa [State.takesWrite, hn, ha] using hoff

/-- Both parts have the units at plain offsets, and the MSI-X table. -/
theorem absentOn632_plain {off : Nat} (h : plainOffset off ∨ 0xFE000 ≤ off) : absentOn632 off = false := by
  simp only [absentOn632, Bool.or_eq_false_iff, Bool.and_eq_false_iff, decide_eq_false_iff_not]
  omega

/-- A plain offset has no rule beyond the access codes. -/
theorem hostWrite_plain (s : State) {off : Nat} (v : Nat) (h : plainOffset off) : hostWrite off v s = s.writeFields off v := by
  unfold hostWrite nativeWrite
  rw [if_pos (by omega)]
  by_cases hp : off < 0x3000
  · simp (disch := omega) only [if_neg, if_pos]
  · simp (disch := omega) only [if_neg]

/-! ### The MSI-X table (R322, R462) -/

/-- The state in which a vector is unmasked and its message no longer waits. -/
def State.unmasked (s : State) (vec : Nat) : State :=
  { s with host := { s.host with
      msixTable := SMap.set (fun i => if i % 4 = 3 then 1 else 0) s.host.msixTable (4 * vec + 3) 0
      msixPending := s.host.msixPending.filter (· != vec) } }

theorem State.unmasked_vectorMasked (s : State) (vec : Nat) : (s.unmasked vec).host.vectorMasked vec = false := by
  simp [State.unmasked, HostUnit.vectorMasked, HostUnit.msixWord]

theorem State.unmasked_keeps (s : State) (vec : Nat) : Keeps [.host] [] s (s.unmasked vec) :=
  ⟨fun p hp => by cases p <;> simp_all [Piece.same, State.unmasked], fun _ _ => rfl⟩

/-- Unmasking a vector whose message waits sends it. -/
theorem msixWrite_unmask {s : State} {vec v : Nat} (hp : vec ∈ s.host.msixPending) (hv : v % 2 = 0) :
    msixWrite (4 * vec + 3) v s = (s.unmasked vec).message vec := by
  have h3 : (4 * vec + 3) % 4 = 3 := by omega
  have hd : (4 * vec + 3) / 4 = vec := by omega
  simp [msixWrite, State.when, State.unmasked, HostUnit.vectorMasked, HostUnit.msixWord, h3, hd, hv, hp]

/-- A vector that is not masked sends its message. -/
theorem State.out_message {s : State} {vec : Nat} (hn : s.native = true) (hm : s.host.vectorMasked vec = false) :
    (s.message vec).out = .msix vec :: s.out := by
  simp [State.message, State.msix, hn, hm]

/-- An unmasked vector's message leaves the rings and the MSI-X structures alone. -/
theorem State.host_message {s : State} {vec : Nat} (hm : s.host.vectorMasked vec = false) : (s.message vec).host = s.host := by
  simp [State.message, State.msix, hm]

/-- The vector control word of the MSI-X table goes to the table. -/
theorem hostWrite_vectorControl (s : State) {vec : Nat} (v : Nat) (h : vec < 64) :
    hostWrite (0xFE000 + 16 * vec + 12) v s = msixWrite (4 * vec + 3) v s := by
  have hi : (0xFE000 + 16 * vec + 12 - 0xFE000) / 4 = 4 * vec + 3 := by omega
  unfold hostWrite nativeWrite
  rw [if_pos (by omega)]
  simp (disch := omega) only [if_neg, if_pos, hi]

/-- A vector unmasked while its message waits sends it. -/
theorem completes_registerWrite_unmask {s : State} {vec : Nat} (v : Word) (hl : s.linkUp = true) (hn : s.native = true) (hv : vec < 64)
    (hmem : vec ∈ s.host.msixPending) (hbit : v.getLsbD 0 = false) :
    Completes (.registerWrite (0xFE000 + 16 * vec + 12) v) s fun t =>
      t.out = .msix vec :: s.access.out ∧ vec ∉ t.host.msixPending ∧ t.host.vectorMasked vec = false ∧
      Keeps [.host, .out, .counters] [ovf 1] s.access t := by
  have hm := s.access.unmasked_vectorMasked vec
  have hk : Keeps [.host, .out, .counters] [ovf 1] s.access ((s.access.unmasked vec).message vec) :=
    ((s.access.unmasked_keeps vec).trans (State.message_keeps _ vec)).mono (by simp) (by simp)
  have heven : v.toNat % 2 = 0 := by simpa [BitVec.getLsbD, Nat.testBit_zero] using hbit
  refine ⟨(s.access.unmasked vec).message vec, ?_, ?_, ?_, ?_, hk⟩
  · have ht := State.takesWrite_native (off := 0xFE000 + 16 * vec + 12) hn (by omega) (absentOn632_plain (by omega))
    rw [exec_registerWrite s v (by omega), State.bus_taken hl ht, hostWrite_vectorControl _ _ hv,
      msixWrite_unmask (by simpa using hmem) heven, answer_access]
    exact answer_of_pieces hk.pieces (by decide)
  · exact State.out_message (s.access_native.trans hn) hm
  · rw [State.host_message hm]
    simp [State.unmasked]
  · rw [State.host_message hm]
    exact hm

/-! ### Accesses that do nothing (R323) -/

/-- What a bad access leaves: the access and the error counted, and all ones to a reader. -/
theorem State.badAccess_of_linkUp {s : State} (w : Bool) (h : s.linkUp = true) :
    s.badAccess w = (s.access.count 0 7 1).when (!w) (·.emit (.read 0xFFFFFFFF)) := by
  simp [State.badAccess, State.when, h]

theorem State.badAccess_keeps (s : State) (w : Bool) :
    Keeps [.out, .counters] [ovf 0] s ((s.count 0 7 1).when (!w) (·.emit (.read 0xFFFFFFFF))) := by
  refine ((s.count_keeps 0 7 1).trans (State.when_keeps (ps := [.out]) (fs := []) _ _ _ fun _ => State.emit_keeps _ _)).mono ?_ ?_
  · simp
  · simp

/-! ### The console (R393, R394, R456) -/

/-- A console write the console may make. -/
theorem exec_consoleWrite_taken {s : State} {off : Nat} (v : Word) (hs : s.reg Reg.FLT_SVC_SESSION = 1) (he : s.consoleWriteEn = true)
    (hm : consoleMayWrite off = true) (ha : off % 4 = 0) :
    exec (.consoleWrite off v) s = answer s (consoleWriteOp off v.toNat (s.count 23 2 1)) := by
  show execConsoleWrite off v s = _
  simp [execConsoleWrite, State.flag, State.when, hs, he, hm, ha]

/-- A console write that is refused is counted. -/
theorem exec_consoleWrite_refused {s : State} {off : Nat} (v : Word) (hs : s.reg Reg.FLT_SVC_SESSION = 1)
    (h : s.consoleWriteEn = false ∨ consoleMayWrite off = false) :
    exec (.consoleWrite off v) s = answer s (((s.count 23 2 1).addReg Reg.FLT_SVC_REFUSED 1).count 21 7 1) := by
  show execConsoleWrite off v s = _
  rcases h with h | h <;> simp [execConsoleWrite, State.flag, State.when, hs, h]

/-- Without a session the console's writes do nothing. -/
theorem exec_consoleWrite_noSession {s : State} (off : Nat) (v : Word) (hs : s.reg Reg.FLT_SVC_SESSION = 0) :
    exec (.consoleWrite off v) s = .next s := by
  show execConsoleWrite off v s = _
  simp [execConsoleWrite, State.flag, State.when, hs, answer_self]

/-- A count leaves every field but its OVF bits alone. -/
theorem State.reg_count (s : State) (b n k : Nat) {f : Field} (h : (ovf b).key ≠ f.key) : (s.count b n k).reg f = s.reg f :=
  (s.count_keeps b n k).2 f (by simpa using h)

/-- The console's writes to FLT_CTL. -/
theorem completes_consoleWrite_fltCtl {s : State} (v : Word) (hs : s.reg Reg.FLT_SVC_SESSION = 1) (he : s.consoleWriteEn = true) :
    Completes (.consoleWrite 0x17000 v) s fun t => (∀ f ∈ Reg.fieldsAt 0x17000, t.reg f = written s v.toNat f) ∧
      Keeps [.counters] (ovf 23 :: Reg.fieldsAt 0x17000) s t := by
  have hp : plainOffset 0x17000 := by decide
  have hovf : ∀ f ∈ Reg.fieldsAt 0x17000, (ovf 23).key ≠ f.key := by decide +kernel
  have hk := (s.count_keeps 23 2 1).trans ((s.count 23 2 1).writeFields_keeps 0x17000 v.toNat)
  have hw : consoleWriteOp 0x17000 v.toNat (s.count 23 2 1) = (s.count 23 2 1).writeFields 0x17000 v.toNat :=
    (if_neg (by decide)).trans (hostWrite_plain _ _ hp)
  refine ⟨_, ?_, fun f hf => ?_, hk⟩
  · rw [exec_consoleWrite_taken v hs he (by decide) (by decide), hw]
    exact answer_of_pieces hk.pieces (by decide)
  · rw [State.reg_writeFields _ _ hp hf]
    exact written_congr _ (s.reg_count _ _ _ (hovf f hf))

/-- The console's own PMC_RD_SEL. -/
theorem completes_consoleWrite_rdSel {s : State} (v : Word) (hs : s.reg Reg.FLT_SVC_SESSION = 1) (he : s.consoleWriteEn = true) :
    Completes (.consoleWrite 0x19028 v) s fun t => t.obs.consoleSel = v ∧ Keeps [.counters, .consoleSel] [ovf 23] s t := by
  have hw : consoleWriteOp 0x19028 v.toNat (s.count 23 2 1) =
      { s.count 23 2 1 with obs := { (s.count 23 2 1).obs with consoleSel := v } } := by
    simp [consoleWriteOp]
  have hsel (t : State) : Keeps [.consoleSel] [] t { t with obs := { t.obs with consoleSel := v } } :=
    ⟨fun p hp => by cases p <;> simp_all [Piece.same], fun _ _ => rfl⟩
  have hk := (s.count_keeps 23 2 1).trans (hsel (s.count 23 2 1))
  refine ⟨_, ?_, rfl, hk⟩
  rw [exec_consoleWrite_taken v hs he (by decide) (by decide), hw]
  exact answer_of_pieces hk.pieces (by decide)

/-- A refused console write is counted in REFUSED. -/
theorem completes_consoleWrite_refused {s : State} {off : Nat} (v : Word) (hs : s.reg Reg.FLT_SVC_SESSION = 1)
    (h : s.consoleWriteEn = false ∨ consoleMayWrite off = false) : Completes (.consoleWrite off v) s fun t =>
      t.reg Reg.FLT_SVC_REFUSED = min 0xFFFF (s.reg Reg.FLT_SVC_REFUSED + 1) ∧
      Keeps [.counters] [Reg.FLT_SVC_REFUSED, ovf 21, ovf 23] s t := by
  have hk : Keeps [.counters] [Reg.FLT_SVC_REFUSED, ovf 21, ovf 23] s
      (((s.count 23 2 1).addReg Reg.FLT_SVC_REFUSED 1).count 21 7 1) :=
    (((s.count_keeps 23 2 1).trans (State.addReg_keeps _ _ _)).trans (State.count_keeps _ 21 7 1)).mono (by simp) (by simp)
  refine ⟨_, ?_, ?_, hk⟩
  · rw [exec_consoleWrite_refused v hs h]
    exact answer_of_pieces hk.pieces (by decide)
  · rw [State.reg_count _ _ _ _ (by decide), State.addReg, State.reg_setReg_same _ _ _ (by decide), s.reg_count _ _ _ (by decide)]
    simp only [Reg.FLT_SVC_REFUSED]
    omega

/-! ### The statement -/

/-- Settles O23: a write that is taken is `writeFields` after the access, and each clause follows from the frame of what it does. -/
theorem registerWrites : Obligations.RegisterWrites := by
  refine ⟨fun s off v hl hn hp => ?_, fun s off v hl ha ht => ?_, fun s vec v hl hn hv hmem hbit => ?_, fun s w hl => ?_,
    fun s off v hl ha => ?_, fun s v hs he => ⟨completes_consoleWrite_fltCtl v hs he, completes_consoleWrite_rdSel v hs he⟩,
    fun s off v hs h => completes_consoleWrite_refused v hs h, fun s off v hs => exec_consoleWrite_noSession off v hs⟩
  · have hk := s.access.writeFields_keeps off v.toNat
    refine ⟨_, ?_, fun f hf => s.access.reg_writeFields v.toNat hp hf, hk⟩
    have ht := State.takesWrite_native hn (by omega) (absentOn632_plain (.inl hp))
    rw [exec_registerWrite s v hp.1, State.bus_taken hl ht, hostWrite_plain _ _ hp, answer_access]
    exact answer_of_pieces hk.pieces (by decide)
  · refine ⟨_, ?_, Keeps.refl _ _ _⟩
    rw [exec_registerWrite s v ha, State.bus_not_taken hl ht, answer_access, answer_self]
  · exact completes_registerWrite_unmask v hl hn hv hmem hbit
  · refine ⟨_, ?_, ?_, ?_, s.access.badAccess_keeps w⟩
    · show answer s (s.badAccess w) = _
      rw [State.badAccess_of_linkUp w hl, answer_access]
      exact answer_of_pieces (s.access.badAccess_keeps w).pieces (by decide)
    · cases w <;> rfl
    · cases w <;> rfl
  · show exec (.registerWrite off v) s = .next s
    rw [exec_registerWrite s v ha, State.bus_down off hl, answer_self]

end Sys2Proof.Machine
end

section
/-! SUPPORT. Bound stripes and staged packages by their id: a read after a change gives the change. -/
namespace Sys2Proof.Machine

open Sys2Proof

/-! ### Stripes -/

/-- A stripe reads by its id as it was changed. -/
theorem State.stripe?_onStripe (s : State) (id : Nat) {f : Stripe → Stripe} (hf : ∀ q, (f q).par = q.par) :
    (s.onStripe id f).stripe? id = (s.stripe? id).map f := by
  have hkey : ((fun p : Stripe => p.par.id == id) ∘ fun p => if p.par.id == id then f p else p) = fun p => p.par.id == id := by
    funext p
    by_cases h : p.par.id = id <;> simp [h, hf]
  rw [State.stripe?, State.onStripe, List.find?_map, hkey, ← State.stripe?]
  cases h : s.stripe? id with
  | none => rfl
  | some p => simpa using fun hne => absurd (by simpa using List.find?_some h) hne

/-- What holds of a stripe's change holds once it is changed. -/
theorem Now.onStripe {s : State} {id : Nat} {f : Stripe → Stripe} {P : Stripe → Prop} (h : Now s id fun q => P (f q))
    (hf : ∀ q, (f q).par = q.par) : Now (s.onStripe id f) id P := by
  obtain ⟨q, hq, hP⟩ := h
  exact ⟨f q, by rw [State.stripe?_onStripe _ _ hf, hq, Option.map_some], hP⟩

theorem Now.imp {s : State} {id : Nat} {P Q : Stripe → Prop} (h : Now s id P) (hPQ : ∀ q, P q → Q q) : Now s id Q := by
  obtain ⟨q, hq, hP⟩ := h
  exact ⟨q, hq, hPQ q hP⟩

theorem Now.congr {s t : State} {id : Nat} {P : Stripe → Prop} (h : Now s id P) (ht : t.stripes = s.stripes) : Now t id P := by
  simpa only [Now, State.stripe?, ht] using h

/-- The stripe in motion, after a change that leaves each stripe's state alone. -/
theorem State.active?_onStripe (s : State) (id : Nat) {f : Stripe → Stripe} (hf : ∀ q, (f q).state = q.state) :
    (s.onStripe id f).active? = s.active?.map fun p => if p.par.id == id then f p else p := by
  have hkey : ((fun p : Stripe => p.state.moving) ∘ fun p => if p.par.id == id then f p else p) = fun p => p.state.moving := by
    funext p
    by_cases h : p.par.id = id <;> simp [h, hf]
  rw [State.active?, State.onStripe, List.find?_map, hkey, ← State.active?]

/-! ### Packages -/

/-- A package reads by its id as it was changed. -/
theorem State.package?_onPackage (s : State) (id : Nat) {f : Package → Package} (hf : ∀ k, (f k).stripe = k.stripe) :
    (s.onPackage id f).package? id = (s.package? id).map f := by
  have hkey : ((fun k : Package => k.stripe == id) ∘ fun k => if k.stripe == id then f k else k) = fun k => k.stripe == id := by
    funext k
    by_cases h : k.stripe = id <;> simp [h, hf]
  rw [State.package?, State.onPackage, List.find?_map, hkey, ← State.package?]
  cases h : s.package? id with
  | none => rfl
  | some k => simpa using fun hne => absurd (by simpa using List.find?_some h) hne

theorem State.package?_congr {s t : State} (h : t.packages = s.packages) (id : Nat) : t.package? id = s.package? id := by
  simp only [State.package?, h]

/-- A package is found under its own stripe's id. -/
theorem State.stripe_of_package? {s : State} {id : Nat} {k : Package} (h : s.package? id = some k) : k.stripe = id := by
  simpa using List.find?_some h

/-- A tile reads as it was changed. -/
@[simp] theorem Package.tile_onTile_same (k : Package) (col row : Nat) (f : Tile → Tile) :
    (k.onTile col row f).tile col row = f (k.tile col row) := by simp [Package.tile, Package.onTile]

/-- The package of a stripe is staged, and its tile has the property. -/
def State.TileIs (s : State) (id col row : Nat) (P : Tile → Prop) : Prop := ∃ k, s.package? id = some k ∧ P (k.tile col row)

theorem State.TileIs.imp {s : State} {id col row : Nat} {P Q : Tile → Prop} (h : s.TileIs id col row P) (hPQ : ∀ x, P x → Q x) :
    s.TileIs id col row Q := Exists.imp (fun _ ⟨hk, hP⟩ => ⟨hk, hPQ _ hP⟩) h

/-- What holds of a tile's change holds once it is changed. -/
theorem State.TileIs.onTile {s : State} {id col row : Nat} {P : Tile → Prop} {f : Tile → Tile}
    (h : s.TileIs id col row fun x => P (f x)) : (s.onPackage id fun k => k.onTile col row f).TileIs id col row P := by
  obtain ⟨k, hk, hP⟩ := h
  refine ⟨k.onTile col row f, ?_, by rwa [Package.tile_onTile_same]⟩
  rw [State.package?_onPackage (f := fun k => k.onTile col row f) _ _ fun _ => rfl, hk, Option.map_some]

theorem State.TileIs.congr {s t : State} {id col row : Nat} {P : Tile → Prop} (h : s.TileIs id col row P)
    (ht : t.packages = s.packages) : t.TileIs id col row P := by simpa only [TileIs, State.package?_congr ht] using h

theorem State.TileIs.withShadows {s : State} {id col row : Nat} {P : Tile → Prop} (h : s.TileIs id col row P) (l : List Shadow) :
    State.TileIs { s with shadows := l } id col row P := h.congr rfl

end Sys2Proof.Machine
end

section
/-! SUPPORT. Placing a tile again (R131 to R135, R138): its comparisons are dropped, its epoch rises, and nothing of it is held. -/
namespace Sys2Proof.Machine

open Sys2Proof

/-! ### Frames -/

/-- What booking and freeing engines may change beside register fields. -/
def enginePieces : List Piece := [.slices, .counters, .slots]

/-- What dropping a comparison may change beside register fields. -/
def dropPieces : List Piece := [.slices, .counters, .slots, .shadows, .packages]

theorem State.onEngine_pieces (s : State) (i e : Nat) (f : Engine → Engine) : KeepsPieces enginePieces s (s.onEngine i e f) :=
  fun p hp => by cases p <;> simp_all [enginePieces, Piece.same, State.onEngine]

theorem State.bookSlots_pieces (s : State) (e cls n : Nat) : KeepsPieces enginePieces s (s.bookSlots e cls n) :=
  fun p hp => by cases p <;> simp_all [enginePieces, Piece.same, State.bookSlots]

theorem State.onPackage_pieces (s : State) (id : Nat) (f : Package → Package) : KeepsPieces [.packages] s (s.onPackage id f) :=
  fun p hp => by cases p <;> simp_all [Piece.same]

theorem State.wasteJob_pieces (s : State) (i e : Nat) : KeepsPieces enginePieces s (s.wasteJob i e) := by
  unfold State.wasteJob
  split
  · exact ((s.onEngine_pieces i e _).trans (State.bookSlots_pieces _ _ _ _)).trans
      ((State.count_keeps _ _ _ _).pieces.mono (by simp [enginePieces]))
  · exact KeepsPieces.refl _ s

theorem State.freeShadow_pieces (s : State) (h : Shadow) : KeepsPieces enginePieces s (s.freeShadow h) := by
  refine (KeepsPieces.refl _ s).forAll _ fun x u => ?_
  split
  · split
    · exact u.wasteJob_pieces _ _
    · exact KeepsPieces.refl _ u
  · exact KeepsPieces.refl _ u

theorem State.endShadow_pieces (s : State) (h : Shadow) : KeepsPieces dropPieces s (s.endShadow h) := by
  have hfree : KeepsPieces dropPieces s (s.freeShadow h) := (s.freeShadow_pieces h).mono (by simp [enginePieces, dropPieces])
  have hlist (t : State) (l : List Shadow) : KeepsPieces dropPieces t { t with shadows := l } :=
    fun p hp => by cases p <;> simp_all [dropPieces, Piece.same]
  exact (hfree.trans (hlist _ _)).trans ((State.onPackage_pieces _ _ _).mono (by simp [dropPieces]))

theorem State.dropShadow_pieces (s : State) (h : Shadow) : KeepsPieces dropPieces s (s.dropShadow h) :=
  ((s.endShadow_pieces h).trans ((State.addReg_keeps _ _ _).pieces.mono (by simp))).trans
    ((State.onPackage_pieces _ _ _).mono (by simp [dropPieces]))

theorem State.dropShadowsOf_pieces (s : State) (stripe col row : Nat) : KeepsPieces dropPieces s (s.dropShadowsOf stripe col row) :=
  (KeepsPieces.refl _ s).forAll _ fun h u => u.dropShadow_pieces h

/-! ### The tile -/

/-- What each of a list's deeds keeps, all of them together keep. -/
theorem State.forAll_induction {α : Type} {P : State → Prop} {s : State} (l : List α) {f : α → State → State} (hs : P s)
    (hf : ∀ a ∈ l, ∀ u, P u → P (f a u)) : P (s.forAll l f) := by
  unfold State.forAll
  induction l generalizing s with
  | nil => exact hs
  | cons a l ih => exact ih (hf a (by simp) s hs) fun b hb => hf b (by simp [hb])

/-- A dropped comparison changes only whether its tile is held or sampled. -/
theorem State.TileIs.dropShadow {s : State} {h : Shadow} {P : Tile → Prop} (hs : s.TileIs h.stripe h.col h.row P)
    (hhold : ∀ x, P x → P { x with hold := false }) (hsampled : ∀ x, P x → P { x with sampled := false }) :
    (s.dropShadow h).TileIs h.stripe h.col h.row P := by
  have hfree : (s.freeShadow h).TileIs h.stripe h.col h.row fun x => P { x with hold := false } :=
    (hs.congr (s.freeShadow_pieces h .packages (by decide))).imp hhold
  have hend : (s.endShadow h).TileIs h.stripe h.col h.row fun x => P { x with sampled := false } :=
    (hfree.withShadows _).onTile.imp hsampled
  exact (hend.congr (State.addReg_packages _ _ _)).onTile

/-- Dropping a tile's comparisons changes only whether it is held or sampled. -/
theorem State.TileIs.dropShadowsOf {s : State} {stripe col row : Nat} {P : Tile → Prop} (hs : s.TileIs stripe col row P)
    (hhold : ∀ x, P x → P { x with hold := false }) (hsampled : ∀ x, P x → P { x with sampled := false }) :
    (s.dropShadowsOf stripe col row).TileIs stripe col row P := by
  refine State.forAll_induction (P := fun u => u.TileIs stripe col row P) _ hs fun h hh u hu => ?_
  obtain ⟨⟨rfl, rfl⟩, rfl⟩ : (h.stripe = stripe ∧ h.col = col) ∧ h.row = row := by
    simpa [Shadow.isOf] using (List.mem_filter.mp hh).2
  exact hu.dropShadow hhold hsampled

/-- A tile with its epoch raised and nothing of it held (R131). -/
def Tile.raised (t : Tile) : Tile :=
  { t with epoch := t.epoch + 1, placed := false, cached := false, empty := [], blocks := [], direct := [] }

/-- An uncommitted tile below epoch 511 is placed again. -/
theorem State.replaceTile_raised {s : State} {stripe col row : Nat} (i : Nat)
    (h : s.TileIs stripe col row fun x => x.committed = false ∧ x.epoch ≠ 511) : s.replaceTile i stripe col row =
      ((s.dropShadowsOf stripe col row).onPackage stripe fun k => k.onTile col row Tile.raised).count (8 + i) 3 1 := by
  obtain ⟨k, hk, hc, he⟩ := h
  simp only [State.replaceTile, hk, hc, if_neg he, Bool.false_eq_true, if_false]
  rfl

/-- The frame of placing a tile again. -/
theorem State.replaceTile_pieces {s : State} {stripe col row : Nat} (i : Nat)
    (h : s.TileIs stripe col row fun x => x.committed = false ∧ x.epoch ≠ 511) :
    KeepsPieces dropPieces s (s.replaceTile i stripe col row) := by
  rw [State.replaceTile_raised i h]
  exact ((s.dropShadowsOf_pieces stripe col row).trans ((State.onPackage_pieces _ _ _).mono (by simp [dropPieces]))).trans
    ((State.count_keeps _ _ _ _).pieces.mono (by simp [dropPieces]))

/-- The tile that is placed again. -/
theorem State.TileIs.replaceTile {s : State} {stripe col row e : Nat} {b : Bool} (i : Nat) (he : e ≠ 511)
    (h : s.TileIs stripe col row fun x => x.committed = false ∧ x.epoch = e ∧ x.redo = b) :
    (s.replaceTile i stripe col row).TileIs stripe col row fun x =>
      x.epoch = e + 1 ∧ x.redo = b ∧ x.blocks = [] ∧ x.cached = false := by
  rw [State.replaceTile_raised i (h.imp fun x ⟨hc, hepoch, _⟩ => ⟨hc, hepoch ▸ he⟩)]
  refine State.TileIs.congr (State.TileIs.onTile ?_) rfl
  exact (h.dropShadowsOf (fun _ hx => hx) fun _ hx => hx).imp fun x ⟨_, hepoch, hredo⟩ => by
    simp [Tile.raised, hepoch, hredo]

end Sys2Proof.Machine
end

section
/-! SUPPORT. The window filler (R30, R44, R111, R130, R154, R157, R162, R375). -/
namespace Sys2Proof.Machine

open Sys2Proof

/-! ### The window -/

/-- A table written at distinct keys, one after another, reads at each of them as it was written. -/
theorem SMap.get_foldl_set {α β : Type} [DecidableEq β] (d : Nat → β) (m : SMap β) (l : List α) (key : α → Nat) (val : α → β)
    {n : α} (hn : n ∈ l) (hkey : ∀ i ∈ l, key i = key n → i = n) :
    SMap.get d (l.foldl (fun m i => SMap.set d m (key i) (val i)) m) (key n) = val n := by
  induction l using List.reverseRecOn with
  | nil => simp at hn
  | append_singleton l a ih =>
    rw [List.foldl_append, List.foldl_cons, List.foldl_nil]
    by_cases h : key a = key n
    · rw [hkey a (by simp) h, SMap.get_set_same]
    · have hl : n ∈ l := (List.mem_append.mp hn).resolve_right fun hm => h (by rw [List.mem_singleton.mp hm])
      rw [SMap.get_set_ne _ _ _ _ _ _ (Ne.symm h), ih hl fun i hi => hkey i (by simp [hi])]

/-- The pixels of a tile have keys of their own. -/
theorem pixelKey_tile_injective {col row i n : Nat}
    (h : pixelKey (256 * col + i % 256) (256 * row + i / 256) = pixelKey (256 * col + n % 256) (256 * row + n / 256)) : i = n := by
  unfold pixelKey at h
  omega

/-- The row of a key in the stripe. -/
theorem pixelKey_div {x : Nat} (y : Nat) (hx : x < 4096) : pixelKey x y / 4096 = y := by
  unfold pixelKey
  omega

/-- Filling a tile's rows writes each pixel's share of its clamped target (R154, R157). -/
theorem Stripe.window_fillRows (p : Stripe) (k : Package) (col row : Nat) {n : Nat} (hn : n < tilePixels p.par.len row) :
    SMap.get (fun _ => 0) (p.fillRows k col row).window (pixelKey (256 * col + n % 256) (256 * row + n / 256)) =
      p.par.share (256 * col + n % 256) (clampTarget (k.pixelTarget p.grid (k.planes col row) col row n)) :=
  SMap.get_foldl_set _ _ _ (fun i => pixelKey (256 * col + i % 256) (256 * row + i / 256)) _ (List.mem_range.mpr hn)
    fun _ _ h => pixelKey_tile_injective h

/-! ### The filling begins (R30, R162) -/

/-- A stripe whose filling begins with these residues and loaded bands. -/
def Stripe.started (start : SMap Int × List Bool) (q : Stripe) : Stripe :=
  { q with
    begun := true, residues := start.1, bandLoaded := start.2
    bandMissing := [q.par.left == .close && !start.2.getD 0 false, q.par.right == .close && !start.2.getD 1 false] }

/-- The run is the first that a stripe is filled for. -/
def Stripe.firstFill (p : Stripe) (r : Run) : Prop := p.begun = false ∧ r.kind = .pass ∧ r.index = 0

theorem State.beginFill_first {p : Stripe} {r : Run} (s : State) (h : p.firstFill r) : s.beginFill p r =
    (s.onStripe p.par.id (Stripe.started (s.startResidues p.par))).setReg Reg.DCU_SAT_T_CLAMP 0 := by
  obtain ⟨hb, hk, hi⟩ := h
  simp only [State.beginFill, State.when, hb, hk, hi]
  rfl

theorem State.beginFill_later {p : Stripe} {r : Run} (s : State) (h : ¬ p.firstFill r) : s.beginFill p r = s := by
  simp only [Stripe.firstFill] at h
  exact if_neg (by simpa using h)

theorem State.onStripe_keeps (s : State) (id : Nat) (f : Stripe → Stripe) : Keeps [.stripes] [] s (s.onStripe id f) :=
  ⟨fun p hp => by cases p <;> simp_all [Piece.same], fun _ _ => rfl⟩

theorem State.beginFill_keeps (s : State) (p : Stripe) (r : Run) :
    Keeps [.stripes] (if p.begun then [] else [Reg.DCU_SAT_T_CLAMP]) s (s.beginFill p r) := by
  by_cases h : p.firstFill r
  · rw [s.beginFill_first h, h.1]
    exact (s.onStripe_keeps _ _).trans (State.setReg_keeps _ _ _)
  · rw [s.beginFill_later h]
    exact Keeps.refl _ _ s

/-- Whatever a stripe and its started form both have, it has once the filler has begun. -/
theorem Now.beginFill {s : State} {p : Stripe} {r : Run} {P : Stripe → Prop} (hp : s.stripe? p.par.id = some p) (h : P p)
    (hstart : P p → P (p.started (s.startResidues p.par))) : Now (s.beginFill p r) p.par.id P := by
  by_cases hf : p.firstFill r
  · rw [s.beginFill_first hf]
    exact Now.congr (Now.onStripe ⟨p, hp, hstart h⟩ fun _ => rfl) rfl
  · rw [s.beginFill_later hf]
    exact ⟨p, hp, h⟩

/-! ### No XK2 stripe moves -/

/-- A stripe in motion, if there is one, is not an XK2 stripe. -/
def State.NativeMoves (s : State) : Prop := ∀ q, s.active? = some q → q.xk2 = false

theorem State.NativeMoves.congr {s t : State} (h : s.NativeMoves) (ht : t.stripes = s.stripes) : t.NativeMoves := by
  simpa only [State.NativeMoves, State.active?, ht] using h

theorem State.NativeMoves.onStripe {s : State} (h : s.NativeMoves) (id : Nat) {f : Stripe → Stripe} (hs : ∀ q, (f q).state = q.state)
    (hx : ∀ q, (f q).xk2 = q.xk2) : (s.onStripe id f).NativeMoves := by
  intro q hq
  rw [State.active?_onStripe _ _ hs, Option.map_eq_some_iff] at hq
  obtain ⟨p, hp, rfl⟩ := hq
  split
  · exact (hx p).trans (h p hp)
  · exact h p hp

theorem State.NativeMoves.beginFill {s : State} (h : s.NativeMoves) (p : Stripe) (r : Run) : (s.beginFill p r).NativeMoves := by
  by_cases hf : p.firstFill r
  · rw [s.beginFill_first hf]
    exact (h.onStripe p.par.id (f := Stripe.started (s.startResidues p.par)) (fun _ => rfl) fun _ => rfl).congr rfl
  · rwa [s.beginFill_later hf]

/-- The stripe that is filled is the one in motion, where one moves. -/
theorem State.nativeMoves_of_filling {s : State} {p : Stripe} (hf : s.filling = some p) (hx : p.xk2 = false) : s.NativeMoves := by
  intro q hq
  simp only [State.filling, hq, Option.ite_none_left_eq_some, Option.some.injEq] at hf
  exact hf.2 ▸ hx

/-- What follows the filler's work: DATA_LATE of the stripe in motion (R273). -/
def State.lateAfterFill (t : State) : State :=
  match t.active?.bind fun q => q.run.map fun k => (q, k) with
  | some (q, k) => t.dataLate q k
  | none => t

/-- DATA_LATE stays as it is unless an XK2 stripe moves. -/
theorem State.lateAfterFill_of_nativeMoves {t : State} (h : t.NativeMoves) : t.lateAfterFill = t := by
  unfold State.lateAfterFill
  split
  case h_1 q k hq =>
    obtain ⟨p, hp, hk⟩ := Option.bind_eq_some_iff.mp hq
    obtain ⟨_, _, hpq⟩ := Option.map_eq_some_iff.mp hk
    obtain ⟨rfl, -⟩ := Prod.mk.inj hpq
    simp [State.dataLate, State.when, h p hp]
  case h_2 => rfl

/-! ### The command (R111, R130) -/

/-- A native stripe whose package is staged is filled, and the filler may work on a sector's next row. -/
structure State.Fills (s : State) (sector : Fin 4) (p : Stripe) (r : Run) (k : Package) (row : Nat) : Prop where
  filling : s.filling = some p
  stripe : s.stripe? p.par.id = some p
  run : p.run = some r
  package : s.package? p.par.id = some k
  clocked : s.clocked = true
  native : p.xk2 = false
  next : ((vget p.fill sector (-1) + 1) / 256).toNat = row
  mayFill : p.mayFill r sector row = true

/-- What the filler's work on a sector may change beside register fields. -/
def fillPieces : List Piece := .stripes :: dropPieces

theorem State.beginFill_pieces (s : State) (p : Stripe) (r : Run) : KeepsPieces fillPieces s (s.beginFill p r) :=
  (s.beginFill_keeps p r).pieces.mono (by simp [fillPieces])

section
variable {s : State} {sector : Fin 4} {p : Stripe} {r : Run} {k : Package} {row : Nat}

/-- The filler's work is all that the command does where no XK2 stripe moves after it. -/
theorem State.Fills.exec_tileCommit (h : s.Fills sector p r k row) {t : State}
    (ht : (s.beginFill p r).fillSector p r sector row = t) (hx : t.NativeMoves) (hk : KeepsPieces fillPieces s t) :
    exec (.tileCommit sector) s = .next t := by
  have hexec : exec (.tileCommit sector) s = answer s t.lateAfterFill := by
    show execTileCommit sector s = _
    simp only [execTileCommit, h.filling, h.run, h.next, State.when, h.clocked, h.mayFill, ← ht]
    rfl
  rw [hexec, State.lateAfterFill_of_nativeMoves hx]
  exact answer_of_pieces hk (by decide)

theorem State.Fills.nativeMoves (h : s.Fills sector p r k row) : (s.beginFill p r).NativeMoves :=
  (State.nativeMoves_of_filling h.filling h.native).beginFill p r

theorem State.Fills.package_begun (h : s.Fills sector p r k row) : (s.beginFill p r).package? p.par.id = some k := by
  rw [State.package?_congr ((s.beginFill_keeps p r).1 .packages (by decide)), h.package]

end

theorem State.fillSector_tile {t : State} {p : Stripe} {r : Run} {k : Package} (sector row : Nat) (hr : r.repair = false)
    (hk : t.package? p.par.id = some k) : t.fillSector p r sector row = t.fillNext p k r sector row := by
  simp [State.fillSector, State.whenSome, hr, hk]

/-! ### A row is filled (R43, R44) -/

/-- A stripe with a sector's row filled, and the rows below the live ones retired. -/
def Stripe.rowFilled (p : Stripe) (r : Run) (sector row : Nat) (q : Stripe) : Stripe :=
  { q with
    fill := vmod q.fill sector fun _ => (256 * (row + 1) - 1 : Int)
    window := SMap.restrict (fun k => decide (p.par.k * r.ahead ≤ k / 4096 + 4095)) q.window
    filledMax := if r.repair || r.index != 0 then q.filledMax
      else vmod q.filledMax sector fun f => max f (256 * (row + 1) - 1 : Int) }

theorem State.rowFilled_eq (s : State) (p : Stripe) (r : Run) (sector row : Nat) :
    s.rowFilled p r sector row = s.onStripe p.par.id (p.rowFilled r sector row) := rfl

theorem Stripe.fill_rowFilled (p q : Stripe) (r : Run) (sector : Fin 4) (row : Nat) :
    vget (p.rowFilled r sector row q).fill sector (-1) = 256 * (row + 1 : Nat) - 1 := by
  simp [Stripe.rowFilled, vget_vmod_same]

/-- A row that still reaches the live ones stays in the window. -/
theorem Stripe.window_rowFilled (p q : Stripe) (r : Run) (sector row : Nat) {x y : Nat} (hx : x < 4096)
    (hy : p.par.k * r.ahead ≤ y + 4095) : SMap.get (fun _ => 0) (p.rowFilled r sector row q).window (pixelKey x y) =
      SMap.get (fun _ => 0) q.window (pixelKey x y) := by
  simp [Stripe.rowFilled, SMap.get_restrict, pixelKey_div y hx, hy]

theorem State.NativeMoves.rowFilled {s : State} (h : s.NativeMoves) (p : Stripe) (r : Run) (sector row : Nat) :
    (s.rowFilled p r sector row).NativeMoves := h.onStripe _ (fun _ => rfl) fun _ => rfl

theorem State.rowFilled_pieces (s : State) (p : Stripe) (r : Run) (sector row : Nat) :
    KeepsPieces fillPieces s (s.rowFilled p r sector row) := (s.onStripe_keeps _ _).pieces.mono (by simp [fillPieces])

/-- After a tile its row is filled, or waits for another. -/
theorem State.rowDone_induction {P : State → Prop} {s : State} {p : Stripe} {r : Run} {sector row : Nat} (hs : P s)
    (hrow : P (s.rowFilled p r sector row)) : P (s.rowDone p r sector row) := by
  unfold State.rowDone State.when
  split
  · split
    · exact hrow
    · exact hs
  · exact hs

/-- With no tile of the row left, the sector's work is to pass the row. -/
theorem State.fillSector_none {t : State} {p : Stripe} {r : Run} {k : Package} {sector row : Nat} (hk : t.package? p.par.id = some k)
    (hn : k.nextCommit sector row = none) : t.fillSector p r sector row = t.rowFilled p r sector row := by
  cases hr : r.repair
  · rw [State.fillSector_tile sector row hr hk, State.fillNext, hn]
  · simp [State.fillSector, hr]

/-- With no tile of the row left, the fill mark passes the row, and a first filling begins. -/
theorem State.Fills.completes_rowFilled {s : State} {sector : Fin 4} {p : Stripe} {r : Run} {k : Package} {row : Nat}
    (h : s.Fills sector p r k row) (hn : k.nextCommit sector row = none) :
    Completes (.tileCommit sector) s fun t =>
      Now t p.par.id (fun q => vget q.fill sector (-1) = 256 * (row + 1 : Nat) - 1 ∧
        (p.begun = false → r.kind = .pass → r.index = 0 → q.begun = true ∧ q.residues = (s.startResidues p.par).1 ∧
          q.bandLoaded = (s.startResidues p.par).2)) ∧
      (p.begun = false → r.kind = .pass → r.index = 0 → t.reg Reg.DCU_SAT_T_CLAMP = 0) ∧
      Keeps [.stripes] (if p.begun then [] else [Reg.DCU_SAT_T_CLAMP]) s t := by
  have hkeeps : Keeps [.stripes] (if p.begun then [] else [Reg.DCU_SAT_T_CLAMP]) s
      ((s.beginFill p r).rowFilled p r sector row) :=
    ((s.beginFill_keeps p r).trans (State.onStripe_keeps _ _ _)).mono (by simp) (by simp)
  refine ⟨_, h.exec_tileCommit (State.fillSector_none h.package_begun hn) (h.nativeMoves.rowFilled _ _ _ _)
    (hkeeps.pieces.mono (by simp [fillPieces])), ?_, fun hb hk hi => ?_, hkeeps⟩
  · rw [State.rowFilled_eq]
    refine Now.onStripe ?_ fun _ => rfl
    by_cases hf : p.firstFill r
    · rw [s.beginFill_first hf]
      exact Now.congr (Now.onStripe (f := Stripe.started (s.startResidues p.par))
        ⟨p, h.stripe, p.fill_rowFilled _ r sector _, fun _ _ _ => ⟨rfl, rfl, rfl⟩⟩ fun _ => rfl) rfl
    · rw [s.beginFill_later hf]
      exact ⟨p, h.stripe, p.fill_rowFilled _ r sector _, fun hb hk hi => absurd ⟨hb, hk, hi⟩ hf⟩
  · rw [State.rowFilled_eq, State.reg_onStripe, s.beginFill_first ⟨hb, hk, hi⟩, State.reg_setReg_same _ _ _ (by decide)]
    simp

/-! ### A tile waits, is committed, or fails (R111, R130, R375) -/

theorem Package.nextCommit_spec {k : Package} {sector row col : Nat} (h : k.nextCommit sector row = some col) :
    (k.tile col row).committed = false ∧ col < 4 * sector + 4 := by
  unfold Package.nextCommit at h
  have hc := List.find?_some h
  obtain ⟨i, hi, rfl⟩ := List.mem_map.mp (List.mem_of_find?_eq_some h)
  have := List.mem_range.mp hi
  simp only [Bool.and_eq_true, Bool.not_eq_true'] at hc
  exact ⟨hc.2, by omega⟩

section
variable {p : Stripe} {r : Run} {k : Package} {sector row col : Nat}

theorem State.fillNext_waits (t : State) (hn : k.nextCommit sector row = some col)
    (hw : (k.tile col row).hold = true ∨ (k.tile col row).ready (setOf k.sets col row) = false) : t.fillNext p k r sector row = t := by
  rcases hw with hw | hw <;> simp [State.fillNext, hn, hw]

theorem State.fillNext_commits (t : State) (hn : k.nextCommit sector row = some col) (hh : (k.tile col row).hold = false)
    (hr : (k.tile col row).ready (setOf k.sets col row) = true) (hf : k.tileFails col row = false) :
    t.fillNext p k r sector row = (t.commitTile p k r col row sector).rowDone p r sector row := by
  simp [State.fillNext, hn, hh, hr, hf]

/-- A tile that must be rasterized again (R111). -/
def Tile.toRedo (t : Tile) : Tile := { t with redo := true }

/-- A failed tile is counted, and marked for the pass that needs it. -/
def State.markRedo (s : State) (id col row : Nat) : State :=
  (s.count 19 3 1).onPackage id fun k => k.onTile col row Tile.toRedo

theorem State.markRedo_pieces (s : State) (id col row : Nat) : KeepsPieces dropPieces s (s.markRedo id col row) :=
  ((s.count_keeps _ _ _).pieces.mono (by simp [dropPieces])).trans ((State.onPackage_pieces _ _ _).mono (by simp [dropPieces]))

theorem State.TileIs.markRedo {s : State} {id : Nat} {P : Tile → Prop} (h : s.TileIs id col row fun x => P x.toRedo) :
    (s.markRedo id col row).TileIs id col row P := State.TileIs.onTile (h.congr rfl)

theorem State.fillNext_fails (t : State) (hn : k.nextCommit sector row = some col) (hh : (k.tile col row).hold = false)
    (hr : (k.tile col row).ready (setOf k.sets col row) = true) (hf : k.tileFails col row = true) :
    ∃ slice, t.fillNext p k r sector row = (t.markRedo k.stripe col row).replaceTile slice k.stripe col row :=
  ⟨_, by simp only [State.fillNext, hn, hh, hr, hf]; rfl⟩

/-- A tile whose planes the filler has taken (R130). -/
def Tile.taken (t : Tile) : Tile := { t with committed := true, everCommitted := true, redo := false, direct := [] }

theorem State.commitTile_stripes (s : State) : (s.commitTile p k r col row sector).stripes =
    (s.onStripe p.par.id fun q => q.fillRows k col row).stripes := by
  unfold State.commitTile State.when
  dsimp only
  split <;> split <;> rfl

theorem State.commitTile_packages (s : State) : (s.commitTile p k r col row sector).packages =
    (s.onPackage k.stripe fun k => k.onTile col row Tile.taken).packages := by
  unfold State.commitTile State.when
  dsimp only
  split <;> split <;> rfl

theorem State.NativeMoves.commitTile {s : State} (h : s.NativeMoves) : (s.commitTile p k r col row sector).NativeMoves :=
  (h.onStripe p.par.id (f := fun q => q.fillRows k col row) (fun _ => rfl) fun _ => rfl).congr s.commitTile_stripes

theorem State.TileIs.commitTile {s : State} {P : Tile → Prop} (h : s.TileIs k.stripe col row fun x => P x.taken) :
    (s.commitTile p k r col row sector).TileIs k.stripe col row P := h.onTile.congr s.commitTile_packages

theorem State.commitTile_pieces (s : State) : KeepsPieces fillPieces s (s.commitTile p k r col row sector) := by
  have hcount (b n m : Nat) (t : State) : KeepsPieces fillPieces t (t.count b n m) :=
    (t.count_keeps b n m).pieces.mono (by simp [fillPieces, dropPieces])
  have htaken := ((s.onStripe_keeps p.par.id fun q => q.fillRows k col row).pieces.mono (ps' := fillPieces) (by simp [fillPieces])).trans
    ((State.onPackage_pieces _ k.stripe fun k => k.onTile col row Tile.taken).mono (by simp [fillPieces, dropPieces]))
  exact ((((htaken.trans (hcount _ _ _ _)).when _ fun u => hcount _ _ _ u).trans (hcount _ _ _ _)).when _
    fun u => (u.addReg_keeps _ _).pieces.mono (by simp))

end

section
variable {s : State} {sector : Fin 4} {p : Stripe} {r : Run} {k : Package} {row col : Nat}

/-- A tile held for its comparison, or without its planes, is not committed. -/
theorem State.Fills.ignored_waits (h : s.Fills sector p r k row) (hr : r.repair = false)
    (hn : k.nextCommit sector row = some col) (hb : p.begun = true)
    (hw : (k.tile col row).hold = true ∨ (k.tile col row).ready (setOf k.sets col row) = false) :
    Ignored (.tileCommit sector) s := by
  have hbegun : s.beginFill p r = s := s.beginFill_later fun hf => by simp [hf.1] at hb
  refine h.exec_tileCommit ?_ (State.nativeMoves_of_filling h.filling h.native) (KeepsPieces.refl _ s)
  rw [hbegun, State.fillSector_tile _ _ hr h.package, State.fillNext_waits _ hn hw]

/-- The stripe's rows of the tile in the window: each pixel's share of its clamped target. -/
def Stripe.tileShown (p q : Stripe) (k : Package) (col row : Nat) : Prop :=
  ∀ n < tilePixels p.par.len row, SMap.get (fun _ => 0) q.window (pixelKey (256 * col + n % 256) (256 * row + n / 256)) =
    p.par.share (256 * col + n % 256) (clampTarget (k.pixelTarget p.grid (k.planes col row) col row n))

/-- A commitment shows the tile in the window. -/
theorem State.Fills.tileShown_commitTile (h : s.Fills sector p r k row) (sec : Nat) :
    Now ((s.beginFill p r).commitTile p k r col row sec) p.par.id fun q => p.tileShown q k col row := by
  refine Now.congr (Now.onStripe (f := fun q => q.fillRows k col row) ?_ fun _ => rfl) (State.commitTile_stripes _)
  have hsame : Now (s.beginFill p r) p.par.id fun q => q.par = p.par ∧ q.grid = p.grid := Now.beginFill h.stripe ⟨rfl, rfl⟩ id
  refine hsame.imp fun q ⟨hpar, hgrid⟩ n hn => ?_
  rw [Stripe.window_fillRows q k col row (hpar ▸ hn), hpar, hgrid]

/-- Passing the row keeps a tile of it in the window while its rows reach the live ones. -/
theorem Now.tileShown_rowDone {t : State} (h : Now t p.par.id fun q => p.tileShown q k col row) (hcol : col < 16)
    (hlive : p.par.k * r.ahead ≤ 256 * row + 4095) (sec : Nat) :
    Now (t.rowDone p r sec row) p.par.id fun q => p.tileShown q k col row := by
  refine State.rowDone_induction (P := fun u => Now u p.par.id fun q => p.tileShown q k col row) h ?_
  refine Now.onStripe (h.imp fun q hq n hn => ?_) fun _ => rfl
  rw [← hq n hn]
  exact p.window_rowFilled q r sec row (by omega) (by omega)

/-- A tile whose planes are there and whose comparison is over is committed, and its rows are shown in the window. -/
theorem State.Fills.completes_commit (h : s.Fills sector p r k row) (hr : r.repair = false)
    (hn : k.nextCommit sector row = some col) (hh : (k.tile col row).hold = false)
    (hready : (k.tile col row).ready (setOf k.sets col row) = true)
    (hf : k.tileFails col row = false) (hlive : p.par.k * r.ahead ≤ 256 * row + 4095) :
    Completes (.tileCommit sector) s fun t =>
      t.TileIs p.par.id col row (fun x => x.committed = true ∧ x.blocks = (k.tile col row).blocks) ∧
      Now t p.par.id fun q => p.tileShown q k col row := by
  have hid : k.stripe = p.par.id := State.stripe_of_package? h.package
  have hcol : col < 16 := by have := (Package.nextCommit_spec hn).2; omega
  have hpieces : KeepsPieces fillPieces s ((s.beginFill p r).commitTile p k r col row sector) :=
    (s.beginFill_pieces p r).trans (State.commitTile_pieces _)
  have hmoves : ((s.beginFill p r).commitTile p k r col row sector).NativeMoves := h.nativeMoves.commitTile
  have htile : ((s.beginFill p r).commitTile p k r col row sector).TileIs p.par.id col row
      fun x => x.committed = true ∧ x.blocks = (k.tile col row).blocks :=
    hid ▸ State.TileIs.commitTile ⟨k, hid ▸ h.package_begun, rfl, rfl⟩
  have hwork := (State.fillSector_tile sector row hr h.package_begun).trans (State.fillNext_commits _ hn hh hready hf)
  refine ⟨_, h.exec_tileCommit hwork ?_ ?_, ?_, (h.tileShown_commitTile _).tileShown_rowDone hcol hlive sector⟩
  · exact State.rowDone_induction hmoves (hmoves.rowFilled _ _ _ _)
  · exact State.rowDone_induction hpieces (hpieces.trans (State.rowFilled_pieces _ _ _ _ _))
  · exact State.rowDone_induction (P := fun u => u.TileIs p.par.id col row _) htile (htile.congr rfl)

/-- A tile whose block fails its check is placed again with its epoch raised. -/
theorem State.Fills.completes_redo (h : s.Fills sector p r k row) (hr : r.repair = false)
    (hn : k.nextCommit sector row = some col) (hh : (k.tile col row).hold = false)
    (hready : (k.tile col row).ready (setOf k.sets col row) = true)
    (hf : k.tileFails col row = true) (he : (k.tile col row).epoch ≠ 511) :
    Completes (.tileCommit sector) s fun t => t.TileIs p.par.id col row fun x =>
      x.epoch = (k.tile col row).epoch + 1 ∧ x.redo = true ∧ x.blocks = [] ∧ x.cached = false := by
  have hid : k.stripe = p.par.id := State.stripe_of_package? h.package
  obtain ⟨slice, hslice⟩ := State.fillNext_fails (p := p) (r := r) (s.beginFill p r) hn hh hready hf
  have hwork := (State.fillSector_tile sector row hr h.package_begun).trans hslice
  rw [hid] at hwork
  have hredo : ((s.beginFill p r).markRedo p.par.id col row).TileIs p.par.id col row
      fun x => x.committed = false ∧ x.epoch = (k.tile col row).epoch ∧ x.redo = true :=
    State.TileIs.markRedo ⟨k, h.package_begun, (Package.nextCommit_spec hn).1, rfl, rfl⟩
  have hdrop := (State.markRedo_pieces _ p.par.id col row).trans
    (State.replaceTile_pieces slice (hredo.imp fun x ⟨hc, hepoch, _⟩ => ⟨hc, hepoch ▸ he⟩))
  exact ⟨_, h.exec_tileCommit hwork (h.nativeMoves.congr (hdrop .stripes (by decide)))
    ((s.beginFill_pieces p r).trans (hdrop.mono (by simp [fillPieces]))), hredo.replaceTile slice he⟩

end

/-! ### The statement -/

/-- Settles O42: the filler's work on a sector passes the row, waits, commits a tile or has one placed again, by its next tile. -/
theorem windowFills : Obligations.WindowFills := by
  refine ⟨fun s sector p r k hf hs hr hk hc hx => ?_, fun s sector hf => ?_⟩
  · intro row hm
    have h : s.Fills sector p r k row := ⟨hf, hs, hr, hk, hc, hx, rfl, hm⟩
    exact ⟨h.completes_rowFilled, fun col hrep hn =>
      ⟨h.ignored_waits hrep hn, h.completes_commit hrep hn, h.completes_redo hrep hn⟩⟩
  · show answer s _ = .next s
    rw [hf]
    rfl

end Sys2Proof.Machine
end

section
/-! SUPPORT. What the bookkeeping of a tick leaves alone: the registers that say how lanes send, and all that has left. -/
namespace Sys2Proof.Machine

open Sys2Proof

/-! ### Steady registers -/

/-- The registers that decide how lanes send, at what caps a run starts, and whether a soft reset waits: PWR_STATUS, FRM_SPARE_MAP,
the group and lane blocks, and XK2_LINK_CTL. -/
def steadyOffset (o : Nat) : Bool :=
  o == 0x2004 || o == 0xD014 || o == 0xD018 || (decide (0x10000 ≤ o) && decide (o < 0x14000)) || o == 0x20038

/-- A field of one of these registers. -/
def Field.steady (f : Field) : Bool := steadyOffset (f.key / 32)

theorem Field.steady_iff {f : Field} : f.steady = true ↔ f.key / 32 = 0x2004 ∨ f.key / 32 = 0xD014 ∨ f.key / 32 = 0xD018 ∨
    (0x10000 ≤ f.key / 32 ∧ f.key / 32 < 0x14000) ∨ f.key / 32 = 0x20038 := by
  simp [Field.steady, steadyOffset, or_assoc]

theorem key_ne_of_steady {f g : Field} (hg : g.steady = false) (hf : f.steady = true) : g.key ≠ f.key := by
  intro h
  simp only [Field.steady, h] at hg hf
  simp [hf] at hg

/-- Every piece but those named is as before, so are the steady registers, and what had left the device is on record still. -/
structure Undisturbed (ps : List Piece) (s t : State) : Prop where
  pieces : KeepsPieces ps s t
  regs : ∀ f : Field, f.steady = true → t.reg f = s.reg f
  sent : s.out ⊆ t.out

theorem Undisturbed.refl (ps : List Piece) (s : State) : Undisturbed ps s s :=
  ⟨KeepsPieces.refl ps s, fun _ _ => rfl, List.Subset.refl _⟩

theorem Undisturbed.trans {ps : List Piece} {s t u : State} (h : Undisturbed ps s t) (h' : Undisturbed ps t u) : Undisturbed ps s u :=
  ⟨h.pieces.trans h'.pieces, fun f hf => (h'.regs f hf).trans (h.regs f hf), List.Subset.trans h.sent h'.sent⟩

theorem Undisturbed.mono {ps ps' : List Piece} {s t : State} (h : Undisturbed ps s t) (hp : ps ⊆ ps') : Undisturbed ps' s t :=
  ⟨h.pieces.mono hp, h.regs, h.sent⟩

theorem Undisturbed.when {ps : List Piece} {s t : State} (h : Undisturbed ps s t) (b : Bool) {f : State → State}
    (hf : ∀ u, Undisturbed ps u (f u)) : Undisturbed ps s (t.when b f) := by
  unfold State.when
  split
  · exact h.trans (hf t)
  · exact h

theorem Undisturbed.forAll {ps : List Piece} {α : Type} {s t : State} (h : Undisturbed ps s t) (l : List α) {f : α → State → State}
    (hf : ∀ a u, Undisturbed ps u (f a u)) : Undisturbed ps s (t.forAll l f) := by
  unfold State.forAll
  induction l generalizing t with
  | nil => exact h
  | cons a l ih => exact ih (h.trans (hf a t))

/-- A frame whose fields are not steady and under which nothing leaves. -/
theorem Keeps.undisturbed {ps : List Piece} {fs : List Field} {s t : State} (h : Keeps ps fs s t) (hf : ∀ g ∈ fs, g.steady = false)
    (ho : s.out ⊆ t.out) : Undisturbed ps s t :=
  ⟨h.pieces, fun f hs => h.2 f fun g hg => key_ne_of_steady (hf g hg) hs, ho⟩

/-! ### Registers and counters -/

section
variable {ps : List Piece} {s t : State}

theorem Undisturbed.setReg (h : Undisturbed ps s t) (f : Field) (v : Nat) (hf : f.steady = false := by decide) :
    Undisturbed ps s (t.setReg f v) :=
  h.trans (((t.setReg_keeps f v).undisturbed (by simpa using hf) (List.Subset.refl _)).mono (by simp))

theorem Undisturbed.setRegs (h : Undisturbed ps s t) (l : List (Field × Nat)) (hf : ∀ e ∈ l, e.1.steady = false) :
    Undisturbed ps s (t.setRegs l) :=
  h.trans (((t.setRegs_keeps l).undisturbed (by simpa using hf) (List.Subset.refl _)).mono (by simp))

theorem Undisturbed.addReg (h : Undisturbed ps s t) (f : Field) (k : Nat) (hf : f.steady = false := by decide) :
    Undisturbed ps s (t.addReg f k) := h.setReg f _ hf

end

/-- What keeping a log may change: counters, events and their messages, slot accumulators, and the free choices drawn. -/
def logPieces : List Piece := [.host, .events, .counters, .slots, .out, .draw]

theorem ovf_not_steady {b : Nat} (hb : b < 32) : (ovf b).steady = false := by
  rw [← Bool.not_eq_true, Field.steady_iff, ovf_key]
  omega

section
variable {s t : State}

theorem Undisturbed.count (h : Undisturbed logPieces s t) (b n k : Nat) (hb : b < 32 := by decide) :
    Undisturbed logPieces s (t.count b n k) :=
  h.trans (((t.count_keeps b n k).undisturbed (by simpa using ovf_not_steady hb) (List.Subset.refl _)).mono (by simp [logPieces]))

theorem Undisturbed.drawn (h : Undisturbed logPieces s t) : Undisturbed logPieces s t.drawn :=
  h.trans ((t.drawn_keeps.undisturbed (by simp) (List.Subset.refl _)).mono (by simp [logPieces]))

theorem Undisturbed.emit (h : Undisturbed logPieces s t) (o : Out) : Undisturbed logPieces s (t.emit o) :=
  h.trans (((t.emit_keeps o).undisturbed (by simp) (List.subset_cons_self _ _)).mono (by simp [logPieces]))

theorem Undisturbed.withHost (h : Undisturbed logPieces s t) (u : HostUnit) : Undisturbed logPieces s { t with host := u } :=
  h.trans ⟨fun p hp => by cases p <;> simp_all [logPieces, Piece.same], fun _ _ => rfl, List.Subset.refl _⟩

/-! ### Messages, causes and events (R326, R328, R352, R461, R462) -/

theorem Undisturbed.message (h : Undisturbed logPieces s t) (v : Nat) : Undisturbed logPieces s (t.message v) := by
  have hout : t.out ⊆ (t.msix v).out := by
    unfold State.msix
    dsimp only
    split
    · exact List.subset_cons_self _ _
    · exact List.Subset.refl _
  exact (h.trans (((t.msix_keeps v).undisturbed (by simp) hout).mono (by simp [logPieces]))).count 1 1 1

theorem Undisturbed.raise (h : Undisturbed logPieces s t) (n : Nat) (hn : n < 32 := by decide) :
    Undisturbed logPieces s (t.raise n) := by
  have hc : (causeField n).steady = false := by
    rw [← Bool.not_eq_true, Field.steady_iff]
    simp only [causeField, Field.key]
    omega
  exact (((h.setReg _ _ hc).count 0 2 1).when _ fun u => (Undisturbed.refl _ u).count 0 3 1).when _ fun u =>
    (Undisturbed.refl _ u).message 5

theorem Undisturbed.ringMessage (h : Undisturbed logPieces s t) (c : Nat) : Undisturbed logPieces s (t.ringMessage c) :=
  (h.withHost _).when _ fun u => (Undisturbed.refl _ u).message _

theorem Undisturbed.writeEvent (h : Undisturbed logPieces s t) (e : Event) : Undisturbed logPieces s (t.writeEvent e) := by
  refine Undisturbed.ringMessage (Undisturbed.count ?_ 1 6 1) evr
  exact ((h.emit (.hostWrite (t.evrBase + 32 * t.reg Reg.HIF_EVR_IDX_W) e.bytes)).setReg Reg.HIF_EVR_IDX_W _).withHost _

theorem Undisturbed.dropEvent (h : Undisturbed logPieces s t) : Undisturbed logPieces s t.dropEvent :=
  (((h.withHost _).addReg Reg.HIF_EVR_DROPPED_COUNT 1).count 1 7 1).raise 6

theorem Undisturbed.event (h : Undisturbed logPieces s t) (type source kind detail : Nat) :
    Undisturbed logPieces s (t.event type source kind detail) := by
  unfold State.event
  extract_lets e o u
  have hu : Undisturbed logPieces s u :=
    h.trans ⟨fun p hp => by cases p <;> simp_all [logPieces, Piece.same, u, o], fun _ _ => rfl, List.Subset.refl _⟩
  split
  · exact hu.writeEvent e
  · exact hu.dropEvent

/-- A completion that waits on chip (R326, R327). -/
theorem Undisturbed.complete (h : Undisturbed logPieces s t) (c : Completion) : Undisturbed logPieces s (t.complete c) :=
  (h.withHost _).when _ fun u => (Undisturbed.refl _ u).count 1 3 1

end

end Sys2Proof.Machine
end

section
/-! SUPPORT. Frames on the lanes (R193, R203, R205, R453): what sending one leaves alone, and that it leaves where its driver is on. -/
namespace Sys2Proof.Machine

open Sys2Proof

/-! ### What the steady registers show -/

section
variable {ps : List Piece} {s t : State}

theorem Undisturbed.softBusy (h : Undisturbed ps s t) : t.softBusy = s.softBusy := by
  simp only [State.softBusy, State.flag, h.regs Reg.PWR_STATUS_RST_BUSY (by decide)]

theorem Undisturbed.grp (h : Undisturbed ps s t) {g : Nat} (hg : g < 16) : t.grp g = s.grp g :=
  h.regs _ (Field.steady_iff.2 (by simp only [Field.key, Reg.MPH_GRP_STATUS_STATE]; omega))

theorem Undisturbed.activeLanes (h : Undisturbed ps s t) : t.activeLanes = s.activeLanes :=
  List.filter_congr fun l hl => by rw [h.grp (by have := List.mem_range.1 hl; omega)]

theorem Undisturbed.laneSlot (h : Undisturbed ps s t) {l : Nat} (hl : l < 128) : t.laneSlot l = s.laneSlot l := by
  have hu := h.regs (spareUsed (l / 8)) (Field.steady_iff.2 (by simp only [Field.key, spareUsed]; omega))
  have hn := h.regs (spareLane (l / 8)) (Field.steady_iff.2 (by simp only [Field.key, spareLane]; omega))
  rw [State.laneSlot, State.laneSlot, State.flag, State.flag, hu, hn]

theorem Undisturbed.drives (h : Undisturbed ps s t) (hm : .mode ∉ ps) {g i : Nat} (hg : g < 16) (hi : i < 11) :
    t.drives g i = s.drives g i := by
  have hmode : t.mode = s.mode := h.pieces .mode hm
  have hl : t.reg (Reg.MPH_PRBS_CTL_LOOP g i) = s.reg (Reg.MPH_PRBS_CTL_LOOP g i) := h.regs _
    (Field.steady_iff.2 (by simp only [Field.key, Reg.MPH_PRBS_CTL_LOOP]; omega))
  have hr : t.reg Reg.XK2_LINK_CTL_SPARE_EN = s.reg Reg.XK2_LINK_CTL_SPARE_EN := h.regs _ (by decide)
  simp only [State.drives, State.flag, State.spareRouted, State.native, hl, hr, hmode]

theorem Undisturbed.capsNow (h : Undisturbed ps s t) : t.capsNow = s.capsNow := by
  have hrate : t.leastRate = s.leastRate := by
    unfold State.leastRate
    congr 1
    refine List.map_congr_left fun g hg => h.regs _ (Field.steady_iff.2 ?_)
    have := List.mem_range.1 hg
    simp only [Field.key, Reg.MPH_GRP_STATUS_RATE]
    omega
  simp only [State.capsNow, hrate, h.regs Reg.PWR_STATUS_PL (by decide)]

theorem Undisturbed.group (h : Undisturbed ps s t) (hl : .link ∉ ps) (g : Nat) : t.group g = s.group g := by
  have hlink : t.link = s.link := h.pieces .link hl
  simp only [State.group, hlink]

end

theorem State.mem_activeLanes {s : State} {l : Nat} : l ∈ s.activeLanes ↔ l < 128 ∧ s.grp (l / 8) = grpReady := by
  simp [State.activeLanes]

theorem State.laneSlot_lt (s : State) (l : Nat) : s.laneSlot l < 11 := by
  unfold State.laneSlot
  split <;> omega

/-! ### One frame, and several in order -/

/-- What sending on the lanes may change beside the log. -/
def lanePieces : List Piece := .link :: logPieces

theorem logPieces_subset_lanePieces : logPieces ⊆ lanePieces := List.subset_cons_self _ _

theorem Undisturbed.snoopVerify {s t : State} (h : Undisturbed logPieces s t) (u n : Nat) :
    Undisturbed logPieces s (t.snoopVerify u n) := by
  refine h.when _ fun v => ((Undisturbed.refl _ v).addReg (Reg.CHK_SN_COUNT u) n ?_).count 20 0 n
  simp [Field.steady, steadyOffset, Field.key, Reg.CHK_SN_COUNT]
  omega

theorem Undisturbed.snoopFrom {s t : State} (h : Undisturbed logPieces s t) (u src : Nat) (bs : List Byte) :
    Undisturbed logPieces s (t.snoopFrom u src bs) := by
  refine h.when _ fun v => (Undisturbed.refl _ v).when _ fun w => (((Undisturbed.refl _ w).setRegs _ ?_).addReg (Reg.CHK_SN_COUNT u) _ ?_).count 20 2 _
  · simp [Field.steady, steadyOffset, Field.key, Reg.CHK_SN_VAL_LO_WORD, Reg.CHK_SN_VAL_HI_WORD]
    omega
  · simp [Field.steady, steadyOffset, Field.key, Reg.CHK_SN_COUNT]
    omega

theorem Undisturbed.sendOn {s t : State} (h : Undisturbed lanePieces s t) (key : Nat) (what : Bool → Out) (l : List Symbol) :
    Undisturbed lanePieces s (t.sendOn key what l) :=
  h.trans (((t.sendOn_keeps key what l).undisturbed (by simp) (List.subset_cons_self _ _)).mono (by simp [lanePieces, logPieces]))

/-- The frame has passed its snoop unit. -/
def State.snooped (s : State) (f : LaneFrame) : State :=
  (s.snoopVerify (6 + f.lane / 8) 1).snoopFrom (6 + f.lane / 8) f.slot (f.body.take (f.body.length - 4))

theorem State.snooped_undisturbed (s : State) (f : LaneFrame) : Undisturbed logPieces s (s.snooped f) :=
  ((Undisturbed.refl _ s).snoopVerify _ _).snoopFrom _ _ _

theorem State.sendFrame_eq (s : State) (f : LaneFrame) : s.sendFrame f =
    (s.snooped f).when (s.drives (f.lane / 8) f.slot) fun s =>
      s.sendOn (lineKey (f.lane / 8) f.slot) (fun rd => .frame f.lane f.slot rd f.body) (frameSymbols f.body) := rfl

theorem State.sendFrame_undisturbed (s : State) (f : LaneFrame) : Undisturbed lanePieces s (s.sendFrame f) := by
  rw [State.sendFrame_eq]
  exact ((s.snooped_undisturbed f).mono logPieces_subset_lanePieces).when _ fun t => (Undisturbed.refl _ t).sendOn _ _ _

theorem State.sendFrames_undisturbed (s : State) (fs : List LaneFrame) : Undisturbed lanePieces s (s.sendFrames fs) :=
  (Undisturbed.refl _ s).forAll fs fun f t => t.sendFrame_undisturbed f

theorem State.broadcast_undisturbed (s : State) (p : Stripe) (n : Nat) (fl : FrameFlags) (payload : List Byte) :
    Undisturbed lanePieces s (s.broadcast p n fl payload) := s.sendFrames_undisturbed _

/-- A frame that its slot carries is on record as sent. -/
def Out.carries (l : List Out) (lane slot : Nat) : Prop := ∃ rd b, .frame lane slot rd b ∈ l

theorem State.sendFrame_carries {s : State} {f : LaneFrame}
    (hd : s.drives (f.lane / 8) f.slot = true) : Out.carries (s.sendFrame f).out f.lane f.slot := by
  rw [State.sendFrame_eq, hd]
  exact ⟨_, _, List.mem_cons_self⟩

theorem State.sendFrames_carries {s : State} {fs : List LaneFrame} {f : LaneFrame} (hf : f ∈ fs) (hl : f.lane < 128) (hi : f.slot < 11)
    (hd : s.drives (f.lane / 8) f.slot = true) : Out.carries (s.sendFrames fs).out f.lane f.slot := by
  induction fs generalizing s with
  | nil => simp at hf
  | cons g fs ih =>
    show Out.carries ((s.sendFrame g).sendFrames fs).out f.lane f.slot
    rcases List.mem_cons.1 hf with rfl | hf
    · obtain ⟨rd, b, h⟩ := State.sendFrame_carries hd
      exact ⟨rd, b, (State.sendFrames_undisturbed _ fs).sent h⟩
    · exact ih hf (by rw [(s.sendFrame_undisturbed g).drives (by decide) (by omega) hi, hd])

end Sys2Proof.Machine
end

section
/-! SUPPORT. Dose work on a stripe (R178 to R187, R211, R213): it touches residues, ledger, records, overflow, kept frames and dark
pixels, and no more. -/
namespace Sys2Proof.Machine

open Sys2Proof

/-! ### What dose work leaves alone -/

/-- A stripe without what dose work changes. -/
def Stripe.core (p : Stripe) : Stripe :=
  { p with residues := [], ledger := [], records := [], pixelRecords := 0, overflow := [], frames := [], dark := [] }

theorem Stripe.core_foldl {α : Type} (p : Stripe) (l : List α) {f : Stripe → α → Stripe} (hf : ∀ q a, (f q a).core = q.core) :
    (l.foldl f p).core = p.core := by
  induction l generalizing p with
  | nil => rfl
  | cons a l ih => exact (ih (f p a)).trans (hf p a)

theorem Stripe.par_of_core {p q : Stripe} (h : q.core = p.core) : q.par = p.par := congrArg (·.par) h
theorem Stripe.state_of_core {p q : Stripe} (h : q.core = p.core) : q.state = p.state := congrArg (·.state) h
theorem Stripe.run_of_core {p q : Stripe} (h : q.core = p.core) : q.run = p.run := congrArg (·.run) h

@[simp] theorem Stripe.core_setResidue (p : Stripe) (key : Nat) (v : Int) : (p.setResidue key v).core = p.core := rfl
@[simp] theorem Stripe.core_abortFrame (p : Stripe) (n : Nat) : (p.abortFrame n).core = p.core := rfl

@[simp] theorem Stripe.core_addRegion (p : Stripe) (cause x0 x1 : Nat) (lo hi : Int) : (p.addRegion cause x0 x1 lo hi).core = p.core := by
  unfold Stripe.addRegion
  dsimp only
  split <;> rfl

@[simp] theorem Stripe.core_addPixel (p : Stripe) (cause x y : Nat) (d : Int) : (p.addPixel cause x y d).core = p.core := by
  unfold Stripe.addPixel
  split
  · rfl
  · split <;> rfl

theorem Stripe.core_withdraw (p : Stripe) (x y : Nat) : (p.withdraw x y).1.core = p.core := by
  unfold Stripe.withdraw
  split <;> rfl

@[simp] theorem Stripe.core_toLedger (p : Stripe) (room pass t key : Nat) (v : Int) (cause : Nat) :
    (p.toLedger room pass t key v cause).core = p.core := by
  unfold Stripe.toLedger
  split
  · rfl
  · split <;> rfl

@[simp] theorem Stripe.core_judge (p : Stripe) (room pass t x y : Nat) (f : Int) (cause : Nat) :
    (p.judge room pass t x y f cause).core = p.core := by
  unfold Stripe.judge
  extract_lets key q
  split
  · rfl
  · split
    · exact p.core_toLedger room pass t key f cause
    · exact Stripe.core_addPixel _ _ _ _ _

@[simp] theorem Stripe.core_place (p : Stripe) (room pass t x y : Nat) (v : Int) (cause : Nat) :
    (p.place room pass t x y v cause).core = p.core := by
  unfold Stripe.place
  dsimp only
  split
  · rfl
  · exact p.core_toLedger _ _ _ _ _ _

/-! ### Frames committed and amended -/

@[simp] theorem Stripe.core_settle (p : Stripe) (run : Run) (room t : Nat) (v : Site) (new : Int) (cause : Nat) :
    (p.settle run room t v new cause).core = p.core := by
  unfold Stripe.settle
  split
  · exact p.core_judge _ _ _ _ _ _ _
  · split
    · rfl
    · exact p.core_place _ _ _ _ _ _ _

@[simp] theorem Stripe.core_emptyDeficit (p : Stripe) (run : Run) (v : Site) : (p.emptyDeficit run v).core = p.core := by
  unfold Stripe.emptyDeficit
  dsimp only
  split
  · exact Stripe.core_addPixel _ _ _ _ _
  · rfl

@[simp] theorem Stripe.core_closeDone (p : Stripe) (run : Run) (room t : Nat) (v : Site) : (p.closeDone run room t v).core = p.core := by
  unfold Stripe.closeDone
  dsimp only
  split
  · exact p.core_judge _ _ _ _ _ _ _
  · rfl

theorem Stripe.core_commitBeam (p : Stripe) (run : Run) (room n lane : Nat) (lost : Option Nat) (b : Nat) :
    (p.commitBeam run room n lane lost b).core = p.core := by
  unfold Stripe.commitBeam
  dsimp only
  split
  · rfl
  · split
    · split
      · exact p.core_settle _ _ _ _ _ _
      · exact p.core_closeDone _ _ _ _
    · split
      · simp
      · exact p.core_closeDone _ _ _ _

theorem Stripe.core_commitLane (p : Stripe) (run : Run) (room n lane : Nat) (lost : Option Nat) :
    (p.commitLane run room n lane lost).core = p.core := p.core_foldl _ fun q b => q.core_commitBeam run room n lane lost b

theorem Stripe.core_commitFrame (p : Stripe) (r : Run) (room n : Nat) (lanes : List (Nat × LaneMode)) :
    (p.commitFrame r room n lanes).core = p.core := by
  refine p.core_foldl _ fun q e => ?_
  split
  · exact q.core_commitLane _ _ _ _ _
  · rfl
  · rfl
  · exact q.core_commitLane _ _ _ _ _
  · exact q.core_commitLane _ _ _ _ _

theorem Stripe.core_sweepLanes (p : Stripe) (r : Run) (room n : Nat) (lanes : List Nat) : (p.sweepLanes r room n lanes).core = p.core :=
  p.core_foldl lanes fun q l => q.core_commitLane r room n l _

theorem Stripe.core_amendVisit (p : Stripe) (run : Run) (room t cause : Nat) (v : Visit) :
    (p.amendVisit run room t cause v).core = p.core := by
  have hw := p.core_withdraw v.x v.y
  unfold Stripe.amendVisit
  dsimp only
  split
  · split
    · next q f h => rw [Stripe.core_judge, ← hw, h]
    · next q h => rw [Stripe.core_judge, ← hw, h]
  · split
    · rfl
    · exact p.core_place _ _ _ _ _ _ _

theorem Stripe.core_amend (p : Stripe) (run : Run) (room n cause : Nat) (sel : Nat → Bool) :
    (p.amend run room n cause sel).core = p.core := by
  unfold Stripe.amend
  split
  · rfl
  · exact p.core_foldl _ fun q v => q.core_amendVisit _ _ _ _ v

/-- The frames of lanes in loss are only reported. -/
theorem Stripe.cutGroups_eq (p : Stripe) (l : List (Nat × Nat)) : ∃ rs, p.cutGroups l = { p with records := rs } := by
  unfold Stripe.cutGroups
  induction l generalizing p with
  | nil => exact ⟨p.records, rfl⟩
  | cons e l ih =>
    have hadd : ∃ rs, p.addTickRegion repCut (256 * e.1) (256 * e.1 + 255) (e.2 % p.ticks) = { p with records := rs } := by
      unfold Stripe.addTickRegion Stripe.addRegion
      dsimp only
      split
      · exact ⟨p.records, rfl⟩
      · exact ⟨_, rfl⟩
    obtain ⟨rs, hrs⟩ := hadd
    obtain ⟨rs', hrs'⟩ := ih { p with records := rs }
    exact ⟨rs', by rw [List.foldl_cons, hrs, hrs']⟩

end Sys2Proof.Machine
end

section
/-! SUPPORT. Stripes put back and changed by their id while a run goes on (R182, R186, R190, R318). -/
namespace Sys2Proof.Machine

open Sys2Proof

/-! ### Reading a stripe after a change -/

/-- A stripe replaced by one of the same id reads as the new one. -/
theorem State.stripe?_replace {s : State} {q p : Stripe} (h : s.stripe? q.par.id = some p) :
    (s.onStripe q.par.id fun _ => q).stripe? q.par.id = some q := by
  have hkey : ((fun p : Stripe => p.par.id == q.par.id) ∘ fun p => if p.par.id == q.par.id then q else p) =
      fun p => p.par.id == q.par.id := by
    funext p
    by_cases h : p.par.id = q.par.id <;> simp [h]
  have hp : p.par.id = q.par.id := by simpa using List.find?_some h
  rw [State.stripe?, State.onStripe, List.find?_map, hkey, ← State.stripe?, h]
  simp [hp]

theorem State.id_of_stripe? {s : State} {id : Nat} {p : Stripe} (h : s.stripe? id = some p) : p.par.id = id := by
  simpa using List.find?_some h

theorem Now.undisturbed {ps : List Piece} {s t : State} {id : Nat} {P : Stripe → Prop} (h : Now s id P) (ht : Undisturbed ps s t)
    (hps : .stripes ∉ ps := by decide) : Now t id P := h.congr (ht.pieces .stripes hps)

/-- A property that dose work does not touch. -/
def DoseFree (P : Stripe → Prop) : Prop := ∀ q q' : Stripe, q'.core = q.core → P q → P q'

/-! ### A stripe put back -/

/-- What work on a stripe and its log may change. -/
def workPieces : List Piece := .stripes :: logPieces

theorem logPieces_subset_workPieces : logPieces ⊆ workPieces := List.subset_cons_self _ _

theorem State.onStripe_undisturbed (s : State) (id : Nat) (f : Stripe → Stripe) : Undisturbed [.stripes] s (s.onStripe id f) :=
  (s.onStripe_keeps id f).undisturbed (by simp) (List.Subset.refl _)

theorem Undisturbed.onStripe {s t : State} (h : Undisturbed workPieces s t) (id : Nat) (f : Stripe → Stripe) :
    Undisturbed workPieces s (t.onStripe id f) := h.trans ((t.onStripe_undisturbed id f).mono (by simp [workPieces]))

/-- The log kept as a stripe is put back. -/
theorem State.putStripe_log (s : State) {q p : Stripe} (h : s.stripe? q.par.id = some p) :
    Undisturbed logPieces (s.onStripe q.par.id fun _ => q) (s.putStripe q) := by
  unfold State.putStripe
  rw [h]
  refine Undisturbed.when (Undisturbed.setReg (Undisturbed.count ?_ 15 7 _) Reg.LDG_PEAK_ENTRIES _) _ fun u =>
    ((Undisturbed.refl _ u).setReg Reg.LDG_STATUS_OVERFLOW 1).count 15 5 1
  exact (((Undisturbed.refl _ _).count 15 0 _).count 15 2 _).count 15 6 _

theorem State.putStripe_undisturbed (s : State) (q : Stripe) : Undisturbed workPieces s (s.putStripe q) := by
  cases h : s.stripe? q.par.id with
  | none =>
    unfold State.putStripe
    rw [h]
    exact Undisturbed.refl _ s
  | some p =>
    exact ((Undisturbed.refl _ s).onStripe _ _).trans ((s.putStripe_log h).mono logPieces_subset_workPieces)

theorem State.stripe?_putStripe {s : State} {q p : Stripe} (h : s.stripe? q.par.id = some p) : (s.putStripe q).stripe? q.par.id = some q := by
  have hl : (s.putStripe q).stripes = _ := (s.putStripe_log h).pieces .stripes (by decide)
  rw [State.stripe?, hl, ← State.stripe?, State.stripe?_replace h]

/-- What dose work does not touch stays true when its result is put back. -/
theorem Now.putStripe {s : State} {id : Nat} {p q : Stripe} {P : Stripe → Prop} (hs : s.stripe? id = some p) (hq : q.core = p.core)
    (hP : P q) : Now (s.putStripe q) id P := by
  have hid : q.par.id = id := by rw [Stripe.par_of_core hq, State.id_of_stripe? hs]
  subst hid
  exact ⟨q, State.stripe?_putStripe hs, hP⟩

/-- Dose work under a property that it does not touch. -/
theorem Now.dose {s : State} {id : Nat} {P : Stripe → Prop} (h : Now s id P) (hP : DoseFree P) {f : Stripe → Stripe}
    (hf : ∀ q, (f q).core = q.core) : Now (s.onStripe id f) id P :=
  Now.onStripe (h.imp fun q hq => hP q _ (hf q) hq) fun q => Stripe.par_of_core (hf q)

/-! ### Lost visits and cut pixels (R48, R181, R211, R318) -/

theorem Undisturbed.lostVisits {s t : State} (h : Undisturbed logPieces s t) (f : Field) (lanes : Nat) (hf : f.steady = false := by decide) :
    Undisturbed logPieces s (t.lostVisits f lanes) := (h.addReg f _ hf).count 15 1 _

theorem State.amendFrame_undisturbed (s : State) (id : Nat) (r : Run) (n cause : Nat) (sel : Nat → Bool) :
    Undisturbed workPieces s (s.amendFrame id r n cause sel) := by
  unfold State.amendFrame
  split
  · exact Undisturbed.refl _ s
  · exact s.putStripe_undisturbed _

theorem Now.amendFrame {s : State} {id : Nat} {P : Stripe → Prop} (h : Now s id P) (hP : DoseFree P) (r : Run) (n cause : Nat)
    (sel : Nat → Bool) : Now (s.amendFrame id r n cause sel) id P := by
  obtain ⟨q, hq, hPq⟩ := h
  unfold State.amendFrame
  rw [hq]
  exact Now.putStripe hq (q.core_amend _ _ _ _ _) (hP q _ (q.core_amend _ _ _ _ _) hPq)

theorem Undisturbed.logMem {s t : State} (h : Undisturbed logPieces s t) (kind : Nat) (st : Status) (pc addr : Nat) :
    Undisturbed logPieces s (t.logMem kind st pc addr) :=
  h.when _ fun u => ((Undisturbed.refl _ u).setRegs _ (by simp; decide)).when _ fun v => (Undisturbed.refl _ v).raise 4

theorem Undisturbed.windowError {s t : State} (h : Undisturbed logPieces s t) (kind : Nat) : Undisturbed logPieces s (t.windowError kind) := by
  unfold State.windowError
  dsimp only
  split
  · exact (((h.addReg Reg.MEM_CE_COUNT 1).count 18 6 1).logMem _ _ _ _).drawn
  · exact (((h.addReg Reg.MEM_UE_COUNT 1).logMem _ _ _ _).event _ _ _ _).drawn

/-- The pixels of a row whose dose can no longer be known, in the stripe (R300). -/
def Stripe.cutRow (p : Stripe) (draw x0 x1 y : Nat) : Stripe :=
  (List.range (x1 + 1 - x0)).foldl (fun q i =>
    q.setResidue (pixelKey (x0 + i) y) (clampInt (-127) 127 (Config.lostResidue draw (pixelKey (x0 + i) y)).toInt))
    (p.addRegion repCut x0 x1 y y)

theorem Stripe.core_cutRow (p : Stripe) (draw x0 x1 y : Nat) : (p.cutRow draw x0 x1 y).core = p.core :=
  (Stripe.core_foldl _ _ fun q _ => q.core_setResidue _ _).trans (p.core_addRegion _ _ _ _ _)

theorem State.cutPixels_of_none {s : State} {id : Nat} (h : s.stripe? id = none) (x0 x1 y : Nat) : s.cutPixels id x0 x1 y = s := by
  unfold State.cutPixels
  rw [h]

theorem State.cutPixels_of_some {s : State} {id : Nat} {p : Stripe} (h : s.stripe? id = some p) (x0 x1 y : Nat) :
    s.cutPixels id x0 x1 y = (s.putStripe (p.cutRow s.draw x0 x1 y)).drawn := by
  unfold State.cutPixels
  rw [h]
  rfl

theorem State.cutPixels_undisturbed (s : State) (id x0 x1 y : Nat) : Undisturbed workPieces s (s.cutPixels id x0 x1 y) := by
  cases h : s.stripe? id with
  | none => rw [State.cutPixels_of_none h]; exact Undisturbed.refl _ s
  | some p =>
    rw [State.cutPixels_of_some h]
    exact (s.putStripe_undisturbed _).trans ((Undisturbed.refl _ _).drawn.mono logPieces_subset_workPieces)

theorem Now.cutPixels {s : State} {id : Nat} {P : Stripe → Prop} (h : Now s id P) (hP : DoseFree P) (x0 x1 y : Nat) :
    Now (s.cutPixels id x0 x1 y) id P := by
  obtain ⟨q, hq, hPq⟩ := h
  rw [State.cutPixels_of_some hq]
  have hc := q.core_cutRow s.draw x0 x1 y
  exact (Now.putStripe hq hc (hP q _ hc hPq)).undisturbed (Undisturbed.refl _ _).drawn

theorem State.windowWord_undisturbed (s : State) (id : Nat) (pixels : List (Nat × Nat)) :
    Undisturbed workPieces s (s.windowWord id pixels) :=
  ((((Undisturbed.refl _ s).windowError 3).mono logPieces_subset_workPieces).forAll pixels fun c u =>
    u.cutPixels_undisturbed id c.1 c.1 c.2).onStripe id _

theorem Now.windowWord {s : State} {id : Nat} {P : Stripe → Prop} (h : Now s id P) (hP : DoseFree P) (pixels : List (Nat × Nat)) :
    Now (s.windowWord id pixels) id P := by
  refine Now.dose (State.forAll_induction (P := fun u => Now u id P) pixels ?_ fun c _ _ hu => hu.cutPixels hP c.1 c.1 c.2) hP fun _ => rfl
  exact h.undisturbed ((Undisturbed.refl _ s).windowError 3)

end Sys2Proof.Machine
end

section
/-! SUPPORT. A tick and its marker (R199, R292, R334, R368): the run goes on, and the tick is the last. -/
namespace Sys2Proof.Machine

open Sys2Proof

/-! ### A run goes on -/

/-- `q` is stripe `p` further on in its run `r`: the frame due next and the first accounted tick are the same. -/
structure Stripe.Continues (p : Stripe) (r : Run) (q : Stripe) : Prop where
  par : q.par = p.par
  state : q.state = p.state
  xk2 : q.xk2 = p.xk2
  cause : q.cause = p.cause
  run : ∃ k, q.run = some k ∧ k.next = r.next ∧ k.accounted = r.accounted

theorem Stripe.continues_self {p : Stripe} {r : Run} (h : p.run = some r) : p.Continues r p := ⟨rfl, rfl, rfl, rfl, r, h, rfl, rfl⟩

theorem Stripe.continues_doseFree (p : Stripe) (r : Run) : DoseFree (p.Continues r) := fun _ _ hc h =>
  ⟨(Stripe.par_of_core hc).trans h.par, (Stripe.state_of_core hc).trans h.state, (congrArg (·.xk2) hc).trans h.xk2,
    (congrArg (·.cause) hc).trans h.cause, Stripe.run_of_core hc ▸ h.run⟩

/-- A change of the run that leaves the frame due next and the first accounted tick alone. -/
theorem Stripe.Continues.onRun {p q : Stripe} {r : Run} (h : p.Continues r q) {f : Run → Run}
    (hf : ∀ k, (f k).next = k.next ∧ (f k).accounted = k.accounted) : p.Continues r { q with run := q.run.map f } := by
  obtain ⟨k, hk, hn, ha⟩ := h.run
  exact ⟨h.par, h.state, h.xk2, h.cause, f k, by rw [hk, Option.map_some], (hf k).1.trans hn, (hf k).2.trans ha⟩

/-! ### The tick -/

/-- What a tick may change. -/
def tickPieces : List Piece := .lastTick :: .stage :: workPieces

theorem workPieces_subset_tickPieces : workPieces ⊆ tickPieces := by simp [tickPieces]

theorem logPieces_subset_tickPieces : logPieces ⊆ tickPieces := List.Subset.trans logPieces_subset_workPieces workPieces_subset_tickPieces

theorem Undisturbed.captureTick {s t : State} (h : Undisturbed logPieces s t) (tick ps : Nat) :
    Undisturbed logPieces s (t.captureTick tick ps) := h.when _ fun u => (Undisturbed.refl _ u).setRegs _ (by simp; decide)

theorem State.setStage_undisturbed (s : State) (u : StageUnit) : Undisturbed [.stage] s { s with stage := u } :=
  ⟨fun p hp => by cases p <;> simp_all [Piece.same], fun _ _ => rfl, List.Subset.refl _⟩

theorem State.setLastTick_undisturbed (s : State) (t : Option Nat) : Undisturbed [.lastTick] s { s with lastTick := t } :=
  ⟨fun p hp => by cases p <;> simp_all [Piece.same], fun _ _ => rfl, List.Subset.refl _⟩

theorem State.keepReport_undisturbed (s : State) (p : Stripe) (r : Run) : Undisturbed [.stage] s (s.keepReport p r) :=
  (Undisturbed.refl _ s).when _ fun u => u.setStage_undisturbed _

theorem Undisturbed.startCompletion {s t : State} (h : Undisturbed logPieces s t) (p : Stripe) (r : Run) :
    Undisturbed logPieces s (t.startCompletion p r) := h.when _ fun u => (Undisturbed.refl _ u).complete _

/-- The records of a tick that occurs: its number, its stamp, its count and the member's report. -/
def State.tickNoted (s : State) (p : Stripe) (r : Run) (t instant : Nat) : State :=
  (({ s with lastTick := some t }.captureTick t instant).count 4 0 1).keepReport p r

/-- A stripe as its tick occurs: a run-up becomes the writing. -/
def Stripe.afterTick (q : Stripe) : Stripe :=
  { q with state := if q.state == .runup then .write else q.state,
           run := q.run.map fun r => { r with ticked := true, before := none } }

/-- What the first tick of a run completes and shows. -/
def State.firstTick (s : State) (p : Stripe) (r : Run) (t : Nat) : State :=
  s.when (t == r.first) fun b => (b.startCompletion p r).when p.xk2 (·.setReg Reg.XK2_STATUS_WRITING 1)

theorem State.tickAt_of_le (s : State) (p : Stripe) {r : Run} {t : Nat} (instant : Nat) (h : r.first ≤ t) :
    s.tickAt p r t instant = ((s.tickNoted p r t instant).onStripe p.par.id Stripe.afterTick).firstTick p r t := by
  unfold State.tickAt State.when
  rw [if_pos (by simpa using h)]
  rfl

theorem State.tickNoted_undisturbed (s : State) (p : Stripe) (r : Run) (t instant : Nat) :
    Undisturbed (.stage :: logPieces) { s with lastTick := some t } (s.tickNoted p r t instant) :=
  ((((Undisturbed.refl _ _).captureTick t instant).count 4 0 1).mono (by simp)).trans
    ((State.keepReport_undisturbed _ p r).mono (by simp))

theorem State.firstTick_undisturbed (s : State) (p : Stripe) (r : Run) (t : Nat) : Undisturbed logPieces s (s.firstTick p r t) :=
  (Undisturbed.refl _ s).when _ fun u => ((Undisturbed.refl _ u).startCompletion p r).when _ fun v =>
    (Undisturbed.refl _ v).setReg Reg.XK2_STATUS_WRITING 1

section
variable {s : State} {p : Stripe} {r : Run} {t : Nat}

theorem State.tickAt_undisturbed (instant : Nat) (h : r.first ≤ t) : Undisturbed tickPieces s (s.tickAt p r t instant) := by
  rw [State.tickAt_of_le s p instant h]
  have hnote : Undisturbed tickPieces s (s.tickNoted p r t instant) :=
    ((s.setLastTick_undisturbed (some t)).mono (by simp [tickPieces])).trans
      ((s.tickNoted_undisturbed p r t instant).mono (by simp [tickPieces, workPieces, logPieces]))
  exact (hnote.trans ((State.onStripe_undisturbed _ _ _).mono (by simp [tickPieces, workPieces]))).trans
    ((State.firstTick_undisturbed _ p r t).mono logPieces_subset_tickPieces)

theorem State.tickAt_lastTick (instant : Nat) (h : r.first ≤ t) : (s.tickAt p r t instant).lastTick = some t := by
  rw [State.tickAt_of_le s p instant h]
  have hfirst := (State.firstTick_undisturbed ((s.tickNoted p r t instant).onStripe p.par.id Stripe.afterTick) p r t).pieces .lastTick
    (by decide)
  exact Eq.trans hfirst ((s.tickNoted_undisturbed p r t instant).pieces .lastTick (by decide))

theorem Stripe.Continues.afterTick {q : Stripe} (h : p.Continues r q) (hp : p.state ≠ .runup) : p.Continues r q.afterTick := by
  have hs : q.afterTick.state = q.state := by simp [Stripe.afterTick, h.state, hp]
  have hrun := h.onRun (f := fun r => { r with ticked := true, before := none }) fun _ => ⟨rfl, rfl⟩
  exact ⟨hrun.par, hs.trans h.state, hrun.xk2, hrun.cause, hrun.run⟩

theorem Now.tickAt (h : Now s p.par.id (p.Continues r)) (hp : p.state ≠ .runup) (instant : Nat) (ht : r.first ≤ t) :
    Now (s.tickAt p r t instant) p.par.id (p.Continues r) := by
  rw [State.tickAt_of_le s p instant ht]
  have hnote : Now (s.tickNoted p r t instant) p.par.id (p.Continues r) :=
    (h.undisturbed (s.setLastTick_undisturbed (some t))).undisturbed (s.tickNoted_undisturbed p r t instant)
  exact (Now.onStripe (hnote.imp fun q hq => hq.afterTick hp) fun _ => rfl).undisturbed (State.firstTick_undisturbed _ p r t)

/-! ### Its marker (R199, R292) -/

/-- A stripe whose run notes the departure of a marker. -/
def Stripe.noteMarker (q : Stripe) (t departure : Nat) (veto : Run → Bool) : Stripe :=
  { q with run := q.run.map fun r =>
    { r with departures := (t, departure) :: r.departures.take 47, vetoed := if veto r then t :: r.vetoed.take 47 else r.vetoed } }

theorem Stripe.Continues.noteMarker {q : Stripe} (h : p.Continues r q) (t departure : Nat) (veto : Run → Bool) :
    p.Continues r (q.noteMarker t departure veto) := h.onRun fun _ => ⟨rfl, rfl⟩

/-- The visits of a tick that a Looper hold kept closed are lost. -/
def State.closedVisits (s : State) (p : Stripe) (r : Run) (t : Nat) : State :=
  (s.amendFrame p.par.id r t causeLost fun _ => true).lostVisits Reg.LDG_VIS_LOST_VISITS
    (match s.stripe? p.par.id with | some q => (q.amendable t fun _ => true).length | none => 0)

theorem State.closedVisits_undisturbed (s : State) (p : Stripe) (r : Run) (t : Nat) : Undisturbed workPieces s (s.closedVisits p r t) :=
  (s.amendFrame_undisturbed _ _ _ _ _).trans (((Undisturbed.refl _ _).lostVisits _ _).mono logPieces_subset_workPieces)

theorem State.marked_eq (s : State) (p : Stripe) (r : Run) (t departure : Nat) : s.marked p r t departure =
    (s.onStripe p.par.id fun q => q.noteMarker t departure fun k => s.vetoes k (t + 1)).when
      (s.looper.holdLock && r.accounts t && decide (r.first ≤ t)) fun a => a.closedVisits p r t := rfl

theorem State.marked_undisturbed (departure : Nat) : Undisturbed workPieces s (s.marked p r t departure) := by
  rw [State.marked_eq]
  exact ((Undisturbed.refl _ s).onStripe _ _).when _ fun u => u.closedVisits_undisturbed p r t

theorem Now.marked (h : Now s p.par.id (p.Continues r)) (departure : Nat) :
    Now (s.marked p r t departure) p.par.id (p.Continues r) := by
  have hnote : Now (s.onStripe p.par.id fun q => q.noteMarker t departure fun k => s.vetoes k (t + 1)) p.par.id (p.Continues r) :=
    Now.onStripe (h.imp fun q hq => hq.noteMarker t departure _) fun _ => rfl
  rw [State.marked_eq, State.when]
  split
  · exact (hnote.amendFrame (p.continues_doseFree r) _ _ _ _).undisturbed ((Undisturbed.refl _ _).lostVisits _ _)
  · exact hnote

end

end Sys2Proof.Machine
end

section
/-! SUPPORT. The launch of a frame (R38, R42, R178, R192, R205): it leaves on every lane that is ready, it is kept first among the
stripe's frames, and the next is due. -/
namespace Sys2Proof.Machine

open Sys2Proof

/-! ### What a launch may change -/

/-- Everything a launch or the end of a run may change. -/
def launchPieces : List Piece := .looper :: .stage :: .stripes :: lanePieces

theorem lanePieces_subset_launchPieces : lanePieces ⊆ launchPieces := by simp [launchPieces, lanePieces, logPieces]
theorem workPieces_subset_launchPieces : workPieces ⊆ launchPieces := by simp [launchPieces, workPieces, lanePieces, logPieces]

theorem State.onGroup_undisturbed (s : State) (g : Nat) (f : Group → Group) : Undisturbed [.link] s (s.onGroup g f) :=
  ⟨fun p hp => by cases p <;> simp_all [Piece.same], fun _ _ => rfl, List.Subset.refl _⟩

theorem Undisturbed.onGroup {s t : State} (h : Undisturbed lanePieces s t) (g : Nat) (f : Group → Group) :
    Undisturbed lanePieces s (t.onGroup g f) := h.trans ((t.onGroup_undisturbed g f).mono (by simp [lanePieces]))

theorem State.bookSlots_undisturbed (s : State) (e cls n : Nat) : Undisturbed [.slots] s (s.bookSlots e cls n) :=
  ⟨fun p hp => by cases p <;> simp_all [Piece.same, State.bookSlots], fun _ _ => rfl, List.Subset.refl _⟩

theorem Undisturbed.bookBeam {s t : State} (h : Undisturbed logPieces s t) (g cls n : Nat) : Undisturbed logPieces s (t.bookBeam g cls n) :=
  (h.trans ((t.bookSlots_undisturbed (80 + g) cls (512 * n)).mono (by simp [logPieces]))).count 14 (2 * cls) (512 * n)

theorem State.setLooper_undisturbed (s : State) (u : LooperUnit) : Undisturbed [.looper] s { s with looper := u } :=
  ⟨fun p hp => by cases p <;> simp_all [Piece.same], fun _ _ => rfl, List.Subset.refl _⟩

/-! ### The runs of lost frames (R42, R178) -/

theorem Stripe.closeLost_eq (p : Stripe) : ∃ log run, p.closeLost = { p with lostLog := log, lostRun := run } := by
  unfold Stripe.closeLost
  split
  · exact ⟨_, _, rfl⟩
  · exact ⟨p.lostLog, p.lostRun, rfl⟩

/-- A property that neither the log of lost frames nor a sweep due touches. -/
def LostFree (P : Stripe → Prop) : Prop :=
  ∀ (q : Stripe) (log : List LostRec) (run : Option LostRec) (n : Nat) (l : List (Nat × List Nat)), P q →
    P { q with lostLog := log, lostRun := run, lostFrames := n, sweeps := l }

theorem LostFree.closeLost {P : Stripe → Prop} (hP : LostFree P) {q : Stripe} (h : P q) : P q.closeLost := by
  obtain ⟨log, run, he⟩ := q.closeLost_eq
  rw [he]
  exact hP q log run q.lostFrames q.sweeps h

theorem Stripe.closeLost_par (p : Stripe) : p.closeLost.par = p.par := by
  obtain ⟨log, run, he⟩ := p.closeLost_eq
  rw [he]

theorem State.endLostRun_undisturbed (s : State) (id : Nat) : Undisturbed workPieces s (s.endLostRun id) := by
  unfold State.endLostRun
  split
  · exact ((Undisturbed.refl _ s).onStripe id _).trans (((Undisturbed.refl _ _).event _ _ _ _).mono logPieces_subset_workPieces)
  · exact Undisturbed.refl _ s

theorem Now.endLostRun {s : State} {id : Nat} {P : Stripe → Prop} (h : Now s id P) (hP : LostFree P) : Now (s.endLostRun id) id P := by
  unfold State.endLostRun
  split
  · exact (Now.onStripe (h.imp fun q hq => hP.closeLost hq) Stripe.closeLost_par).undisturbed ((Undisturbed.refl _ _).event _ _ _ _)
  · exact h

/-- The stripe's own account of the lanes that lost a frame. -/
def Stripe.loses (q : Stripe) (r : Run) (n : Nat) (lanes : List Nat) : Stripe :=
  { q.extendLost n lanes with lostFrames := q.lostFrames + lanes.length,
                              sweeps := if r.accounts n then q.sweeps ++ [(n, lanes)] else q.sweeps }

/-- The registers' account of them. -/
def State.countLost (s : State) (r : Run) (n : Nat) (lanes : List Nat) (blank : Nat) : State :=
  (((s.addReg Reg.BEM_LOST_FRAMES lanes.length).count 14 3 lanes.length).count 16 1 blank).when (r.accounts n) fun a =>
    a.lostVisits Reg.LDG_VIS_LOST_VISITS lanes.length

theorem State.countLost_undisturbed (s : State) (r : Run) (n : Nat) (lanes : List Nat) (blank : Nat) :
    Undisturbed logPieces s (s.countLost r n lanes blank) :=
  ((((Undisturbed.refl _ s).addReg Reg.BEM_LOST_FRAMES _).count 14 3 _).count 16 1 _).when _ fun u => (Undisturbed.refl _ u).lostVisits _ _

theorem State.blankLanes_eq (s : State) (p : Stripe) (r : Run) (n : Nat) (lanes : List Nat) (blank : Nat) :
    s.blankLanes p r n lanes blank = if lanes.isEmpty then s.endLostRun p.par.id
      else (s.onStripe p.par.id fun q => q.loses r n lanes).countLost r n lanes blank := rfl

theorem State.blankLanes_undisturbed (s : State) (p : Stripe) (r : Run) (n : Nat) (lanes : List Nat) (blank : Nat) :
    Undisturbed workPieces s (s.blankLanes p r n lanes blank) := by
  rw [State.blankLanes_eq]
  split
  · exact s.endLostRun_undisturbed _
  · exact ((Undisturbed.refl _ s).onStripe _ _).trans ((State.countLost_undisturbed _ _ _ _ _).mono logPieces_subset_workPieces)

theorem Now.blankLanes {s : State} {p : Stripe} {P : Stripe → Prop} (h : Now s p.par.id P) (hP : LostFree P) (r : Run) (n : Nat)
    (lanes : List Nat) (blank : Nat) : Now (s.blankLanes p r n lanes blank) p.par.id P := by
  rw [State.blankLanes_eq]
  split
  · exact h.endLostRun hP
  · exact (Now.onStripe (f := fun q => q.loses r n lanes) (h.imp fun q hq => hP q _ _ _ _ hq) fun _ => rfl).undisturbed
      (State.countLost_undisturbed _ _ _ _ _)

/-! ### Switch-overs that end with the launch (R215, R220) -/

theorem State.switchesEnd_undisturbed (s : State) (at_ : Nat) : Undisturbed (.looper :: lanePieces) s (s.switchesEnd at_) := by
  unfold State.switchesEnd
  extract_lets t
  have ht : Undisturbed lanePieces s t := by
    refine (Undisturbed.refl _ s).forAll _ fun g u => ?_
    split
    · exact Undisturbed.refl _ u
    · split
      · exact (((Undisturbed.refl _ u).onGroup g _).setReg Reg.FRM_GAP_LAST_NS _).trans
          ((Undisturbed.refl _ _).drawn.mono logPieces_subset_lanePieces)
      · exact (Undisturbed.refl _ u).onGroup g _
  clear_value t
  exact (ht.mono (by simp)).trans ((t.setLooper_undisturbed _).mono (by simp))

/-! ### What a lane sends (R42, R195) -/

theorem State.laneMode_sends {s : State} {l : Nat} (hg : s.grp (l / 8) = grpReady) (hs : (s.group (l / 8)).switch = none)
    (notReady : List Nat) (at_ : Nat) : s.laneMode notReady at_ l = .real ∨ s.laneMode notReady at_ l = .blank := by
  unfold State.laneMode
  rw [if_neg (by simpa using hg), hs]
  dsimp only
  split
  · exact .inr rfl
  · exact .inl rfl

theorem State.laneFrame_of_sends (s : State) (p : Stripe) (r : Run) (n l : Nat) {m : LaneMode} (hm : m = .real ∨ m = .blank) :
    ∃ f, s.laneFrame p r n m l = some f ∧ f.lane = l ∧ f.slot = s.laneSlot l := by
  rcases hm with rfl | rfl
  · exact ⟨_, rfl, rfl, rfl⟩
  · exact ⟨_, rfl, rfl, rfl⟩

/-! ### The launch of a data frame (R38, R178) -/

/-- Frame n is launched: the next is due, and it is the first of those kept. -/
def Stripe.Launched (n : Nat) (q : Stripe) : Prop :=
  q.state = .write ∧ (∃ k, q.run = some k ∧ k.next = n + 1) ∧ ∃ f l, q.frames = f :: l ∧ f.tick = n

theorem Stripe.launched_lostFree (n : Nat) : LostFree (Stripe.Launched n) := fun _ _ _ _ _ h => h

/-- The stripe with a frame committed and kept, and the next one due. -/
def Stripe.launch (q : Stripe) (r : Run) (room n : Nat) (lanes : List (Nat × LaneMode)) : Stripe :=
  let c := if r.accounts n then q.commitFrame r room n lanes else q
  let d := c.keepFrame q r n lanes
  { d with run := d.run.map fun k =>
    { k with next := n + 1, before := if n = r.first then some (q.residues, q.ledger, q.records) else k.before } }

theorem Stripe.launch_core (q : Stripe) (r : Run) (room n : Nat) (lanes : List (Nat × LaneMode)) :
    ∃ c : Stripe, c.core = q.core ∧ q.launch r room n lanes = { c.keepFrame q r n lanes with
      run := q.run.map fun k =>
        { k with next := n + 1, before := if n = r.first then some (q.residues, q.ledger, q.records) else k.before } } := by
  have hc : (if r.accounts n then q.commitFrame r room n lanes else q).core = q.core := by
    split
    · exact q.core_commitFrame r room n lanes
    · rfl
  refine ⟨_, hc, ?_⟩
  rw [← Stripe.run_of_core hc]
  rfl

theorem Stripe.launch_par (q : Stripe) (r : Run) (room n : Nat) (lanes : List (Nat × LaneMode)) :
    (q.launch r room n lanes).par = q.par := by
  obtain ⟨c, hc, he⟩ := q.launch_core r room n lanes
  rw [he]
  show c.par = q.par
  exact Stripe.par_of_core hc

theorem Stripe.launch_launched {q : Stripe} {k : Run} (hs : q.state = .write) (hk : q.run = some k) (r : Run) (room n : Nat)
    (lanes : List (Nat × LaneMode)) : (q.launch r room n lanes).Launched n := by
  obtain ⟨c, hc, he⟩ := q.launch_core r room n lanes
  rw [he, hk]
  exact ⟨(Stripe.state_of_core hc).trans hs, ⟨_, rfl, rfl⟩, _, _, rfl, rfl⟩

/-- The counters of a launch: frames, folded residues, gaps and repairs. -/
def State.countFrames (s : State) (lanes : List (Nat × LaneMode)) (folded repairs : Nat) : State :=
  ((((s.count 16 0 ((lanes.filter fun x => x.2 == .real).length + (lanes.filter fun x => x.2 == .blank).length)).count 14 1 1).count 15 4
    folded).count 16 7 (lanes.filter fun x => x.2 == .gap).length).count 15 3 repairs

/-- The slots of a launch, and the visits of its gaps. -/
def State.bookFrames (s : State) (r : Run) (n : Nat) (lanes : List (Nat × LaneMode)) : State :=
  (s.forAll (List.range 16) fun g b => b.bookBeam g 0 (lanes.filter fun x => x.2 == .real && x.1 / 8 == g).length).when (r.accounts n)
    fun b => b.lostVisits Reg.LDG_VIS_GAP_VISITS (lanes.filter fun x => x.2 == .gap || x.2 == .silent).length

/-- The frame waits to be confirmed on every return lane. -/
def State.awaitConfirm (s : State) (n : Nat) : State :=
  s.forAll (List.range 16) fun g b => b.when (b.grp g == grpReady) fun b =>
    b.onGroup g fun k => { k with unconfirmed := k.unconfirmed ++ [n] }

theorem State.countFrames_undisturbed (s : State) (lanes : List (Nat × LaneMode)) (folded repairs : Nat) :
    Undisturbed logPieces s (s.countFrames lanes folded repairs) :=
  (((((Undisturbed.refl _ s).count 16 0 _).count 14 1 _).count 15 4 _).count 16 7 _).count 15 3 _

theorem State.bookFrames_undisturbed (s : State) (r : Run) (n : Nat) (lanes : List (Nat × LaneMode)) :
    Undisturbed logPieces s (s.bookFrames r n lanes) :=
  ((Undisturbed.refl _ s).forAll _ fun g u => (Undisturbed.refl _ u).bookBeam g 0 _).when _ fun u => (Undisturbed.refl _ u).lostVisits _ _

theorem State.awaitConfirm_undisturbed (s : State) (n : Nat) : Undisturbed lanePieces s (s.awaitConfirm n) :=
  (Undisturbed.refl _ s).forAll _ fun g u => (Undisturbed.refl _ u).when _ fun v => (Undisturbed.refl _ v).onGroup g _

/-- What a launch counts. -/
def State.countLaunch (s : State) (r : Run) (n : Nat) (lanes : List (Nat × LaneMode)) (folded repairs : Nat) : State :=
  ((s.countFrames lanes folded repairs).bookFrames r n lanes).awaitConfirm n

theorem State.countLaunch_undisturbed (s : State) (r : Run) (n : Nat) (lanes : List (Nat × LaneMode)) (folded repairs : Nat) :
    Undisturbed lanePieces s (s.countLaunch r n lanes folded repairs) :=
  (((s.countFrames_undisturbed lanes folded repairs).trans (State.bookFrames_undisturbed _ r n lanes)).mono
    logPieces_subset_lanePieces).trans (State.awaitConfirm_undisturbed _ n)

/-- The frames of a launch leave. -/
def State.sendLaunch (d : State) (q : Stripe) (r : Run) (n : Nat) (lanes : List (Nat × LaneMode)) : State :=
  d.sendFrames (lanes.filterMap fun e => d.laneFrame q r n e.2 e.1)

/-- The visits of a launch that fold a ledger entry's carry in (R180). -/
def Stripe.foldedVisits (q : Stripe) (r : Run) (n : Nat) (lanes : List (Nat × LaneMode)) : Nat :=
  if r.repair then 0 else (lanes.filter fun e => e.2 == .real).foldl (fun c e =>
    c + ((q.laneVisits r n e.1).filter fun v => q.residue (pixelKey v.x v.y) == -128).length) 0

/-- The visits of a launch that repair (R184). -/
def Stripe.repairVisits (q : Stripe) (r : Run) (n : Nat) (lanes : List (Nat × LaneMode)) : Nat :=
  if r.repair && r.accounts n then ((lanes.filter fun x => x.2 == .real).map fun x => (q.laneVisits r n x.1).length).sum else 0

/-- What follows the frames of a launch: the stripe put back, the counts, the lost frames and the switch-overs that end. -/
def State.afterSending (a : State) (p q : Stripe) (r : Run) (n at_ : Nat) (lanes : List (Nat × LaneMode)) : State :=
  (((a.putStripe (q.launch r (a.ledgerRoom q) n lanes)).countLaunch r n lanes (q.foldedVisits r n lanes) (q.repairVisits r n lanes)).blankLanes p r n
    ((lanes.filter fun x => x.2 == .blank || x.2 == .down).map (·.1)) (lanes.filter fun x => x.2 == .blank).length).switchesEnd at_

theorem State.launchData_eq {s : State} {p q : Stripe} (r : Run) (n at_ : Nat) (notReady : List Nat)
    (badWords : List (List (Nat × Nat))) (hq : (s.forAll badWords fun w s => s.windowWord p.par.id w).stripe? p.par.id = some q) :
    s.launchData p r n at_ notReady badWords =
      ((s.forAll badWords fun w s => s.windowWord p.par.id w).sendLaunch q r n (s.laneModes notReady at_)).afterSending p q r n at_
        (s.laneModes notReady at_) := by
  unfold State.launchData
  extract_lets lanes d
  have hd : d.stripe? p.par.id = some q := hq
  rw [hd]
  rfl

theorem State.afterSending_undisturbed (a : State) (p q : Stripe) (r : Run) (n at_ : Nat) (lanes : List (Nat × LaneMode)) :
    Undisturbed launchPieces a (a.afterSending p q r n at_ lanes) :=
  ((((a.putStripe_undisturbed _).mono workPieces_subset_launchPieces).trans
    ((State.countLaunch_undisturbed _ _ _ _ _ _).mono lanePieces_subset_launchPieces)).trans
      ((State.blankLanes_undisturbed _ _ _ _ _ _).mono workPieces_subset_launchPieces)).trans
        ((State.switchesEnd_undisturbed _ at_).mono (by simp [launchPieces, lanePieces, logPieces]))

theorem Now.afterSending {a : State} {p q : Stripe} {k : Run} (hq : a.stripe? p.par.id = some q) (hs : q.state = .write)
    (hk : q.run = some k) (r : Run) (n at_ : Nat) (lanes : List (Nat × LaneMode)) :
    Now (a.afterSending p q r n at_ lanes) p.par.id (Stripe.Launched n) := by
  have hid : (q.launch r (a.ledgerRoom q) n lanes).par.id = p.par.id := by rw [Stripe.launch_par, State.id_of_stripe? hq]
  have hput : Now (a.putStripe (q.launch r (a.ledgerRoom q) n lanes)) p.par.id (Stripe.Launched n) :=
    ⟨_, hid ▸ State.stripe?_putStripe (hid.symm ▸ hq), Stripe.launch_launched hs hk r _ n lanes⟩
  exact ((hput.undisturbed (State.countLaunch_undisturbed _ r n lanes _ _)).blankLanes (Stripe.launched_lostFree n) r n _ _).undisturbed
    (State.switchesEnd_undisturbed _ at_)

section
variable {s : State} {p : Stripe} {r : Run} (k : Run) (n at_ : Nat) (notReady : List Nat) (words : List (List (Nat × Nat)))

theorem Now.windowWords (h : Now s p.par.id (p.Continues r)) :
    Now (s.forAll words fun w s => s.windowWord p.par.id w) p.par.id (p.Continues r) :=
  State.forAll_induction (P := fun u => Now u p.par.id (p.Continues r)) words h fun w _ _ hu =>
    hu.windowWord (p.continues_doseFree r) w

theorem State.windowWords_undisturbed (id : Nat) : Undisturbed workPieces s (s.forAll words fun w s => s.windowWord id w) :=
  (Undisturbed.refl _ s).forAll words fun w u => u.windowWord_undisturbed id w

/-- All that a launch keeps and does to the run's stripe. -/
theorem State.launchData_undisturbed (h : Now s p.par.id (p.Continues r)) :
    Undisturbed launchPieces s (s.launchData p k n at_ notReady words) := by
  obtain ⟨q, hq, -⟩ := h.windowWords words
  rw [State.launchData_eq k n at_ notReady words hq]
  exact ((((s.windowWords_undisturbed words p.par.id).mono workPieces_subset_launchPieces).trans
    ((State.sendFrames_undisturbed _ _).mono lanePieces_subset_launchPieces))).trans (State.afterSending_undisturbed _ _ _ _ _ _ _)

theorem Now.launchData (h : Now s p.par.id (p.Continues r)) (hp : p.state = .write) :
    Now (s.launchData p k n at_ notReady words) p.par.id (Stripe.Launched n) := by
  obtain ⟨q, hq, hcont⟩ := h.windowWords words
  obtain ⟨j, hj, -, -⟩ := hcont.run
  have hsent := (State.sendFrames_undisturbed (s.forAll words fun w s => s.windowWord p.par.id w)
    ((s.laneModes notReady at_).filterMap fun e => (s.forAll words fun w s => s.windowWord p.par.id w).laneFrame q k n e.2 e.1)).pieces
      .stripes (by decide)
  rw [State.launchData_eq k n at_ notReady words hq]
  exact Now.afterSending ((congrArg (List.find? _) hsent).trans hq) (hcont.state.trans hp) hj k n at_ _

/-- The frame leaves on every lane whose group is READY, not in a switch-over, and whose driver is on. -/
theorem State.launchData_carries (h : Now s p.par.id (p.Continues r)) {l : Nat} (hl : l ∈ s.activeLanes)
    (hs : (s.group (l / 8)).switch = none) (hd : s.drives (l / 8) (s.laneSlot l) = true) :
    Out.carries (s.launchData p k n at_ notReady words).out l (s.laneSlot l) := by
  obtain ⟨q, hq, -⟩ := h.windowWords words
  obtain ⟨hl, hg⟩ := State.mem_activeLanes.1 hl
  have hbad := s.windowWords_undisturbed words p.par.id
  obtain ⟨f, hf, hlane, hslot⟩ := State.laneFrame_of_sends (s.forAll words fun w s => s.windowWord p.par.id w) q k n l
    (State.laneMode_sends hg hs notReady at_)
  rw [hbad.laneSlot hl] at hslot
  have hmem : f ∈ (s.laneModes notReady at_).filterMap fun e =>
      (s.forAll words fun w s => s.windowWord p.par.id w).laneFrame q k n e.2 e.1 :=
    List.mem_filterMap.2 ⟨(l, s.laneMode notReady at_ l), List.mem_map.2 ⟨l, List.mem_range.2 hl, rfl⟩, hf⟩
  have hsent := State.sendFrames_carries (s := s.forAll words fun w s => s.windowWord p.par.id w) hmem (by omega)
    (hslot ▸ s.laneSlot_lt l) (by rw [hlane, hslot, hbad.drives (by decide) (by omega) (s.laneSlot_lt l), hd])
  rw [hlane, hslot] at hsent
  obtain ⟨rd, b, hsent⟩ := hsent
  rw [State.launchData_eq k n at_ notReady words hq]
  exact ⟨rd, b, (State.afterSending_undisturbed _ p q k n at_ (s.laneModes notReady at_)).sent hsent⟩

end

end Sys2Proof.Machine
end

section
/-! SUPPORT. Work on the links that waits for a stripe's end (R208, R216, R237), and the end of a soft reset (R439): neither touches a
stripe, a package or a completion that waits. -/
namespace Sys2Proof.Machine

open Sys2Proof

/-! ### Completions that wait on chip -/

theorem State.heldCpl_of_host {s t : State} (h : t.host = s.host) (c : Nat) : t.heldCpl c = s.heldCpl c := by
  simp only [State.heldCpl, h]

/-- A change of a completion ring that leaves what it holds. -/
theorem State.heldCpl_onRing (s : State) (i : Nat) {f : CplRing → CplRing} (hf : ∀ k, (f k).held = k.held) (c : Nat) :
    State.heldCpl { s with host := { s.host with cpl := vmod s.host.cpl i f } } c = s.heldCpl c := by
  have hv : (vget (vmod s.host.cpl i f) c CplRing.init).held = (vget s.host.cpl c CplRing.init).held := by
    by_cases hc : c = i
    · subst hc
      by_cases hn : c < 5
      · rw [vget_vmod_same _ _ _ _ hn, hf]
      · simp [vget, hn]
    · rw [vget_vmod_ne _ _ _ _ _ hc]
  simp only [State.heldCpl, hv]

/-- A completion joins those that its ring holds. -/
theorem State.heldCpl_complete (s : State) (k : Completion) (h : s.cprOf k.origin.ring ≤ 4) :
    (s.complete k).heldCpl (s.cprOf k.origin.ring) = s.heldCpl (s.cprOf k.origin.ring) ++ [k] := by
  have hhost : (s.complete k).host = (s.onCpl (s.cprOf k.origin.ring) fun u => { u with held := u.held ++ [k] }).host :=
    (State.when_keeps (ps := [.counters]) (fs := [ovf 1]) _ _ _ fun _ => State.count_keeps _ 1 3 1).1 .host (by decide)
  rw [State.heldCpl_of_host hhost]
  by_cases hc : s.cprOf k.origin.ring = 4
  · simp [State.heldCpl, State.onCpl, hc]
  · have hlt : s.cprOf k.origin.ring < 5 := by omega
    simp only [State.heldCpl, State.onCpl, if_neg hc, vget_vmod_same _ _ _ _ hlt]

/-! ### Work on the links -/

/-- Lanes, groups and the log may change, no completion that waits does. -/
structure LinkWork (s t : State) : Prop where
  pieces : KeepsPieces lanePieces s t
  held : ∀ c, t.heldCpl c = s.heldCpl c

theorem LinkWork.refl (s : State) : LinkWork s s := ⟨KeepsPieces.refl _ s, fun _ => rfl⟩

theorem LinkWork.trans {s t u : State} (h : LinkWork s t) (h' : LinkWork t u) : LinkWork s u :=
  ⟨h.pieces.trans h'.pieces, fun c => (h'.held c).trans (h.held c)⟩

theorem LinkWork.when {s t : State} (h : LinkWork s t) (b : Bool) {f : State → State} (hf : ∀ u, LinkWork u (f u)) :
    LinkWork s (t.when b f) := by
  unfold State.when
  split
  · exact h.trans (hf t)
  · exact h

theorem LinkWork.forAll {α : Type} {s t : State} (h : LinkWork s t) (l : List α) {f : α → State → State}
    (hf : ∀ a u, LinkWork u (f a u)) : LinkWork s (t.forAll l f) :=
  State.forAll_induction (P := LinkWork s) l h fun a _ u hu => hu.trans (hf a u)

/-- What leaves the rings alone. -/
theorem KeepsPieces.linkWork {ps : List Piece} {s t : State} (h : KeepsPieces ps s t) (hp : ps ⊆ lanePieces) (hh : .host ∉ ps) :
    LinkWork s t := ⟨h.mono hp, State.heldCpl_of_host (h .host hh)⟩

section
variable {s t : State}

theorem LinkWork.setRegs (h : LinkWork s t) (l : List (Field × Nat)) : LinkWork s (t.setRegs l) :=
  h.trans ((t.setRegs_keeps l).pieces.linkWork (by simp) (by simp))

theorem LinkWork.setReg (h : LinkWork s t) (f : Field) (v : Nat) : LinkWork s (t.setReg f v) :=
  h.trans ((t.setReg_keeps f v).pieces.linkWork (by simp) (by simp))

theorem LinkWork.onGroup (h : LinkWork s t) (g : Nat) (f : Group → Group) : LinkWork s (t.onGroup g f) :=
  h.trans ((t.onGroup_undisturbed g f).pieces.linkWork (by simp [lanePieces]) (by simp))

theorem LinkWork.onLine (h : LinkWork s t) (key : Nat) (f : Line → Line) : LinkWork s (t.onLine key f) :=
  h.trans ((t.onLine_keeps key f).pieces.linkWork (by simp [lanePieces]) (by simp))

theorem LinkWork.emit (h : LinkWork s t) (o : Out) : LinkWork s (t.emit o) :=
  h.trans ((t.emit_keeps o).pieces.linkWork (by simp [lanePieces, logPieces]) (by simp))

theorem LinkWork.sendOn (h : LinkWork s t) (key : Nat) (what : Bool → Out) (l : List Symbol) : LinkWork s (t.sendOn key what l) :=
  (h.onLine key _).emit _

theorem LinkWork.count (h : LinkWork s t) (b n k : Nat) : LinkWork s (t.count b n k) :=
  h.trans ((t.count_keeps b n k).pieces.linkWork (by simp [lanePieces, logPieces]) (by simp))

theorem LinkWork.message (h : LinkWork s t) (v : Nat) : LinkWork s (t.message v) := by
  have hmsix : LinkWork t (t.msix v) := by
    refine ⟨(t.msix_keeps v).pieces.mono (by simp [lanePieces, logPieces]), fun c => ?_⟩
    simp only [State.heldCpl, State.msix]
    cases t.native && t.host.vectorMasked v <;> rfl
  exact (h.trans hmsix).count 1 1 1

theorem LinkWork.raise (h : LinkWork s t) (n : Nat) : LinkWork s (t.raise n) :=
  (((h.setReg _ _).count 0 2 1).when _ fun u => (LinkWork.refl u).count 0 3 1).when _ fun u => (LinkWork.refl u).message 5

theorem LinkWork.onRing (h : LinkWork s t) (i : Nat) {f : CplRing → CplRing} (hf : ∀ k, (f k).held = k.held) :
    LinkWork s { t with host := { t.host with cpl := vmod t.host.cpl i f } } :=
  h.trans ⟨(((Undisturbed.refl _ t).withHost _).mono logPieces_subset_lanePieces).pieces, t.heldCpl_onRing i hf⟩

theorem LinkWork.ringMessage (h : LinkWork s t) (c : Nat) : LinkWork s (t.ringMessage c) :=
  (h.onRing c (by exact fun _ => rfl)).when _ fun u => (LinkWork.refl u).message _

theorem LinkWork.writeEvent (h : LinkWork s t) (e : Event) : LinkWork s (t.writeEvent e) := by
  refine LinkWork.ringMessage (LinkWork.count ?_ 1 6 1) evr
  exact ((h.emit (.hostWrite (t.evrBase + 32 * t.reg Reg.HIF_EVR_IDX_W) e.bytes)).setReg Reg.HIF_EVR_IDX_W _).onRing evr fun _ => rfl

theorem LinkWork.dropEvent (h : LinkWork s t) : LinkWork s t.dropEvent :=
  (((h.onRing evr (f := fun k => { k with lost := true }) fun _ => rfl).setReg Reg.HIF_EVR_DROPPED_COUNT _).count 1 7 1).raise 6

theorem LinkWork.event (h : LinkWork s t) (type source kind detail : Nat) : LinkWork s (t.event type source kind detail) := by
  unfold State.event
  extract_lets e o u
  have hu : LinkWork s u :=
    h.trans (KeepsPieces.linkWork (ps := [.events]) (fun p hp => by cases p <;> simp_all [Piece.same, u, o])
      (by simp [lanePieces, logPieces]) (by simp))
  split
  · exact hu.writeEvent e
  · exact hu.dropEvent

/-! ### Restarts, step-downs and L2 (R216, R225, R233, R237) -/

theorem LinkWork.groupOff (h : LinkWork s t) (g : Nat) (fast : Bool) : LinkWork s (t.groupOff g fast) :=
  ((((h.setRegs _).forAll (List.range 11) fun _ u => (LinkWork.refl u).onLine _ _).setRegs _).onGroup g _)

theorem LinkWork.retrain (h : LinkWork s t) (g : Nat) : LinkWork s (t.retrain g) :=
  ((h.groupOff g true).count 17 5 1).setReg Reg.CAL_STATUS_DUE _

theorem LinkWork.stepDown (h : LinkWork s t) (g : Nat) : LinkWork s (t.stepDown g) := by
  unfold State.stepDown
  dsimp only
  split
  · exact ((((h.setRegs _).setRegs _).onGroup g _).event _ _ _ _).raise 3
  · exact (((h.groupOff g true).setRegs _).event _ _ _ _).raise 3

theorem LinkWork.stepAfter (h : LinkWork s t) (g : Nat) : LinkWork s (t.stepAfter g) := by
  unfold State.stepAfter
  split
  · exact (h.setRegs _).retrain g
  · exact h.stepDown g

theorem LinkWork.enterL2 (h : LinkWork s t) (g : Nat) : LinkWork s (t.enterL2 g) :=
  h.when _ fun u => ((((LinkWork.refl u).forAll _ fun _ v => (LinkWork.refl v).when _ fun w => (LinkWork.refl w).sendOn _ _ _).setRegs _).emit _)

end

theorem State.between_linkWork (s : State) : LinkWork s s.between := by
  unfold State.between
  extract_lets t
  have ht : LinkWork s t := (LinkWork.refl s).when _ fun u => (LinkWork.refl u).forAll _ fun g v =>
    (LinkWork.refl v).when _ fun w => (LinkWork.refl w).stepAfter g
  refine ht.when _ fun u => (LinkWork.refl u).forAll _ fun g v => ?_
  split
  · exact (LinkWork.refl v).groupOff g false
  · exact (LinkWork.refl v).when _ fun w => (LinkWork.refl w).enterL2 g

/-! ### The end of a soft reset (R436, R439, R441) -/

/-- What the end of a soft reset may change. -/
def resetPieces : List Piece :=
  [.counters, .slots, .latches, .consoleSel, .wfQueue, .kernels, .looper, .rot, .ftc, .link, .stage, .out, .hbm]

/-- The settings as they return to their reset values, before any lane leaves its test or its sleep. -/
def State.settingsCleared (s : State) : State :=
  { s with
    regs := keepFields Field.softKept s.regs
    obs := s.obs.cleared
    kernels := Vector.replicate 4 none
    looper := LooperUnit.init
    rot := 0
    ftc := FtcSettings.init
    link := { s.link with naks := [] }
    stage := { StageUnit.init with aux := s.stage.aux } }

theorem State.settingsCleared_pieces (s : State) : KeepsPieces resetPieces s s.settingsCleared :=
  fun p hp => by cases p <;> simp_all [resetPieces, Piece.same, State.settingsCleared, ObsUnit.cleared]

theorem State.setHbm_pieces (s : State) (u : HbmUnit) : KeepsPieces resetPieces s { s with hbm := u } :=
  fun p hp => by cases p <;> simp_all [resetPieces, Piece.same]

/-- The settings are back, and the lanes that were in test or held in L2 have left it. -/
def State.lanesFreed (s : State) : State :=
  (s.settingsCleared.forAll s.testLanes fun x t => t.setLanes x.1 (if t.grp x.1 = grpReady then laneL0 else laneOff) [x.2]).forAll
    s.askedL2 fun g t => t.leaveL2 g

theorem State.lanesFreed_pieces (s : State) : KeepsPieces resetPieces s s.lanesFreed :=
  (s.settingsCleared_pieces.forAll s.testLanes fun _ t => (KeepsPieces.refl _ t).setRegs _).forAll s.askedL2 fun g t =>
    (t.leaveL2_pieces g).mono (by simp [linkPieces, resetPieces])

theorem State.resetSettings_pieces (s : State) : KeepsPieces resetPieces s s.resetSettings :=
  s.lanesFreed_pieces.trans (s.lanesFreed.setHbm_pieces _)

theorem State.softEnds_pieces (s : State) : KeepsPieces resetPieces s s.softEnds :=
  (KeepsPieces.refl _ s).when _ fun u => (u.resetSettings_pieces.setRegs _).setReg _ _

theorem State.softEnds_of_not_busy {s : State} (h : s.softBusy = false) : s.softEnds = s := by
  unfold State.softEnds State.when
  rw [if_neg]
  rw [show s.flag Reg.PWR_STATUS_RST_BUSY = false from h]
  simp

end Sys2Proof.Machine
end

section
/-! SUPPORT. How a run ends (R186, R205, R206, R213, R266): END and RUNOUT, an abort at its tick, and the next run or the stripe's
release. -/
namespace Sys2Proof.Machine

open Sys2Proof

/-! ### END after the last tick (R205) -/

/-- END has left: the stripe runs out. -/
def Stripe.Ended (q : Stripe) : Prop := q.state = .runout ∧ ∃ k, q.run = some k ∧ k.ended = true

/-- A stripe as END leaves for frame n. -/
def Stripe.endRun (q : Stripe) (n : Nat) : Stripe :=
  { q with state := .runout, run := q.run.map fun k => { k with next := n + 1, ended := true } }

/-- END is on the lanes, and a run of lost frames is closed. -/
def State.endSent (s : State) (p : Stripe) (r : Run) (n : Nat) : State :=
  (s.broadcast p n { endRun := true, veto := s.vetoes r n, repair := r.repair } []).endLostRun p.par.id

theorem State.launchEnd_eq (s : State) (p : Stripe) (r : Run) (n : Nat) : s.launchEnd p r n =
    ((s.endSent p r n).onStripe p.par.id fun q => q.endRun n).when p.xk2 State.passEnd := rfl

theorem State.passEnd_undisturbed (s : State) : Undisturbed launchPieces s s.passEnd :=
  ((Undisturbed.refl _ s).setRegs _ (by simp; decide)).trans ((State.setStage_undisturbed _ _).mono (by simp [launchPieces]))

theorem State.endSent_undisturbed (s : State) (p : Stripe) (r : Run) (n : Nat) : Undisturbed launchPieces s (s.endSent p r n) :=
  ((s.broadcast_undisturbed _ _ _ _).mono lanePieces_subset_launchPieces).trans
    ((State.endLostRun_undisturbed _ _).mono workPieces_subset_launchPieces)

theorem State.launchEnd_undisturbed (s : State) (p : Stripe) (r : Run) (n : Nat) : Undisturbed launchPieces s (s.launchEnd p r n) := by
  rw [State.launchEnd_eq]
  exact ((s.endSent_undisturbed p r n).trans ((State.onStripe_undisturbed _ _ _).mono (by simp [launchPieces]))).when _ fun u =>
    u.passEnd_undisturbed

theorem Now.passEnd {s : State} {id : Nat} {P : Stripe → Prop} (h : Now s id P) : Now s.passEnd id P := h

theorem Now.endSent {s : State} {p : Stripe} {P : Stripe → Prop} (h : Now s p.par.id P) (hP : LostFree P) (r : Run) (n : Nat) :
    Now (s.endSent p r n) p.par.id P := (h.undisturbed (s.broadcast_undisturbed p n _ _)).endLostRun hP

/-- A stripe that has a run. -/
def Stripe.Runs (q : Stripe) : Prop := ∃ k, q.run = some k

theorem Stripe.runs_lostFree : LostFree Stripe.Runs := fun _ _ _ _ _ h => h

theorem Now.launchEnd {s : State} {p : Stripe} (h : Now s p.par.id Stripe.Runs) (r : Run) (n : Nat) :
    Now (s.launchEnd p r n) p.par.id Stripe.Ended := by
  have hend : Now ((s.endSent p r n).onStripe p.par.id fun q => q.endRun n) p.par.id Stripe.Ended :=
    Now.onStripe (f := fun q => q.endRun n) ((h.endSent Stripe.runs_lostFree r n).imp fun q ⟨k, hk⟩ =>
      ⟨rfl, _, by rw [Stripe.endRun, hk, Option.map_some], rfl⟩) fun _ => rfl
  rw [State.launchEnd_eq, State.when]
  split
  · exact hend.passEnd
  · exact hend

/-! ### A cut run (R186, R206) -/

theorem Undisturbed.moveVisits {s t : State} (h : Undisturbed logPieces s t) (f : Field) (lanes : Nat) (hf : f.steady = false := by decide) :
    Undisturbed logPieces s (t.moveVisits f lanes) := h.setRegs _ (by simpa using ⟨hf, by decide⟩)

/-- What an aborted frame's visits count for (R48). -/
def State.countAbort (s : State) (lanes : Nat) (taken : Nat × Nat) : State :=
  ((s.lostVisits Reg.LDG_VIS_ABORT_VISITS lanes).moveVisits Reg.LDG_VIS_LOST_VISITS taken.1).moveVisits Reg.LDG_VIS_GAP_VISITS taken.2

theorem State.countAbort_undisturbed (s : State) (lanes : Nat) (taken : Nat × Nat) : Undisturbed logPieces s (s.countAbort lanes taken) :=
  (((Undisturbed.refl _ s).lostVisits _ _).moveVisits _ _).moveVisits _ _

theorem State.amendAbort_eq (s : State) (p : Stripe) (r : Run) (n : Nat) : s.amendAbort p r n =
    ((s.amendFrame p.par.id r n causeAbort fun _ => true).countAbort (p.amendable n fun _ => true).length (p.takenOver n)).onStripe
      p.par.id fun q => q.abortFrame n := rfl

theorem State.amendAbort_undisturbed (s : State) (p : Stripe) (r : Run) (n : Nat) : Undisturbed workPieces s (s.amendAbort p r n) := by
  rw [State.amendAbort_eq]
  exact ((s.amendFrame_undisturbed _ _ _ _ _).trans ((State.countAbort_undisturbed _ _ _).mono logPieces_subset_workPieces)).onStripe _ _

theorem Now.amendAbort {s : State} {p : Stripe} {P : Stripe → Prop} (h : Now s p.par.id P) (hP : DoseFree P) (r : Run) (n : Nat) :
    Now (s.amendAbort p r n) p.par.id P := by
  rw [State.amendAbort_eq]
  exact ((h.amendFrame hP r n _ _).undisturbed (State.countAbort_undisturbed _ _ _)).dose hP fun q => q.core_abortFrame n

theorem State.wasteStaged_undisturbed (s : State) : Undisturbed logPieces s s.wasteStaged :=
  (Undisturbed.refl _ s).forAll _ fun g u => (Undisturbed.refl _ u).bookBeam g 1 _

/-- The abort has taken effect, and a resume starts at this tick. -/
def Stripe.AbortedAt (st : Status) (resume : Nat) (q : Stripe) : Prop :=
  q.state = .aborting ∧ q.abortDue = false ∧ q.cause = some st ∧ q.resumeAt = some resume

theorem Now.aborting {s : State} {id : Nat} (h : Now s id fun _ => True) (st : Status) (resume : Nat) :
    Now (s.aborting id st resume) id (Stripe.AbortedAt st resume) :=
  Now.onStripe (h.imp fun _ _ => ⟨rfl, rfl, rfl, rfl⟩) fun _ => rfl

theorem State.aborting_undisturbed (s : State) (id : Nat) (st : Status) (resume : Nat) :
    Undisturbed [.stripes] s (s.aborting id st resume) := s.onStripe_undisturbed id _

/-- END with VETO is on the lanes in place of the frame due next, whose staged results are discarded. -/
def State.vetoSent (s : State) (p : Stripe) (r : Run) : State :=
  (s.broadcast p r.next { endRun := true, veto := true, repair := r.repair } []).wasteStaged

theorem State.vetoSent_undisturbed (s : State) (p : Stripe) (r : Run) : Undisturbed lanePieces s (s.vetoSent p r) :=
  (s.broadcast_undisturbed _ _ _ _).trans ((State.wasteStaged_undisturbed _).mono logPieces_subset_lanePieces)

theorem State.cutRun_eq {s : State} {p q : Stripe} {r : Run} (st : Status) (hx : p.xk2 = false)
    (hq : ((s.vetoSent p r).endLostRun p.par.id).stripe? p.par.id = some q) : s.cutRun p r st =
      ((((s.vetoSent p r).endLostRun p.par.id).amendAbort q r (r.next - 1)).aborting p.par.id st (max r.next r.accounted)) := by
  unfold State.cutRun
  extract_lets n t
  have ht : t.stripe? p.par.id = some q := hq
  rw [ht]
  dsimp only
  rw [if_neg (by simp [hx])]
  rfl

section
variable {s : State} {p : Stripe} (h : Now s p.par.id fun _ => True) (r : Run) (st : Status) (hx : p.xk2 = false)
include h hx

theorem State.cutRun_undisturbed : Undisturbed launchPieces s (s.cutRun p r st) := by
  obtain ⟨q, hq, -⟩ := (h.undisturbed (s.vetoSent_undisturbed p r)).endLostRun (P := fun _ => True) fun _ _ _ _ _ _ => trivial
  rw [State.cutRun_eq st hx hq]
  exact ((((s.vetoSent_undisturbed p r).mono lanePieces_subset_launchPieces).trans
    ((State.endLostRun_undisturbed _ _).mono workPieces_subset_launchPieces)).trans
      ((State.amendAbort_undisturbed _ _ _ _).mono workPieces_subset_launchPieces)).trans
        ((State.aborting_undisturbed _ _ _ _).mono (by simp [launchPieces]))

theorem Now.cutRun : Now (s.cutRun p r st) p.par.id (Stripe.AbortedAt st (max r.next r.accounted)) := by
  have hend := (h.undisturbed (s.vetoSent_undisturbed p r)).endLostRun (P := fun _ => True) fun _ _ _ _ _ _ => trivial
  obtain ⟨q, hq, -⟩ := hend
  rw [State.cutRun_eq st hx hq]
  have hid : q.par.id = p.par.id := State.id_of_stripe? hq
  have hamend : Now (((s.vetoSent p r).endLostRun p.par.id).amendAbort q r (r.next - 1)) q.par.id fun _ => True :=
    Now.amendAbort (P := fun _ => True) ⟨q, hid.symm ▸ hq, trivial⟩ (fun _ _ _ _ => trivial) r _
  exact (hid ▸ hamend).aborting st _

end

/-! ### Return lanes in loss as a run ends (R213) -/

/-- A group whose return lane is in loss waits for no more confirmations. -/
def Group.forget (k : Group) : Group := { k with unconfirmed := if k.loss then [] else k.unconfirmed }

theorem State.cutPending_eq {s : State} {p : Stripe} (h : s.active? = some p) :
    s.cutPending = (s.putStripe (p.cutGroups s.inLoss)).forAll (List.range 16) fun g s => s.onGroup g Group.forget := by
  unfold State.cutPending
  rw [h]
  rfl

theorem State.forget_undisturbed (s : State) :
    Undisturbed [.link] s (s.forAll (List.range 16) fun g s => s.onGroup g Group.forget) :=
  (Undisturbed.refl _ s).forAll _ fun g u => u.onGroup_undisturbed g _

theorem State.cutPending_undisturbed {s : State} {p : Stripe} (h : s.active? = some p) : Undisturbed launchPieces s s.cutPending := by
  rw [State.cutPending_eq h]
  exact ((s.putStripe_undisturbed _).mono workPieces_subset_launchPieces).trans
    ((State.forget_undisturbed _).mono (by simp [launchPieces, lanePieces]))

/-- The stripe has its CUT records, and is the same otherwise. -/
theorem Now.cutPending {s : State} {p : Stripe} (h : s.active? = some p) (hp : s.stripe? p.par.id = some p) :
    Now s.cutPending p.par.id fun q => ∃ rs, q = { p with records := rs } := by
  obtain ⟨rs, hrs⟩ := p.cutGroups_eq s.inLoss
  rw [State.cutPending_eq h]
  have hput : (s.putStripe (p.cutGroups s.inLoss)).stripe? p.par.id = some (p.cutGroups s.inLoss) := by
    have hid : (p.cutGroups s.inLoss).par.id = p.par.id := by rw [hrs]
    exact hid ▸ State.stripe?_putStripe (hid.symm ▸ hp)
  exact Now.undisturbed ⟨_, hput, rs, hrs⟩ (State.forget_undisturbed _)

/-! ### What follows a complete run (R178, R266) -/

/-- A complete run at rest, its sweeps finished. -/
def Stripe.settled (q : Stripe) (r : Run) : Bool := r.complete && (r.rest || q.xk2) && q.state == .runout && q.sweeps.isEmpty

section
variable {s : State} {id : Nat} {q : Stripe} {r : Run} (hq : s.stripe? id = some q) (hr : q.run = some r)
include hq hr

theorem State.settleRun_of_not (h : q.settled r = false) : s.settleRun id = s := by
  unfold State.settleRun
  rw [hq]
  dsimp only
  rw [hr]
  exact if_neg (by simpa [Stripe.settled] using h)

theorem State.settleRun_next {k : Run} (h : q.settled r = true) (hk : q.nextRun = some k) : s.settleRun id = s.nextRun id k := by
  unfold State.settleRun
  rw [hq]
  dsimp only
  rw [hr, hk]
  exact if_pos h

theorem State.settleRun_completes (h : q.settled r = true) (hk : q.nextRun = none) : s.settleRun id = s.completeStripe q r.last := by
  unfold State.settleRun
  rw [hq]
  dsimp only
  rw [hr, hk]
  exact if_pos h

end

theorem Now.fixStart {s : State} {id : Nat} {P : Stripe → Prop} (h : Now s id P)
    (hP : ∀ q x, P q → P { q with startPos := x }) (f : Rat) : Now (s.fixStart id f) id P := by
  refine (Now.onStripe (h.imp fun q hq => ?_) fun q => ?_).undisturbed (State.drawn_keeps _ |>.undisturbed (by simp) (List.Subset.refl _))
  · split
    · exact hP q _ hq
    · exact hq
  · split <;> rfl

/-- A further run starts under the caps as they stand (R256). -/
theorem Now.nextRun {s : State} {id : Nat} (h : Now s id fun _ => True) (r : Run) :
    Now (s.nextRun id r) id fun q => q.state = .transit ∧ q.run = some { r with caps := s.capsNow } := by
  refine Now.fixStart (P := fun q => q.state = .transit ∧ q.run = some { r with caps := s.capsNow }) ?_ (fun _ _ h => h) _
  exact Now.onStripe (f := fun p => p.startRun { r with caps := s.capsNow }) (h.imp fun _ _ => ⟨rfl, rfl⟩) fun _ => rfl

/-! ### The release of a stripe (R31, R161, R299, R342) -/

theorem State.dropGrid_pieces (s : State) (id : Nat) : KeepsPieces [.gridJob] s (s.dropGrid id) :=
  (KeepsPieces.refl _ s).when _ fun u =>
    (show KeepsPieces [.gridJob] u { u with gridJob := none } from fun p hp => by cases p <;> simp_all [Piece.same]).setRegs _

theorem State.setShadows_pieces (s : State) (l : List Shadow) : KeepsPieces [.shadows] s { s with shadows := l } :=
  fun p hp => by cases p <;> simp_all [Piece.same]

theorem State.setPackages_pieces (s : State) (l : List Package) : KeepsPieces [.packages] s { s with packages := l } :=
  fun p hp => by cases p <;> simp_all [Piece.same]

theorem State.freeWork_pieces (s : State) (id : Nat) : KeepsPieces dropPieces s (s.freeWork id) := by
  unfold State.freeWork
  extract_lets t
  have ht : KeepsPieces dropPieces s t := by
    refine (KeepsPieces.refl _ s).forAll _ fun x u => ?_
    split
    · split
      · exact (u.wasteJob_pieces _ _).mono (by simp [enginePieces, dropPieces])
      · exact KeepsPieces.refl _ u
    · exact KeepsPieces.refl _ u
  exact ht.trans ((t.setShadows_pieces _).mono (by simp [dropPieces]))

theorem State.stripe?_dropStripe (s : State) (id : Nat) : (s.dropStripe id).stripe? id = none := by
  have hstripes := State.dropGrid_pieces { s with stripes := s.stripes.filter fun p => p.par.id != id } id .stripes (by decide)
  rw [State.stripe?, State.dropStripe, hstripes]
  simp [List.find?_eq_none]

theorem State.dropPackage_pieces (s : State) (id : Nat) : KeepsPieces (.gridJob :: dropPieces) s (s.dropPackage id) :=
  (((s.freeWork_pieces id).mono (by simp)).trans ((State.dropGrid_pieces _ id).mono (by simp))).trans
    ((State.setPackages_pieces _ _).mono (by simp [dropPieces]))

theorem State.package?_dropPackage (s : State) (id : Nat) : (s.dropPackage id).package? id = none := by
  simp [State.package?, State.dropPackage, List.find?_eq_none]

/-- A stripe and its package are gone. -/
def State.Released (s : State) (id : Nat) : Prop := s.stripe? id = none ∧ s.package? id = none

theorem State.Released.keeps {s t : State} {id : Nat} {ps : List Piece} (h : s.Released id) (ht : KeepsPieces ps s t)
    (hs : .stripes ∉ ps := by decide) (hp : .packages ∉ ps := by decide) : t.Released id := by
  have hstripes : t.stripes = s.stripes := ht .stripes hs
  have hpackages : t.packages = s.packages := ht .packages hp
  unfold State.Released
  rwa [State.stripe?, State.package?, hstripes, hpackages]

theorem State.released_drop (s : State) (id : Nat) : ((s.dropStripe id).dropPackage id).Released id := by
  have hstripes := (s.dropStripe id).dropPackage_pieces id .stripes (by decide)
  exact ⟨by rw [State.stripe?, hstripes, ← State.stripe?, State.stripe?_dropStripe], State.package?_dropPackage _ id⟩

theorem State.released_completeStripe (s : State) (p : Stripe) (lastTick : Nat) : (s.completeStripe p lastTick).Released p.par.id :=
  (State.released_drop _ p.par.id).keeps (State.between_linkWork _).pieces

end Sys2Proof.Machine
end

section
/-! SUPPORT. The commands of a tick (R38, R178, R186, R205, R266): launch, sweep, overrun, abort and the end of a run. -/
namespace Sys2Proof.Machine

open Sys2Proof

/-! ### FRAME_LAUNCH (R38, R199) -/

/-- The tick before the frame due next occurs, its marker leaves, and the words corrected while the frame was built are logged. -/
def State.tickMarked (s : State) (p : Stripe) (r : Run) (at_ slip words : Nat) : State :=
  ((s.forAll (List.range words) fun _ s => s.windowError 1).tickAt p r (r.next - 1) at_).when (decide (r.first < r.next)) fun a =>
    a.marked p r (r.next - 1) (s.departure at_ slip)

/-- What follows a launch: DATA_LATE as the reserves stand (R273). -/
def State.lateAfter (s : State) (id : Nat) : State :=
  match s.stripe? id with
  | some z => (match z.run with | some k => s.dataLate z k | none => s)
  | none => s

theorem State.lateAfter_undisturbed (s : State) (id : Nat) : Undisturbed logPieces s (s.lateAfter id) := by
  unfold State.lateAfter
  split
  · split
    · refine (Undisturbed.refl _ s).when _ fun u => ?_
      dsimp only
      split
      · exact (Undisturbed.refl _ u).setReg Reg.XK2_STATUS_DATA_LATE 1
      · exact (Undisturbed.refl _ u).when _ fun v => (Undisturbed.refl _ v).setReg Reg.XK2_STATUS_DATA_LATE 0
    · exact Undisturbed.refl _ s
  · exact Undisturbed.refl _ s

section
variable {s : State} {p : Stripe} {r : Run} {at_ : Nat} (slip words : Nat)

theorem State.fixedWords_undisturbed (s : State) (words : Nat) :
    Undisturbed logPieces s (s.forAll (List.range words) fun _ s => s.windowError 1) :=
  (Undisturbed.refl _ s).forAll _ fun _ u => (Undisturbed.refl _ u).windowError 1

variable (hr : r.first < r.next)
include hr

theorem State.tickMarked_undisturbed : Undisturbed tickPieces s (s.tickMarked p r at_ slip words) := by
  refine Undisturbed.when ?_ _ fun u => (u.marked_undisturbed _).mono workPieces_subset_tickPieces
  exact ((s.fixedWords_undisturbed words).mono logPieces_subset_tickPieces).trans (State.tickAt_undisturbed at_ (by omega))

theorem State.tickMarked_lastTick : (s.tickMarked p r at_ slip words).lastTick = some (r.next - 1) := by
  have hmark : Undisturbed workPieces _ (s.tickMarked p r at_ slip words) :=
    (Undisturbed.refl _ _).when _ fun u => u.marked_undisturbed _
  exact (hmark.pieces .lastTick (by decide)).trans (State.tickAt_lastTick at_ (by omega))

theorem Now.tickMarked (h : Now s p.par.id (p.Continues r)) (hp : p.state ≠ .runup) :
    Now (s.tickMarked p r at_ slip words) p.par.id (p.Continues r) := by
  have htick := (h.undisturbed (s.fixedWords_undisturbed words)).tickAt hp at_ (t := r.next - 1) (by omega)
  unfold State.tickMarked State.when
  split
  · exact htick.marked _
  · exact htick

end

theorem Writes.now_tickMarked {s : State} {p : Stripe} {r : Run} (h : Writes s p r) (hr : r.first < r.next) (at_ slip words : Nat) :
    Now (s.tickMarked p r at_ slip words) p.par.id (p.Continues r) := by
  obtain ⟨-, hp, hs, hrun, -, -⟩ := h
  exact Now.tickMarked slip words hr ⟨p, hp, Stripe.continues_self hrun⟩ (by simp [hs])

/-- FRAME_LAUNCH of a stripe that writes: END after the run's last tick, else the frame due. -/
theorem Writes.exec_frameLaunch {s : State} {p : Stripe} {r : Run} {at_ : Nat} (h : Writes s p r) (hd : p.abortDue = false)
    (ha : r.announced = true) (hi : r.instantOf r.next = some at_) (hn : r.next ≤ r.last + 1) (nr : List (Fin 128)) (slip words : Nat)
    (bw : List (List (Nat × Nat))) {q : Stripe} {k : Run} (hq : (s.tickMarked p r at_ slip words).stripe? p.par.id = some q)
    (hk : q.run = some k) : exec (.frameLaunch nr slip words bw) s = answer s (State.lateAfter
      (if r.next = r.last + 1 then (s.tickMarked p r at_ slip words).launchEnd q k r.next
        else (s.tickMarked p r at_ slip words).launchData q k r.next at_ (missing nr ++ q.starvedLanes k r.next) bw) p.par.id) := by
  obtain ⟨hact, -, hs, hrun, htick, -⟩ := h
  show execFrameLaunch nr slip words bw s = _
  unfold execFrameLaunch
  rw [hact]
  dsimp -zeta only
  rw [hrun]
  dsimp -zeta only
  rw [hi]
  dsimp -zeta only
  rw [State.when, if_pos (by simp [Stripe.launches, hs, hd, ha, htick, hn])]
  extract_lets n a
  have hq' : a.stripe? p.par.id = some q := hq
  rw [hq']
  dsimp -zeta only
  rw [hk]
  rfl

section
variable {s : State} {p : Stripe} {r : Run} {at_ : Nat} (h : Writes s p r) (hd : p.abortDue = false) (ha : r.announced = true)
  (hi : r.instantOf r.next = some at_) (hr : r.first < r.next) (nr : List (Fin 128)) (slip words : Nat) (bw : List (List (Nat × Nat)))
include h hd ha hi hr

/-- The frame due leaves on the active lanes, and the tick before it is the last. -/
theorem Writes.completes_launch (hn : r.next ≤ r.last) : Completes (.frameLaunch nr slip words bw) s fun t =>
    t.lastTick = some (r.next - 1) ∧ Now t p.par.id (Stripe.Launched r.next) ∧
    ∀ l ∈ s.activeLanes, (s.group (l / 8)).switch = none → s.drives (l / 8) (s.laneSlot l) = true → Out.carries t.out l (s.laneSlot l) := by
  have hnow := h.now_tickMarked hr at_ slip words
  have htick := State.tickMarked_undisturbed (s := s) (p := p) (at_ := at_) slip words hr
  obtain ⟨q, hq, hc⟩ := hnow
  obtain ⟨k, hk, -, -⟩ := hc.run
  have hexec := h.exec_frameLaunch hd ha hi (by omega) nr slip words bw hq hk
  rw [if_neg (by omega)] at hexec
  have hnowq : Now (s.tickMarked p r at_ slip words) q.par.id (q.Continues k) := ⟨q, hc.par ▸ hq, Stripe.continues_self hk⟩
  have hlaunch := State.launchData_undisturbed k r.next at_ (missing nr ++ q.starvedLanes k r.next) bw hnowq
  have hlate := State.lateAfter_undisturbed ((s.tickMarked p r at_ slip words).launchData q k r.next at_
    (missing nr ++ q.starvedLanes k r.next) bw) p.par.id
  refine Completes.of_answer hexec ⟨?_, ?_, fun l hl hs hdr => ?_⟩
  · exact ((hlate.pieces .lastTick (by decide)).trans (hlaunch.pieces .lastTick (by decide))).trans (State.tickMarked_lastTick slip words hr)
  · have hstate : q.state = .write := hc.state.trans h.2.2.1
    have hdata := hnowq.launchData k r.next at_ (missing nr ++ q.starvedLanes k r.next) bw hstate
    rw [hc.par] at hdata
    have hdone := hdata.undisturbed hlate
    exact hdone
  · have hlt := (State.mem_activeLanes.1 hl).1
    have hsend := State.launchData_carries k r.next at_ (missing nr ++ q.starvedLanes k r.next) bw hnowq (htick.activeLanes ▸ hl)
      (by rwa [htick.group (by decide)])
      (by rwa [htick.laneSlot hlt, htick.drives (by decide) (by omega) (s.laneSlot_lt l)])
    rw [htick.laneSlot hlt] at hsend
    obtain ⟨rd, b, hsend⟩ := hsend
    exact ⟨rd, b, hlate.sent hsend⟩

/-- END leaves after the run's last tick. -/
theorem Writes.completes_end (hn : r.next = r.last + 1) : Completes (.frameLaunch nr slip words bw) s fun t =>
    t.lastTick = some r.last ∧ Now t p.par.id Stripe.Ended := by
  obtain ⟨q, hq, hc⟩ := h.now_tickMarked hr at_ slip words
  obtain ⟨k, hk, -, -⟩ := hc.run
  have hexec := h.exec_frameLaunch hd ha hi (by omega) nr slip words bw hq hk
  rw [if_pos hn] at hexec
  have hend := (s.tickMarked p r at_ slip words).launchEnd_undisturbed q k r.next
  have hlate := State.lateAfter_undisturbed ((s.tickMarked p r at_ slip words).launchEnd q k r.next) p.par.id
  refine Completes.of_answer hexec ⟨?_, ?_⟩
  · have hlast := State.tickMarked_lastTick (s := s) (p := p) (at_ := at_) slip words hr
    rw [hn, Nat.add_sub_cancel] at hlast
    exact ((hlate.pieces .lastTick (by decide)).trans (hend.pieces .lastTick (by decide))).trans hlast
  · have hruns : Now (s.tickMarked p r at_ slip words) q.par.id Stripe.Runs := ⟨q, hc.par ▸ hq, k, hk⟩
    have hended := hruns.launchEnd k r.next
    rw [hc.par] at hended
    have hdone := hended.undisturbed hlate
    exact hdone

end

/-! ### LOST_VISIT_SWEEP (R178) -/

/-- The log of a sweep. -/
def State.sweepNoted (s : State) (lanes : List Nat) : State :=
  (s.count 14 5 1).forAll (List.range 16) fun g t => t.bookBeam g 1 (lanes.filter fun l => l / 8 == g).length

theorem State.sweepNoted_undisturbed (s : State) (lanes : List Nat) : Undisturbed logPieces s (s.sweepNoted lanes) :=
  ((Undisturbed.refl _ s).count 14 5 1).forAll _ fun g u => (Undisturbed.refl _ u).bookBeam g 1 _

theorem Writes.completes_sweep {s : State} {p : Stripe} {r : Run} {n : Nat} {lanes : List Nat} {rest : List (Nat × List Nat)}
    (h : Writes s p r) (hw : p.sweeps = (n, lanes) :: rest) : Completes .lostVisitSweep s fun t => Now t p.par.id fun q =>
      q = (p.sweepLanes r (s.ledgerRoom p) n lanes).withSweeps rest ∧ q.sweeps = rest ∧ q.state = .write := by
  obtain ⟨hact, hp, hs, hrun, -, -⟩ := h
  have hcore := p.core_sweepLanes r (s.ledgerRoom p) n lanes
  have hid : ((p.sweepLanes r (s.ledgerRoom p) n lanes).withSweeps rest).par.id = p.par.id :=
    congrArg (·.par.id) hcore
  have hstate : ((p.sweepLanes r (s.ledgerRoom p) n lanes).withSweeps rest).state = .write := (congrArg (·.state) hcore).trans hs
  have hrun' : ((p.sweepLanes r (s.ledgerRoom p) n lanes).withSweeps rest).run = some r := (congrArg (·.run) hcore).trans hrun
  have hsweeps : ((p.sweepLanes r (s.ledgerRoom p) n lanes).withSweeps rest).sweeps = rest := rfl
  generalize hq : (p.sweepLanes r (s.ledgerRoom p) n lanes).withSweeps rest = q at *
  have hput : (s.putStripe q).stripe? p.par.id = some q := hid ▸ State.stripe?_putStripe (hid.symm ▸ hp)
  have hnoted : ((s.putStripe q).sweepNoted lanes).stripe? p.par.id = some q :=
    (congrArg (List.find? _) ((State.sweepNoted_undisturbed _ lanes).pieces .stripes (by decide))).trans hput
  have hexec : exec .lostVisitSweep s = answer s (((s.putStripe q).sweepNoted lanes).settleRun p.par.id) := by
    show execLostVisitSweep s = _
    unfold execLostVisitSweep
    rw [hact]
    dsimp only
    rw [hrun, hw]
    dsimp only
    rw [hq]
    rfl
  rw [State.settleRun_of_not hnoted hrun' (by simp [Stripe.settled, hstate])] at hexec
  exact Completes.of_answer hexec ⟨q, hnoted, rfl, hsweeps, hstate⟩

/-! ### TICK_OVERRUN (R178, R336) -/

theorem exec_tickOverrun {s : State} {p : Stripe} {r : Run} {n : Nat} {lanes : List Nat} {rest : List (Nat × List Nat)}
    (hact : s.active? = some p) (hrun : p.run = some r) (hw : p.sweeps = (n, lanes) :: rest) :
    exec .tickOverrun s = answer s (s.when (decide (48 ≤ p.ticksSince r n)) (·.abort .tickOverrun)) := by
  show execTickOverrun s = _
  unfold execTickOverrun
  rw [hact]
  dsimp only
  rw [hrun, hw]

/-- An abort of a run that a device on its own writes waits for the next tick (R186, R266). -/
theorem Writes.abort_eq {s : State} {p : Stripe} {r : Run} (h : Writes s p r) (st : Status) : s.abort st = s.abortAtTick p st none := by
  obtain ⟨hact, -, hs, hrun, htick, hrole⟩ := h
  unfold State.abort
  rw [hact]
  simp [hs, hrun, htick, State.tellGroup, State.abortTicked, hrole]

theorem Now.aborts {s : State} {p : Stripe} (h : Now s p.par.id fun _ => True) (st : Status) :
    Aborts (s.abortAtTick p st none) p.par.id st :=
  Now.onStripe (P := fun q => q.state = .aborting ∧ q.cause = some st ∧ q.abortDue = true ∧ q.abortAt = none)
    (h.imp fun _ _ => ⟨rfl, rfl, rfl, rfl⟩) fun _ => rfl

theorem State.tellGroup_undisturbed (s : State) (p : Stripe) : Undisturbed [.stage] s (s.tellGroup p) := by
  unfold State.tellGroup
  split
  · exact Undisturbed.refl _ s
  · exact s.setStage_undisturbed _
  · exact s.setStage_undisturbed _

/-- An abort cause in RUNOUT, while something remains. -/
theorem Now.abort_runout {s : State} {p : Stripe} {r k : Run} (hact : s.active? = some p) (hp : s.stripe? p.par.id = some p)
    (hrun : p.run = some r) (hs : p.state = .runout) (hk : p.nextRun = some k) (st : Status) :
    Now (s.abort st) p.par.id (Stripe.AbortedAt st k.first) := by
  have he : s.abort st = (s.tellGroup p).aborting p.par.id st k.first := by
    unfold State.abort
    rw [hact]
    simp [hs, hrun, State.abortRunout, hk]
  rw [he]
  exact (Now.undisturbed ⟨p, hp, trivial⟩ (s.tellGroup_undisturbed p)).aborting st k.first

/-! ### ABORT_TICK (R186, R206) -/

/-- The marker of the abort tick, under VETO. -/
def Stripe.vetoMarker (z : Stripe) (left : Nat) : Stripe :=
  { z with run := z.run.map fun k =>
    { k with departures := (k.next - 1, left) :: k.departures.take 47, vetoed := (k.next - 1) :: k.vetoed.take 47 } }

theorem exec_abortTick {s : State} {p q : Stripe} {r k : Run} {at_ : Nat} (hact : s.active? = some p) (hrun : p.run = some r)
    (hi : r.instantOf r.next = some at_) (hd : p.abortDue = true) (ha : p.abortAt = none)
    (hq : (s.tickAt p r (r.next - 1) at_).stripe? p.par.id = some q) (hk : q.run = some k) :
    ∃ left, exec .abortTick s = answer s (((((s.tickAt p r (r.next - 1) at_).drawn.onStripe p.par.id fun z => z.vetoMarker left).cutRun
      q k (q.cause.getD .stripeAborted))).softEnds) := by
  refine ⟨(s.tickAt p r (r.next - 1) at_).departure at_ (Config.pairSlip (s.tickAt p r (r.next - 1) at_).draw), ?_⟩
  show execAbortTick s = _
  unfold execAbortTick
  rw [hact]
  dsimp -zeta only
  rw [hrun]
  dsimp -zeta only
  rw [hi]
  dsimp -zeta only
  rw [State.when, if_pos (by simp [hd, ha])]
  extract_lets a
  have hq' : a.stripe? p.par.id = some q := hq
  rw [hq']
  dsimp -zeta only
  rw [hk]
  rfl

theorem completes_abortTick {s : State} {p : Stripe} {r : Run} {at_ : Nat} {c : Status} (hact : s.active? = some p)
    (hp : s.stripe? p.par.id = some p) (hrun : p.run = some r) (hs : p.state = .aborting) (hd : p.abortDue = true) (ha : p.abortAt = none)
    (hc : p.cause = some c) (hx : p.xk2 = false) (hi : r.instantOf r.next = some at_) (hr : r.first < r.next) :
    Completes .abortTick s fun t => t.lastTick = some (r.next - 1) ∧ Now t p.par.id (Stripe.AbortedAt c (max r.next r.accounted)) := by
  obtain ⟨q, hq, hcont⟩ := Now.tickAt ⟨p, hp, Stripe.continues_self hrun⟩ (by simp [hs]) at_ (t := r.next - 1) (by omega)
  obtain ⟨k, hk, hnext, hacc⟩ := hcont.run
  obtain ⟨left, hexec⟩ := exec_abortTick hact hrun hi hd ha hq hk
  rw [hcont.cause, hc, Option.getD_some] at hexec
  have hpar := hcont.par
  have hmark : Undisturbed workPieces (s.tickAt p r (r.next - 1) at_)
      ((s.tickAt p r (r.next - 1) at_).drawn.onStripe p.par.id fun z => z.vetoMarker left) :=
    (((Undisturbed.refl _ _).drawn).mono logPieces_subset_workPieces).onStripe _ _
  have hnow : Now ((s.tickAt p r (r.next - 1) at_).drawn.onStripe p.par.id fun z => z.vetoMarker left) q.par.id fun _ => True := by
    rw [hpar]
    exact Now.onStripe (f := fun z => z.vetoMarker left) ⟨q, hq, trivial⟩ fun _ => rfl
  have hcut := State.cutRun_undisturbed hnow k c (hcont.xk2.trans hx)
  refine Completes.of_answer hexec ⟨?_, ?_⟩
  · exact ((State.softEnds_pieces _ .lastTick (by decide)).trans ((hcut.pieces .lastTick (by decide)).trans
      (hmark.pieces .lastTick (by decide)))).trans (State.tickAt_lastTick at_ (by omega))
  · have hdone := Now.cutRun hnow k c (hcont.xk2.trans hx)
    rw [hpar, hnext, hacc] at hdone
    exact hdone.congr (State.softEnds_pieces _ .stripes (by decide))

/-! ### RUN_COMPLETE (R205, R266) -/

/-- NAK_WINDOW tick periods have passed after END. -/
def Stripe.markComplete (q : Stripe) : Stripe := { q with run := q.run.map fun r => { r with complete := true } }

theorem exec_runComplete {s : State} {p : Stripe} (hact : s.active? = some p) (hs : p.state = .runout) :
    exec .runComplete s = answer s ((s.cutPending.onStripe p.par.id Stripe.markComplete).settleRun p.par.id).softEnds := by
  show execRunComplete s = _
  unfold execRunComplete
  rw [hact]
  dsimp only
  rw [State.when, if_pos (by simp [hs])]
  rfl

/-- A stripe that has its CUT records and a complete run, and is otherwise as before. -/
def Stripe.completed (p : Stripe) (r : Run) (rs : List Record) : Stripe :=
  { p with records := rs, run := some { r with complete := true } }

theorem Stripe.nextRun_completed {p : Stripe} {r : Run} (h : p.run = some r) (rs : List Record) :
    (p.completed r rs).nextRun = p.nextRun := by
  unfold Stripe.nextRun
  rw [h]
  rfl

theorem Stripe.settled_completed {p : Stripe} {r : Run} (hs : p.state = .runout) (hrest : r.rest = true) (hw : p.sweeps = [])
    (rs : List Record) : (p.completed r rs).settled { r with complete := true } = true := by
  simp [Stripe.settled, Stripe.completed, hrest, hw, hs]

theorem State.stripe?_markComplete {s : State} {p : Stripe} {r : Run} (hact : s.active? = some p) (hp : s.stripe? p.par.id = some p)
    (hrun : p.run = some r) :
    ∃ rs, (s.cutPending.onStripe p.par.id Stripe.markComplete).stripe? p.par.id = some (p.completed r rs) := by
  obtain ⟨q, hq, rs, rfl⟩ := Now.cutPending hact hp
  exact ⟨rs, by rw [State.stripe?_onStripe (f := Stripe.markComplete) _ _ fun _ => rfl, hq, Option.map_some, Stripe.markComplete, hrun]; rfl⟩

section
variable {s : State} {p : Stripe} {r : Run} (hact : s.active? = some p) (hp : s.stripe? p.par.id = some p) (hrun : p.run = some r)
  (hs : p.state = .runout)
include hact hp hrun hs

/-- A complete run waits for the stage's rest and its sweeps. -/
theorem completes_runComplete_waits (hx : p.xk2 = false) (hw : r.rest = false ∨ p.sweeps ≠ []) : Completes .runComplete s fun t =>
    Now t p.par.id fun q => q.state = .runout ∧ q.run = some { r with complete := true } := by
  obtain ⟨rs, hq⟩ := State.stripe?_markComplete hact hp hrun
  have hexec := exec_runComplete hact hs
  have hnot : (p.completed r rs).settled { r with complete := true } = false := by
    rcases hw with hw | hw <;> simp [Stripe.settled, Stripe.completed, hw, hx]
  rw [State.settleRun_of_not hq rfl hnot] at hexec
  exact Completes.of_answer hexec (Now.congr ⟨_, hq, hs, rfl⟩ (State.softEnds_pieces _ .stripes (by decide)))

/-- The next run begins its travel under the caps as they stand. -/
theorem completes_runComplete_next (hrest : r.rest = true) (hw : p.sweeps = []) {k : Run} (hk : p.nextRun = some k) :
    Completes .runComplete s fun t => Now t p.par.id fun q => q.state = .transit ∧ q.run = some { k with caps := s.capsNow } := by
  obtain ⟨rs, hq⟩ := State.stripe?_markComplete hact hp hrun
  have hexec := exec_runComplete hact hs
  rw [State.settleRun_next hq rfl (Stripe.settled_completed hs hrest hw rs) ((Stripe.nextRun_completed hrun rs).trans hk)] at hexec
  have hcaps : (s.cutPending.onStripe p.par.id Stripe.markComplete).capsNow = s.capsNow :=
    ((State.cutPending_undisturbed hact).trans ((State.onStripe_undisturbed _ _ _).mono (by simp [launchPieces]))).capsNow
  have hnext := Now.nextRun (s := s.cutPending.onStripe p.par.id Stripe.markComplete) ⟨_, hq, trivial⟩ k
  rw [hcaps] at hnext
  exact Completes.of_answer hexec (hnext.congr (State.softEnds_pieces _ .stripes (by decide)))

/-- The stripe completes: it and its package are gone. -/
theorem completes_runComplete_last (hrest : r.rest = true) (hw : p.sweeps = []) (hk : p.nextRun = none) :
    Completes .runComplete s fun t => t.Released p.par.id := by
  obtain ⟨rs, hq⟩ := State.stripe?_markComplete hact hp hrun
  have hexec := exec_runComplete hact hs
  rw [State.settleRun_completes hq rfl (Stripe.settled_completed hs hrest hw rs) ((Stripe.nextRun_completed hrun rs).trans hk)] at hexec
  have hdone := (State.released_completeStripe (s.cutPending.onStripe p.par.id Stripe.markComplete) (p.completed r rs) r.last).keeps
    (State.softEnds_pieces _)
  generalize State.softEnds _ = t at hexec hdone
  exact Completes.of_answer hexec hdone

end

/-! ### The statement -/

/-- With no stripe in motion the commands of a tick do nothing. -/
theorem ignored_of_no_active {s : State} (h : s.active? = none) (nr : List (Fin 128)) (slip words : Nat) (bw : List (List (Nat × Nat))) :
    Ignored (.frameLaunch nr slip words bw) s ∧ Ignored .lostVisitSweep s ∧ Ignored .abortTick s ∧ Ignored .runComplete s := by
  refine ⟨?_, ?_, ?_, ?_⟩
  · show answer s _ = .next s
    rw [h]
    rfl
  · show answer s _ = .next s
    rw [h]
    rfl
  · show answer s _ = .next s
    rw [h]
    rfl
  · show answer s _ = .next s
    rw [h]
    rfl

/-- Settles O34: a launch is a tick, frames or END, and the log; sweeps put the stripe back, aborts mark it, and a complete run is
followed by the next one or by the stripe's release. -/
theorem frameLaunches : Obligations.FrameLaunches := by
  refine ⟨fun s p r at_ nr slip fw bw h hd ha hi hr => ⟨h.completes_launch hd ha hi hr nr slip fw bw,
    h.completes_end hd ha hi hr nr slip fw bw⟩, fun s nr slip fw bw h => ignored_of_no_active h nr slip fw bw,
    fun s p r n lanes rest h hw => ⟨h.completes_sweep hw, fun hn => ?_, fun hc hn => ?_⟩,
    fun s p r k n lanes rest hact hp hrun hs hc hw hn hk => ?_,
    fun s p r at_ c hact hp hrun hs hd ha hc hx hi hr _ => completes_abortTick hact hp hrun hs hd ha hc hx hi hr,
    fun s p r hact hp hrun hs hx _ => ⟨fun hrest => completes_runComplete_waits hact hp hrun hs hx (.inl hrest),
      fun _ hw => completes_runComplete_waits hact hp hrun hs hx (.inr hw),
      fun hrest hw k hk => completes_runComplete_next hact hp hrun hs hrest hw hk,
      fun hrest hw hk => completes_runComplete_last hact hp hrun hs hrest hw hk⟩⟩
  · have ⟨hact, hp, _, hrun, _, _⟩ := h
    have hexec := exec_tickOverrun hact hrun hw
    rw [State.when, if_pos (decide_eq_true (by unfold Stripe.ticksSince; omega)), h.abort_eq] at hexec
    exact Completes.of_answer hexec (Now.aborts ⟨p, hp, trivial⟩ .tickOverrun)
  · have ⟨hact, _, _, hrun, _, _⟩ := h
    have hexec := exec_tickOverrun hact hrun hw
    rw [State.when, if_neg (by simp [Stripe.ticksSince, hc]; omega)] at hexec
    exact hexec
  · have hexec := exec_tickOverrun hact hrun hw
    rw [State.when, if_pos (decide_eq_true (by rw [Stripe.ticksSince, hc, if_pos rfl]; omega))] at hexec
    refine Completes.of_answer hexec ?_
    exact (Now.abort_runout hact hp hrun hs hk .tickOverrun).imp fun _ ⟨hstate, _, hcause, _⟩ => ⟨hstate, hcause⟩

end Sys2Proof.Machine
end

section
/-! SUPPORT. The start of a stripe and every rest of the stage (R49, R203, R263, R266, R267, R381, R421). -/
namespace Sys2Proof.Machine

open Sys2Proof

/-! ### STRIPE_READY_TO_START (R49, R266, R381, R421) -/

/-- The next stripe may be looked at: nothing else moves, the operator and the clocks allow it, its package is there, no sweep. -/
def State.mayStart (s : State) (p : Stripe) : Bool :=
  s.stageFree && s.operatorReady && s.clocked && s.packageReady p && !s.flag Reg.MEM_STATUS_SWEEPING

/-- What becomes of the next stripe where it may be looked at. -/
def State.startNext (s : State) (p : Stripe) (r : Run) : State :=
  if !s.sectorsWork then s.noSlice p
  else s.when (p.state == .held || s.startConditions p r) fun s =>
    if p.xk2 then (s.present r).arm p r
    else if s.groupAgreed p then (s.present r).depart p r
    else s.when (p.bv.role == 1 && s.stage.tsRun.isNone) fun s => s.sendRun 0 p r r.first r.last

section
variable {s : State} {p : Stripe} {r : Run}

theorem exec_stripeReadyToStart (hn : s.nextToStart = some p) (hrun : p.run = some r) :
    exec .stripeReadyToStart s = answer s (s.when (s.mayStart p) fun s => s.startNext p r) := by
  show execStripeReadyToStart s = _
  unfold execStripeReadyToStart
  rw [hn]
  dsimp only
  rw [hrun]
  rfl

/-- Nothing starts while the operator or the stage forbids it, while none is next, or while HBM is swept. -/
theorem ignored_stripeReadyToStart
    (h : s.operatorReady = false ∨ s.stageFree = false ∨ s.nextToStart = none ∨ s.flag Reg.MEM_STATUS_SWEEPING = true) :
    Ignored .stripeReadyToStart s := by
  cases hn : s.nextToStart with
  | none =>
    show answer s _ = .next s
    rw [hn]
    rfl
  | some p =>
    cases hrun : p.run with
    | none =>
      show answer s _ = .next s
      rw [hn]
      dsimp only
      rw [hrun]
      rfl
    | some r =>
      have hnot : s.mayStart p = false := by
        rcases h with h | h | h | h
        · simp [State.mayStart, h]
        · simp [State.mayStart, h]
        · simp [hn] at h
        · simp [State.mayStart, h]
      show exec .stripeReadyToStart s = _
      rw [exec_stripeReadyToStart hn hrun, hnot]
      rfl

theorem State.present_undisturbed (s : State) (r : Run) : Undisturbed [] s (s.present r) :=
  (Undisturbed.refl _ s).when _ fun u => (Undisturbed.refl _ u).setRegs _ (by simp; decide)

/-- A stripe in a state of its life, its parameters as bound. -/
def Stripe.Is (p : Stripe) (st : StripeState) (q : Stripe) : Prop := q.state = st ∧ q.par = p.par

theorem Undisturbed.showTarget {s t : State} (h : Undisturbed logPieces s t) (cause : Nat) : Undisturbed logPieces s (t.showTarget cause) :=
  (h.setRegs _ (by simp; decide)).drawn

theorem Now.fixStartOf {s : State} {id : Nat} {P : Stripe → Prop} (h : Now s id P) (hP : ∀ q x, P q → P { q with startPos := x })
    (r : Run) (f : Rat) : Now (s.fixStartOf id r f) id P := by
  have ht : Now (s.onStripe id fun q => { q with startPos := s.startOf q r (speedOf q.par.k q.par.np f) }) id P :=
    Now.onStripe (h.imp fun q hq => hP q _ hq) fun _ => rfl
  exact ht.undisturbed (ps := logPieces) ((Undisturbed.refl _ _).drawn)

/-- Travel begins, and f_target is not shown yet. -/
def State.departing (s : State) (p : Stripe) (r : Run) : State :=
  (s.onStripe p.par.id fun q => { q with
    state := .transit, run := some { r with caps := s.capsNow }, fCap := (s.rateCap p s.capsNow).1 }).when
      s.stage.tsRange.isSome fun t => t.fixStartOf p.par.id (s.adoptRange { r with caps := s.capsNow }) (s.rateCap p s.capsNow).1

theorem State.depart_eq (s : State) (p : Stripe) (r : Run) : s.depart p r = State.showTarget { s.departing p r with
    stage := { (s.departing p r).stage with fTarget := (s.rateCap p s.capsNow).1, raising := 0, cacheHist := [] } }
      (s.rateCap p s.capsNow).2 := rfl

theorem Now.depart (h : Now s p.par.id fun q => q.par = p.par) (r : Run) : Now (s.depart p r) p.par.id (p.Is .transit) := by
  have hgo : Now (s.departing p r) p.par.id (p.Is .transit) := by
    have ht : Now (s.onStripe p.par.id fun q => { q with
        state := .transit, run := some { r with caps := s.capsNow }, fCap := (s.rateCap p s.capsNow).1 }) p.par.id (p.Is .transit) :=
      Now.onStripe (h.imp fun _ hq => ⟨rfl, hq⟩) fun _ => rfl
    unfold State.departing State.when
    split
    · exact ht.fixStartOf (fun _ _ hq => hq) _ _
    · exact ht
  rw [State.depart_eq]
  exact (hgo.undisturbed (State.setStage_undisturbed _ _)).undisturbed ((Undisturbed.refl _ _).showTarget _)

theorem Now.arm (h : Now s p.par.id fun q => q.par = p.par) (r : Run) : Now (s.arm p r) p.par.id (p.Is .runup) :=
  Now.onStripe (P := p.Is .runup) (f := fun q => { q with state := .runup, run := some { r with announced := true, fixed := [(r.first, s.now)] } })
    (h.imp fun _ hq => ⟨rfl, hq⟩) fun _ => rfl

theorem State.armed_arm (s : State) (p : Stripe) (r : Run) : (s.arm p r).reg Reg.XK2_STATUS_ARMED = 1 :=
  State.reg_setReg_same _ _ 1 (by decide)

/-- The next stripe starts its transit, or is armed. -/
theorem completes_start (hn : s.nextToStart = some p) (hp : s.stripe? p.par.id = some p) (hrun : p.run = some r)
    (hmay : s.mayStart p = true) (hw : s.sectorsWork = true) (hc : s.startConditions p r = true) (hrole : p.bv.role = 0) :
    Completes .stripeReadyToStart s fun t => (p.xk2 = false → Now t p.par.id (p.Is .transit)) ∧
      (p.xk2 = true → t.reg Reg.XK2_STATUS_ARMED = 1 ∧ Now t p.par.id (p.Is .runup)) := by
  have hpres : Now (s.present r) p.par.id fun q => q.par = p.par := Now.undisturbed ⟨p, hp, rfl⟩ (s.present_undisturbed r)
  have hexec := exec_stripeReadyToStart hn hrun
  rw [hmay, State.when, if_pos rfl, State.startNext, hw, State.when, hc, Bool.or_true, if_pos rfl] at hexec
  cases hx : p.xk2 with
  | true =>
    rw [hx] at hexec
    exact Completes.of_answer hexec ⟨by simp, fun _ => ⟨(s.present r).armed_arm p r, hpres.arm r⟩⟩
  | false =>
    rw [hx, show s.groupAgreed p = true by simp [State.groupAgreed, hrole]] at hexec
    exact Completes.of_answer hexec ⟨fun _ => hpres.depart r, by simp⟩

/-- A bound stripe with no working slice for a sector completes; packages stay. -/
theorem completes_noSlice (hn : s.nextToStart = some p) (hrun : p.run = some r) (hs : p.state = .bound) (hmay : s.mayStart p = true)
    (hw : s.sectorsWork = false) (hr : s.cprOf p.owner.ring ≤ 4) : Completes .stripeReadyToStart s fun t =>
      t.stripe? p.par.id = none ∧ t.packages = s.packages ∧
      t.heldCpl (s.cprOf p.owner.ring) = s.heldCpl (s.cprOf p.owner.ring) ++ [Completion.mk' p.owner .sliceFailed 0 0 0] := by
  have hexec := exec_stripeReadyToStart hn hrun
  rw [hmay, State.when, if_pos rfl, State.startNext, hw] at hexec
  have hcpl : Undisturbed logPieces s (s.complete (Completion.mk' p.owner .sliceFailed 0 0 0)) := (Undisturbed.refl _ s).complete _
  have hheld := s.heldCpl_complete (Completion.mk' p.owner .sliceFailed 0 0 0) hr
  generalize hu : s.complete (Completion.mk' p.owner .sliceFailed 0 0 0) = u at hcpl hheld
  have hdrop : KeepsPieces [.stripes, .gridJob] u (u.dropStripe p.par.id) :=
    (show KeepsPieces [.stripes, .gridJob] u { u with stripes := u.stripes.filter fun q => q.par.id != p.par.id } from
      fun q hq => by cases q <;> simp_all [Piece.same]).trans ((State.dropGrid_pieces _ _).mono (by simp))
  have hgone := u.stripe?_dropStripe p.par.id
  have hno : s.noSlice p = (u.dropStripe p.par.id).between := by
    rw [State.noSlice, hu, if_pos hs]
  rw [Bool.not_false, if_pos rfl, hno] at hexec
  have hbet := (u.dropStripe p.par.id).between_linkWork
  refine Completes.of_answer hexec ⟨?_, ?_, ?_⟩
  · exact (congrArg (List.find? _) (hbet.pieces .stripes (by decide))).trans hgone
  · exact (hbet.pieces .packages (by decide)).trans ((hdrop .packages (by decide)).trans (hcpl.pieces .packages (by decide)))
  · exact ((hbet.held _).trans (State.heldCpl_of_host (hdrop .host (by decide)) _)).trans hheld

end

/-! ### STAGE_AT_REST (R266, R267, R439) -/

/-- The stripe's run knows that the stage is at rest. -/
def Stripe.noteRest (q : Stripe) : Stripe := { q with run := q.run.map fun r => { r with rest := true } }

/-- The run in RUNOUT knows of the rest, and its stop is over. -/
def State.restNoted (s : State) (id : Nat) : State :=
  { s.onStripe id Stripe.noteRest with stage := { (s.onStripe id Stripe.noteRest).stage with hardStop := false } }

/-- What a rest of the stage does to the stripe in motion. -/
def State.stripeRests (s : State) (p : Stripe) (r : Run) (pos : Int) : State :=
  let rested := s.onStripe p.par.id Stripe.noteRest
  match p.state with
  | .transit => s.when (p.bv.role == 2 || pos == p.startPos) fun _ => rested.mayAnnounce p { r with rest := true }
  | .pause => rested
  | .runout => (s.restNoted p.par.id).settleRun p.par.id
  | .aborting => s.abortRest p
  | .idle | .bound | .runup | .write | .held => s

section
variable {s : State} {p : Stripe} {r : Run}

theorem exec_stageAtRest (hy : s.stage.yMove = none) (hact : s.active? = some p) (hrun : p.run = some r) (pos : Int) :
    exec (.stageAtRest pos) s = answer s (s.stripeRests p r pos).softEnds := by
  show execStageAtRest pos s = _
  unfold execStageAtRest
  rw [hy]
  dsimp only
  rw [hact]
  dsimp only
  rw [hrun]
  rfl

/-! #### At the start position (R203, R266) -/

/-- The run that an announcement announces. -/
def State.announced (s : State) (r : Run) : Run := { s.adoptRange r with announced := true, rest := false }

/-- The ANNOUNCE of a lane. -/
def State.announceFrame (s : State) (p : Stripe) (r : Run) (l : Nat) : LaneFrame :=
  frameOn p (s.announced r).first l (s.laneSlot l) { announce := true, repair := (s.announced r).repair } (p.announce (s.announced r))

/-- ANNOUNCE is on the lanes, and the groups have not answered yet. -/
def State.announceSent (s : State) (p : Stripe) (r : Run) : State := s.sendFrames (s.activeLanes.map (s.announceFrame p r))

/-- Every group must answer READY again. -/
def State.awaitReady (s : State) : State :=
  s.forAll (List.range 16) fun g t => t.onGroup g fun k => { k with ready := false, unconfirmed := [] }

theorem State.awaitReady_undisturbed (s : State) : Undisturbed [.link] s s.awaitReady :=
  (Undisturbed.refl _ s).forAll _ fun g u => u.onGroup_undisturbed g _

theorem State.announce_eq (s : State) (p : Stripe) (r : Run) : ∃ u : StageUnit, s.announce p r =
    (State.awaitReady { s.announceSent p r with stage := u }).onStripe p.par.id fun q =>
      { q with state := .runup, run := some (s.announced r) } := ⟨_, rfl⟩

theorem State.announce_tail (s : State) (p : Stripe) (r : Run) : Undisturbed launchPieces (s.announceSent p r) (s.announce p r) := by
  obtain ⟨u, he⟩ := s.announce_eq p r
  rw [he]
  exact (((State.setStage_undisturbed _ u).mono (by simp [launchPieces])).trans
    ((State.awaitReady_undisturbed _).mono (by simp [launchPieces, lanePieces]))).trans
      ((State.onStripe_undisturbed _ _ _).mono (by simp [launchPieces]))

theorem State.announce_undisturbed (s : State) (p : Stripe) (r : Run) : Undisturbed launchPieces s (s.announce p r) :=
  ((s.sendFrames_undisturbed _).mono lanePieces_subset_launchPieces).trans (s.announce_tail p r)

theorem Now.announce (h : Now s p.par.id fun _ => True) (r : Run) :
    Now (s.announce p r) p.par.id fun q => q.state = .runup ∧ ∃ k, q.run = some k ∧ k.announced = true := by
  obtain ⟨u, he⟩ := s.announce_eq p r
  rw [he]
  have hsent : Now (s.announceSent p r) p.par.id fun _ => True := h.undisturbed (s.sendFrames_undisturbed _)
  have hready := (hsent.undisturbed (State.setStage_undisturbed _ u)).undisturbed (State.awaitReady_undisturbed _)
  exact Now.onStripe (hready.imp fun _ _ => ⟨rfl, _, rfl, rfl⟩) fun _ => rfl

/-- ANNOUNCE leaves on every active lane whose driver is on. -/
theorem State.announce_carries (s : State) (p : Stripe) (r : Run) {l : Nat} (hl : l ∈ s.activeLanes)
    (hd : s.drives (l / 8) (s.laneSlot l) = true) : Out.carries (s.announce p r).out l (s.laneSlot l) := by
  have hmem : s.announceFrame p r l ∈ s.activeLanes.map (s.announceFrame p r) := List.mem_map_of_mem hl
  obtain ⟨rd, b, hsent⟩ := State.sendFrames_carries hmem (State.mem_activeLanes.1 hl).1 (s.laneSlot_lt l) hd
  exact ⟨rd, b, (s.announce_tail p r).sent hsent⟩

theorem State.noteRest_undisturbed (s : State) (id : Nat) : Undisturbed [.stripes] s (s.onStripe id Stripe.noteRest) :=
  s.onStripe_undisturbed id _

/-- At rest at the start position a device on its own announces its run. -/
theorem completes_announce (hy : s.stage.yMove = none) (hb : s.softBusy = false) (hact : s.active? = some p)
    (hp : s.stripe? p.par.id = some p) (hrun : p.run = some r) (hs : p.state = .transit) (hrole : p.bv.role = 0) :
    Completes (.stageAtRest p.startPos) s fun t =>
      Now t p.par.id (fun q => q.state = .runup ∧ ∃ k, q.run = some k ∧ k.announced = true) ∧
      ∀ l ∈ s.activeLanes, s.drives (l / 8) (s.laneSlot l) = true → Out.carries t.out l (s.laneSlot l) := by
  have hexec := exec_stageAtRest hy hact hrun p.startPos
  have hrest := s.noteRest_undisturbed p.par.id
  have hnow : Now (s.onStripe p.par.id Stripe.noteRest) p.par.id fun _ => True :=
    Now.onStripe (f := Stripe.noteRest) ⟨p, hp, trivial⟩ fun _ => rfl
  have heq : s.stripeRests p r p.startPos = (s.onStripe p.par.id Stripe.noteRest).announce p { r with rest := true } := by
    unfold State.stripeRests State.when
    simp [hs, State.mayAnnounce, State.groupAgreed, hrole]
  generalize s.onStripe p.par.id Stripe.noteRest = u at hrest hnow heq
  have hall : Undisturbed launchPieces s (u.announce p { r with rest := true }) :=
    (hrest.mono (by simp [launchPieces])).trans (u.announce_undisturbed p { r with rest := true })
  have hrunup := hnow.announce { r with rest := true }
  have hcarries : ∀ l ∈ s.activeLanes, s.drives (l / 8) (s.laneSlot l) = true →
      Out.carries (u.announce p { r with rest := true }).out l (s.laneSlot l) := fun l hl hd => by
    have hlt := (State.mem_activeLanes.1 hl).1
    have hlane : l ∈ u.activeLanes := by rwa [hrest.activeLanes]
    have hdrives : u.drives (l / 8) (u.laneSlot l) = true := by
      rwa [hrest.laneSlot hlt, hrest.drives (by decide) (by omega) (s.laneSlot_lt l)]
    have hsent := u.announce_carries p { r with rest := true } hlane hdrives
    rwa [hrest.laneSlot hlt] at hsent
  rw [heq, State.softEnds_of_not_busy (hall.softBusy.trans hb)] at hexec
  generalize u.announce p { r with rest := true } = t at hexec hrunup hcarries
  exact Completes.of_answer hexec ⟨hrunup, hcarries⟩

/-- At rest elsewhere a device on its own announces nothing. -/
theorem ignored_elsewhere (hy : s.stage.yMove = none) (hb : s.softBusy = false) (hact : s.active? = some p) (hrun : p.run = some r)
    (hs : p.state = .transit) (hrole : p.bv.role = 0) {pos : Int} (hpos : pos ≠ p.startPos) : Ignored (.stageAtRest pos) s := by
  have heq : s.stripeRests p r pos = s := by
    unfold State.stripeRests State.when
    simp [hs, hrole, hpos]
  show exec (.stageAtRest pos) s = _
  rw [exec_stageAtRest hy hact hrun, heq, State.softEnds_of_not_busy hb]
  rfl

/-! #### In RUNOUT and ABORTING (R266) -/

/-- A run that is not complete only notes the rest. -/
theorem completes_runoutRest (hy : s.stage.yMove = none) (hact : s.active? = some p) (hp : s.stripe? p.par.id = some p)
    (hrun : p.run = some r) (hs : p.state = .runout) (hc : r.complete = false) (pos : Int) : Completes (.stageAtRest pos) s fun t =>
      Now t p.par.id fun q => q.state = .runout ∧ q.run = some { r with rest := true } := by
  have hq : (s.onStripe p.par.id Stripe.noteRest).stripe? p.par.id = some p.noteRest := by
    rw [State.stripe?_onStripe (f := Stripe.noteRest) _ _ fun _ => rfl, hp, Option.map_some]
  have hr : p.noteRest.run = some { r with rest := true } := by rw [Stripe.noteRest, hrun, Option.map_some]
  have hexec := exec_stageAtRest hy hact hrun pos
  have heq : s.stripeRests p r pos = (s.restNoted p.par.id).settleRun p.par.id := by
    unfold State.stripeRests
    rw [hs]
  rw [heq, State.settleRun_of_not (s := s.restNoted p.par.id) (q := p.noteRest) hq hr (by simp [Stripe.settled, hc])] at hexec
  have hnow : Now (s.restNoted p.par.id) p.par.id fun q => q.state = .runout ∧ q.run = some { r with rest := true } := ⟨_, hq, hs, hr⟩
  exact Completes.of_answer hexec (hnow.congr (State.softEnds_pieces _ .stripes (by decide)))

theorem Undisturbed.finish {s t : State} (h : Undisturbed logPieces s t) (p : Stripe) (st : Status) (d1 records : Nat) :
    Undisturbed logPieces s (t.finish p st d1 records) := by
  unfold State.finish
  split
  · exact h
  · split
    · exact (h.complete _).when _ fun u => ((Undisturbed.refl _ u).setReg Reg.XK2_IRQ_ERR _).when _ fun v => (Undisturbed.refl _ v).emit _
    · exact h.complete _

/-- The stripe waits for a resume at the point that its abort fixed. -/
def Stripe.HeldAt (resume : Option Nat) (q : Stripe) : Prop := q.state = .held ∧ q.resumeAt = resume ∧ q.run = none

/-- A stripe as it enters HELD. -/
def Stripe.hold (q : Stripe) : Stripe :=
  { q with state := .held, run := none, cause := none, abortDue := false, abortAt := none, aborts := [], resumeOrigin := none,
           silent := false }

/-- The completions of a stripe that enters HELD: its own, and those of the commands that aborted it. -/
def State.holdNoted (s : State) (p : Stripe) (st : Status) : State :=
  (s.finish p st (p.resumeAt.getD 0) p.records.length).forAll p.aborts fun o t => t.complete (Completion.mk' o .ok (p.resumeAt.getD 0) 0 0)

theorem State.holdNoted_undisturbed (s : State) (p : Stripe) (st : Status) : Undisturbed logPieces s (s.holdNoted p st) :=
  ((Undisturbed.refl _ s).finish _ _ _ _).forAll _ fun _ u => (Undisturbed.refl _ u).complete _

theorem State.holdStripe_eq (s : State) (p : Stripe) (st : Status) : s.holdStripe p st =
    (((s.holdNoted p st).onStripe p.par.id Stripe.hold).setReg Reg.LDG_STATUS_REPAIR_PASS 0).between := rfl

theorem Now.holdStripe {resume : Option Nat} (h : Now s p.par.id fun q => q.resumeAt = resume) (st : Status) :
    Now (s.holdStripe p st) p.par.id (Stripe.HeldAt resume) := by
  rw [State.holdStripe_eq]
  have hheld : Now ((s.holdNoted p st).onStripe p.par.id Stripe.hold) p.par.id (Stripe.HeldAt resume) :=
    Now.onStripe (f := Stripe.hold) ((h.undisturbed (s.holdNoted_undisturbed p st)).imp fun _ hq => ⟨rfl, hq, rfl⟩) fun _ => rfl
  exact (hheld.congr rfl).congr ((State.between_linkWork _).pieces .stripes (by decide))

/-- The motion is calm again, and a run of lost frames is closed. -/
def State.calmed (t : State) (id : Nat) : State :=
  State.endLostRun { t with stage := { t.stage with emergency := false, hardStop := false } } id

theorem State.abortRest_eq {q : Stripe} (hrun : p.run = some r) (hd : p.abortDue = false) (hq : s.cutPending.stripe? p.par.id = some q) :
    s.abortRest p = (s.cutPending.calmed q.par.id).holdStripe (((s.cutPending.calmed q.par.id).stripe? q.par.id).getD q)
      (q.cause.getD .stripeAborted) := by
  unfold State.abortRest
  rw [hrun]
  dsimp only
  rw [hd, if_neg (by simp), hq]
  rfl

/-- At rest an abort that has taken effect ends in HELD. -/
theorem completes_abortRest (hy : s.stage.yMove = none) (hact : s.active? = some p) (hp : s.stripe? p.par.id = some p)
    (hrun : p.run = some r) (hs : p.state = .aborting) (hd : p.abortDue = false) (pos : Int) : Completes (.stageAtRest pos) s fun t =>
      Now t p.par.id (Stripe.HeldAt p.resumeAt) := by
  obtain ⟨q, hq, rs, rfl⟩ := Now.cutPending hact hp
  have hexec := exec_stageAtRest hy hact hrun pos
  have heq : s.stripeRests p r pos = s.abortRest p := by
    unfold State.stripeRests
    rw [hs]
  rw [heq, State.abortRest_eq hrun hd hq] at hexec
  have hcalm : Now (s.cutPending.calmed p.par.id) p.par.id fun q => q.resumeAt = p.resumeAt :=
    Now.endLostRun (Now.undisturbed ⟨_, hq, rfl⟩ (State.setStage_undisturbed _ _)) fun _ _ _ _ _ h => h
  obtain ⟨z, hz, hres⟩ := hcalm
  have hid : z.par.id = p.par.id := State.id_of_stripe? hz
  dsimp only at hexec
  rw [hz, Option.getD_some] at hexec
  have hhold := Now.holdStripe (p := z) (resume := p.resumeAt) ⟨z, hid.symm ▸ hz, hres⟩ (p.cause.getD .stripeAborted)
  rw [hid] at hhold
  exact Completes.of_answer hexec (hhold.congr (State.softEnds_pieces _ .stripes (by decide)))

/-! #### A host move (R267, R347) -/

/-- The stage after a host move. -/
def StageUnit.moved (u : StageUnit) : StageUnit := { u with yMove := none, emergency := false, hardStop := false }

theorem State.moveRest_eq {m : YMove} {o : Origin} (ho : m.origin = some o) (hs : m.stopping = none) (hr : m.reversing = false)
    (hc : m.stopCmd = []) (pos : Int) : s.moveRest m pos =
      State.drawn { s.complete (Completion.mk' o .ok m.overshoot 0 0) with
        stage := (s.complete (Completion.mk' o .ok m.overshoot 0 0)).stage.moved } := by
  rw [State.moveRest, hr, Bool.and_false, if_neg (by simp), State.moveDone, hs, ho, hc]
  rfl

/-- A host move that nothing stopped completes. -/
theorem completes_move {m : YMove} {o : Origin} (hy : s.stage.yMove = some m) (ho : m.origin = some o) (hs : m.stopping = none)
    (hr : m.reversing = false) (hc : m.stopCmd = []) (hb : s.softBusy = false) (hring : s.cprOf o.ring ≤ 4) (pos : Int) :
    Completes (.stageAtRest pos) s fun t => t.stage.yMove = none ∧
      t.heldCpl (s.cprOf o.ring) = s.heldCpl (s.cprOf o.ring) ++ [Completion.mk' o .ok m.overshoot 0 0] := by
  have hexec : exec (.stageAtRest pos) s = answer s (s.moveRest m pos).softEnds := by
    show execStageAtRest pos s = _
    unfold execStageAtRest
    rw [hy]
  have hcpl : Undisturbed logPieces s (s.complete (Completion.mk' o .ok m.overshoot 0 0)) := (Undisturbed.refl _ s).complete _
  have hheld := s.heldCpl_complete (Completion.mk' o .ok m.overshoot 0 0) hring
  rw [State.moveRest_eq ho hs hr hc] at hexec
  generalize s.complete (Completion.mk' o .ok m.overshoot 0 0) = u at hexec hcpl hheld
  have hall : Undisturbed (.stage :: logPieces) s (State.drawn { u with stage := u.stage.moved }) :=
    ((hcpl.mono (by simp)).trans ((State.setStage_undisturbed _ _).mono (by simp))).trans (((Undisturbed.refl _ _).drawn).mono (by simp))
  rw [State.softEnds_of_not_busy (hall.softBusy.trans hb)] at hexec
  exact Completes.of_answer hexec ⟨rfl, hheld⟩

/-! ### READY_TIMEOUT (R203) -/

theorem Stripe.undo_par (p : Stripe) : p.undo.par = p.par := by
  unfold Stripe.undo
  split <;> rfl

/-- The first frame of a run that never ticked is taken back, and END with VETO leaves in place of the next. -/
def State.unticked (s : State) (p : Stripe) (r : Run) : State :=
  (s.onStripe p.par.id Stripe.undo).when (decide (r.first < r.next)) fun t => t.vetoSent p r

theorem State.abortUnticked_eq (hx : p.xk2 = false) (st : Status) :
    s.abortUnticked p r st = (s.unticked p r).aborting p.par.id st (p.untickedResume r) := by
  unfold State.abortUnticked
  extract_lets t
  rw [if_neg (by simp [hx])]
  rfl

theorem Now.unticked (h : Now s p.par.id fun _ => True) (r : Run) : Now (s.unticked p r) p.par.id fun _ => True := by
  have hundo : Now (s.onStripe p.par.id Stripe.undo) p.par.id fun _ => True := Now.onStripe h Stripe.undo_par
  unfold State.unticked State.when
  split
  · exact hundo.undisturbed (State.vetoSent_undisturbed _ p r)
  · exact hundo

/-- Groups that do not answer in time abort the run. -/
theorem completes_readyTimeout (hact : s.active? = some p) (hp : s.stripe? p.par.id = some p) (hrun : p.run = some r)
    (hx : p.xk2 = false) (hs : p.state = .runup) (ha : r.announced = true) (ht : r.ticked = false) (hr : s.allReady p = false) :
    Completes .readyTimeout s fun t => Now t p.par.id (Stripe.AbortedAt .stripeAborted (p.untickedResume r)) := by
  have hexec : exec .readyTimeout s = answer s (s.abortUnticked p r .stripeAborted) := by
    show execReadyTimeout s = _
    unfold execReadyTimeout
    rw [hact]
    dsimp only
    rw [hrun]
    dsimp only
    rw [State.when, if_pos (by simp [hs, ha, ht, hr])]
  rw [State.abortUnticked_eq hx] at hexec
  have hdone := (Now.unticked (s := s) ⟨p, hp, trivial⟩ r).aborting .stripeAborted (p.untickedResume r)
  exact Completes.of_answer hexec hdone

end

/-! ### The statement -/

/-- Settles O33: a start is a travel, an arming or a completion of what cannot be written, and a rest of the stage is what the state of
the stripe in motion makes of it. -/
theorem stripeStarts : Obligations.StripeStarts := by
  refine ⟨fun s p r hn hp hrun hs hfree hop hclk hpkg hsweep => ?_, fun s h => ignored_stripeReadyToStart h,
    fun s pos p r hy hb hact hp hrun hx => ⟨fun hs hrole hpos => hpos ▸ completes_announce hy hb hact hp hrun hs hrole,
      fun hs hrole hpos => ignored_elsewhere hy hb hact hrun hs hrole hpos,
      fun hs hc => completes_runoutRest hy hact hp hrun hs hc pos,
      fun hs hd => completes_abortRest hy hact hp hrun hs hd pos, fun hs ha ht hr => ?_⟩,
    fun s pos m o hy ho hs hr hc hb hring => completes_move hy ho hs hr hc hb hring pos⟩
  · have hmay : s.mayStart p = true := by simp [State.mayStart, hfree, hop, hclk, hpkg, hsweep]
    exact ⟨fun hw hc hrole => completes_start hn hp hrun hmay hw hc hrole,
      fun hw hring => completes_noSlice hn hrun hs hmay hw hring⟩
  · obtain ⟨t, hexec, hnow⟩ := completes_readyTimeout hact hp hrun hx hs ha ht hr
    exact ⟨t, hexec, hnow.imp fun _ ⟨hstate, _, hcause, _⟩ => ⟨hstate, hcause⟩⟩

end Sys2Proof.Machine
end

section
/-! SUPPORT. Layout channels and the end of their packages (R87, R98, R99, R103, R332): what a buffer's entry, a refusal and a
settlement do to the channel, and what they leave alone. -/
namespace Sys2Proof.Machine

open Sys2Proof

/-! ### Channels and completions -/

@[simp] theorem State.channel_onChannel (s : State) (ch : Fin 8) (f : Channel → Channel) :
    (s.onChannel ch f).channel ch = f (s.channel ch) := vget_vmod_same _ _ _ _ ch.isLt

theorem State.onChannel_keeps (s : State) (ch : Nat) (f : Channel → Channel) : Keeps [.channels] [] s (s.onChannel ch f) :=
  ⟨fun p hp => by cases p <;> simp_all [Piece.same, State.onChannel], fun _ _ => rfl⟩

theorem State.channel_congr {s t : State} (h : t.channels = s.channels) (ch : Nat) : t.channel ch = s.channel ch := by
  simp only [State.channel, h]

theorem State.stripe?_congr {s t : State} (h : t.stripes = s.stripes) (id : Nat) : t.stripe? id = s.stripe? id := by
  simp only [State.stripe?, h]

/-- What is done for each of a list keeps what each deed keeps. -/
theorem Keeps.forAll {α : Type} {ps : List Piece} {fs : List Field} (s : State) (l : List α) {f : α → State → State}
    (hf : ∀ a u, Keeps ps fs u (f a u)) : Keeps ps fs s (s.forAll l f) :=
  State.forAll_induction (P := Keeps ps fs s) l (Keeps.refl ps fs s) fun a _ u hu =>
    (hu.trans (hf a u)).mono (by simp) (by simp)

/-- A completion waits on its ring, and may be counted as stalled; nothing else changes. -/
theorem State.complete_keeps (s : State) (c : Completion) : Keeps [.host, .counters] [ovf 1] s (s.complete c) := by
  have hring (r : Nat) (f : CplRing → CplRing) : Keeps [.host] [] s (s.onCpl r f) :=
    ⟨fun p hp => by cases p <;> simp_all [Piece.same], fun _ _ => rfl⟩
  exact ((hring _ _).trans (State.when_keeps _ _ _ fun _ => State.count_keeps _ 1 3 1)).mono (by simp) (by simp)

/-! ### The end of an assembly (R103) -/

/-- The channel holds no package, and a queue that was empty stays so; beside it only completions come. -/
theorem State.endAssembly_frame (s : State) (ch : Nat) (a : Assembly) (r : PkgRefusal) (fault : Option Nat) :
    ∃ c : Channel, c.pkg = none ∧ ((s.channel ch).queue = [] → c.queue = []) ∧
      Keeps [.host, .counters] [ovf 1] (s.onChannel ch fun _ => c) (s.endAssembly ch a r fault) := by
  unfold State.endAssembly
  extract_lets c part front sp t
  refine ⟨⟨sp.2.1, none, sp.2.2⟩, rfl, fun hq => ?_, ?_⟩
  · simp [sp, part, c, hq, drainSplit]
  · exact ((Keeps.forAll t _ fun k u => u.complete_keeps k).trans
      (Keeps.forAll _ sp.1 fun b u => u.complete_keeps (r.later b.origin))).mono (by simp) (by simp)

/-! ### A refusal (R87, R88) -/

/-- A refusal ends the channel's package and is the last on record; the channel, the completions and that record apart, all is as
before. -/
structure State.Refuses (s t : State) (ch : Nat) (r : PkgRefusal) : Prop where
  keeps : Keeps [.channels, .host, .counters, .refused] [ovf 1] s t
  pkg : (t.channel ch).pkg = none
  queue : (s.channel ch).queue = [] → (t.channel ch).queue = []
  last : t.refused.getLast? = some r

/-- Where no stripe of its id is bound, a refusal unbinds none. -/
theorem State.refuseBound_of_none {s : State} {r : PkgRefusal} (h : s.stripe? r.stripe = none) : s.refuseBound r = s := by
  simp [State.refuseBound, h]

theorem State.setRefused_keeps (s : State) (l : List PkgRefusal) : Keeps [.refused] [] s { s with refused := l } :=
  ⟨fun p hp => by cases p <;> simp_all [Piece.same], fun _ _ => rfl⟩

theorem State.refuses_refusePackage {s : State} {r : PkgRefusal} (ch : Fin 8) (a : Assembly) (off : Nat)
    (h : s.stripe? r.stripe = none) : s.Refuses (s.refusePackage ch a off r) ch r := by
  obtain ⟨c, hpkg, hqueue, hend⟩ := s.endAssembly_frame ch a r (some off)
  have hchannel : (s.endAssembly ch a r (some off)).channel ch = c :=
    (State.channel_congr (hend.1 .channels (by decide)) ch).trans (State.channel_onChannel _ _ _)
  have hkeeps := ((s.onChannel_keeps ch fun _ => c).trans hend).trans (State.setRefused_keeps _
    ((s.endAssembly ch a r (some off)).refused.filter (fun q => q.stripe != r.stripe) ++ [r]))
  unfold State.refusePackage
  rw [State.refuseBound_of_none ((State.stripe?_congr (hkeeps.1 .stripes (by decide)) _).trans h)]
  exact ⟨hkeeps.mono (by simp) (by simp), hchannel ▸ hpkg, fun hq => hchannel ▸ hqueue hq, by simp⟩

/-- A command that ends in a refusal completes with it. -/
theorem completes_refusePackage {i : Instr} {s : State} {ch : Fin 8} {a : Assembly} {off : Nat} {r : PkgRefusal}
    (hexec : exec i s = answer s (s.refusePackage ch a off r)) (h : s.stripe? r.stripe = none) :
    Completes i s fun t => s.Refuses t ch r := by
  have href := State.refuses_refusePackage ch a off h
  exact ⟨_, hexec.trans (answer_of_pieces href.keeps.pieces (by decide)), href⟩

/-! ### An FTC error on record (R103, R113) -/

theorem Status.code_lt (st : Status) : st.code < 2 ^ 8 := by
  cases st <;> decide

theorem State.logFtc_pieces (s : State) (ch : Nat) (st : Status) (off index : Nat) :
    KeepsPieces [.counters] s (s.logFtc ch st off index) :=
  ((KeepsPieces.refl _ s).when _ fun u => (KeepsPieces.refl _ u).setRegs _).trans (State.count_keeps _ 19 7 1).pieces

/-- The first FTC error is valid in FTC_ERR_STATUS with its code. -/
theorem State.logFtc_first {s : State} (h : s.reg Reg.FTC_ERR_STATUS_VALID = 0) (ch : Nat) (st : Status) (off index : Nat) :
    (s.logFtc ch st off index).reg Reg.FTC_ERR_STATUS_VALID = 1 ∧ (s.logFtc ch st off index).reg Reg.FTC_ERR_STATUS = st.code := by
  have hflag : s.flag Reg.FTC_ERR_STATUS_VALID = false := by simp [State.flag, h]
  unfold State.logFtc
  rw [hflag, State.reg_count _ _ _ _ (by decide), State.reg_count _ _ _ _ (by decide)]
  show (s.setRegs _).reg _ = _ ∧ (s.setRegs _).reg _ = _
  rw [State.setRegs_cons]
  constructor
  · rw [State.setRegs_cons, State.setRegs_cons, (State.setRegs_keeps _ _).2 _ (by simp; decide)]
    exact State.reg_setReg_same _ _ _ (by decide)
  · rw [(State.setRegs_keeps _ _).2 _ (by simp; decide), State.reg_setReg_same _ _ _ (by decide)]
    exact Nat.mod_eq_of_lt st.code_lt

/-! ### A buffer enters its package (R98, R332) -/

/-- Listing a descriptor changes the list of descriptors alone. -/
theorem Assembly.list_eq (a : Assembly) (o : Origin) : ∃ ds, a.list o = { a with descs := ds } := by
  refine ⟨(a.list o).descs, ?_⟩
  unfold Assembly.list
  split_ifs
  · rfl
  · rfl

/-- The package of a channel is `a`; where it is a new one, an earlier refusal of its id is forgotten. -/
def State.entered (s : State) (ch : Nat) (a : Assembly) : State :=
  (s.forget (s.channel ch) a.stripe).onChannel ch fun c => { c with pkg := some a }

theorem State.forget_keeps (s : State) (c : Channel) (id : Nat) : Keeps [.refused] [] s (s.forget c id) := by
  unfold State.forget
  split
  · exact s.setRefused_keeps _
  · exact Keeps.refl _ _ s

theorem State.entered_keeps (s : State) (ch : Nat) (a : Assembly) : Keeps [.refused, .channels] [] s (s.entered ch a) :=
  (s.forget_keeps _ _).trans (State.onChannel_keeps _ ch _)

theorem State.channel_entered (s : State) (ch : Fin 8) (a : Assembly) :
    (s.entered ch a).channel ch = { s.channel ch with pkg := some a } := by
  rw [State.entered, State.channel_onChannel, State.channel_congr ((s.forget_keeps _ _).1 .channels (by decide))]

/-- An FTC buffer of the package's own stripe enters it, and none of its blocks is taken yet. -/
theorem State.takeIn_ftc {s : State} {ch : Nat} {a : Assembly} {b : LayoutBuf} {rest : List LayoutBuf} {l : List Byte}
    (hq : (s.channel ch).queue = b :: rest) (ha : (s.channel ch).assembly b = a) (hid : a.stripe = b.stripe) (hftc : b.ftc = true)
    (hbuf : b.buf = .ok l) : ∃ ds, s.takeIn ch = s.entered ch { a with descs := ds } := by
  obtain ⟨ds, hlist⟩ := a.list_eq b.origin
  refine ⟨ds, ?_⟩
  simp [State.takeIn, State.entered, hq, ha, hlist, hftc, hbuf, hid]

theorem State.takeIn_of_empty {s : State} {ch : Nat} (hq : (s.channel ch).queue = []) : s.takeIn ch = s := by
  simp [State.takeIn, hq]

/-- A block that is taken adds its output to the package, and its buffer goes on behind it or leaves the queue at its end. -/
theorem State.channel_takeBlock (s : State) (ch : Fin 8) (a : Assembly) (b : LayoutBuf) (k : FtcBlock) (skipped : Bool) :
    ∃ ds, (s.takeBlock ch a b k skipped).channel ch =
      ⟨if b.bytes.length ≤ b.taken + k.length then (s.channel ch).queue.drop 1
        else { b with taken := b.taken + k.length } :: (s.channel ch).queue.drop 1,
       some { a with bytes := a.bytes ++ k.output, descs := ds, blockIndex := a.blockIndex + 1 }, (s.channel ch).drain⟩ := by
  unfold State.takeBlock
  extract_lets ds taken t
  have hcount : KeepsPieces [.counters] t ((t.count 19 0 1).when skipped (·.count 19 1 1)) :=
    (t.count_keeps 19 0 1).pieces.when _ fun u => (u.count_keeps 19 1 1).pieces
  exact ⟨ds, (State.channel_congr (hcount .channels (by decide)) ch).trans (State.channel_onChannel _ _ _)⟩

/-! ### A block is decoded (R97, R101, R103) -/

/-- A block that decodes and whose check agrees, or is not judged, is taken. -/
theorem State.decodeBlock_good {s : State} {ch : Nat} {a : Assembly} {b : LayoutBuf} {f : FtcBlock}
    (hf : ftcDecode (b.bytes.drop b.taken) = .ok f)
    (hcheck : 2 ≤ ch ∨ ftcCheckGood (a.stripe * 2 ^ 32 + a.blockIndex) (b.bytes.drop b.taken) f.output = true) :
    s.decodeBlock ch a b = s.takeBlock ch a b f (decide (2 ≤ ch) && bitOf (byteAt (b.bytes.drop b.taken) 3) 0) := by
  simp only [State.decodeBlock, hf]
  refine if_neg fun ⟨hch, hbad⟩ => ?_
  rcases hcheck with h | h
  · omega
  · rw [h] at hbad
    exact absurd hbad (by decide)

/-- A block at fault on a check-carrying channel is logged and refuses the package at its own start. -/
theorem State.decodeBlock_bad {s : State} {ch : Nat} {a : Assembly} {b : LayoutBuf} {x : FtcErr}
    (hx : ftcDecode (b.bytes.drop b.taken) = .error x) (hch : ch < 2) :
    s.decodeBlock ch a b = (s.logFtc ch x.status x.offset a.blockIndex).refusePackage ch a a.bytes.length
      ⟨a.stripe, x.status, a.bytes.length, a.blockIndex, x.offset, a.blockIndex⟩ := by
  simp only [State.decodeBlock, hx]
  exact if_pos hch

/-! ### A settlement (R334) -/

/-- The package that an assembly is staged as. -/
def Assembly.package (a : Assembly) (sets : SMap (List Nat)) (age : Nat) : Package :=
  { stripe := a.stripe, flx := a.flx, descs := [], settled := true, sets := sets, rho := densityMap a.flx,
    check := leAt a.bytes (a.flx.offset - 4) 4, tiles := [], selfmis := Vector.replicate 5 0, age := age }

/-- The package is staged, its channel holds none, and its descriptors complete: before any stripe is told. -/
def State.stagePackage (s : State) (ch : Nat) (a : Assembly) (sets : SMap (List Nat)) : State :=
  (State.onChannel { s with packages := s.packages ++ [a.package sets s.ages], ages := s.ages + 1 } ch
    fun c => { c with pkg := none }).forAll a.descs fun d u => u.complete (Completion.mk' d.origin .ok d.start d.blocks 0)

theorem State.settle_eq (s : State) (ch : Nat) (a : Assembly) (sets : SMap (List Nat)) :
    s.settle ch a sets = ((s.stagePackage ch a sets).onStripe a.stripe fun p => { p with needPkg := none }).packageChecks a.stripe := rfl

theorem State.stagePackage_keeps (s : State) (ch : Nat) (a : Assembly) (sets : SMap (List Nat)) :
    Keeps [.host, .counters] [ovf 1]
      (State.onChannel { s with packages := s.packages ++ [a.package sets s.ages], ages := s.ages + 1 } ch
        fun c => { c with pkg := none }) (s.stagePackage ch a sets) :=
  Keeps.forAll _ _ fun _ u => u.complete_keeps _

theorem State.packageChecks_of_none {s : State} {id : Nat} (h : s.stripe? id = none) : s.packageChecks id = s := by
  simp [State.packageChecks, h]

/-- Where no stripe of its id is bound, a settled package is staged and no stripe is checked. -/
theorem State.settle_of_none {s : State} {a : Assembly} (ch : Fin 8) (sets : SMap (List Nat)) (h : s.stripe? a.stripe = none) :
    ((s.settle ch a sets).channel ch).pkg = none ∧ (s.settle ch a sets).packages = s.packages ++ [a.package sets s.ages] := by
  obtain ⟨hstage, _⟩ := s.stagePackage_keeps ch a sets
  have hnone : ((s.stagePackage ch a sets).onStripe a.stripe fun p => { p with needPkg := none }).stripe? a.stripe = none := by
    rw [State.stripe?_onStripe (f := fun p => { p with needPkg := none }) _ _ fun _ => rfl,
      State.stripe?_congr (hstage .stripes (by decide))]
    exact congrArg _ h
  rw [State.settle_eq, State.packageChecks_of_none hnone]
  refine ⟨?_, hstage .packages (by decide)⟩
  exact congrArg Channel.pkg ((State.channel_congr (hstage .channels (by decide)) ch).trans (State.channel_onChannel _ _ _))

end Sys2Proof.Machine
end

section
/-! SUPPORT. FTC_BLOCK_DECODE, FLX_RECORD and PREPASS_DONE (R51, R62, R87, R88, R97, R100 to R103, R124, R334). -/
namespace Sys2Proof.Machine

open Sys2Proof

/-! ### Blocks (R97, R100 to R103) -/

section
variable {s : State} {ch : Fin 8} {a : Assembly} {b : LayoutBuf} {rest : List LayoutBuf} {l : List Byte}
variable (hclk : s.clocked = true) (hq : (s.channel ch).queue = b :: rest) (hftc : b.ftc = true) (hbuf : b.buf = .ok l)
variable (hw : s.wantsMore ch = true) (ha : (s.channel ch).assembly b = a) (hid : a.stripe = b.stripe)
include hclk hq hftc hbuf hw ha hid

/-- The front FTC buffer enters the package, and its next block is decoded. -/
theorem exec_ftcBlockDecode : ∃ ds, exec (.ftcBlockDecode ch) s =
    answer s ((s.entered ch { a with descs := ds }).decodeBlock ch { a with descs := ds } b) := by
  obtain ⟨ds, htake⟩ := State.takeIn_ftc hq ha hid hftc hbuf
  refine ⟨ds, ?_⟩
  show execFtcBlockDecode ch s = _
  have hfront : (s.channel ch).frontFtc = true := by simp [Channel.frontFtc, hq, hftc]
  simp [execFtcBlockDecode, State.when, hclk, hfront, hw, htake, State.channel_entered, hq]

/-- A good block joins the package. -/
theorem completes_ftcBlock_good {f : FtcBlock} (hf : ftcDecode (l.drop b.taken) = .ok f)
    (hcheck : 2 ≤ ch.val ∨ ftcCheckGood (a.stripe * 2 ^ 32 + a.blockIndex) (l.drop b.taken) f.output = true) :
    Completes (.ftcBlockDecode ch) s fun t => ∃ a', (t.channel ch).pkg = some a' ∧ a'.bytes = a.bytes ++ f.output ∧
      a'.blockIndex = a.blockIndex + 1 ∧ a'.stripe = a.stripe ∧ a'.flx = a.flx ∧
      (t.channel ch).queue = (if l.length ≤ b.taken + f.length then rest else { b with taken := b.taken + f.length } :: rest) := by
  obtain ⟨ds, hexec⟩ := exec_ftcBlockDecode hclk hq hftc hbuf hw ha hid
  obtain rfl : b.bytes = l := by simp [LayoutBuf.bytes, hbuf]
  rw [State.decodeBlock_good (a := { a with descs := ds }) hf hcheck] at hexec
  obtain ⟨ds', hchannel⟩ := State.channel_takeBlock (s.entered ch { a with descs := ds }) ch { a with descs := ds } b f
    (decide (2 ≤ ch.val) && bitOf (byteAt (b.bytes.drop b.taken) 3) 0)
  rw [State.channel_entered, hq] at hchannel
  exact Completes.of_answer hexec
    ⟨_, congrArg Channel.pkg hchannel, rfl, rfl, rfl, rfl, congrArg Channel.queue hchannel⟩

/-- A block at fault on a check-carrying channel refuses the package, and where it is the first FTC error it is on record as that. -/
theorem completes_ftcBlock_bad {x : FtcErr} (hx : ftcDecode (l.drop b.taken) = .error x) (hch : ch.val < 2)
    (hs : s.stripe? a.stripe = none) : Completes (.ftcBlockDecode ch) s fun t => (t.channel ch).pkg = none ∧
      t.refused.getLast? = some ⟨a.stripe, x.status, a.bytes.length, a.blockIndex, x.offset, a.blockIndex⟩ ∧
      (s.reg Reg.FTC_ERR_STATUS_VALID = 0 → t.reg Reg.FTC_ERR_STATUS_VALID = 1 ∧ t.reg Reg.FTC_ERR_STATUS = x.status.code) := by
  obtain ⟨ds, hexec⟩ := exec_ftcBlockDecode hclk hq hftc hbuf hw ha hid
  obtain rfl : b.bytes = l := by simp [LayoutBuf.bytes, hbuf]
  rw [State.decodeBlock_bad hx hch] at hexec
  have hent := s.entered_keeps ch { a with descs := ds }
  have hlog := State.logFtc_pieces (s.entered ch { a with descs := ds }) ch x.status x.offset a.blockIndex
  have hnone : State.stripe? _ a.stripe = none :=
    (State.stripe?_congr ((hlog .stripes (by decide)).trans (hent.1 .stripes (by decide))) _).trans hs
  have href := State.refuses_refusePackage
    (r := ⟨a.stripe, x.status, a.bytes.length, a.blockIndex, x.offset, a.blockIndex⟩) ch { a with descs := ds } a.bytes.length hnone
  refine Completes.of_answer hexec ⟨href.pkg, href.last, fun hvalid => ?_⟩
  obtain ⟨hv, hcode⟩ := State.logFtc_first ((hent.2 Reg.FTC_ERR_STATUS_VALID (by simp)).trans hvalid) ch x.status x.offset a.blockIndex
  exact ⟨(href.keeps.2 _ (by decide)).trans hv, (href.keeps.2 _ (by decide)).trans hcode⟩

end

/-! ### Records (R51, R55, R62, R88) -/

section
variable {s : State} {ch : Fin 8} {a : Assembly}

/-- Where no buffer is to enter the package, FLX_RECORD judges what the package holds. -/
theorem exec_flxRecord (hclk : s.clocked = true) (hp : (s.channel ch).pkg = some a)
    (h : s.wantsMore ch = false ∨ (s.channel ch).queue = []) :
    exec (.flxRecord ch) s = answer s (if a.flx.phase = .done then s.takeTrailer ch a else s.takeRecord ch a) := by
  have hnone : s.when (!(s.channel ch).frontFtc && s.wantsMore ch) (·.takeIn ch) = s := by
    rcases h with h | h
    · simp [State.when, h]
    · simp [State.when, State.takeIn_of_empty h]
  show execFlxRecord ch s = _
  unfold execFlxRecord
  rw [State.when, if_pos hclk]
  dsimp only
  rw [hnone, hp]

/-- A record that fits is taken. -/
theorem State.takeRecord_next {f : Flx} {n : Nat} (h : s.parse ch a = .next f n) (hk : s.checkKept a f = true) :
    s.takeRecord ch a = s.onChannel ch fun c => { c with pkg := some { a with flx := f } } := by
  simp [State.takeRecord, h, hk]

/-- A record at fault refuses the package at its offset. -/
theorem State.takeRecord_refuse {x : FlxErr} (h : s.parse ch a = .refuse x) (he : a.ftcErr = none) :
    s.takeRecord ch a = s.refusePackage ch a x.offset (flxRefusal a.stripe x.status x.offset x.tile) := by
  simp [State.takeRecord, h, he]

/-- A record that is not whole waits, unless the stream has ended (R62, log 36). -/
theorem State.takeRecord_wait (h : s.parse ch a = .wait) (he : a.ftcErr = none) :
    s.takeRecord ch a = s.when (s.streamEnded ch) (·.truncated ch a) := by
  simp [State.takeRecord, h, he]

/-- Bytes behind PKG_END refuse the package at the first of them. -/
theorem State.takeTrailer_bytes (h : a.flx.offset < a.bytes.length) :
    s.takeTrailer ch a = s.refusePackage ch a a.flx.offset (flxRefusal a.stripe .flxBadRecord a.flx.offset 0) := if_pos h

/-- An FTC error right behind PKG_END refuses the package. -/
theorem State.takeTrailer_ftcErr {x : PkgRefusal} (h : a.flx.offset = a.bytes.length) (he : a.ftcErr = some x) :
    s.takeTrailer ch a = s.refusePackage ch a x.d0 x := by
  simp [State.takeTrailer, State.whenSome, h, he]

/-- A package whose stream has ended is refused at its first missing byte, and its channel is empty. -/
theorem State.truncated_spec (hq : (s.channel ch).queue = []) (hs : s.stripe? a.stripe = none) :
    (s.truncated ch a).channel ch = ⟨[], none, none⟩ ∧
      (s.truncated ch a).refused.getLast? = some ⟨a.stripe, .flxBadRecord, a.bytes.length, 0, 0, 0⟩ := by
  have href := State.refuses_refusePackage (r := flxRefusal a.stripe .flxBadRecord a.bytes.length 0) ch a a.bytes.length hs
  refine ⟨?_, href.last⟩
  rw [State.truncated, State.channel_onChannel, href.queue hq, href.pkg]

end

/-! ### Commands whose condition does not hold (log 5) -/

theorem ignored_of_not_clocked {s : State} (h : s.clocked = false) (ch : Fin 8) :
    Ignored (.ftcBlockDecode ch) s ∧ Ignored (.flxRecord ch) s ∧ Ignored (.prepassDone ch) s := by
  refine ⟨?_, ?_, ?_⟩
  · show execFtcBlockDecode ch s = .next s
    simp [execFtcBlockDecode, State.when, h, answer_self]
  · show execFlxRecord ch s = .next s
    simp [execFlxRecord, State.when, h, answer_self]
  · show execPrepassDone ch s = .next s
    simp [execPrepassDone, State.when, h, answer_self]

theorem ignored_prepassDone {s : State} {ch : Fin 8} (h : s.prepassTurn ch = false) : Ignored (.prepassDone ch) s := by
  show execPrepassDone ch s = .next s
  simp [execPrepassDone, State.when, h, answer_self]

/-! ### The end of the pre-pass (R124, R334) -/

section
variable {s : State} {ch : Fin 8} {a : Assembly}
variable (hclk : s.clocked = true) (hp : (s.channel ch).pkg = some a) (hturn : s.prepassTurn ch = true)
include hclk hp hturn

/-- A package whose figures give class sets settles. -/
theorem exec_prepassDone_ok {sets : SMap (List Nat)} (h : classSets a.flx.np a.flx.len a.flx.figures [] = .ok sets) :
    exec (.prepassDone ch) s = answer s (s.settle ch a sets) := by
  show execPrepassDone ch s = _
  simp [execPrepassDone, State.when, hclk, hturn, hp, h]

/-- A package that overloads a tile is refused. -/
theorem exec_prepassDone_error {x : FlxErr} (h : classSets a.flx.np a.flx.len a.flx.figures [] = .error x) :
    exec (.prepassDone ch) s =
      answer s (s.refusePackage ch a x.offset (flxRefusal a.stripe x.status x.offset x.tile)) := by
  show execPrepassDone ch s = _
  simp [execPrepassDone, State.when, hclk, hturn, hp, h]

end

/-! ### The statement -/

/-- What the statement says of a refusal: the channel's package is gone, and the refusal is on record. -/
theorem Completes.refused {i : Instr} {s : State} {ch : Nat} {r : PkgRefusal} (h : Completes i s fun t => s.Refuses t ch r) :
    Completes i s fun t => (t.channel ch).pkg = none ∧ t.refused.getLast? = some r := by
  obtain ⟨t, hexec, href⟩ := h
  exact ⟨t, hexec, href.pkg, href.last⟩

/-- Settles O45: each command's arm is a block taken, a record taken, a settlement or a refusal, and each of these says what it leaves
of the channel, the packages and the refusals. -/
theorem packagesArrive : Obligations.PackagesArrive := by
  refine ⟨fun s ch b rest l hclk hq hftc hbuf hw hid => ⟨fun f hf hcheck => ?_, fun x hx hch hs => ?_⟩,
    fun s ch a hclk hp hw => ⟨fun f n hphase hparse hkept => ?_, fun x hphase hparse he hs => ?_, fun hphase hoff hs => ?_,
      fun x hphase hoff he hx hs => ?_, ignored_prepassDone, fun hturn hs => ⟨fun sets hsets => ?_, fun x hx => ?_⟩⟩,
    fun s ch a hclk hp hq hphase hparse he => ⟨fun hend hs => ?_, fun hend => ?_⟩, fun s ch h => ignored_of_not_clocked h ch⟩
  -- A block.
  · exact completes_ftcBlock_good hclk hq hftc hbuf hw rfl hid hf hcheck
  · exact completes_ftcBlock_bad hclk hq hftc hbuf hw rfl hid hx hch hs
  -- A record, or what follows PKG_END.
  · have hexec := exec_flxRecord hclk hp (.inl hw)
    rw [if_neg hphase, State.takeRecord_next hparse hkept] at hexec
    have hkeeps := s.onChannel_keeps ch fun c => { c with pkg := some { a with flx := f } }
    exact ⟨_, hexec.trans (answer_of_pieces hkeeps.pieces (by decide)), by rw [State.channel_onChannel], hkeeps⟩
  · have hexec := exec_flxRecord hclk hp (.inl hw)
    rw [if_neg hphase, State.takeRecord_refuse hparse he] at hexec
    exact (completes_refusePackage hexec hs).refused
  · have hexec := exec_flxRecord hclk hp (.inl hw)
    rw [if_pos hphase, State.takeTrailer_bytes hoff] at hexec
    exact (completes_refusePackage hexec hs).refused
  · have hexec := exec_flxRecord hclk hp (.inl hw)
    rw [if_pos hphase, State.takeTrailer_ftcErr hoff he] at hexec
    exact (completes_refusePackage hexec (hx ▸ hs)).refused
  -- The end of the pre-pass.
  · obtain ⟨hpkg, hstaged⟩ := State.settle_of_none ch sets hs
    exact Completes.of_answer (exec_prepassDone_ok hclk hp hturn hsets) ⟨hpkg, _, hstaged, rfl, rfl, rfl, rfl, rfl, rfl⟩
  · obtain ⟨t, hexec, href⟩ := completes_refusePackage (exec_prepassDone_error hclk hp hturn hx) hs
    exact ⟨t, hexec, href.pkg, href.keeps.1 .packages (by decide), href.last⟩
  -- A record that is not whole.
  · have hexec := exec_flxRecord hclk hp (.inr hq)
    rw [if_neg hphase, State.takeRecord_wait hparse he, State.when, if_pos hend] at hexec
    exact Completes.of_answer hexec (State.truncated_spec hq hs)
  · have hexec := exec_flxRecord hclk hp (.inr hq)
    rw [if_neg hphase, State.takeRecord_wait hparse he, State.when, if_neg (by simp [hend]), answer_self] at hexec
    exact hexec

end Sys2Proof.Machine
end

section
/-! SUPPORT. FTC copies and cached planes (R94, R95, R105, R106, R109, R111): a copy repeats what lies its distance back, and a block of
the cache decodes to its plane. -/
namespace Sys2Proof.Machine

open Sys2Proof

/-! ### Copies (R95) -/

theorem length_ftcCopy (d n : Nat) (out : List Byte) : (ftcCopy d n out).length = out.length + n := by
  induction n generalizing out with
  | zero => rfl
  | succ n ih =>
    rw [ftcCopy, ih, List.length_cons]
    omega

/-- Behind the bytes appended lies the output as it was. -/
theorem drop_ftcCopy (d n : Nat) (out : List Byte) : (ftcCopy d n out).drop n = out := by
  induction n generalizing out with
  | zero => rfl
  | succ n ih => rw [ftcCopy, ← List.drop_drop, ih, List.drop_one, List.tail_cons]

theorem getD_ftcCopy_add (d n i : Nat) (out : List Byte) : (ftcCopy d n out).getD (n + i) 0 = out.getD i 0 := by
  rw [List.getD_eq_getElem?_getD, ← List.getElem?_drop, drop_ftcCopy, ← List.getD_eq_getElem?_getD]

/-- Each byte appended is the one that lies the distance behind it, appended ones included. -/
theorem getD_ftcCopy_distance {d n i : Nat} {out : List Byte} (hd : 1 ≤ d) (hi : i < n) :
    (ftcCopy d n out).getD i 0 = (ftcCopy d n out).getD (i + d) 0 := by
  induction n generalizing out with
  | zero => omega
  | succ n ih =>
    rw [ftcCopy]
    rcases Nat.lt_succ_iff_lt_or_eq.mp hi with hlt | rfl
    · exact ih hlt
    -- The first byte appended: the newest before it lies at distance 1.
    · obtain ⟨e, rfl⟩ := Nat.exists_eq_add_of_le' hd
      rw [getD_ftcCopy_add, List.getD_cons_succ]
      exact getD_ftcCopy_add (e + 1) i 0 _

/-- A copy from distance 1 repeats the newest byte. -/
theorem ftcCopy_one (n : Nat) (b : Byte) (out : List Byte) : ftcCopy 1 n (b :: out) = List.replicate n b ++ b :: out := by
  induction n generalizing out with
  | zero => rfl
  | succ n ih => rw [ftcCopy, List.getD_cons_zero, ih, List.replicate_succ', List.append_assoc, List.singleton_append]

/-- What a MATCH control byte outputs (R94). -/
theorem ftcToken_match {c : Nat} (rowPitch : Nat) (ops : List Byte) (hlo : 0x80 ≤ c) (hhi : c < 0xC0) :
    ftcToken rowPitch c ops = .copy (c - 0x80 + 3) (leAt ops 0 2 + 1) := by
  rw [ftcToken, if_neg (by omega), if_neg (by omega), if_pos hhi]

/-- Settles O60, by induction on the number of bytes copied. -/
theorem copiesRepeatTheirPattern : Obligations.CopiesRepeatTheirPattern := by
  refine ⟨fun d n out hd _ => ⟨length_ftcCopy d n out, drop_ftcCopy d n out, fun i hi => getD_ftcCopy_distance hd hi⟩,
    fun rowPitch c ops b out hlo hhi hD => ⟨c - 0x80 + 3, 1, ?_, rfl, ftcCopy_one _ b out⟩⟩
  rw [ftcToken_match rowPitch ops hlo hhi, hD]

/-! ### Cached planes (R105, R106, R109, R111) -/

/-- What the compressor hands on is the plane itself, or shorter tokens that decode to it (R105, R106). -/
theorem encodePlane_cases (rawOnly : Bool) (plane tokens : List Byte) :
    ((encodePlane rawOnly plane tokens).raw = true ∧ (encodePlane rawOnly plane tokens).body = plane) ∨
    ((encodePlane rawOnly plane tokens).raw = false ∧ (encodePlane rawOnly plane tokens).body = tokens ∧
      ftcTokens 256 plane.length tokens.length 16 tokens [] = .ok plane ∧ tokens.length < plane.length) := by
  unfold encodePlane
  split
  · exact .inl ⟨rfl, rfl⟩
  · split
    next out hout =>
      split
      · exact .inl ⟨rfl, rfl⟩
      next heq =>
        split
        · exact .inl ⟨rfl, rfl⟩
        next hlen => exact .inr ⟨rfl, rfl, not_not.mp heq ▸ hout, not_le.mp hlen⟩
    · exact .inl ⟨rfl, rfl⟩

/-- A raw block of a whole plane whose check agrees reads as its body. -/
theorem decodeBlock_raw {seed : Nat} {b : CacheBlock} (hraw : b.raw = true) (hcrc : crc32cSeeded seed b.body = b.crc)
    (hlen : b.body.length = 65536) : decodeBlock seed b = some b.body := by
  simp [decodeBlock, hraw, hcrc, hlen]

/-- A compressed block whose check agrees reads as the plane that its tokens decode to. -/
theorem decodeBlock_compressed {seed : Nat} {b : CacheBlock} {plane : List Byte} (hraw : b.raw = false)
    (htokens : ftcTokens 256 65536 b.body.length 16 b.body [] = .ok plane) (hcrc : crc32cSeeded seed plane = b.crc)
    (hlen : plane.length = 65536) : decodeBlock seed b = some plane := by
  simp [decodeBlock, hraw, htokens, hcrc, hlen]

/-- Settles O59, by what the compressor hands on: the plane, or tokens that it has verified. -/
theorem cachedPlanesReadBack : Obligations.CachedPlanesReadBack := by
  intro rawOnly plane tokens slot epoch seed hlen x
  rcases encodePlane_cases rawOnly plane tokens with ⟨hraw, hbody⟩ | ⟨hraw, hbody, htokens, hshort⟩
  · refine ⟨?_, by rw [hbody, hlen]⟩
    rw [decodeBlock_raw hraw (by rw [hbody]) (by rw [hbody, hlen]), hbody]
  · refine ⟨decodeBlock_compressed hraw ?_ rfl hlen, by rw [hbody]; omega⟩
    rw [hbody, ← hlen]
    exact htokens

end Sys2Proof.Machine
end

section
/-! SUPPORT. LAYOUT descriptors join their channel's queue (R98, R103, R104, R330 to R332, R416, R417). -/
namespace Sys2Proof.Machine

open Sys2Proof

/-! ### A descriptor is taken and its fields are judged (R325, R330, R331) -/

/-- A ring's first descriptor leaves it. -/
def State.popped (s : State) (ring : Nat) : State := s.onSub ring fun r => { r with fetched := r.fetched.drop 1 }

theorem State.popped_keeps (s : State) (ring : Nat) : Keeps [.host] [] s (s.popped ring) :=
  ⟨fun p hp => by cases p <;> simp_all [Piece.same, State.popped, State.onSub], fun _ _ => rfl⟩

theorem State.sub_popped_same (s : State) {ring : Nat} (h : ring < 10) :
    ((s.popped ring).sub ring).fetched = (s.sub ring).fetched.drop 1 :=
  congrArg SubRing.fetched (vget_vmod_same _ _ _ _ h)

theorem State.sub_popped_ne (s : State) {ring r : Nat} (h : r ≠ ring) : (s.popped ring).sub r = s.sub r := vget_vmod_ne _ _ _ _ _ h

theorem State.heldCpl_popped (s : State) (ring c : Nat) : (s.popped ring).heldCpl c = s.heldCpl c := rfl

/-- The head of a ring is taken where it carries the command's opcode. -/
theorem State.take_of_heads {s : State} {ring op : Nat} {d : Fetched} (h : Heads s ring op d)
    (f : Origin → List Byte → HostRead → State → State) : s.take ring op f = f (d.origin ring) d.desc d.buf (s.popped ring) := by
  obtain ⟨hhead, hclk, hop, -, -⟩ := h
  simp [State.take, hhead, hclk, hop, State.popped]

theorem faultAt_eq_none {checks : List (Nat × Bool)} (h : ∀ c ∈ checks, c.2 = true) : faultAt checks = none := by
  rw [faultAt, Option.map_eq_none_iff, List.find?_eq_none]
  exact fun c hc => by simp [h c hc]

/-- Reserved bytes that are 0 pass their checks. -/
theorem zeroBytes_pass {b : List Byte} {lo hi : Nat} (h : Zero b lo hi) : ∀ c ∈ zeroBytes b lo hi, c.2 = true := by
  intro c hc
  obtain ⟨i, hi, rfl⟩ := List.mem_map.mp hc
  have := List.mem_range.mp hi
  exact beq_iff_eq.mpr (h _ (by omega) (by omega))

/-- The one flag that a LAYOUT descriptor defines passes, set or clear. -/
theorem layoutFlags_pass {v : Nat} (h : v < 2) : (v &&& (255 - 1) == 0) = true := by
  interval_cases v <;> rfl

/-- The length of a LAYOUT buffer is in its range (R332). -/
theorem layoutLength_pass {n : Nat} (hlo : 1 ≤ n) (hhi : n ≤ 16777216) :
    ∀ c ∈ [(16, decide (1 ≤ n ∧ n ≤ 16777216))], c.2 = true := by
  simp [hlo, hhi]

theorem faultAt_layoutChecks {b : List Byte} (hflags : byteAt b 1 < 2) (hhead : Zero b 2 8) (hlo : 1 ≤ leAt b 16 4)
    (hhi : leAt b 16 4 ≤ 16777216) (htail : Zero b 24 64) : faultAt (layoutChecks b) = none :=
  faultAt_eq_none (List.forall_mem_append.mpr ⟨List.forall_mem_append.mpr
    ⟨List.forall_mem_cons.mpr ⟨layoutFlags_pass hflags, zeroBytes_pass hhead⟩, layoutLength_pass hlo hhi⟩, zeroBytes_pass htail⟩)

theorem faultAt_xk2LayoutChecks {b : List Byte} (hflags : byteAt b 1 < 2) (hhead : Zero b 4 8) (hlo : 1 ≤ leAt b 16 4)
    (hhi : leAt b 16 4 ≤ 16777216) (htail : Zero b 24 32) : faultAt (xk2LayoutChecks b) = none :=
  faultAt_eq_none (List.forall_mem_append.mpr ⟨List.forall_mem_append.mpr
    ⟨List.forall_mem_cons.mpr ⟨layoutFlags_pass hflags, zeroBytes_pass hhead⟩, layoutLength_pass hlo hhi⟩, zeroBytes_pass htail⟩)

theorem State.checked_of_none {s : State} {checks : List (Nat × Bool)} (h : faultAt checks = none) (o : Origin)
    (f : State → State) : s.checked o checks f = f s := by
  simp [State.checked, h]

/-! ### The buffer that joins a queue (R98, R103) -/

/-- The buffer of a LAYOUT descriptor, none of its bytes taken yet. -/
def Fetched.layoutBuf (d : Fetched) (ring : Nat) (ftc : Bool) : LayoutBuf :=
  ⟨d.origin ring, leAt d.desc 20 4, ftc, leAt d.desc 16 4, readUpTo d.buf (leAt d.desc 16 4), 0⟩

theorem Fetched.layoutBuf_of_ok {d : Fetched} {l : List Byte} (h : d.buf = .ok l) (ring : Nat) (ftc : Bool) :
    d.layoutBuf ring ftc = ⟨d.origin ring, leAt d.desc 20 4, ftc, leAt d.desc 16 4, .ok (l.take (leAt d.desc 16 4)), 0⟩ := by
  simp [Fetched.layoutBuf, readUpTo, h]

/-- On a channel that drains no refused package a buffer joins the queue. -/
theorem State.queueLayout_of_no_drain {s : State} {ch : Nat} (h : (s.channel ch).drain = none) (b : LayoutBuf) :
    s.queueLayout ch b = s.onChannel ch fun c => { c with queue := c.queue ++ [b] } := by
  simp [State.queueLayout, h]

theorem State.channel_onChannel_ne (s : State) {ch c : Nat} (h : c ≠ ch) (f : Channel → Channel) :
    (s.onChannel ch f).channel c = s.channel c := vget_vmod_ne _ _ _ _ _ h

/-- A descriptor is taken off a ring and its buffer joins a channel's queue: that is all, and nothing completes. -/
theorem completes_queueLayout {i : Instr} {s : State} {ring : Nat} {ch : Fin 8} {b : LayoutBuf} (hd : (s.channel ch).drain = none)
    (hexec : exec i s = answer s ((s.popped ring).queueLayout ch b)) : Completes i s fun t =>
      (t.channel ch).queue = (s.channel ch).queue ++ [b] ∧ (∀ c, c ≠ ch.val → t.channel c = s.channel c) ∧
      (∀ c, t.heldCpl c = s.heldCpl c) ∧ Keeps [.host, .channels] [] s t := by
  have hkeeps := (s.popped_keeps ring).trans ((s.popped ring).onChannel_keeps ch fun c => { c with queue := c.queue ++ [b] })
  rw [State.queueLayout_of_no_drain (s := s.popped ring) hd b] at hexec
  refine ⟨_, hexec.trans (answer_of_pieces hkeeps.pieces (by decide)), ?_, fun c hc => ?_, fun c => ?_, hkeeps⟩
  · rw [State.channel_onChannel]
    rfl
  · exact State.channel_onChannel_ne _ hc _
  · exact s.heldCpl_popped ring c

/-! ### Each form's arm (R332, R417) -/

theorem exec_layout {s : State} {ring : Fin 8} {d : Fetched} (h : Heads s ring 0x10 d)
    (hchecks : faultAt (layoutChecks d.desc) = none) : exec (.layout ring) s =
      answer s ((s.popped ring).queueLayout ring (d.layoutBuf ring (bitOf (byteAt d.desc 1) 0))) := by
  have hnative : s.native = true := by
    obtain ⟨-, -, -, hmode, -⟩ := h
    exact hmode.trans (bne_iff_ne.mpr (by omega))
  show execLayout ring s = _
  rw [execLayout, State.when, if_pos hnative, State.take_of_heads h, State.checked_of_none hchecks]
  rfl

theorem exec_xk2Layout {s : State} {d : Fetched} (h : Heads s 9 1 d) (hchecks : faultAt (xk2LayoutChecks d.desc) = none) :
    exec .xk2Layout s = answer s (if bitOf (byteAt d.desc 1) 0 then (s.popped 9).done (d.origin 9) .notInMode
      else (s.popped 9).queueLayout 0 (d.layoutBuf 9 false)) := by
  have hxk2 : s.native = false := by
    obtain ⟨-, -, -, hmode, -⟩ := h
    exact hmode
  show execXk2Layout s = _
  rw [execXk2Layout, State.when, if_pos (by simp [hxk2]), State.take_of_heads h, State.checked_of_none hchecks]
  rfl

/-- A completion leaves the submission rings alone. -/
theorem State.sub_complete (s : State) (c : Completion) (r : Nat) : (s.complete c).sub r = s.sub r := by
  have hcpl (k : Nat) (f : CplRing → CplRing) : (s.onCpl k f).sub r = s.sub r := by
    unfold State.onCpl State.sub
    split <;> rfl
  unfold State.complete State.when
  dsimp only
  split
  · exact hcpl _ _
  · exact hcpl _ _

/-- A command that takes its descriptor and completes does nothing else. -/
theorem onlyFinishes_complete {i : Instr} {s : State} {ring : Nat} {c : Completion} (hring : ring < 10) (horigin : c.origin.ring = ring)
    (hcpr : s.cprOf ring ≤ 4) (hexec : exec i s = answer s ((s.popped ring).complete c)) : OnlyFinishes i s ring c := by
  subst horigin
  have hcomplete := (s.popped c.origin.ring).complete_keeps c
  have hkeeps : Keeps [.host, .counters] [ovf 1] s ((s.popped c.origin.ring).complete c) :=
    ((s.popped_keeps _).trans hcomplete).mono (by simp) (by simp)
  refine ⟨_, hexec.trans (answer_of_pieces hkeeps.pieces (by decide)), ?_, ?_, fun r hr => ?_, hkeeps⟩
  · exact (s.popped c.origin.ring).heldCpl_complete c hcpr
  · rw [State.sub_complete, State.sub_popped_same s hring]
  · rw [State.sub_complete, State.sub_popped_ne s hr]

/-! ### The statement -/

/-- Settles O10: a good descriptor is taken off its ring and its buffer joins the queue, or it is refused as compressed. -/
theorem layoutBuffersQueue : Obligations.LayoutBuffersQueue := by
  refine ⟨fun s ring d l h hbuf hflags hzero hlo hhi htail hdrain => ?_, fun s d l h hbuf hflags hzero hlo hhi htail hdrain => ?_,
    fun s d h hflags hzero hlo hhi htail => ?_⟩
  · obtain ⟨t, hexec, hqueue, hothers, hheld, hkeeps⟩ :=
      completes_queueLayout hdrain (exec_layout h (faultAt_layoutChecks hflags hzero hlo hhi htail))
    exact ⟨t, hexec, d.layoutBuf_of_ok hbuf _ _ ▸ hqueue, hothers, hheld _, hkeeps⟩
  · have hexec := exec_xk2Layout h (faultAt_xk2LayoutChecks (by omega) hzero hlo hhi htail)
    rw [hflags, if_neg (by decide)] at hexec
    obtain ⟨t, hexec, hqueue, -, -, hkeeps⟩ := completes_queueLayout (ch := 0) hdrain hexec
    exact ⟨t, hexec, d.layoutBuf_of_ok hbuf _ _ ▸ hqueue, hkeeps⟩
  · have hexec := exec_xk2Layout h (faultAt_xk2LayoutChecks (by omega) hzero hlo hhi htail)
    rw [hflags, if_pos (by decide)] at hexec
    obtain ⟨-, -, -, -, hcpr⟩ := h
    exact onlyFinishes_complete (by decide) rfl hcpr hexec

end Sys2Proof.Machine
end

section
/-! SUPPORT. Finished planes (R105 to R109, R112, R126, R129, R133, R139): what encoding, storing, passing on and ending a slot do to the
package, the engine and the log. -/
namespace Sys2Proof.Machine

open Sys2Proof

/-! ### Engines and slices -/

theorem State.slice_onSlice_same (s : State) (i : Fin 5) (f : Slice → Slice) : (s.onSlice i f).slice i = f (s.slice i) :=
  vget_vmod_same _ _ _ _ i.isLt

theorem State.slice_onSlice_ne (s : State) {i n : Nat} (h : n ≠ i) (f : Slice → Slice) : (s.onSlice i f).slice n = s.slice n :=
  vget_vmod_ne _ _ _ _ _ h

theorem State.onSlice_keeps (s : State) (i : Nat) (f : Slice → Slice) : Keeps [.slices] [] s (s.onSlice i f) :=
  ⟨fun p hp => by cases p <;> simp_all [Piece.same], fun _ _ => rfl⟩

theorem State.onEngine_keeps (s : State) (i e : Nat) (f : Engine → Engine) : Keeps [.slices] [] s (s.onEngine i e f) :=
  s.onSlice_keeps i _

theorem State.engine_onEngine_same (s : State) (i : Fin 5) (e : Fin 16) (f : Engine → Engine) :
    (s.onEngine i e f).engine i e = f (s.engine i e) := by
  simp only [State.engine, State.onEngine, State.slice_onSlice_same, vget_vmod_same _ _ _ _ e.isLt]

/-- A change of a slice that leaves its engines. -/
theorem State.engine_onSlice (s : State) (i : Fin 5) (e : Nat) {f : Slice → Slice} (hf : ∀ c, (f c).engines = c.engines) :
    (s.onSlice i f).engine i e = s.engine i e := by
  simp only [State.engine, State.slice_onSlice_same, hf]

/-- A deed that leaves the packages alone leaves each of them. -/
theorem KeepsPieces.package? {ps : List Piece} {s t : State} (h : KeepsPieces ps s t) (hp : .packages ∉ ps) (id : Nat) :
    t.package? id = s.package? id := State.package?_congr (h .packages hp) id

theorem State.bookTile_keeps (s : State) (i e cls n : Nat) : Keeps [.slots, .counters] [ovf (8 + i)] s (s.bookTile i e cls n) := by
  have hslots : Keeps [.slots] [] s (s.bookSlots (16 * i + e) cls n) :=
    ⟨fun p hp => by cases p <;> simp_all [Piece.same, State.bookSlots], fun _ _ => rfl⟩
  exact hslots.trans (State.count_keeps _ _ _ _)

/-! ### Events (R350) -/

/-- What the message of a ring may change beside register fields. -/
def messagePieces : List Piece := [.host, .out, .counters]

theorem State.setHost_pieces (s : State) (u : HostUnit) : KeepsPieces messagePieces s { s with host := u } :=
  fun p hp => by cases p <;> simp_all [messagePieces, Piece.same]

theorem State.message_pieces (s : State) (v : Nat) : KeepsPieces messagePieces s (s.message v) :=
  (s.message_keeps v).pieces.mono (by simp [messagePieces])

theorem State.count_pieces (s : State) (b n k : Nat) : KeepsPieces messagePieces s (s.count b n k) :=
  (s.count_keeps b n k).pieces.mono (by simp [messagePieces])

theorem State.ringMessage_pieces (s : State) (c : Nat) : KeepsPieces messagePieces s (s.ringMessage c) :=
  (s.setHost_pieces _).when _ fun u => u.message_pieces _

theorem State.writeEvent_pieces (s : State) (e : Event) : KeepsPieces messagePieces s (s.writeEvent e) := by
  refine KeepsPieces.trans (KeepsPieces.trans ?_ (State.count_pieces _ 1 6 1)) (State.ringMessage_pieces _ evr)
  have hemit : KeepsPieces messagePieces s (s.emit (.hostWrite (s.evrBase + 32 * s.reg Reg.HIF_EVR_IDX_W) e.bytes)) :=
    (s.emit_keeps _).pieces.mono (by simp [messagePieces])
  exact (hemit.setReg Reg.HIF_EVR_IDX_W _).trans (State.setHost_pieces _ _)

theorem State.dropEvent_pieces (s : State) : KeepsPieces messagePieces s s.dropEvent :=
  ((((s.setHost_pieces _).trans ((State.addReg_keeps _ _ _).pieces.mono (by simp))).trans (State.count_pieces _ 1 7 1))).trans
    ((State.raise_keeps _ 6).pieces.mono (by simp [messagePieces]))

/-- An event posted is the newest on record. -/
theorem State.posted_event (s : State) (type source kind detail : Nat) : (s.event type source kind detail).posted type source kind := by
  refine ⟨s.mkEvent type source kind detail, s.obs.events.take 255, ?_, rfl, rfl, rfl⟩
  unfold State.event
  extract_lets e o t
  split
  · exact t.writeEvent_pieces e .events (by decide)
  · exact t.dropEvent_pieces .events (by decide)

theorem State.posted_of_pieces {ps : List Piece} {s t : State} {type source kind : Nat} (h : KeepsPieces ps s t)
    (hp : .events ∉ ps) (hs : s.posted type source kind) : t.posted type source kind := by
  obtain ⟨e, l, hl, he⟩ := hs
  exact ⟨e, l, (h .events hp).trans hl, he⟩

theorem State.event_pieces (s : State) (type source kind detail : Nat) :
    KeepsPieces logPieces s (s.event type source kind detail) :=
  ((Undisturbed.refl _ s).event type source kind detail).pieces

/-! ### Room in the shared store (R112, R299) -/

/-- Where there is room already, or nothing that may be evicted, nothing is evicted. -/
theorem State.makeRoom_eq_self {s : State} {source lo need : Nat} (h : s.storeFits need = true ∨ s.evictable lo = none) :
    s.makeRoom source lo need = s := by
  refine List.foldl_fixed' (fun _ => ?_) _
  rcases h with hfits | hnone
  · exact if_pos (of_decide_eq_true hfits)
  · simp [State.evictOne, hnone]

/-! ### The end of a slot (R129, R142) -/

/-- The slots of a job that are not finished once one more is. -/
def Job.left (j : Job) (slot : Nat) : List Nat := j.slots.filter (· != slot)

/-- A package as the last slot of a tile ends: the tile is cached where every plane of it is held. -/
def Package.slotEnded (k : Package) (j : Job) (slot : Nat) : Package :=
  if j.left slot = [] then
    k.onTile j.col j.row fun t =>
      { t with cached := t.direct.isEmpty && !j.direct && t.complete (setOf k.sets j.col j.row), redo := false }
  else k

theorem Package.stripe_slotEnded (k : Package) (j : Job) (slot : Nat) : (k.slotEnded j slot).stripe = k.stripe := by
  unfold slotEnded
  split <;> rfl

theorem Package.selfmis_slotEnded (k : Package) (j : Job) (slot : Nat) : (k.slotEnded j slot).selfmis = k.selfmis := by
  unfold slotEnded
  split <;> rfl

/-- Beside what a tile is cached as and whether it is to be redone, the end of a slot changes nothing of it. -/
theorem Package.tile_slotEnded (k : Package) (j : Job) (slot : Nat) : ∃ cached redo,
    (k.slotEnded j slot).tile j.col j.row = { k.tile j.col j.row with cached := cached, redo := redo } := by
  unfold slotEnded
  split
  · exact ⟨_, _, Package.tile_onTile_same _ _ _ _⟩
  · exact ⟨_, _, rfl⟩

/-- With its last slot a tile is cached if every plane of it is in the cache or empty. -/
theorem Package.cached_slotEnded {k : Package} {j : Job} {slot : Nat} (h : j.left slot = []) :
    ((k.slotEnded j slot).tile j.col j.row).cached =
      ((k.tile j.col j.row).direct.isEmpty && !j.direct && (k.tile j.col j.row).complete (setOf k.sets j.col j.row)) := by
  rw [slotEnded, if_pos h, Package.tile_onTile_same]

/-- What the end of a slot may change beside register fields. -/
def slotPieces : List Piece := .packages :: enginePieces

section
variable (s : State) (i : Fin 5) (e : Fin 16) (j : Job) (slot : Nat)

/-- The engine goes on with what is left of its tile. -/
def State.slotDone : State := s.onEngine i e fun k => { k with job := some { j with slots := j.left slot, waits := false } }

/-- The engine is free, and its slots are booked RETIRED. -/
def State.tileDone : State :=
  (((s.slotDone i e j slot).onEngine i e fun k => { k with job := none, done := some (s.now, j.col, j.row) }).bookTile i e 0
    (4 * j.cycles)).count (8 + i) 1 1

theorem State.endSlot_more (h : j.left slot ≠ []) : s.endSlot i e j slot = s.slotDone i e j slot :=
  if_pos (by simpa [Job.left] using h)

theorem State.endSlot_last (h : j.left slot = []) : s.endSlot i e j slot =
    ((s.tileDone i e j slot).onPackage j.stripe fun k => k.slotEnded j slot).onSlice i fun k =>
      { k with suspects := (j.stripe, tileKey j.col j.row) :: k.suspects } := by
  have hended : (fun k : Package => k.slotEnded j slot) = fun k => k.onTile j.col j.row fun t =>
      { t with cached := t.direct.isEmpty && !j.direct && t.complete (setOf k.sets j.col j.row), redo := false } :=
    funext fun k => if_pos h
  rw [hended]
  exact if_neg (by simpa [Job.left] using h)

theorem State.endSlot_pieces : KeepsPieces slotPieces s (s.endSlot i e j slot) := by
  have hdone : KeepsPieces slotPieces s (s.slotDone i e j slot) := (s.onEngine_pieces _ _ _).mono (by simp [slotPieces])
  by_cases h : j.left slot = []
  · have htile : KeepsPieces slotPieces s (s.tileDone i e j slot) :=
      ((hdone.trans ((State.onEngine_pieces _ _ _ _).mono (by simp [slotPieces]))).trans
        ((State.bookTile_keeps _ _ _ _ _).pieces.mono (by simp [slotPieces, enginePieces]))).trans
          ((State.count_keeps _ _ _ _).pieces.mono (by simp [slotPieces, enginePieces]))
    rw [s.endSlot_last i e j slot h]
    exact (htile.trans ((State.onPackage_pieces _ _ _).mono (by simp [slotPieces]))).trans
      ((State.onSlice_keeps _ _ _).pieces.mono (by simp [slotPieces, enginePieces]))
  · rw [s.endSlot_more i e j slot h]
    exact hdone

/-- The engine goes on with what is left of its tile, and is free once nothing is. -/
theorem State.job_endSlot : ((s.endSlot i e j slot).engine i e).job =
    if j.left slot = [] then none else some { j with slots := j.left slot, waits := false } := by
  split
  next h =>
    have htile : ((s.tileDone i e j slot).engine i e).job = none :=
      congrArg Engine.job ((s.slotDone i e j slot).engine_onEngine_same i e _)
    rw [s.endSlot_last i e j slot h, State.engine_onSlice]
    · exact htile
    · exact fun _ => rfl
  next h => rw [s.endSlot_more i e j slot h, State.slotDone, State.engine_onEngine_same]

/-- The package of the tile, as the slot ends. -/
theorem State.package?_endSlot : (s.endSlot i e j slot).package? j.stripe = (s.package? j.stripe).map (·.slotEnded j slot) := by
  by_cases h : j.left slot = []
  · rw [s.endSlot_last i e j slot h]
    exact State.package?_onPackage (s.tileDone i e j slot) j.stripe fun k => k.stripe_slotEnded j slot
  · have hsame : (fun k : Package => k.slotEnded j slot) = id := funext fun k => if_neg h
    rw [s.endSlot_more i e j slot h, hsame, Option.map_id]
    rfl

end

/-! ### Encoding, storing and passing on (R105 to R109, R112, R139) -/

/-- What work on an encoded plane may change beside register fields. -/
def planePieces : List Piece := .slices :: .packages :: workPieces

theorem noted_subset_planePieces : .packages :: logPieces ⊆ planePieces := by simp [planePieces, workPieces, logPieces]

theorem slotPieces_subset_planePieces : slotPieces ⊆ planePieces := by
  simp [slotPieces, enginePieces, planePieces, workPieces, logPieces]

section
variable (s : State) (i e : Nat) (j : Job) (x : Encoded) (rawOnly : Bool)

/-- A package with a mismatch of slice i on record, where there is one (R106). -/
def Package.noted (k : Package) (i : Nat) (mismatch : Bool) : Package :=
  if mismatch then { k with selfmis := vmod k.selfmis i (· + 1) } else k

theorem Package.noted_eq (k : Package) (mismatch : Bool) : ∃ m, k.noted i mismatch = { k with selfmis := m } := by
  unfold noted
  split <;> exact ⟨_, rfl⟩

/-- The counts of an encoded plane, and the event of a mismatch. -/
def State.encodingLogged : State :=
  ((s.when (!rawOnly) (·.count 19 2 1)).when x.noGain (·.count (8 + i) 5 1)).when x.mismatch fun a =>
    (a.count (8 + i) 7 1).event 0x01 i 2 (faultDetail e j.col j.row)

theorem State.encodingLogged_pieces : KeepsPieces logPieces s (s.encodingLogged i e j x rawOnly) := by
  have hcount (t : State) (b n : Nat) : KeepsPieces logPieces t (t.count b n 1) := (t.count_keeps b n 1).pieces.mono (by simp [logPieces])
  exact (((KeepsPieces.refl _ s).when _ fun u => hcount u _ _).when _ fun u => hcount u _ _).when _
    fun u => (hcount u _ _).trans (State.event_pieces _ _ _ _ _)

theorem State.noteEncoded_eq : s.noteEncoded i e j x rawOnly =
    (s.encodingLogged i e j x rawOnly).when x.mismatch
      (·.onPackage j.stripe fun k => { k with selfmis := vmod k.selfmis i (· + 1) }) := by
  unfold State.noteEncoded State.encodingLogged
  cases x.mismatch <;> rfl

theorem State.noteEncoded_pieces : KeepsPieces (.packages :: logPieces) s (s.noteEncoded i e j x rawOnly) := by
  rw [State.noteEncoded_eq]
  exact ((s.encodingLogged_pieces i e j x rawOnly).mono (by simp)).when _ fun u => (u.onPackage_pieces _ _).mono (by simp)

theorem State.package?_noteEncoded : (s.noteEncoded i e j x rawOnly).package? j.stripe =
    (s.package? j.stripe).map (·.noted i x.mismatch) := by
  rw [State.noteEncoded_eq, ← (s.encodingLogged_pieces i e j x rawOnly).package? (by decide)]
  cases x.mismatch with
  | true => exact State.package?_onPackage _ _ fun _ => rfl
  | false => exact Option.map_id.symm ▸ rfl

/-- A failed self-verification is posted (R106). -/
theorem State.posted_noteEncoded (h : x.mismatch = true) : (s.noteEncoded i e j x rawOnly).posted 1 i 2 := by
  rw [State.noteEncoded_eq, State.encodingLogged, h]
  exact State.posted_event _ 1 i 2 _

/-- A sector in cache bypass (R112). -/
def Stripe.bypassing (p : Stripe) (i other : Nat) : Stripe :=
  { p with bypass := vmod (vmod p.bypass i fun _ => true) other fun _ => true }

theorem Stripe.bypass_bypassing (p : Stripe) {i : Nat} (hi : i < 5) (other : Nat) :
    vget (p.bypassing i other).bypass i false = true := by
  unfold bypassing
  by_cases h : i = other
  · subst h
    rw [vget_vmod_same _ _ _ _ hi]
  · rw [vget_vmod_ne _ _ _ _ _ h, vget_vmod_same _ _ _ _ hi]

theorem State.enterBypass_eq (stripe : Nat) : s.enterBypass i stripe =
    ((s.onStripe stripe fun p => p.bypassing i ((s.sectorOf i).getD i)).event 0x0A i 1 0).count 19 5 1 := rfl

theorem State.enterBypass_pieces (stripe : Nat) : KeepsPieces workPieces s (s.enterBypass i stripe) :=
  (((s.onStripe_keeps _ _).pieces.mono (by simp [workPieces])).trans
    ((State.event_pieces _ _ _ _ _).mono logPieces_subset_workPieces)).trans
      ((State.count_keeps _ _ _ _).pieces.mono (by simp [workPieces, logPieces]))

/-- The start of a bypass is posted (R112). -/
theorem State.posted_enterBypass (stripe : Nat) : (s.enterBypass i stripe).posted 10 i 1 := State.posted_event _ 0x0A i 1 0

/-- The stripe's sector is in bypass from then on. -/
theorem Now.enterBypass {s : State} {i stripe : Nat} {p : Stripe} (hi : i < 5) (hp : s.stripe? stripe = some p) :
    Now (s.enterBypass i stripe) stripe fun q => vget q.bypass i false = true := by
  have hnow : Now (s.onStripe stripe fun p => p.bypassing i ((s.sectorOf i).getD i)) stripe fun q => vget q.bypass i false = true :=
    Now.onStripe ⟨p, hp, p.bypass_bypassing hi _⟩ fun _ => rfl
  refine hnow.congr ?_
  rw [State.enterBypass_eq, State.count_stripes]
  exact State.event_pieces _ _ _ _ _ .stripes (by decide)

end

/-! ### PLANE_DONE (R105 to R109, R129, R133, R139) -/

section
variable {s : State} {i : Fin 5} {e : Fin 16} {b : PlaneBody} {j : Job}
variable (hjob : (s.engine i e).job = some j) (hclk : s.clocked = true) (hkind : j.kind = .own)
variable (hhead : j.slots.head? = some b.slot) (hband : s.bandFilled i j = true)
include hjob hclk hkind hhead hband

omit hjob in
/-- The command's condition holds. -/
theorem planeDone_guard : (s.clocked && j.kind == .own && j.slots.head? == some b.slot && s.bandFilled i j) = true := by
  simp [hclk, hkind, hhead, hband]

/-- The plane of a current tile: an empty one is marked, one with content is kept. -/
theorem exec_planeDone {k : Package} (hk : s.package? j.stripe = some k) (hepoch : (k.tile j.col j.row).epoch = j.epoch) :
    exec (.planeDone i e b) s = answer s (if (k.plane j.col j.row b.slot).all (· == 0) then
        (s.onPackage j.stripe fun k => k.onTile j.col j.row fun t => { t with empty := insertAsc b.slot t.empty }).endSlot i e j b.slot
      else s.keepPlane i e k j b.slot (k.plane j.col j.row b.slot) b.tokens) := by
  show execPlaneDone i e b s = _
  rw [execPlaneDone, hjob]
  dsimp only
  rw [State.when, if_pos (planeDone_guard hclk hkind hhead hband), hk]
  exact congrArg _ (if_neg (not_not.mpr hepoch))

/-- The plane of an old epoch is stale. -/
theorem exec_planeDone_stale {k : Package} (hk : s.package? j.stripe = some k) (hepoch : (k.tile j.col j.row).epoch ≠ j.epoch) :
    exec (.planeDone i e b) s = answer s (s.stalePlane i e j b.slot) := by
  show execPlaneDone i e b s = _
  rw [execPlaneDone, hjob]
  dsimp only
  rw [State.when, if_pos (planeDone_guard hclk hkind hhead hband), hk]
  exact congrArg _ (if_pos hepoch)

end

/-- A command whose end state comes of work on a plane completes with it. -/
theorem completes_plane {c : Instr} {s t : State} {P : State → Prop} (hexec : exec c s = answer s t)
    (hkeeps : KeepsPieces planePieces s t) (h : P t) : Completes c s P := ⟨t, hexec.trans (answer_of_pieces hkeeps (by decide)), h⟩

theorem mem_insertAsc (x : Nat) (l : List Nat) : x ∈ insertAsc x l := by
  induction l with
  | nil => simp [insertAsc]
  | cons y l ih =>
    unfold insertAsc
    split
    · simp
    · split
      next h => simp [h]
      · simp [ih]

/-! #### What keeping a plane comes to -/

section
variable {s : State} {i e : Nat} {k : Package} {j : Job} {slot : Nat} {plane tokens : List Byte}

theorem State.keepPlane_passes (h : j.direct = true ∨ s.bypassed i j.stripe = true) :
    s.keepPlane i e k j slot plane tokens = s.passPlane i e k j slot plane := if_pos (by simpa using h)

theorem State.passPlane_room (h : k.directRoom j = true) : s.passPlane i e k j slot plane =
    (s.directPlane j slot plane).endSlot i e { j with direct := true } slot := if_pos h

theorem State.passPlane_full (h : k.directRoom j = false) : s.passPlane i e k j slot plane = s.holdPlane i e { j with direct := true } :=
  if_neg (by simp [h])

variable (hd : j.direct = false) (hb : s.bypassed i j.stripe = false)
include hd hb

theorem State.keepPlane_stores (hfits : s.storeFits (20 + (encodePlane (s.rawOnly j.stripe) plane tokens).body.length) = true) :
    s.keepPlane i e k j slot plane tokens =
      ((s.noteEncoded i e j (encodePlane (s.rawOnly j.stripe) plane tokens) (s.rawOnly j.stripe)).storeBlock j slot plane
        (encodePlane (s.rawOnly j.stripe) plane tokens)).endSlot i e j slot := by
  simp [State.keepPlane, hd, hb, State.makeRoom_eq_self (.inl hfits), hfits]

variable (hfull : s.storeFits (20 + (encodePlane (s.rawOnly j.stripe) plane tokens).body.length) = false)
include hfull

theorem State.keepPlane_bypasses (hw : s.isWriting j.stripe = true) (hnone : s.evictable 0 = none) :
    s.keepPlane i e k j slot plane tokens =
      ((s.noteEncoded i e j (encodePlane (s.rawOnly j.stripe) plane tokens) (s.rawOnly j.stripe)).enterBypass i j.stripe).passPlane i e k j
        slot plane := by
  simp [State.keepPlane, hd, hb, hw, State.makeRoom_eq_self (.inr hnone), hfull]

theorem State.keepPlane_waits (hw : s.isWriting j.stripe = false) (hnone : s.evictable (k.age + 1) = none) :
    s.keepPlane i e k j slot plane tokens = s.holdPlane i e j := by
  simp [State.keepPlane, hd, hb, hw, State.makeRoom_eq_self (.inr hnone), hfull]

end

/-! #### The package and the engine afterwards -/

/-- The block of a plane. -/
def Job.block (j : Job) (slot : Nat) (plane : List Byte) (x : Encoded) : CacheBlock :=
  ⟨slot, j.epoch, x.raw, x.body, crc32cSeeded (cacheSeed j.stripe j.row j.col slot j.epoch) plane⟩

/-- A package with a block more of a tile. -/
def Package.stored (k : Package) (j : Job) (block : CacheBlock) : Package :=
  k.onTile j.col j.row fun t => { t with blocks := t.blocks ++ [block] }

/-- A package with a plane more of a tile that goes straight to the filler. -/
def Package.passed (k : Package) (j : Job) (slot : Nat) (plane : List Byte) : Package :=
  k.onTile j.col j.row fun t => { t with direct := t.direct ++ [(slot, plane)] }

/-- A package with a plane more of a tile marked empty. -/
def Package.marked (k : Package) (j : Job) (slot : Nat) : Package :=
  k.onTile j.col j.row fun t => { t with empty := insertAsc slot t.empty }

theorem Package.tile_stored (k : Package) (j : Job) (block : CacheBlock) : (k.stored j block).tile j.col j.row =
    { k.tile j.col j.row with blocks := (k.tile j.col j.row).blocks ++ [block] } := Package.tile_onTile_same _ _ _ _

theorem Package.tile_passed (k : Package) (j : Job) (slot : Nat) (plane : List Byte) : (k.passed j slot plane).tile j.col j.row =
    { k.tile j.col j.row with direct := (k.tile j.col j.row).direct ++ [(slot, plane)] } := Package.tile_onTile_same _ _ _ _

theorem Package.tile_marked (k : Package) (j : Job) (slot : Nat) : (k.marked j slot).tile j.col j.row =
    { k.tile j.col j.row with empty := insertAsc slot (k.tile j.col j.row).empty } := Package.tile_onTile_same _ _ _ _

/-- A slot ends after a change of its package: the package as it was changed and as the slot ends it. -/
theorem State.package?_endSlot_onPackage {s : State} {k : Package} {j : Job} (i : Fin 5) (e : Fin 16) (slot : Nat)
    (hk : s.package? j.stripe = some k) {f : Package → Package} (hf : ∀ k, (f k).stripe = k.stripe) :
    ((s.onPackage j.stripe f).endSlot i e j slot).package? j.stripe = some ((f k).slotEnded j slot) := by
  rw [State.package?_endSlot, State.package?_onPackage _ _ hf, hk]
  rfl

theorem State.endSlot_onPackage_pieces (s : State) (i : Fin 5) (e : Fin 16) (j : Job) (slot id : Nat) (f : Package → Package) :
    KeepsPieces slotPieces s ((s.onPackage id f).endSlot i e j slot) :=
  ((s.onPackage_pieces id f).mono (by simp [slotPieces])).trans (State.endSlot_pieces _ i e j slot)

theorem Package.tile_noted (k : Package) (i : Nat) (mismatch : Bool) (col row : Nat) :
    (k.noted i mismatch).tile col row = k.tile col row := by
  obtain ⟨m, hm⟩ := k.noted_eq i mismatch
  rw [hm]
  rfl

theorem Package.sets_noted (k : Package) (i : Nat) (mismatch : Bool) : (k.noted i mismatch).sets = k.sets := by
  obtain ⟨m, hm⟩ := k.noted_eq i mismatch
  rw [hm]

theorem Package.selfmis_noted (k : Package) {i : Nat} (hi : i < 5) (mismatch : Bool) :
    vget (k.noted i mismatch).selfmis i 0 = vget k.selfmis i 0 + b2n mismatch := by
  cases mismatch with
  | true => exact vget_vmod_same _ _ _ _ hi
  | false => rfl

/-- A stored plane's tile: its block is the last, and with the last slot the tile is cached if every plane is held. -/
theorem Package.stored_slotEnded (k : Package) (i : Fin 5) (mismatch : Bool) {j : Job} (slot : Nat) (block : CacheBlock)
    (hd : j.direct = false) (hepoch : (k.tile j.col j.row).epoch = j.epoch) :
    let k' := ((k.noted i mismatch).stored j block).slotEnded j slot
    (k'.tile j.col j.row).blocks = (k.tile j.col j.row).blocks ++ [block] ∧ (k'.tile j.col j.row).epoch = j.epoch ∧
      (j.left slot = [] → (k'.tile j.col j.row).cached =
        ((k.tile j.col j.row).direct.isEmpty && (k'.tile j.col j.row).complete (setOf k.sets j.col j.row))) ∧
      vget k'.selfmis i 0 = vget k.selfmis i 0 + b2n mismatch := by
  intro k'
  obtain ⟨c, r, htile⟩ := ((k.noted i mismatch).stored j block).tile_slotEnded j slot
  have hstored : ((k.noted i mismatch).stored j block).tile j.col j.row =
      { k.tile j.col j.row with blocks := (k.tile j.col j.row).blocks ++ [block] } := by
    rw [Package.tile_stored, Package.tile_noted]
  rw [hstored] at htile
  refine ⟨by rw [htile], by rw [htile]; exact hepoch, fun h => ?_, ?_⟩
  · have hsets : ((k.noted i mismatch).stored j block).sets = k.sets := k.sets_noted i mismatch
    rw [Package.cached_slotEnded h, hstored, hsets, hd, htile]
    simp [Tile.complete]
  · rw [Package.selfmis_slotEnded]
    exact k.selfmis_noted i.isLt mismatch

/-- A passed plane's tile: the plane is the last that goes to the filler. -/
theorem Package.passed_slotEnded (k : Package) (j : Job) (slot : Nat) (plane : List Byte) :
    let k' := (k.passed j slot plane).slotEnded j slot
    (k'.tile j.col j.row).direct = (k.tile j.col j.row).direct ++ [(slot, plane)] ∧
      (k'.tile j.col j.row).blocks = (k.tile j.col j.row).blocks := by
  intro k'
  obtain ⟨c, r, htile⟩ := (k.passed j slot plane).tile_slotEnded j slot
  rw [Package.tile_passed] at htile
  exact ⟨by rw [htile], by rw [htile]⟩

/-- An empty plane's tile: the plane is marked, and nothing is stored. -/
theorem Package.marked_slotEnded (k : Package) (j : Job) (slot : Nat) :
    let k' := (k.marked j slot).slotEnded j slot
    (k'.tile j.col j.row).blocks = (k.tile j.col j.row).blocks ∧ slot ∈ (k'.tile j.col j.row).empty ∧
      (k'.tile j.col j.row).epoch = (k.tile j.col j.row).epoch := by
  intro k'
  obtain ⟨c, r, htile⟩ := (k.marked j slot).tile_slotEnded j slot
  rw [Package.tile_marked] at htile
  exact ⟨by rw [htile], by rw [htile]; exact mem_insertAsc _ _, by rw [htile]⟩

/-! #### The engine's plane, case by case -/

section
variable {s : State} {i : Fin 5} {e : Fin 16} {b : PlaneBody} {j : Job} {k : Package}

/-- An empty plane is marked. -/
theorem completes_emptyPlane (hk : s.package? j.stripe = some k) (hepoch : (k.tile j.col j.row).epoch = j.epoch)
    (hexec : exec (.planeDone i e b) s = answer s ((s.onPackage j.stripe fun k => k.marked j b.slot).endSlot i e j b.slot)) :
    Completes (.planeDone i e b) s fun t =>
      ∃ k', t.package? j.stripe = some k' ∧ (k'.tile j.col j.row).blocks = (k.tile j.col j.row).blocks ∧
        b.slot ∈ (k'.tile j.col j.row).empty ∧ (k'.tile j.col j.row).epoch = j.epoch ∧
        (t.engine i e).job = (if j.left b.slot = [] then none else some { j with slots := j.left b.slot, waits := false }) := by
  obtain ⟨hblocks, hempty, hsame⟩ := k.marked_slotEnded j b.slot
  have hkeeps := s.endSlot_onPackage_pieces i e j b.slot j.stripe fun k => k.marked j b.slot
  exact completes_plane hexec (hkeeps.mono slotPieces_subset_planePieces) ⟨_, State.package?_endSlot_onPackage i e _ hk fun _ => rfl,
    hblocks, hempty, hsame.trans hepoch, State.job_endSlot _ i e j _⟩

/-- A plane that goes straight on, after work that kept the package's tile. -/
theorem package?_endSlot_directPlane {t : State} {k₀ : Package} (hk : t.package? j.stripe = some k₀)
    (htile : ∀ col row, k₀.tile col row = k.tile col row) (slot : Nat) (plane : List Byte) :
    ∃ k', ((t.directPlane j slot plane).endSlot i e { j with direct := true } slot).package? j.stripe = some k' ∧
      (k'.tile j.col j.row).direct = (k.tile j.col j.row).direct ++ [(slot, plane)] ∧
      (k'.tile j.col j.row).blocks = (k.tile j.col j.row).blocks := by
  obtain ⟨hdirect, hblocks⟩ := k₀.passed_slotEnded { j with direct := true } slot plane
  rw [htile] at hdirect hblocks
  exact ⟨_, State.package?_endSlot_onPackage (j := { j with direct := true }) i e slot hk (f := fun k => k.passed j slot plane)
    fun _ => rfl, hdirect, hblocks⟩

/-- A plane with content that the store has room for is stored as a block (R105, R106, R109, R129). -/
theorem completes_storedPlane (hk : s.package? j.stripe = some k) (hepoch : (k.tile j.col j.row).epoch = j.epoch) (hd : j.direct = false)
    (x : Encoded) (raw : Bool) (plane : List Byte) (hexec : exec (.planeDone i e b) s =
      answer s (((s.noteEncoded i e j x raw).storeBlock j b.slot plane x).endSlot i e j b.slot)) :
    Completes (.planeDone i e b) s fun t => (x.mismatch = true → t.posted 1 i 2) ∧
      (∃ k', t.package? j.stripe = some k' ∧
        (k'.tile j.col j.row).blocks = (k.tile j.col j.row).blocks ++ [j.block b.slot plane x] ∧ (k'.tile j.col j.row).epoch = j.epoch ∧
        (j.left b.slot = [] → (k'.tile j.col j.row).cached =
          ((k.tile j.col j.row).direct.isEmpty && (k'.tile j.col j.row).complete (setOf k.sets j.col j.row))) ∧
        vget k'.selfmis i 0 = vget k.selfmis i 0 + b2n x.mismatch) ∧
      (t.engine i e).job = (if j.left b.slot = [] then none else some { j with slots := j.left b.slot, waits := false }) := by
  have hnoted : (s.noteEncoded i e j x raw).package? j.stripe = some (k.noted i x.mismatch) := by
    rw [State.package?_noteEncoded, hk, Option.map_some]
  have hstored := (s.noteEncoded i e j x raw).endSlot_onPackage_pieces i e j b.slot j.stripe fun k => k.stored j (j.block b.slot plane x)
  have hkeeps := ((s.noteEncoded_pieces i e j x raw).mono noted_subset_planePieces).trans
    (hstored.mono slotPieces_subset_planePieces)
  exact completes_plane hexec hkeeps ⟨fun h => State.posted_of_pieces hstored (by decide) (s.posted_noteEncoded i e j x raw h),
    ⟨_, State.package?_endSlot_onPackage i e b.slot hnoted (f := fun k => k.stored j (j.block b.slot plane x)) fun _ => rfl,
      k.stored_slotEnded i x.mismatch b.slot _ hd hepoch⟩, State.job_endSlot _ i e j _⟩

/-- With no room the writing stripe's sector enters cache bypass, and the plane goes straight on (R112, R139). -/
theorem completes_bypassPlane (hk : s.package? j.stripe = some k) (x : Encoded) (raw : Bool) (plane : List Byte)
    (hexec : exec (.planeDone i e b) s = answer s ((((s.noteEncoded i e j x raw).enterBypass i j.stripe).directPlane j b.slot plane).endSlot
      i e { j with direct := true } b.slot)) :
    Completes (.planeDone i e b) s fun t => t.posted 10 i 1 ∧
      (∀ p, s.stripe? j.stripe = some p → Now t j.stripe fun q => vget q.bypass i false = true) ∧
      ∃ k', t.package? j.stripe = some k' ∧ (k'.tile j.col j.row).direct = (k.tile j.col j.row).direct ++ [(b.slot, plane)] ∧
        (k'.tile j.col j.row).blocks = (k.tile j.col j.row).blocks := by
  have hnote := s.noteEncoded_pieces i e j x raw
  have henter := (s.noteEncoded i e j x raw).enterBypass_pieces i j.stripe
  have hpass : KeepsPieces slotPieces ((s.noteEncoded i e j x raw).enterBypass i j.stripe) _ :=
    State.endSlot_onPackage_pieces _ i e { j with direct := true } b.slot j.stripe fun k => k.passed j b.slot plane
  have hnoted : ((s.noteEncoded i e j x raw).enterBypass i j.stripe).package? j.stripe = some (k.noted i x.mismatch) := by
    rw [henter.package? (by decide), State.package?_noteEncoded, hk, Option.map_some]
  have hkeeps := ((hnote.mono noted_subset_planePieces).trans
    (henter.mono (by simp [planePieces]))).trans (hpass.mono slotPieces_subset_planePieces)
  refine completes_plane hexec hkeeps ⟨State.posted_of_pieces hpass (by decide) (State.posted_enterBypass _ i j.stripe), fun p hp => ?_,
    package?_endSlot_directPlane hnoted (k.tile_noted i x.mismatch) b.slot plane⟩
  have hp' : (s.noteEncoded i e j x raw).stripe? j.stripe = some p := (State.stripe?_congr (hnote .stripes (by decide)) _).trans hp
  exact (Now.enterBypass i.isLt hp').congr (hpass .stripes (by decide))

/-- In bypass a plane goes straight on, and its job with it (R139). -/
theorem completes_directPlane (hk : s.package? j.stripe = some k) (plane : List Byte) (hexec : exec (.planeDone i e b) s =
      answer s ((s.directPlane j b.slot plane).endSlot i e { j with direct := true } b.slot)) :
    Completes (.planeDone i e b) s fun t =>
      (∃ k', t.package? j.stripe = some k' ∧ (k'.tile j.col j.row).direct = (k.tile j.col j.row).direct ++ [(b.slot, plane)] ∧
        (k'.tile j.col j.row).blocks = (k.tile j.col j.row).blocks) ∧
      (t.engine i e).job =
        (if j.left b.slot = [] then none else some { j with slots := j.left b.slot, direct := true, waits := false }) := by
  have hpass := s.endSlot_onPackage_pieces i e { j with direct := true } b.slot j.stripe fun k => k.passed j b.slot plane
  exact completes_plane hexec (hpass.mono slotPieces_subset_planePieces)
    ⟨package?_endSlot_directPlane hk (fun _ _ => rfl) b.slot plane, State.job_endSlot _ i e { j with direct := true } _⟩

/-- A plane that waits stays in its engine, and nothing else changes (R139, R141). -/
theorem completes_heldPlane {j' : Job} (hexec : exec (.planeDone i e b) s = answer s (s.holdPlane i e j')) :
    Completes (.planeDone i e b) s fun t => (t.engine i e).job = some { j' with waits := true } ∧ Keeps [.slices] [] s t := by
  have hkeeps := s.onEngine_keeps i e fun k => { k with job := some { j' with waits := true } }
  exact ⟨_, hexec.trans (answer_of_pieces hkeeps.pieces (by decide)), congrArg Engine.job (s.engine_onEngine_same i e _), hkeeps⟩

/-- A stale plane is discarded: its slot ends, and with the last one the engine is free and its slots are booked WASTED (R133). -/
theorem completes_stalePlane (hexec : exec (.planeDone i e b) s = answer s (s.stalePlane i e j b.slot)) :
    Completes (.planeDone i e b) s fun t =>
      (t.engine i e).job = (if j.left b.slot = [] then none else some { j with slots := j.left b.slot }) ∧
      Keeps [.slices, .counters, .slots] [ovf (8 + i)] s t := by
  have hshort := s.onEngine_keeps i e fun k => { k with job := some { j with slots := j.left b.slot } }
  have hjob := s.engine_onEngine_same i e fun k => { k with job := some { j with slots := j.left b.slot } }
  by_cases h : j.left b.slot = []
  · have hstale : s.stalePlane i e j b.slot =
        (s.onEngine i e fun k => { k with job := some { j with slots := j.left b.slot } }).wasteJob i e :=
      if_pos (by simpa [Job.left] using h)
    rw [hstale, State.wasteJob, hjob] at hexec
    have hkeeps := ((hshort.trans (State.onEngine_keeps _ i e fun k => { k with job := none })).trans
      (State.bookTile_keeps _ i e 1 (4 * j.cycles))).mono (ps' := [.slices, .counters, .slots]) (fs' := [ovf (8 + i)]) (by simp) (by simp)
    refine ⟨_, hexec.trans (answer_of_pieces hkeeps.pieces (by decide)), ?_, hkeeps⟩
    rw [if_pos h]
    exact congrArg Engine.job (State.engine_onEngine_same _ i e fun k => { k with job := none })
  · have hstale : s.stalePlane i e j b.slot = s.onEngine i e fun k => { k with job := some { j with slots := j.left b.slot } } :=
      if_neg (by simpa [Job.left] using h)
    rw [hstale] at hexec
    have hkeeps := hshort.mono (ps' := [.slices, .counters, .slots]) (fs' := [ovf (8 + i)]) (by simp) (by simp)
    refine ⟨_, hexec.trans (answer_of_pieces hkeeps.pieces (by decide)), ?_, hkeeps⟩
    rw [if_neg h, hjob]

end

/-! #### Commands whose condition does not hold (log 5) -/

theorem ignored_planeDone_idle {s : State} {i : Fin 5} {e : Fin 16} (b : PlaneBody) (h : (s.engine i e).job = none) :
    Ignored (.planeDone i e b) s := by
  show execPlaneDone i e b s = _
  rw [execPlaneDone, h]
  exact answer_self s

theorem ignored_planeDone_order {s : State} {i : Fin 5} {e : Fin 16} {b : PlaneBody} {j : Job} (hjob : (s.engine i e).job = some j)
    (h : j.slots.head? ≠ some b.slot) : Ignored (.planeDone i e b) s := by
  show execPlaneDone i e b s = _
  rw [execPlaneDone, hjob]
  dsimp only
  rw [State.when, if_neg (by simp [h])]
  exact answer_self s

/-! ### The statement -/

theorem clausePlanes : ClausePlanes := by
  refine ⟨fun s i e b j hjob hclk hkind hhead hband => ?_, fun s i e b h => ignored_planeDone_idle b h,
    fun s i e b j hjob h => ignored_planeDone_order hjob h⟩
  refine ⟨fun k hk hepoch => ?_, fun k hk hepoch => ?_⟩
  · intro old plane x block
    have hexec := exec_planeDone hjob hclk hkind hhead hband hk hepoch
    have hcontent (h : ∃ y ∈ plane, y ≠ 0) : exec (.planeDone i e b) s = answer s (s.keepPlane i e k j b.slot plane b.tokens) := by
      obtain ⟨y, hy, hne⟩ := h
      rw [hexec, if_neg fun hall => hne (by simpa using List.all_eq_true.mp hall y hy)]
    refine ⟨fun hzero => ?_, fun hc hd hb hfits => ?_, fun hc hd hb hfull hw hnone hroom => ?_, fun hc hd hb hfull hw hnone => ?_,
      fun hc hdirect => ⟨fun hroom => ?_, fun hfull => ?_⟩⟩
    · rw [if_pos (List.all_eq_true.mpr fun y hy => by simp [hzero y hy])] at hexec
      exact completes_emptyPlane hk hepoch hexec
    · exact completes_storedPlane hk hepoch hd x _ plane ((hcontent hc).trans (by rw [State.keepPlane_stores hd hb hfits]))
    · exact completes_bypassPlane hk x _ plane
        ((hcontent hc).trans (by rw [State.keepPlane_bypasses hd hb hfull hw hnone, State.passPlane_room hroom]))
    · exact completes_heldPlane ((hcontent hc).trans (by rw [State.keepPlane_waits hd hb hfull hw hnone]))
    · exact completes_directPlane hk plane ((hcontent hc).trans (by rw [State.keepPlane_passes hdirect, State.passPlane_room hroom]))
    · exact completes_heldPlane ((hcontent hc).trans (by rw [State.keepPlane_passes hdirect, State.passPlane_full hfull]))
  · exact completes_stalePlane (exec_planeDone_stale hjob hclk hkind hhead hband hk hepoch)

theorem clauseBins : ClauseBins := by
  refine ⟨fun s i band k hclk hpart hk => ?_, fun s i band h => ?_, fun s i rate p hp hbypass => ?_, fun s i rate h => ?_⟩
  · have hkeeps := s.onSlice_keeps i fun c => { c with bands := c.bands ++ [(k.stripe, band)] }
    have hexec : exec (.binBandExpand i band) s = answer s (s.onSlice i fun c => { c with bands := c.bands ++ [(k.stripe, band)] }) := by
      show execBinBandExpand i band s = _
      rw [execBinBandExpand, State.when, if_pos (by simpa [hclk] using hpart), hk]
    exact ⟨_, hexec.trans (answer_of_pieces hkeeps.pieces (by decide)), congrArg Slice.bands (s.slice_onSlice_same i _),
      fun n hn => s.slice_onSlice_ne hn _, hkeeps⟩
  · show execBinBandExpand i band s = _
    rw [execBinBandExpand, State.when, h, ite_self]
    exact answer_self s
  · have hkeeps := s.onSlice_keeps i fun c => { c with rate := rate }
    have hexec : exec (.bypassRateReport i rate) s = answer s (s.onSlice i fun c => { c with rate := rate }) := by
      show execBypassRateReport i rate s = _
      rw [execBypassRateReport, hp]
      exact congrArg _ (if_pos hbypass)
    exact ⟨_, hexec.trans (answer_of_pieces hkeeps.pieces (by decide)), congrArg Slice.rate (s.slice_onSlice_same i _), hkeeps⟩
  · show execBypassRateReport i rate s = _
    rw [execBypassRateReport, h]
    exact answer_self s

/-- Settles O40: bins and rates by their arms' equations, planes by what becomes of each: marked, stored, passed on, held or discarded. -/
theorem binsAndPlanes : Obligations.BinsAndPlanes := ⟨clauseBins, clausePlanes⟩

end Sys2Proof.Machine
end

section
/-! SUPPORT. TILE_PLACE and ENGINE_CLOCK_GATE (R127, R128, R132, R137, R374): which work a free engine takes, what a tile shows once it is
placed, and a tile whose epochs are used up. -/
namespace Sys2Proof.Machine

open Sys2Proof

/-! ### A tile as it is placed (R127, R132, R374) -/

/-- The epoch under which a tile is placed: it rises where the tile was placed before. -/
def Tile.nextEpoch (t : Tile) : Nat := if t.placed then t.epoch + 1 else t.epoch

/-- A tile that an engine takes. -/
def Tile.placedAs (t : Tile) (epoch : Nat) (sampled : Bool) : Tile :=
  { t with epoch := epoch, placed := true, empty := [], blocks := [], direct := [], hold := t.hold || sampled,
           sampled := t.sampled || sampled }

section
variable (s : State) (i : Nat) (k : Package) (col row : Nat)

/-- The job of the engine that takes a tile of its own slice's queue. -/
def State.ownJob : Job :=
  ⟨k.stripe, col, row, (k.tile col row).nextEpoch, .own, List.range (setOf k.sets col row).length, s.bypassed i k.stripe, 0, false⟩

/-- The package's tile is placed. -/
def State.tilePlaced : State :=
  s.onPackage k.stripe fun p => p.onTile col row fun t => t.placedAs (k.tile col row).nextEpoch (s.samples i k col row)

/-- The engine has the tile, which no longer waits among those of fenced engines. -/
def State.jobTaken (e : Nat) : State :=
  ((s.tilePlaced i k col row).onEngine i e fun g => { g with job := some (s.ownJob i k col row), gated := false }).onSlice i fun c =>
    { c with refenced := c.refenced.filter (· != (k.stripe, tileKey col row)) }

/-- A tile placed before is counted as placed again. -/
def State.takeCounted (e : Nat) : State := (s.jobTaken i k col row e).when (k.tile col row).placed (·.count (8 + i) 3 1)

/-- A sampled tile waits for a comparison. -/
def State.tileTaken (e : Nat) : State :=
  { s.takeCounted i k col row e with
    shadows := if s.samples i k col row then
        (s.takeCounted i k col row e).shadows ++ [⟨k.stripe, col, row, (k.tile col row).nextEpoch, i, [], .queued, 0⟩]
      else (s.takeCounted i k col row e).shadows }

theorem State.placeTile_taken (e : Nat) (h : (k.tile col row).placed = true → (k.tile col row).epoch ≠ 511) :
    s.placeTile i e k col row = s.tileTaken i k col row e := if_neg fun hlimit => h hlimit.1 hlimit.2

theorem State.placeTile_limit (e : Nat) (hp : (k.tile col row).placed = true) (he : (k.tile col row).epoch = 511) :
    s.placeTile i e k col row = s.epochLimit i k.stripe col row := if_pos ⟨hp, he⟩

theorem State.setShadows_keeps (l : List Shadow) : Keeps [.shadows] [] s { s with shadows := l } :=
  ⟨s.setShadows_pieces l, fun _ _ => rfl⟩

theorem State.onPackage_keeps (id : Nat) (f : Package → Package) : Keeps [.packages] [] s (s.onPackage id f) :=
  ⟨s.onPackage_pieces id f, fun _ _ => rfl⟩

theorem State.takeCounted_counts (e : Nat) : Keeps [.counters] [ovf (8 + i)] (s.jobTaken i k col row e) (s.takeCounted i k col row e) :=
  State.when_keeps _ _ _ fun _ => State.count_keeps _ _ _ _

/-- The frame of a placement. -/
theorem State.tileTaken_keeps (e : Nat) :
    Keeps [.slices, .packages, .shadows, .counters] [ovf (8 + i)] s (s.tileTaken i k col row e) := by
  have htaken : Keeps [.packages, .slices, .slices] [] s (s.jobTaken i k col row e) :=
    ((s.onPackage_keeps _ _).trans (State.onEngine_keeps _ i e _)).trans (State.onSlice_keeps _ i _)
  exact ((htaken.trans (s.takeCounted_counts i k col row e)).trans (State.setShadows_keeps _ _)).mono (by simp) (by simp)

theorem State.shadows_tileTaken (e : Nat) : (s.tileTaken i k col row e).shadows =
    if s.samples i k col row then s.shadows ++ [⟨k.stripe, col, row, (k.tile col row).nextEpoch, i, [], .queued, 0⟩] else s.shadows := by
  have hcounted : (s.takeCounted i k col row e).shadows = s.shadows := (s.takeCounted_counts i k col row e).pieces .shadows (by decide)
  rw [State.tileTaken, hcounted]

theorem State.package?_tileTaken (e : Nat) (hk : s.package? k.stripe = some k) : (s.tileTaken i k col row e).package? k.stripe =
    some (k.onTile col row fun t => t.placedAs (k.tile col row).nextEpoch (s.samples i k col row)) := by
  have hcounted : (s.takeCounted i k col row e).packages = _ := (s.takeCounted_counts i k col row e).pieces .packages (by decide)
  calc (s.tileTaken i k col row e).package? k.stripe
      = (s.tilePlaced i k col row).package? k.stripe := State.package?_congr hcounted _
    _ = _ := by
      rw [State.tilePlaced, State.package?_onPackage, hk, Option.map_some]
      exact fun _ => rfl

end

theorem State.engine_congr {s t : State} (h : t.slices = s.slices) (i e : Nat) : t.engine i e = s.engine i e := by
  simp only [State.engine, State.slice, h]

theorem State.job_tileTaken (s : State) (i : Fin 5) (e : Fin 16) (k : Package) (col row : Nat) :
    ((s.tileTaken i k col row e).engine i e).job = some (s.ownJob i k col row) := by
  have hcounted : (s.takeCounted i k col row e).slices = _ := (s.takeCounted_counts i k col row e).pieces .slices (by decide)
  calc ((s.tileTaken i k col row e).engine i e).job
      = ((s.jobTaken i k col row e).engine i e).job := congrArg Engine.job (State.engine_congr hcounted i e)
    _ = some (s.ownJob i k col row) := by
      rw [State.jobTaken, State.engine_onSlice, State.engine_onEngine_same]
      exact fun _ => rfl

/-! ### The command (R127, R128, R374) -/

section
variable {s : State} {i : Fin 5} {e : Fin 16}

section
variable (hserves : s.engineServes i e = true) (hfree : (s.engine i e).job = none) (hclk : s.clocked = true)
include hserves hfree hclk

/-- A third opinion that waits comes first. -/
theorem exec_tilePlace_third {h : Shadow} (hthird : s.shadowIn .thirdQueued i = some h) :
    exec (.tilePlace i e) s = answer s (s.takeShadow i e h .third .third) := by
  show execTilePlace i e s = _
  rw [execTilePlace, State.when, if_pos (by simp [hserves, hfree, hclk]), hthird]

/-- Else the next tile of the slice's queue. -/
theorem exec_tilePlace_own {sector col row : Nat} {k : Package} (hthird : s.shadowIn .thirdQueued i = none)
    (hsector : s.sectorOf i = some sector) (hnext : s.nextTile i sector = some (k, col, row)) :
    exec (.tilePlace i e) s = answer s (s.placeTile i e k col row) := by
  show execTilePlace i e s = _
  rw [execTilePlace, State.when, if_pos (by simp [hserves, hfree, hclk]), hthird]
  dsimp only
  rw [hsector]
  dsimp only
  rw [hnext]

end

/-- The engine has the tile of the comparison, and nothing but slices and comparisons has changed. -/
theorem completes_third {h : Shadow} (hexec : exec (.tilePlace i e) s = answer s (s.takeShadow i e h .third .third)) :
    Completes (.tilePlace i e) s fun t =>
      (∃ j, (t.engine i e).job = some j ∧ j.kind = .third ∧ j.stripe = h.stripe ∧ j.col = h.col ∧ j.row = h.row) ∧
      Keeps [.slices, .shadows] [] s t := by
  have hkeeps : Keeps [.slices, .shadows] [] s (s.takeShadow i e h .third .third) :=
    ((s.setShadows_keeps _).trans (State.onEngine_keeps _ i e _)).mono (by simp) (by simp)
  have hjob := congrArg Engine.job (State.engine_onEngine_same (s.setShadow h fun x => { x with phase := .third }) i e fun g =>
    { g with job := some ⟨h.stripe, h.col, h.row, h.epoch, .third, [], false, 0, false⟩, gated := false })
  exact ⟨_, hexec.trans (answer_of_pieces hkeeps.pieces (by decide)), ⟨_, hjob, rfl, rfl, rfl, rfl⟩, hkeeps⟩

/-- The engine has the tile, which is placed under its next epoch, and held where it is sampled. -/
theorem completes_tileTaken {k : Package} {col row : Nat} (hk : s.package? k.stripe = some k)
    (hexec : exec (.tilePlace i e) s = answer s (s.tileTaken i k col row e)) : Completes (.tilePlace i e) s fun t =>
      (∃ j, (t.engine i e).job = some j ∧ j.stripe = k.stripe ∧ j.col = col ∧ j.row = row ∧ j.epoch = (k.tile col row).nextEpoch ∧
        j.kind = .own ∧ j.slots = List.range (setOf k.sets col row).length) ∧
      (∃ k', t.package? k.stripe = some k' ∧ (k'.tile col row).placed = true ∧ (k'.tile col row).epoch = (k.tile col row).nextEpoch ∧
        (k'.tile col row).blocks = [] ∧ (k'.tile col row).hold = ((k.tile col row).hold || s.samples i k col row)) ∧
      t.shadows = (if s.samples i k col row then
        s.shadows ++ [⟨k.stripe, col, row, (k.tile col row).nextEpoch, i, [], .queued, 0⟩] else s.shadows) ∧
      Keeps [.slices, .packages, .shadows, .counters] [ovf (8 + i)] s t := by
  have hkeeps := s.tileTaken_keeps i k col row e
  have htile := k.tile_onTile_same col row fun t => t.placedAs (k.tile col row).nextEpoch (s.samples i k col row)
  refine ⟨_, hexec.trans (answer_of_pieces hkeeps.pieces (by decide)),
    ⟨_, s.job_tileTaken i e k col row, rfl, rfl, rfl, rfl, rfl, rfl⟩, ⟨_, s.package?_tileTaken i k col row e hk, ?_⟩,
    s.shadows_tileTaken i k col row e, hkeeps⟩
  rw [htile]
  exact ⟨rfl, rfl, rfl, rfl⟩

/-! ### A tile whose epochs are used up (R137) -/

/-- A command completes with what holds of its end state and does not speak of the queue, the part and the mode. -/
theorem Completes.of_answer_of {c : Instr} {t : State} {P : State → Prop} (hexec : exec c s = answer s t) (hP : P t)
    (hfree : ∀ u q p m, P u → P { u with pending := q, part := p, mode := m }) : Completes c s P := ⟨_, hexec, hfree t _ _ _ hP⟩

/-- What leaves the stripes alone leaves one that writes. -/
theorem Writes.congr {t : State} {p : Stripe} {r : Run} (h : Writes s p r) (ht : t.stripes = s.stripes) : Writes t p r := by
  have hact : t.active? = s.active? := by simp only [State.active?, ht]
  have hstripe : t.stripe? p.par.id = s.stripe? p.par.id := State.stripe?_congr ht _
  rwa [Writes, hact, hstripe]

/-- An abort of the stripe that writes is due at the next tick. -/
theorem Writes.aborts {p : Stripe} {r : Run} (h : Writes s p r) (st : Status) : Aborts (s.abort st) p.par.id st := by
  obtain ⟨-, hp, -⟩ := id h
  rw [h.abort_eq]
  exact Now.aborts ⟨p, hp, trivial⟩ st

/-- An abort of the stripe that writes changes stripes only. -/
theorem Writes.abort_keeps {p : Stripe} {r : Run} (h : Writes s p r) (st : Status) : Keeps [.stripes] [] s (s.abort st) := by
  rw [h.abort_eq]
  exact s.onStripe_keeps _ _

/-- The tile is posted, its writing stripe aborts, and no engine takes it. -/
theorem completes_epochLimit {p : Stripe} {r : Run} {id col row : Nat} (hfree : (s.engine i e).job = none) (hw : Writes s p r)
    (hid : p.par.id = id) (hexec : exec (.tilePlace i e) s = answer s (s.epochLimit i id col row)) :
    Completes (.tilePlace i e) s fun t => t.posted 1 i 6 ∧ Aborts t id .sliceFailed ∧ (t.engine i e).job = none := by
  have hevent := s.event_pieces 0x01 i 6 (faultDetail 0 col row)
  have hw' : Writes (s.event 0x01 i 6 (faultDetail 0 col row)) p r := hw.congr (hevent .stripes (by decide))
  have habort := hw'.abort_keeps .sliceFailed
  have hslices : ((s.event 0x01 i 6 (faultDetail 0 col row)).abort .sliceFailed).slices = s.slices :=
    (habort.pieces .slices (by decide)).trans (hevent .slices (by decide))
  have hlimit : s.epochLimit i id col row = (s.event 0x01 i 6 (faultDetail 0 col row)).abort .sliceFailed := by
    unfold State.epochLimit
    rw [State.when, hw'.1, if_pos (by simpa using hid)]
  rw [hlimit] at hexec
  exact Completes.of_answer_of hexec
    ⟨State.posted_of_pieces habort.pieces (by decide) (s.posted_event 1 i 6 _), hid ▸ hw'.aborts _,
      (congrArg Engine.job (State.engine_congr hslices i e)).trans hfree⟩ fun _ _ _ _ h => h

/-! ### ENGINE_CLOCK_GATE (R128) -/

/-- A free engine is gated. -/
theorem completes_engineClockGate (hfree : (s.engine i e).job = none) :
    Completes (.engineClockGate i e) s fun t => (t.engine i e).gated = true ∧ Keeps [.slices] [] s t := by
  have hexec : exec (.engineClockGate i e) s = answer s (s.onEngine i e fun k => { k with gated := true }) := by
    show execEngineClockGate i e s = _
    rw [execEngineClockGate, State.when, if_pos (by simp [hfree])]
  have hkeeps := s.onEngine_keeps i e fun k => { k with gated := true }
  exact ⟨_, hexec.trans (answer_of_pieces hkeeps.pieces (by decide)), congrArg Engine.gated (s.engine_onEngine_same i e _), hkeeps⟩

/-- A busy engine takes nothing and is not gated (log 5). -/
theorem ignored_of_busy (hbusy : (s.engine i e).job ≠ none) : Ignored (.tilePlace i e) s ∧ Ignored (.engineClockGate i e) s := by
  constructor
  · show execTilePlace i e s = _
    rw [execTilePlace, State.when, if_neg (by simp [hbusy])]
    exact answer_self s
  · show execEngineClockGate i e s = _
    rw [execEngineClockGate, State.when, if_neg (by simp [hbusy])]
    exact answer_self s

end

/-! ### The statement -/

/-- Settles O39: a free engine takes a third opinion, else its queue's next tile, which is placed or at the limit of its epochs. -/
theorem tilesArePlaced : Obligations.TilesArePlaced := by
  refine ⟨fun s i e hserves hfree hclk => ⟨fun k sector col row hthird hsector hnext hk => ?_, fun h hthird =>
    completes_third (exec_tilePlace_third hserves hfree hclk hthird), completes_engineClockGate hfree⟩,
    fun s i e hbusy => ignored_of_busy hbusy⟩
  have hexec := exec_tilePlace_own hserves hfree hclk hthird hsector hnext
  refine ⟨fun hbelow => ?_, fun hplaced hepoch p r hw hid => ?_⟩
  · rw [s.placeTile_taken i k col row e hbelow] at hexec
    exact completes_tileTaken hk hexec
  · rw [s.placeTile_limit i k col row e hplaced hepoch] at hexec
    exact completes_epochLimit hfree hw hid hexec

end Sys2Proof.Machine
end

section
/-! SUPPORT. Work that gives engines free and takes none: it leaves the registers that show which slices and engines serve (SLC_STATUS and
FLT_STATUS), and an engine that is free stays free. Aborts, dropped comparisons and tiles placed again are such work. -/
namespace Sys2Proof.Machine

open Sys2Proof

/-! ### Service registers -/

/-- The registers that show which slices and engines serve: SLC_STATUS of each slice, and FLT_STATUS. -/
def serviceOffset (o : Nat) : Bool := o == 0x17004 || (decide (0x8004 ≤ o) && decide (o ≤ 0xA004) && o % 0x800 == 4)

/-- A field of one of these registers. -/
def Field.service (f : Field) : Bool := serviceOffset (f.key / 32)

theorem Field.service_iff {f : Field} : f.service = true ↔
    f.key / 32 = 0x17004 ∨ (0x8004 ≤ f.key / 32 ∧ f.key / 32 ≤ 0xA004) ∧ f.key / 32 % 0x800 = 4 := by
  simp [Field.service, serviceOffset]

theorem Field.service_eq_false {f : Field} (h : f.key / 32 ≠ 0x17004) (hs : f.key / 32 < 0x8004 ∨ 0xA004 < f.key / 32) :
    f.service = false := by
  rw [← Bool.not_eq_true, Field.service_iff]
  omega

theorem service_engFenced (i : Fin 5) : (Reg.SLC_STATUS_ENG_FENCED i).service = true := by
  rw [Field.service_iff]
  simp only [Field.key, Reg.SLC_STATUS_ENG_FENCED]
  omega

theorem ovf_not_service (b : Nat) : (ovf b).service = false := by
  apply Field.service_eq_false <;> rw [ovf_key] <;> omega

theorem not_service_migDropped (i : Nat) : (Reg.SLC_DROPS_MIG_DROPPED i).service = false := by
  rw [← Bool.not_eq_true, Field.service_iff]
  simp only [Field.key, Reg.SLC_DROPS_MIG_DROPPED]
  omega

theorem not_service_shadowDropped (i : Nat) : (Reg.SLC_DROPS_SHADOW_DROPPED i).service = false := by
  rw [← Bool.not_eq_true, Field.service_iff]
  simp only [Field.key, Reg.SLC_DROPS_SHADOW_DROPPED]
  omega

theorem key_ne_of_service {f g : Field} (hg : g.service = false) (hf : f.service = true) : g.key ≠ f.key := by
  intro h
  simp only [Field.service, h] at hg hf
  simp [hf] at hg

/-- The service registers are as before, and every engine that was free still is. -/
structure Releases (s t : State) : Prop where
  regs : ∀ f : Field, f.service = true → t.reg f = s.reg f
  jobs : ∀ i e : Nat, (s.engine i e).job = none → (t.engine i e).job = none

theorem Releases.of_same {s t : State} (hr : t.regs = s.regs) (hs : t.slices = s.slices) : Releases s t :=
  ⟨fun f _ => State.reg_congr s t f hr, fun i e h => (congrArg Engine.job (State.engine_congr hs i e)).trans h⟩

theorem Releases.refl (s : State) : Releases s s := .of_same rfl rfl

theorem Releases.trans {s t u : State} (h : Releases s t) (h' : Releases t u) : Releases s u :=
  ⟨fun f hf => (h'.regs f hf).trans (h.regs f hf), fun i e hj => h'.jobs i e (h.jobs i e hj)⟩

/-- A frame that leaves the slices, and whose fields show no service. -/
theorem Keeps.releases {ps : List Piece} {fs : List Field} {s t : State} (h : Keeps ps fs s t) (hs : .slices ∉ ps := by decide)
    (hf : ∀ g ∈ fs, g.service = false := by decide) : Releases s t := by
  refine ⟨fun f hserv => h.2 f fun g hg => key_ne_of_service (hf g hg) hserv, fun i e hj => ?_⟩
  exact (congrArg Engine.job (State.engine_congr (h.1 .slices hs) i e)).trans hj

theorem Releases.when {s t : State} (h : Releases s t) (b : Bool) {f : State → State} (hf : ∀ u, Releases u (f u)) :
    Releases s (t.when b f) := by
  unfold State.when
  split
  · exact h.trans (hf t)
  · exact h

theorem Releases.forAll {α : Type} {s t : State} (h : Releases s t) (l : List α) {f : α → State → State}
    (hf : ∀ a ∈ l, ∀ u, Releases u (f a u)) : Releases s (t.forAll l f) :=
  State.forAll_induction (P := Releases s) l h fun a ha u hu => hu.trans (hf a ha u)

/-! ### Units other than slices -/

section
variable {s t : State} (h : Releases s t)
include h

theorem Releases.onStripe (id : Nat) (f : Stripe → Stripe) : Releases s (t.onStripe id f) := h.trans (t.onStripe_keeps id f).releases
theorem Releases.onPackage (id : Nat) (f : Package → Package) : Releases s (t.onPackage id f) := h.trans (t.onPackage_keeps id f).releases
theorem Releases.onGroup (g : Nat) (f : Group → Group) : Releases s (t.onGroup g f) := h.trans (.of_same rfl rfl)
theorem Releases.onLine (key : Nat) (f : Line → Line) : Releases s (t.onLine key f) := h.trans (t.onLine_keeps key f).releases
theorem Releases.emit (o : Out) : Releases s (t.emit o) := h.trans (t.emit_keeps o).releases
theorem Releases.bookSlots (e cls n : Nat) : Releases s (t.bookSlots e cls n) := h.trans (.of_same rfl rfl)
theorem Releases.withStripes (l : List Stripe) : Releases s { t with stripes := l } := h.trans (.of_same rfl rfl)
theorem Releases.withPackages (l : List Package) : Releases s { t with packages := l } := h.trans (.of_same rfl rfl)
theorem Releases.withShadows (l : List Shadow) : Releases s { t with shadows := l } := h.trans (t.setShadows_keeps l).releases
theorem Releases.withReports (l : List Report) : Releases s { t with reports := l } := h.trans (.of_same rfl rfl)
theorem Releases.withGridJob (j : Option GridJob) : Releases s { t with gridJob := j } := h.trans (.of_same rfl rfl)
theorem Releases.withStage (u : StageUnit) : Releases s { t with stage := u } := h.trans (.of_same rfl rfl)

end

/-! ### Registers, counters and events -/

section
variable {s t : State} (h : Releases s t)
include h

theorem Releases.setReg (f : Field) (v : Nat) (hf : f.service = false := by decide) : Releases s (t.setReg f v) :=
  h.trans ((t.setReg_keeps f v).releases (by decide) (by simpa using hf))

theorem Releases.setRegs (l : List (Field × Nat)) (hf : ∀ e ∈ l, e.1.service = false) : Releases s (t.setRegs l) :=
  h.trans ((t.setRegs_keeps l).releases (by decide) (by simpa using hf))

theorem Releases.addReg (f : Field) (k : Nat) (hf : f.service = false := by decide) : Releases s (t.addReg f k) := h.setReg f _ hf

theorem Releases.count (b n k : Nat) : Releases s (t.count b n k) :=
  h.trans ((t.count_keeps b n k).releases (by decide) (by simpa using ovf_not_service b))

theorem Releases.raise (n : Nat) (hn : (causeField n).service = false := by decide) : Releases s (t.raise n) :=
  h.trans ((t.raise_keeps n).releases (by decide) (by simpa using ⟨hn, ovf_not_service 0, ovf_not_service 1⟩))

theorem Releases.complete (c : Completion) : Releases s (t.complete c) := h.trans ((t.complete_keeps c).releases)

end

theorem State.setHost_keeps (s : State) (u : HostUnit) : Keeps messagePieces [] s { s with host := u } :=
  ⟨s.setHost_pieces u, fun _ _ => rfl⟩

theorem State.ringMessage_keeps (s : State) (c : Nat) : Keeps messagePieces [ovf 1] s (s.ringMessage c) :=
  ((s.setHost_keeps _).trans (State.when_keeps (ps := messagePieces) (fs := [ovf 1]) _ _ _ fun _ =>
    (State.message_keeps _ _).mono (by simp [messagePieces]) (by simp))).mono (by simp) (by simp)

/-- The fields that an entry of the EVR may change, and those of the cause that its loss raises. -/
def entryFields : List Field := [Reg.HIF_EVR_IDX_W, Reg.HIF_EVR_DROPPED_COUNT, causeField 6, ovf 0, ovf 1]

theorem State.writeEvent_keeps (s : State) (e : Event) : Keeps messagePieces entryFields s (s.writeEvent e) := by
  refine ((Keeps.trans (ps := .out :: messagePieces) (fs := [Reg.HIF_EVR_IDX_W]) ?_ (State.count_keeps _ 1 6 1)).trans
    (State.ringMessage_keeps _ evr)).mono (by simp [messagePieces]) (by simp [entryFields])
  exact ((s.emit_keeps (.hostWrite (s.evrBase + 32 * s.reg Reg.HIF_EVR_IDX_W) e.bytes)).trans
    (State.setReg_keeps _ Reg.HIF_EVR_IDX_W _)).trans (State.setHost_keeps _ _)

theorem State.dropEvent_keeps (s : State) : Keeps messagePieces entryFields s s.dropEvent :=
  ((((s.setHost_keeps _).trans (State.addReg_keeps _ Reg.HIF_EVR_DROPPED_COUNT 1)).trans (State.count_keeps _ 1 7 1)).trans
    (State.raise_keeps _ 6)).mono (by simp [messagePieces]) (by simp [entryFields])

/-- The frame of an event (R328, R350). -/
theorem State.event_keeps (s : State) (type source kind detail : Nat) :
    Keeps (.events :: messagePieces) entryFields s (s.event type source kind detail) := by
  unfold State.event
  extract_lets e o t
  have ht : Keeps [.events] [] s t := ⟨fun p hp => by cases p <;> simp_all [Piece.same, t, o], fun _ _ => rfl⟩
  split
  · exact (ht.trans (t.writeEvent_keeps e)).mono (by simp) (by simp)
  · exact (ht.trans t.dropEvent_keeps).mono (by simp) (by simp)

theorem Releases.event {s t : State} (h : Releases s t) (type source kind detail : Nat) :
    Releases s (t.event type source kind detail) :=
  h.trans ((t.event_keeps type source kind detail).releases)

/-! ### Engines and comparisons (R138, R142) -/

theorem vget_vmod_cases {α : Type} {n : Nat} (v : Vector α n) (i j : Nat) (f : α → α) (d : α) :
    vget (vmod v i f) j d = vget v j d ∨ vget (vmod v i f) j d = f (vget v j d) := by
  by_cases h : j = i
  · subst h
    by_cases hn : j < n
    · exact .inr (vget_vmod_same _ _ _ _ hn)
    · exact .inl (by simp [vget, hn])
  · exact .inl (vget_vmod_ne _ _ _ _ _ h)

section
variable {s t : State} (h : Releases s t)
include h

/-- A change of a slice under which none of its free engines takes a tile. -/
theorem Releases.onSlice (i : Nat) {f : Slice → Slice}
    (hf : ∀ c e, (vget c.engines e ⟨none, true, none⟩).job = none → (vget (f c).engines e ⟨none, true, none⟩).job = none) :
    Releases s (t.onSlice i f) := by
  refine h.trans ⟨fun _ _ => rfl, fun n e hj => ?_⟩
  rcases vget_vmod_cases t.slices i n f Slice.init with hs | hs
  · exact (congrArg (fun c : Slice => (vget c.engines e ⟨none, true, none⟩).job) hs).trans hj
  · exact (congrArg (fun c : Slice => (vget c.engines e ⟨none, true, none⟩).job) hs).trans (hf _ e hj)

/-- A change of an engine that takes no tile if it is free. -/
theorem Releases.onEngine (i e : Nat) {f : Engine → Engine} (hf : ∀ k, k.job = none → (f k).job = none) :
    Releases s (t.onEngine i e f) := by
  refine h.onSlice i fun c n hj => ?_
  rcases vget_vmod_cases c.engines e n f ⟨none, true, none⟩ with hs | hs
  · exact (congrArg Engine.job hs).trans hj
  · exact (congrArg Engine.job hs).trans (hf _ hj)

end

theorem State.wasteJob_releases (s : State) (i e : Nat) : Releases s (s.wasteJob i e) := by
  unfold State.wasteJob
  split
  · exact (((Releases.refl s).onEngine i e fun _ _ => rfl).bookSlots _ _ _).count _ _ _
  · exact Releases.refl s

theorem State.freeShadow_releases (s : State) (h : Shadow) : Releases s (s.freeShadow h) := by
  refine (Releases.refl s).forAll _ fun x _ u => ?_
  split
  · split
    · exact u.wasteJob_releases _ _
    · exact Releases.refl u
  · exact Releases.refl u

theorem State.dropShadow_releases (s : State) (h : Shadow) : Releases s (s.dropShadow h) := by
  have hend : Releases s (s.endShadow h) := ((s.freeShadow_releases h).withShadows _).onPackage _ _
  exact (hend.addReg _ 1 (not_service_shadowDropped h.owner)).onPackage _ _

theorem State.dropShadowsOf_releases (s : State) (stripe col row : Nat) : Releases s (s.dropShadowsOf stripe col row) :=
  (Releases.refl s).forAll _ fun h _ u => u.dropShadow_releases h

theorem State.stopEngines_releases (s : State) (i : Nat) : Releases s (s.stopEngines i) :=
  (Releases.refl s).forAll _ fun e _ u => u.wasteJob_releases i e

/-! ### The release of a stripe (R31, R161, R342, R415, R422) -/

theorem State.dropGrid_releases (s : State) (id : Nat) : Releases s (s.dropGrid id) :=
  (Releases.refl s).when _ fun u => ((Releases.refl u).withGridJob none).setRegs _ (by simp; decide)

theorem State.dropStripe_releases (s : State) (id : Nat) : Releases s (s.dropStripe id) :=
  ((Releases.refl s).withStripes _).trans (State.dropGrid_releases _ id)

theorem State.freeWork_releases (s : State) (id : Nat) : Releases s (s.freeWork id) := by
  unfold State.freeWork
  extract_lets t
  have ht : Releases s t := by
    refine (Releases.refl s).forAll _ fun x _ u => ?_
    split
    · split
      · exact u.wasteJob_releases _ _
      · exact Releases.refl u
    · exact Releases.refl u
  exact ht.withShadows _

theorem State.dropPackage_releases (s : State) (id : Nat) : Releases s (s.dropPackage id) :=
  ((s.freeWork_releases id).trans (State.dropGrid_releases _ id)).withPackages _

theorem State.poolReport_releases (s : State) (p : Stripe) : Releases s (s.poolReport p) := by
  unfold State.poolReport
  extract_lets rs
  exact (((Releases.refl s).withReports _).setRegs _ (by simp; decide)).when _ fun u =>
    (Releases.refl u).setReg Reg.XK2X_REPORT_RECORDS _

theorem State.finish_releases (s : State) (p : Stripe) (st : Status) (d1 records : Nat) : Releases s (s.finish p st d1 records) := by
  unfold State.finish
  split
  · exact Releases.refl s
  · split
    · exact ((Releases.refl s).complete _).when _ fun u => ((Releases.refl u).setReg Reg.XK2_IRQ_ERR _).when _ fun v =>
        (Releases.refl v).emit _
    · exact (Releases.refl s).complete _

/-! ### Work on the links that waits for a stripe's end (R208, R216, R237) -/

/-- The fields of the group and lane blocks show no service. -/
theorem not_service_of_group {f : Field} (hlo : 0x10000 ≤ f.key / 32) (hhi : f.key / 32 < 0x14000) : f.service = false :=
  Field.service_eq_false (by omega) (by omega)

section
variable {g : Nat} (hg : g < 16)
include hg

theorem not_service_of_lane {i o lo w v : Nat} {a : Access} {c : Retention} (hi : i < 11)
    (ho : 0x10000 ≤ o ∧ o < 0x10040 := by decide) (hlo : lo < 32 := by decide) :
    (Field.mk (o + 0x400 * g + 0x40 * i) lo w a v c).service = false := by
  apply not_service_of_group <;> simp only [Field.key] <;> omega

theorem not_service_of_grpStatus {lo w v : Nat} {a : Access} {c : Retention} (hlo : lo < 32 := by decide) :
    (Field.mk (0x103C4 + 0x400 * g) lo w a v c).service = false := by
  apply not_service_of_group <;> simp only [Field.key] <;> omega

theorem not_service_of_spareMap {lo w v : Nat} {a : Access} {c : Retention} (hlo : lo < 32) :
    (Field.mk (0xD014 + 4 * (g / 8)) lo w a v c).service = false := by
  apply Field.service_eq_false <;> simp only [Field.key] <;> omega

theorem State.groupOff_releases (s : State) (fast : Bool) : Releases s (s.groupOff g fast) := by
  unfold State.groupOff
  extract_lets t u
  have ht : Releases s t := by
    refine (Releases.refl s).setRegs _ fun x hx => ?_
    simp only [List.mem_flatMap, List.mem_range, List.mem_cons, List.not_mem_nil, or_false] at hx
    obtain ⟨i, hi, rfl | rfl | rfl | rfl | rfl | rfl | rfl | rfl⟩ := hx
    all_goals exact not_service_of_lane hg hi
  have hu : Releases s u := ht.forAll _ fun i _ v => (Releases.refl v).onLine _ _
  refine (hu.setRegs _ ?_).onGroup g _
  simpa using ⟨not_service_of_grpStatus hg, not_service_of_grpStatus hg, not_service_of_grpStatus hg⟩

theorem State.retrain_releases (s : State) : Releases s (s.retrain g) :=
  ((State.groupOff_releases hg s true).count 17 5 1).setReg Reg.CAL_STATUS_DUE _

theorem State.setLanes_releases (s : State) (st : Nat) : Releases s (s.setLanes g st (List.range 10)) := by
  refine (Releases.refl s).setRegs _ fun x hx => ?_
  obtain ⟨i, hi, rfl⟩ := List.mem_map.1 hx
  have hi := List.mem_range.1 hi
  exact not_service_of_lane hg (by omega)

theorem State.groupOut_releases (s : State) (reason : Nat) : Releases s (s.groupOut g reason) := by
  refine Releases.raise (Releases.event (Releases.onGroup ((State.setLanes_releases hg s laneOff).setRegs _ ?_) g _) _ _ _ _) 3
  simpa using ⟨not_service_of_grpStatus hg, not_service_of_grpStatus hg, not_service_of_grpStatus hg⟩

theorem State.stepDown_releases (s : State) : Releases s (s.stepDown g) := by
  unfold State.stepDown
  dsimp only
  split
  · exact State.groupOut_releases hg s 4
  · refine (((State.groupOff_releases hg s true).setRegs _ ?_).event _ _ _ _).raise 3
    simpa using ⟨not_service_of_grpStatus hg, not_service_of_grpStatus hg⟩

theorem State.stepAfter_releases (s : State) : Releases s (s.stepAfter g) := by
  unfold State.stepAfter
  split
  · refine ((Releases.refl s).setRegs _ ?_).trans (State.retrain_releases hg _)
    simpa using ⟨not_service_of_spareMap hg (by omega), not_service_of_spareMap hg (by omega)⟩
  · exact State.stepDown_releases hg s

theorem State.enterL2_releases (s : State) : Releases s (s.enterL2 g) :=
  (Releases.refl s).when _ fun u => ((((Releases.refl u).forAll _ fun _ _ v => (Releases.refl v).when _ fun w =>
    ((Releases.refl w).onLine _ _).emit _).trans (State.setLanes_releases hg _ _)).emit _)

end

theorem State.between_releases (s : State) : Releases s s.between := by
  unfold State.between
  extract_lets t
  have ht : Releases s t := (Releases.refl s).when _ fun u => (Releases.refl u).forAll _ fun g hg v =>
    (Releases.refl v).when _ fun w => State.stepAfter_releases (List.mem_range.1 hg) w
  refine ht.when _ fun u => (Releases.refl u).forAll _ fun g hg v => ?_
  split
  · exact State.groupOff_releases (List.mem_range.1 hg) v false
  · exact (Releases.refl v).when _ fun w => State.enterL2_releases (List.mem_range.1 hg) w

/-! ### Frames and dose work of an aborted run (R186, R206) -/

theorem not_service_of_snoop {u o lo w v : Nat} {a : Access} {c : Retention} (ho : 0x16100 ≤ o ∧ o % 0x20 ≠ 4 := by decide)
    (hlo : lo < 32 := by decide) : (Field.mk (o + 0x20 * u) lo w a v c).service = false := by
  apply Field.service_eq_false <;> simp only [Field.key] <;> omega

theorem State.snoopVerify_releases (s : State) (u n : Nat) : Releases s (s.snoopVerify u n) :=
  (Releases.refl s).when _ fun v => ((Releases.refl v).addReg (Reg.CHK_SN_COUNT u) n not_service_of_snoop).count 20 0 n

theorem State.setSnoopVal_releases (s : State) (u n : Nat) : Releases s (s.setSnoopVal u n) :=
  (Releases.refl s).setRegs _ (by simpa using ⟨not_service_of_snoop, not_service_of_snoop⟩)

theorem State.snoopFrom_releases (s : State) (u src : Nat) (bs : List Byte) : Releases s (s.snoopFrom u src bs) :=
  (Releases.refl s).when _ fun v => (Releases.refl v).when _ fun w =>
    ((w.setSnoopVal_releases u _).addReg (Reg.CHK_SN_COUNT u) _ not_service_of_snoop).count 20 2 _

theorem State.sendFrame_releases (s : State) (f : LaneFrame) : Releases s (s.sendFrame f) := by
  rw [State.sendFrame_eq]
  exact ((s.snoopVerify_releases _ _).trans (State.snoopFrom_releases _ _ _ _)).when _ fun u => ((Releases.refl u).onLine _ _).emit _

theorem State.broadcast_releases (s : State) (p : Stripe) (n : Nat) (fl : FrameFlags) (payload : List Byte) :
    Releases s (s.broadcast p n fl payload) := (Releases.refl s).forAll _ fun f _ u => u.sendFrame_releases f

theorem State.wasteStaged_releases (s : State) : Releases s s.wasteStaged :=
  (Releases.refl s).forAll _ fun _ _ u => ((Releases.refl u).bookSlots _ _ _).count 14 _ _

theorem State.endLostRun_releases (s : State) (id : Nat) : Releases s (s.endLostRun id) := by
  unfold State.endLostRun
  split
  · exact ((Releases.refl s).onStripe _ _).event _ _ _ _
  · exact Releases.refl s

theorem State.putStripe_releases (s : State) (q : Stripe) : Releases s (s.putStripe q) := by
  unfold State.putStripe
  split
  · exact Releases.refl s
  · refine Releases.when (Releases.setReg (Releases.count ?_ 15 7 _) Reg.LDG_PEAK_ENTRIES _) _ fun u =>
      ((Releases.refl u).setReg Reg.LDG_STATUS_OVERFLOW 1).count 15 5 1
    exact ((((Releases.refl s).onStripe _ _).count 15 0 _).count 15 2 _).count 15 6 _

theorem State.amendFrame_releases (s : State) (id : Nat) (r : Run) (n cause : Nat) (sel : Nat → Bool) :
    Releases s (s.amendFrame id r n cause sel) := by
  unfold State.amendFrame
  split
  · exact Releases.refl s
  · exact s.putStripe_releases _

theorem Releases.moveVisits {s t : State} (h : Releases s t) (f : Field) (lanes : Nat) (hf : f.service = false := by decide) :
    Releases s (t.moveVisits f lanes) := h.setRegs _ (by simpa using ⟨hf, by decide⟩)

theorem State.amendAbort_releases (s : State) (p : Stripe) (r : Run) (n : Nat) : Releases s (s.amendAbort p r n) := by
  rw [State.amendAbort_eq]
  exact (((((s.amendFrame_releases _ _ _ _ _).addReg Reg.LDG_VIS_ABORT_VISITS _).count 15 1 _).moveVisits
    Reg.LDG_VIS_LOST_VISITS _).moveVisits Reg.LDG_VIS_GAP_VISITS _).onStripe _ _

/-! ### Aborts (R186, R264, R266, R336, R341, R422, R439) -/

theorem State.abortXk2_releases (s : State) (p : Stripe) (st : Status) (ta : Nat) : Releases s (s.abortXk2 p st ta) := by
  unfold State.abortXk2
  extract_lets e t
  have ht : Releases s t := ((s.putStripe_releases e).trans (State.poolReport_releases _ e)).trans (State.finish_releases _ e st _ 0)
  have hdone := ht.forAll p.aborts (f := fun o t => t.complete (Completion.mk' o .ok 0 0 0)) fun o _ u => (Releases.refl u).complete _
  have hdrop := (hdone.trans (State.dropStripe_releases _ p.par.id)).trans (State.dropPackage_releases _ p.par.id)
  exact (hdrop.setRegs _ (by simp; decide)).trans (State.between_releases _)

theorem State.aborting_releases (s : State) (id : Nat) (st : Status) (resume : Nat) : Releases s (s.aborting id st resume) :=
  (Releases.refl s).onStripe id _

theorem State.abortUnticked_releases (s : State) (p : Stripe) (r : Run) (st : Status) : Releases s (s.abortUnticked p r st) := by
  unfold State.abortUnticked
  extract_lets t
  have ht : Releases s t := ((Releases.refl s).onStripe _ _).when _ fun u =>
    (u.broadcast_releases _ _ _ _).trans (State.wasteStaged_releases _)
  split
  · exact ht.trans (t.abortXk2_releases _ _ _)
  · exact ht.trans (t.aborting_releases _ _ _)

theorem State.cutRun_releases (s : State) (p : Stripe) (r : Run) (st : Status) : Releases s (s.cutRun p r st) := by
  unfold State.cutRun
  extract_lets n t
  have ht : Releases s t := ((s.broadcast_releases _ _ _ _).trans (State.wasteStaged_releases _)).trans (State.endLostRun_releases _ _)
  split
  · exact ht
  · next q _ =>
    have hu := ht.trans (t.amendAbort_releases q r (n - 1))
    dsimp only
    split
    · split
      · exact hu.trans (State.abortXk2_releases _ _ _ _)
      · exact hu
    · exact hu.trans (State.aborting_releases _ _ _ _)

theorem State.abortTicked_releases (s : State) (p : Stripe) (r : Run) (st : Status) : Releases s (s.abortTicked p r st) := by
  unfold State.abortTicked
  split
  · exact (Releases.refl s).onStripe _ _
  · exact (Releases.refl s).onStripe _ _
  · split <;> exact (Releases.refl s).onStripe _ _

theorem State.tellGroup_releases (s : State) (p : Stripe) : Releases s (s.tellGroup p) := by
  unfold State.tellGroup
  split
  · exact Releases.refl s
  · exact (Releases.refl s).withStage _
  · exact (Releases.refl s).withStage _

theorem State.abortRunout_releases (s : State) (p : Stripe) (st : Status) : Releases s (s.abortRunout p st) := by
  unfold State.abortRunout
  split
  · exact (s.tellGroup_releases p).trans (State.aborting_releases _ _ _ _)
  · exact Releases.refl s

/-- An abort, whatever the stripe does, gives engines free at most. -/
theorem State.abort_releases (s : State) (st : Status) : Releases s (s.abort st) := by
  unfold State.abort
  split
  · exact Releases.refl s
  · next p _ =>
    have htold := s.tellGroup_releases p
    split
    · exact htold.trans (State.abortUnticked_releases _ _ _ _)
    · split
      · exact htold.trans (State.abortTicked_releases _ _ _ _)
      · exact htold.trans (State.abortUnticked_releases _ _ _ _)
    · split
      · exact htold.trans (State.abortTicked_releases _ _ _ _)
      · exact htold.trans (State.abortUnticked_releases _ _ _ _)
    · split
      · exact htold.trans (State.cutRun_releases _ _ _ _)
      · exact htold.trans (State.abortTicked_releases _ _ _ _)
    · exact s.abortRunout_releases p st
    · exact (Releases.refl s).onStripe _ _
    · exact Releases.refl s

/-! ### Tiles placed again (R131 to R137) -/

theorem State.epochLimit_releases (s : State) (i stripe col row : Nat) : Releases s (s.epochLimit i stripe col row) :=
  ((Releases.refl s).event _ _ _ _).when _ fun u => u.abort_releases _

theorem State.replaceTile_releases (s : State) (i stripe col row : Nat) : Releases s (s.replaceTile i stripe col row) := by
  unfold State.replaceTile
  split
  · exact Releases.refl s
  · dsimp only
    split
    · exact (Releases.refl s).addReg _ 1 (not_service_migDropped i)
    · split
      · exact s.epochLimit_releases i stripe col row
      · exact ((s.dropShadowsOf_releases stripe col row).onPackage _ _).count _ _ _

end Sys2Proof.Machine
end

section
/-! SUPPORT. Fences, failing slices and Molt (R131, R135, R136, R376, R379, R381). -/
namespace Sys2Proof.Machine

open Sys2Proof

/-! ### Bits and registers -/

theorem bitOf_eq_testBit (v i : Nat) : bitOf v i = v.testBit i := by
  rw [bitOf, Nat.testBit_eq_decide_div_mod_eq]
  rfl

/-- A field in which a bit was set shows it. -/
theorem bitOf_setReg {s : State} {f : Field} {e : Nat} (he : e < f.width) (hw : f.width ≤ 32) (v : Nat) :
    bitOf ((s.setReg f (v ||| 2 ^ e)).reg f) e = true := by
  rw [State.reg_setReg_same _ _ _ hw, bitOf_eq_testBit]
  simp [Nat.testBit_mod_two_pow, he]

/-- A saturating field reads the sum, or its greatest value. -/
theorem State.reg_addReg_same (s : State) {f : Field} (k : Nat) (hw : f.width ≤ 32) :
    (s.addReg f k).reg f = min (2 ^ f.width - 1) (s.reg f + k) := by
  have hlt : min (2 ^ f.width - 1) (s.reg f + k) < 2 ^ f.width :=
    lt_of_le_of_lt (Nat.min_le_left _ _) (Nat.sub_lt (by positivity) (by decide))
  rw [State.addReg, State.reg_setReg_same _ _ _ hw, Nat.mod_eq_of_lt hlt]

/-- A raised cause shows (R461). -/
theorem State.reg_raise_same (s : State) {n : Nat} (h0 : (ovf 0).key ≠ (causeField n).key) (h1 : (ovf 1).key ≠ (causeField n).key) :
    (s.raise n).reg (causeField n) = 1 := by
  have hset : (s.setFlag (causeField n) true).reg (causeField n) = 1 :=
    State.reg_setFlag_same _ _ _ (by simp [causeField]) (by simp [causeField])
  have hmessage (u : State) : (u.message 5).reg (causeField n) = u.reg (causeField n) := (u.message_keeps 5).2 _ (by simpa using h1)
  simp [State.raise, State.reg_when, hmessage, State.reg_count _ _ _ _ h0, hset]

/-! ### Engines that stop (R135, R142, R379) -/

/-- What one deed of a list establishes, and none of the others undoes, holds after all of them. -/
theorem State.forAll_establishes {α : Type} {P : State → Prop} {l : List α} {f : α → State → State} {a : α} (ha : a ∈ l)
    (hset : ∀ u, P (f a u)) (hkeep : ∀ b u, P u → P (f b u)) (s : State) : P (s.forAll l f) := by
  obtain ⟨l₁, l₂, rfl⟩ := List.append_of_mem ha
  have hsplit : s.forAll (l₁ ++ a :: l₂) f = (f a (s.forAll l₁ f)).forAll l₂ f := by simp [State.forAll]
  rw [hsplit]
  exact State.forAll_induction _ (hset _) fun b _ u hu => hkeep b u hu

theorem State.job_wasteJob (s : State) (i : Fin 5) (e : Fin 16) : ((s.wasteJob i e).engine i e).job = none := by
  unfold State.wasteJob
  split
  · exact congrArg Engine.job (s.engine_onEngine_same i e fun k => { k with job := none })
  · assumption

theorem State.job_stopEngines (s : State) (i : Fin 5) {e : Nat} (he : e < 16) : ((s.stopEngines i).engine i e).job = none := by
  have hset (u : State) : ((u.wasteJob i e).engine i e).job = none := u.job_wasteJob i ⟨e, he⟩
  have hkeep (b : Nat) (u : State) (hu : (u.engine i e).job = none) : ((u.wasteJob i b).engine i e).job = none :=
    (u.wasteJob_releases i b).jobs i e hu
  exact State.forAll_establishes (P := fun u => (u.engine i e).job = none) (f := fun e u => u.wasteJob i e) (a := e)
    (List.mem_range.2 he) hset hkeep s

theorem State.stopEngines_pieces (s : State) (i : Nat) : KeepsPieces enginePieces s (s.stopEngines i) :=
  (KeepsPieces.refl _ s).forAll _ fun e u => u.wasteJob_pieces i e

/-! ### ENGINE_WATCHDOG (R131, R135) -/

section
variable (s : State) (i e : Nat) (j : Job)

/-- The engine is marked in ENG_FENCED. -/
def State.fenceMarked : State := s.setReg (Reg.SLC_STATUS_ENG_FENCED i) (s.reg (Reg.SLC_STATUS_ENG_FENCED i) ||| 2 ^ e)

/-- The fence is posted. -/
def State.fencePosted (col row : Nat) : State := (s.fenceMarked i e).event 0x01 i 1 (faultDetail e col row)

/-- A fenced engine is gated and has given up its tile. -/
def State.engineFenced : State := ((s.fencePosted i e j.col j.row).wasteJob i e).onEngine i e fun k => { k with gated := true }

theorem State.fenceMarked_pieces : KeepsPieces [] s (s.fenceMarked i e) := (s.setReg_keeps _ _).pieces

theorem State.fencePosted_pieces (col row : Nat) : KeepsPieces logPieces s (s.fencePosted i e col row) :=
  ((s.fenceMarked_pieces i e).mono (by simp)).trans (State.event_pieces _ _ _ _ _)

theorem State.engineFenced_pieces : KeepsPieces (.slices :: logPieces) s (s.engineFenced i e j) :=
  (((s.fencePosted_pieces i e _ _).mono (by simp)).trans ((State.wasteJob_pieces _ i e).mono (by simp [enginePieces, logPieces]))).trans
    ((State.onEngine_pieces _ i e _).mono (by simp [enginePieces, logPieces]))

theorem State.engineFenced_releases : Releases (s.fenceMarked i e) (s.engineFenced i e j) :=
  (((Releases.refl _).event _ _ _ _).trans (State.wasteJob_releases _ i e)).onEngine i e fun _ hk => hk

theorem State.posted_engineFenced : (s.engineFenced i e j).posted 1 i 1 := by
  have hafter : KeepsPieces enginePieces (s.fencePosted i e j.col j.row) (s.engineFenced i e j) :=
    (State.wasteJob_pieces _ i e).trans (State.onEngine_pieces _ i e _)
  exact State.posted_of_pieces hafter (by decide) ((s.fenceMarked i e).posted_event 1 i 1 _)

/-- A tile of the slice's own work is placed again, and goes to the next free engine. -/
def State.refence : State :=
  (s.replaceTile i j.stripe j.col j.row).onSlice i fun c => { c with refenced := c.refenced ++ [(j.stripe, tileKey j.col j.row)] }

theorem State.refence_releases : Releases s (s.refence i j) := (s.replaceTile_releases i _ _ _).onSlice i fun _ _ hc => hc

/-- What becomes of the tile of a fenced engine gives engines free at most. -/
theorem State.fenceEngine_releases : Releases (s.engineFenced i e j) (s.fenceEngine i e j) := by
  unfold State.fenceEngine
  extract_lets f a
  have ha : Releases (s.engineFenced i e j) a := Releases.refl _
  cases j.kind with
  | own =>
    dsimp only
    split_ifs
    · exact ha.trans (a.refence_releases i j)
    · exact ha
  | shadow => exact ha.withShadows _
  | third => exact ha.withShadows _

theorem State.fenceEngine_own {k : Package} (hkind : j.kind = .own) (hk : s.package? j.stripe = some k)
    (hepoch : (k.tile j.col j.row).epoch = j.epoch) : s.fenceEngine i e j = (s.engineFenced i e j).refence i j := by
  unfold State.fenceEngine
  rw [hkind, hk]
  exact if_pos (by simpa using hepoch)

end

/-- A tile below epoch 511 that is placed again has its epoch raised and nothing of it held. -/
theorem State.TileIs.replaceTile_raised {s : State} {stripe col row epoch : Nat} (i : Nat) (he : epoch ≠ 511)
    (h : s.TileIs stripe col row fun x => x.committed = false ∧ x.epoch = epoch) :
    (s.replaceTile i stripe col row).TileIs stripe col row fun x =>
      x.epoch = epoch + 1 ∧ x.placed = false ∧ x.cached = false ∧ x.blocks = [] := by
  rw [State.replaceTile_raised i (h.imp fun x ⟨hc, hepoch⟩ => ⟨hc, hepoch ▸ he⟩)]
  refine State.TileIs.congr (State.TileIs.onTile ?_) rfl
  exact (h.dropShadowsOf (fun _ hx => hx) fun _ hx => hx).imp fun x ⟨_, hepoch⟩ => ⟨congrArg (· + 1) hepoch, rfl, rfl, rfl⟩

section
variable {s : State} {i : Fin 5} {e : Fin 16}

/-- The fence shows, whatever becomes of the tile. -/
theorem State.bitOf_fenceEngine (j : Job) :
    bitOf ((s.fenceEngine i e j).reg (Reg.SLC_STATUS_ENG_FENCED i)) e = true := by
  have hafter := (s.engineFenced_releases i e j).trans (s.fenceEngine_releases i e j)
  rw [hafter.regs _ (service_engFenced i)]
  exact bitOf_setReg e.isLt (by simp [Reg.SLC_STATUS_ENG_FENCED]) _

theorem State.job_fenceEngine (j : Job) : ((s.fenceEngine i e j).engine i e).job = none := by
  refine (s.fenceEngine_releases i e j).jobs i e ?_
  have hjob := congrArg Engine.job (((s.fencePosted i e j.col j.row).wasteJob i e).engine_onEngine_same i e fun k =>
    { k with gated := true })
  exact hjob.trans (State.job_wasteJob _ i e)

/-- An uncommitted tile of the slice's own work is placed again, and the fence stays the newest event. -/
theorem State.fenceEngine_replaces {j : Job} {k : Package} (hkind : j.kind = .own) (hk : s.package? j.stripe = some k)
    (hepoch : (k.tile j.col j.row).epoch = j.epoch) (hc : (k.tile j.col j.row).committed = false) (he : j.epoch ≠ 511) :
    (s.fenceEngine i e j).posted 1 i 1 ∧ (s.fenceEngine i e j).TileIs j.stripe j.col j.row fun x =>
      x.epoch = j.epoch + 1 ∧ x.placed = false ∧ x.cached = false ∧ x.blocks = [] := by
  have hfenced : (s.engineFenced i e j).TileIs j.stripe j.col j.row fun x => x.committed = false ∧ x.epoch = j.epoch :=
    ⟨k, ((s.engineFenced_pieces i e j).package? (by decide) _).trans hk, hc, hepoch⟩
  have hreplaced := State.replaceTile_pieces i (hfenced.imp fun x ⟨hc, hx⟩ => ⟨hc, hx ▸ he⟩)
  rw [s.fenceEngine_own i e j hkind hk hepoch]
  have hposted := State.posted_of_pieces hreplaced (by decide) (s.posted_engineFenced i e j)
  have hslice := State.onSlice_keeps ((s.engineFenced i e j).replaceTile i j.stripe j.col j.row) i fun c =>
    { c with refenced := c.refenced ++ [(j.stripe, tileKey j.col j.row)] }
  exact ⟨State.posted_of_pieces hslice.pieces (by decide) hposted,
    (hfenced.replaceTile_raised i he).congr (hslice.pieces .packages (by decide))⟩

/-- An engine at work is fenced, and its tile is placed again. -/
theorem completes_fence {j : Job} (hjob : (s.engine i e).job = some j) : Completes (.engineWatchdog i e) s fun t =>
    bitOf (t.reg (Reg.SLC_STATUS_ENG_FENCED i)) e = true ∧ (t.engine i e).job = none ∧
    (∀ k, j.kind = .own → s.package? j.stripe = some k → (k.tile j.col j.row).epoch = j.epoch →
      (k.tile j.col j.row).committed = false → j.epoch ≠ 511 →
      t.posted 1 i 1 ∧ ∃ k', t.package? j.stripe = some k' ∧ (k'.tile j.col j.row).epoch = j.epoch + 1 ∧
        (k'.tile j.col j.row).placed = false ∧ (k'.tile j.col j.row).cached = false ∧ (k'.tile j.col j.row).blocks = []) := by
  have hexec : exec (.engineWatchdog i e) s = answer s (s.fenceEngine i e j) := by
    show execEngineWatchdog i e s = _
    rw [execEngineWatchdog, hjob]
  exact Completes.of_answer_of hexec ⟨State.bitOf_fenceEngine j, State.job_fenceEngine j, fun k hkind hk hepoch hc he =>
    State.fenceEngine_replaces hkind hk hepoch hc he⟩ fun _ _ _ _ h => h

/-! #### A completion in that very cycle (R131) -/

/-- The fence is posted and the engine gated. -/
def State.doneGated (s : State) (i e : Nat) (d : Nat × Nat × Nat) : State :=
  (s.fencePosted i e d.2.1 d.2.2).onEngine i e fun k => { k with gated := true }

theorem State.fenceDone_eq (s : State) (i e : Nat) (d : Nat × Nat × Nat) :
    s.fenceDone i e d = (s.doneGated i e d).addReg (Reg.SLC_DROPS_MIG_DROPPED i) 1 := rfl

theorem key_ne_migDropped (i : Nat) :
    ∀ g ∈ Reg.SLC_STATUS_ENG_FENCED i :: entryFields, g.key ≠ (Reg.SLC_DROPS_MIG_DROPPED i).key := by
  simp [entryFields, ovf_key]
  simp [Field.key, Reg.SLC_STATUS_ENG_FENCED, Reg.SLC_DROPS_MIG_DROPPED, Reg.HIF_EVR_IDX_W, Reg.HIF_EVR_DROPPED_COUNT, causeField]
  omega

section
variable (d : Nat × Nat × Nat)

theorem State.doneGated_keeps : Keeps (.slices :: .events :: messagePieces) (Reg.SLC_STATUS_ENG_FENCED i :: entryFields) s
    (s.doneGated i e d) := by
  have hmarked : Keeps [] [Reg.SLC_STATUS_ENG_FENCED i] s (s.fenceMarked i e) := s.setReg_keeps _ _
  have hposted := (s.fenceMarked i e).event_keeps 0x01 i 1 (faultDetail e d.2.1 d.2.2)
  have hgated : Keeps [.slices] [] (s.fencePosted i e d.2.1 d.2.2) (s.doneGated i e d) := State.onEngine_keeps _ i e _
  exact ((hmarked.trans hposted).trans hgated).mono (by simp) (by simp)

theorem State.bitOf_fenceDone : bitOf ((s.fenceDone i e d).reg (Reg.SLC_STATUS_ENG_FENCED i)) e = true := by
  have hgated : Releases (s.fenceMarked i e) (s.doneGated i e d) :=
    ((Releases.refl (s.fenceMarked i e)).event 0x01 i 1 (faultDetail e d.2.1 d.2.2)).onEngine i e fun _ hk => hk
  rw [State.fenceDone_eq, (hgated.addReg _ 1 (not_service_migDropped i)).regs _ (service_engFenced i)]
  exact bitOf_setReg e.isLt (by simp [Reg.SLC_STATUS_ENG_FENCED]) _

theorem State.gated_fenceDone : ((s.fenceDone i e d).engine i e).gated = true := by
  have hcounted : (s.fenceDone i e d).slices = (s.doneGated i e d).slices := by rw [State.fenceDone_eq, State.addReg_slices]
  rw [State.engine_congr hcounted, State.doneGated, State.engine_onEngine_same]

theorem State.posted_fenceDone : (s.fenceDone i e d).posted 1 i 1 := by
  have hgated := (State.onEngine_keeps (s.fencePosted i e d.2.1 d.2.2) i e fun k => { k with gated := true }).pieces
  exact State.posted_of_pieces (hgated.setReg _ _) (by decide) ((s.fenceMarked i e).posted_event 1 i 1 _)

theorem State.reg_fenceDone : (s.fenceDone i e d).reg (Reg.SLC_DROPS_MIG_DROPPED i) =
    min (2 ^ (Reg.SLC_DROPS_MIG_DROPPED i).width - 1) (s.reg (Reg.SLC_DROPS_MIG_DROPPED i) + 1) := by
  rw [State.fenceDone_eq, State.reg_addReg_same _ _ (by simp [Reg.SLC_DROPS_MIG_DROPPED]),
    (s.doneGated_keeps d).2 _ (key_ne_migDropped i)]

theorem State.packages_fenceDone : (s.fenceDone i e d).packages = s.packages := by
  have hgated : (s.doneGated i e d).packages = s.packages := (s.doneGated_keeps d).1 .packages (by decide)
  rw [State.fenceDone_eq, State.addReg_packages, hgated]

end

/-- The engine is gated, and its last tile stands. -/
theorem completes_fenceDone {d : Nat × Nat × Nat} (hjob : (s.engine i e).job = none) (hdone : (s.engine i e).done = some d)
    (hnow : d.1 = s.now) : Completes (.engineWatchdog i e) s fun t =>
      bitOf (t.reg (Reg.SLC_STATUS_ENG_FENCED i)) e = true ∧ (t.engine i e).gated = true ∧ t.posted 1 i 1 ∧
      t.reg (Reg.SLC_DROPS_MIG_DROPPED i) =
        min (2 ^ (Reg.SLC_DROPS_MIG_DROPPED i).width - 1) (s.reg (Reg.SLC_DROPS_MIG_DROPPED i) + 1) ∧ t.packages = s.packages := by
  have hexec : exec (.engineWatchdog i e) s = answer s (s.fenceDone i e d) := by
    show execEngineWatchdog i e s = _
    rw [execEngineWatchdog, hjob, hdone]
    exact congrArg _ (if_pos (by simpa using hnow))
  exact Completes.of_answer_of hexec ⟨State.bitOf_fenceDone d, State.gated_fenceDone d, State.posted_fenceDone d, State.reg_fenceDone d,
    State.packages_fenceDone d⟩ fun _ _ _ _ h => h

/-- An engine that neither works nor completed a tile at this instant is left alone (log 5). -/
theorem ignored_engineWatchdog (hjob : (s.engine i e).job = none) (hdone : ∀ d, (s.engine i e).done = some d → d.1 ≠ s.now) :
    Ignored (.engineWatchdog i e) s := by
  show execEngineWatchdog i e s = _
  rw [execEngineWatchdog, hjob]
  cases hd : (s.engine i e).done with
  | none => exact answer_self s
  | some d =>
    dsimp only
    rw [State.when, if_neg (by simpa using hdone d hd)]
    exact answer_self s

end

/-! ### Comparisons dropped, and the spare idle (R376, R379) -/

theorem State.shadows_dropShadow (s : State) (h : Shadow) :
    (s.dropShadow h).shadows = s.shadows.filter fun x => !x.isOf h.stripe h.col h.row := by
  have hfree : (s.freeShadow h).shadows = s.shadows := s.freeShadow_pieces h .shadows (by decide)
  simp only [State.dropShadow, State.endShadow, State.onPackage_shadows, State.addReg_shadows, hfree]

/-- What is left once some comparisons were dropped is none of them. -/
theorem State.mem_shadows_dropped {l : List Shadow} {s : State} {x : Shadow} (hx : x ∈ (s.forAll l fun h s => s.dropShadow h).shadows) :
    x ∈ s.shadows ∧ x ∉ l := by
  induction l generalizing s with
  | nil => exact ⟨hx, by simp⟩
  | cons h l ih =>
    rw [State.forAll, List.foldl_cons] at hx
    obtain ⟨hmem, hl⟩ := ih (s := s.dropShadow h) (by rwa [State.forAll])
    rw [State.shadows_dropShadow, List.mem_filter] at hmem
    obtain ⟨hmem, hne⟩ := hmem
    refine ⟨hmem, fun hin => ?_⟩
    rcases List.mem_cons.1 hin with rfl | hin
    · simp [Shadow.isOf] at hne
    · exact hl hin

/-- The spare has abandoned its comparisons and stopped its engines. -/
def State.spareStopped (s : State) : State := (s.forAll s.shadows fun h s => s.dropShadow h).stopEngines 4

theorem State.spareStopped_pieces (s : State) : KeepsPieces dropPieces s s.spareStopped :=
  ((KeepsPieces.refl _ s).forAll _ fun h u => u.dropShadow_pieces h).trans
    ((State.stopEngines_pieces _ 4).mono (by simp [enginePieces, dropPieces]))

theorem State.spareStopped_releases (s : State) : Releases s s.spareStopped :=
  ((Releases.refl s).forAll _ fun h _ u => u.dropShadow_releases h).trans (State.stopEngines_releases _ 4)

theorem State.shadows_spareStopped (s : State) : s.spareStopped.shadows = [] := by
  have hstop : s.spareStopped.shadows = (s.forAll s.shadows fun h s => s.dropShadow h).shadows :=
    State.stopEngines_pieces _ 4 .shadows (by decide)
  rw [hstop, List.eq_nil_iff_forall_not_mem]
  intro x hx
  obtain ⟨hmem, hnot⟩ := State.mem_shadows_dropped hx
  exact hnot hmem

/-- The spare shows a state and the sector it serves. -/
def State.spareShows (s : State) (state sector : Nat) : State :=
  s.setRegs [(Reg.FLT_STATUS_SPARE_STATE, state), (Reg.FLT_STATUS_MOLT_SECTOR, sector)]

theorem State.reg_spareShows (s : State) {state sector : Nat} (hs : state < 4) (hm : sector < 8) :
    (s.spareShows state sector).reg Reg.FLT_STATUS_SPARE_STATE = state ∧
      (s.spareShows state sector).reg Reg.FLT_STATUS_MOLT_SECTOR = sector := by
  constructor
  · rw [State.spareShows, State.setRegs_cons, State.setRegs_cons, State.setRegs_nil, State.reg_setReg_ne _ _ _ _ (by decide),
      State.reg_setReg_same _ _ _ (by decide)]
    exact Nat.mod_eq_of_lt hs
  · rw [State.spareShows, State.setRegs_cons, State.setRegs_cons, State.setRegs_nil, State.reg_setReg_same _ _ _ (by decide)]
    exact Nat.mod_eq_of_lt hm

/-! ### The spare is fenced (R376) -/

theorem State.fenceSpare_eq (s : State) : s.fenceSpare = ((s.spareStopped.spareShows 1 7).event 0x01 4 3 0).raise 9 := rfl

theorem State.fenceSpare_releases (s : State) : Releases (s.spareStopped.spareShows 1 7) s.fenceSpare := by
  rw [State.fenceSpare_eq]
  exact ((Releases.refl _).event _ _ _ _).raise 9

theorem raise_pieces_log (s : State) (n : Nat) : KeepsPieces messagePieces s (s.raise n) :=
  (s.raise_keeps n).pieces.mono (by simp [messagePieces])

/-- Beside comparisons and slices, the fence of the spare changes the log only. -/
theorem State.fenceSpare_pieces (s : State) : KeepsPieces (logPieces ++ dropPieces) s s.fenceSpare := by
  rw [State.fenceSpare_eq]
  have hshown : KeepsPieces (logPieces ++ dropPieces) s (s.spareStopped.spareShows 1 7) :=
    (s.spareStopped_pieces.mono (by simp)).setRegs _
  exact (hshown.trans ((State.event_pieces _ _ _ _ _).mono (by simp))).trans
    ((raise_pieces_log _ 9).mono (by simp [messagePieces, logPieces]))

theorem State.posted_fenceSpare (s : State) : s.fenceSpare.posted 1 4 3 := by
  rw [State.fenceSpare_eq]
  exact State.posted_of_pieces (raise_pieces_log _ 9) (by decide) (State.posted_event _ 1 4 3 0)

theorem State.shadows_fenceSpare (s : State) : s.fenceSpare.shadows = [] := by
  have hlog : KeepsPieces logPieces (s.spareStopped.spareShows 1 7) s.fenceSpare := by
    rw [State.fenceSpare_eq]
    exact (State.event_pieces _ _ _ _ _).trans ((raise_pieces_log _ 9).mono (by simp [messagePieces, logPieces]))
  have hshadows : s.fenceSpare.shadows = (s.spareStopped.spareShows 1 7).shadows := hlog .shadows (by decide)
  rw [hshadows, State.spareShows, State.setRegs_shadows, State.shadows_spareStopped]

/-- A fenced spare serves no sector, whatever aborts thereafter. -/
theorem Releases.spareFenced {s t : State} (h : Releases s.fenceSpare t) :
    t.reg Reg.FLT_STATUS_SPARE_STATE = 1 ∧ t.reg Reg.FLT_STATUS_MOLT_SECTOR = 7 := by
  have hafter := s.fenceSpare_releases.trans h
  rw [hafter.regs _ (by decide), hafter.regs _ (by decide)]
  exact State.reg_spareShows _ (by decide) (by decide)

/-- SPARE_LIMIT_REACHED fences a spare past its limit. -/
theorem completes_spareLimitReached {s : State} (hstate : s.reg Reg.FLT_STATUS_SPARE_STATE ≠ 1) (hpart : s.part = .fx640)
    (hwrong : ∃ p ∈ s.stripes, max 1 p.bv.spareLimit ≤ p.spareWrong) : Completes .spareLimitReached s fun t =>
      t.reg Reg.FLT_STATUS_SPARE_STATE = 1 ∧ t.reg Reg.FLT_STATUS_MOLT_SECTOR = 7 ∧ t.posted 1 4 3 ∧ t.shadows = [] := by
  have hany : (s.stripes.any fun p => decide (max 1 p.bv.spareLimit ≤ p.spareWrong)) = true := by
    obtain ⟨p, hp, hle⟩ := hwrong
    exact List.any_eq_true.2 ⟨p, hp, decide_eq_true hle⟩
  have hexec : exec .spareLimitReached s = answer s s.fenceSpare := by
    show execSpareLimitReached s = _
    rw [execSpareLimitReached, State.when, if_pos (by rw [hany]; simp [hstate, hpart])]
  obtain ⟨hshown, hsector⟩ := (Releases.refl s.fenceSpare).spareFenced
  exact Completes.of_answer_of hexec ⟨hshown, hsector, s.posted_fenceSpare, s.shadows_fenceSpare⟩ fun _ _ _ _ h => h

theorem ignored_spareLimitReached {s : State} (h : ∀ p ∈ s.stripes, p.spareWrong < max 1 p.bv.spareLimit) :
    Ignored .spareLimitReached s := by
  have hany : (s.stripes.any fun p => decide (max 1 p.bv.spareLimit ≤ p.spareWrong)) = false :=
    List.any_eq_false.2 fun p hp => by
      rw [decide_eq_false (Nat.not_le.2 (h p hp))]
      exact Bool.false_ne_true
  show execSpareLimitReached s = _
  rw [execSpareLimitReached, State.when, hany, if_neg (by simp)]
  exact answer_self s

/-! ### A live slice fails (R136, R379, R381) -/

/-- The slice is marked in SLICE_FAILED. -/
def State.failMarked (s : State) (i : Nat) : State :=
  (s.stopEngines i).setReg Reg.FLT_STATUS_SLICE_FAILED (s.reg Reg.FLT_STATUS_SLICE_FAILED ||| 2 ^ i)

/-- Its failure is posted and raised. -/
def State.failPosted (s : State) (i : Nat) : State := ((s.failMarked i).event 0x01 i 3 0).raise 9

theorem State.failSlice_live (s : State) {i : Nat} (hi : i < 4) :
    s.failSlice i = if s.spareFree then (s.failPosted i).molt i else (s.failPosted i).abort .sliceFailed := if_neg (by omega)

theorem State.failSlice_spare (s : State) :
    s.failSlice 4 = s.fenceSpare.when (decide (s.reg Reg.FLT_STATUS_MOLT_SECTOR < 4)) (·.abort .sliceFailed) := if_pos rfl

theorem State.failPosted_releases (s : State) (i : Nat) : Releases (s.failMarked i) (s.failPosted i) :=
  ((Releases.refl (s.failMarked i)).event 0x01 i 3 0).raise 9

theorem State.failPosted_pieces (s : State) (i : Nat) : KeepsPieces (.slices :: logPieces) s (s.failPosted i) := by
  have hmarked : KeepsPieces (.slices :: logPieces) s (s.failMarked i) :=
    ((s.stopEngines_pieces i).mono (by simp [enginePieces, logPieces])).setReg _ _
  exact (hmarked.trans ((State.event_pieces _ 0x01 i 3 0).mono (by simp))).trans
    ((raise_pieces_log _ 9).mono (by simp [messagePieces, logPieces]))

theorem State.posted_failPosted (s : State) (i : Nat) : (s.failPosted i).posted 1 i 3 :=
  State.posted_of_pieces (raise_pieces_log _ 9) (by decide) ((s.failMarked i).posted_event 1 i 3 0)

theorem State.bitOf_failMarked (s : State) {i : Nat} (hi : i < 4) :
    bitOf ((s.failMarked i).reg Reg.FLT_STATUS_SLICE_FAILED) i = true := bitOf_setReg hi (by decide) _

/-! #### Molt (R379, R380) -/

/-- The spare, its comparisons abandoned, shows that it serves a sector. -/
def State.sectorTaken (s : State) (i : Nat) : State :=
  s.spareStopped.setRegs [(Reg.FLT_STATUS_MOLT_SECTOR, i), (Reg.FLT_STATUS_SPARE_STATE, 2)]

theorem State.reg_sectorTaken (s : State) {i : Nat} (hi : i < 4) :
    (s.sectorTaken i).reg Reg.FLT_STATUS_MOLT_SECTOR = i ∧ (s.sectorTaken i).reg Reg.FLT_STATUS_SPARE_STATE = 2 := by
  rw [State.sectorTaken, State.setRegs_cons, State.setRegs_cons, State.setRegs_nil]
  constructor
  · rw [State.reg_setReg_ne _ _ _ _ (by decide), State.reg_setReg_same _ _ _ (by decide)]
    exact Nat.mod_eq_of_lt (Nat.lt_trans hi (by decide))
  · exact State.reg_setReg_same _ _ _ (by decide)

/-- Neither the slices marked as failed nor a free engine changes as the spare takes a sector. -/
theorem State.sectorTaken_keeps (s : State) (i : Nat) :
    (s.sectorTaken i).reg Reg.FLT_STATUS_SLICE_FAILED = s.reg Reg.FLT_STATUS_SLICE_FAILED ∧
      ∀ n e : Nat, (s.engine n e).job = none → ((s.sectorTaken i).engine n e).job = none := by
  have hstopped := s.spareStopped_releases
  constructor
  · rw [State.sectorTaken, State.setRegs_cons, State.setRegs_cons, State.setRegs_nil, State.reg_setReg_ne _ _ _ _ (by decide),
      State.reg_setReg_ne _ _ _ _ (by decide), hstopped.regs _ (by decide)]
  · intro n e hjob
    rw [State.sectorTaken, State.engine_congr (State.setRegs_slices _ _)]
    exact hstopped.jobs n e hjob

/-- Beside what FLT_STATUS shows of the spare, a Molt gives engines free at most. -/
theorem State.molt_releases (s : State) (i : Nat) : Releases
    (s.sectorTaken i) (s.molt i) := by
  unfold State.molt
  extract_lets a b b' c
  have hb : Releases (s.sectorTaken i) b :=
    (((Releases.refl _).event _ _ _ _).count _ _ _).onSlice 4 fun _ _ hc => hc
  have hc : Releases (s.sectorTaken i) c :=
    (hb.addReg _ _ (not_service_migDropped i)).withStripes _
  exact hc.forAll _ fun k _ u => (Releases.refl u).forAll _ fun x _ v => v.replaceTile_releases 4 k.stripe x.1 x.2

/-! ### FENCE_LIMIT_EXCEEDED and SELFMIS_LIMIT_REACHED (R135, R136, R379, R381) -/

/-- The slice is past the limit that the command names. -/
def PastLimit (s : State) (i : Fin 5) (c : Instr) : Prop :=
  c = .fenceLimitExceeded i ∧ (s.slice i).fenceLimit < s.fencedCount i ∨
    c = .selfmisLimitReached i ∧ ∃ k ∈ s.packages, s.selfmisLimit k.stripe ≤ vget k.selfmis i 0

section
variable {s : State} {i : Fin 5} {c : Instr}

/-- Both commands fail a slice that serves and is past the limit. -/
theorem exec_failSlice (hup : s.sliceUp i = true) (hc : PastLimit s i c) : exec c s = answer s (s.failSlice i) := by
  rcases hc with ⟨rfl, hfenced⟩ | ⟨rfl, k, hk, hmis⟩
  · show execFenceLimitExceeded i s = _
    rw [execFenceLimitExceeded, State.when, if_pos (by rw [hup, decide_eq_true hfenced]; rfl)]
  · have hany : (s.packages.any fun k => decide (s.selfmisLimit k.stripe ≤ vget k.selfmis i.val 0)) = true :=
      List.any_eq_true.2 ⟨k, hk, decide_eq_true hmis⟩
    show execSelfmisLimitReached i s = _
    rw [execSelfmisLimitReached, State.when, if_pos (by rw [hup, hany]; rfl)]

/-- The spare takes the sector of a slice that fails. -/
theorem completes_molt (hup : s.sliceUp i = true) (hc : PastLimit s i c) (hi : i.val < 4) (hfree : s.spareFree = true) :
    Completes c s fun t => bitOf (t.reg Reg.FLT_STATUS_SLICE_FAILED) i = true ∧ t.reg Reg.FLT_STATUS_MOLT_SECTOR = i ∧
      t.reg Reg.FLT_STATUS_SPARE_STATE = 2 ∧ ∀ e < 16, (t.engine i e).job = none := by
  have hexec : exec c s = answer s ((s.failPosted i).molt i) := by
    rw [exec_failSlice hup hc, s.failSlice_live hi, if_pos hfree]
  have hposted := s.failPosted_releases i
  have hmolt := (s.failPosted i).molt_releases i
  obtain ⟨hfailed, hjobs⟩ := (s.failPosted i).sectorTaken_keeps i
  obtain ⟨hsector, hstate⟩ := (s.failPosted i).reg_sectorTaken hi
  refine Completes.of_answer_of hexec ⟨?_, ?_, ?_, fun e he => ?_⟩ fun _ _ _ _ h => h
  · rw [hmolt.regs _ (by decide), hfailed, hposted.regs _ (by decide)]
    exact s.bitOf_failMarked hi
  · rw [hmolt.regs _ (by decide), hsector]
  · rw [hmolt.regs _ (by decide), hstate]
  · have hstopped : ((s.failMarked i).engine i e).job = none := by
      rw [State.failMarked, State.engine_congr (State.setReg_slices _ _ _)]
      exact s.job_stopEngines i he
    exact hmolt.jobs i e (hjobs i e (hposted.jobs i e hstopped))

/-- With no spare free the writing stripe aborts. -/
theorem completes_failAbort (hup : s.sliceUp i = true) (hc : PastLimit s i c) (hi : i.val < 4) (hfree : s.spareFree = false)
    {p : Stripe} {r : Run} (hw : Writes s p r) : Completes c s fun t =>
      bitOf (t.reg Reg.FLT_STATUS_SLICE_FAILED) i = true ∧ t.posted 1 i 3 ∧ t.reg (causeField 9) = 1 ∧
      Aborts t p.par.id .sliceFailed := by
  have hexec : exec c s = answer s ((s.failPosted i).abort .sliceFailed) := by
    rw [exec_failSlice hup hc, s.failSlice_live hi, if_neg (by simp [hfree])]
  have hw' : Writes (s.failPosted i) p r := hw.congr (s.failPosted_pieces i .stripes (by decide))
  have habort := hw'.abort_keeps .sliceFailed
  refine Completes.of_answer_of hexec ⟨?_, State.posted_of_pieces habort.pieces (by decide) (s.posted_failPosted i), ?_,
    hw'.aborts .sliceFailed⟩ fun _ _ _ _ h => h
  · rw [habort.2 _ (by simp), (s.failPosted_releases i).regs _ (by decide)]
    exact s.bitOf_failMarked hi
  · rw [habort.2 _ (by simp)]
    exact State.reg_raise_same _ (by decide) (by decide)

/-- A spare that fails is fenced, and where it served a sector the writing stripe aborts. -/
theorem completes_failSpare (hup : s.sliceUp i = true) (hc : PastLimit s i c) (hi : i.val = 4) : Completes c s fun t =>
    t.reg Reg.FLT_STATUS_SPARE_STATE = 1 ∧ t.reg Reg.FLT_STATUS_MOLT_SECTOR = 7 ∧
    (s.reg Reg.FLT_STATUS_MOLT_SECTOR < 4 → ∀ p r, Writes s p r → Aborts t p.par.id .sliceFailed) := by
  have hexec := exec_failSlice hup hc
  rw [hi, s.failSlice_spare] at hexec
  have hafter := (Releases.refl s.fenceSpare).when (decide (s.reg Reg.FLT_STATUS_MOLT_SECTOR < 4)) fun u =>
    u.abort_releases .sliceFailed
  obtain ⟨hstate, hsector⟩ := hafter.spareFenced
  refine Completes.of_answer_of hexec ⟨hstate, hsector, fun hserved p r hw => ?_⟩ fun _ _ _ _ h => h
  have hw' : Writes s.fenceSpare p r := hw.congr (s.fenceSpare_pieces .stripes (by decide))
  rw [State.when, if_pos (decide_eq_true hserved)]
  exact hw'.aborts .sliceFailed

/-- A slice that serves no more fails no more (log 5). -/
theorem ignored_of_sliceDown (hdown : s.sliceUp i = false) : Ignored (.fenceLimitExceeded i) s ∧ Ignored (.selfmisLimitReached i) s := by
  constructor
  · show execFenceLimitExceeded i s = _
    rw [execFenceLimitExceeded, State.when, hdown, if_neg (by simp)]
    exact answer_self s
  · show execSelfmisLimitReached i s = _
    rw [execSelfmisLimitReached, State.when, hdown, if_neg (by simp)]
    exact answer_self s

end

/-- Settles O41: a fenced engine, a failed slice and a fenced spare each show in their status register, which nothing that follows
touches (`Releases`); what follows of the tile, the sector or the stripe is read off the last step. -/
theorem slicesFail : Obligations.SlicesFail := by
  unfold Obligations.SlicesFail
  refine ⟨fun s i e j hjob => completes_fence hjob, fun s i e d hjob hdone hnow => completes_fenceDone hjob hdone hnow,
    fun s i e hjob hdone => ignored_engineWatchdog hjob hdone, fun s i c hup hc => ⟨?_, ?_, ?_⟩,
    fun s i hdown => ignored_of_sliceDown hdown, fun s hstate hpart hwrong => completes_spareLimitReached hstate hpart hwrong,
    fun s hwrong => ignored_spareLimitReached hwrong⟩
  · exact completes_molt hup hc
  · exact fun hi hfree p r hw => completes_failAbort hup hc hi hfree hw
  · exact completes_failSpare hup hc

end Sys2Proof.Machine
end

section
/-! SUPPORT. A binding and the stripes bound before it (R112, R339, R384): a sector that returns to its slice leaves the spare, and with
it the spare's cache bypass of every stripe. -/
namespace Sys2Proof.Machine

/-- The bytes of a STRIPE_BEGIN: 64 rows at NP 40, one pass, no band and no kernel. -/
def plainBegin (id : Byte) : List Byte :=
  [3, 0, 0, 0, 0, 0, 0, 0, id, 0, 0, 0, 64, 0, 0, 0, 40, 0, 1, 1] ++ List.replicate 44 0

/-- Stripe 7, bound earlier: its sector 2 is in cache bypass, and the spare, which serves that sector, shows it too (R112, R113). -/
def boundInBypass : Stripe :=
  { State.reset.newStripe (Params.ofDesc (plainBegin 7)) ⟨8, 0, 0⟩ false with bypass := #v[false, false, true, false, true] }

/-- Brought up, with links, tables, bank, dwell and memory as checks 2 to 9 of R339 ask; the spare holds sector 2. -/
def spareInService : State :=
  ({ State.reset with
      power := { State.reset.power with starting := false, cold := false }
      looper := { State.reset.looper with banks := vmod State.reset.looper.banks 0 fun _ => some ⟨0, 0, 0, 0, ⟨0, 0, 0, 0, 0, 0⟩, [], 0⟩ }
      link := { State.reset.link with
        groups := State.reset.link.groups.map fun (g : Group) => { g with far := some ⟨4, 63, 0⟩ } } } : State).setRegs
    ([(Reg.GLB_STATUS_INSTAR, 4), (Reg.BEM_STATUS_BT_VALID, 1), (Reg.BEM_STATUS_DM_VALID, 1), (Reg.STG_CTL_SP_EN, 1),
      (Reg.LPR_CTL_EN, 1), (Reg.FRM_DWELL_DELAY, 32), (Reg.FRM_DWELL_LEN, 100), (Reg.STG_TSYNC_LEAD, 2000),
      (Reg.MEM_STATUS_TRAINED, 1), (Reg.MEM_STATUS_LIVE0, 32), (Reg.MEM_STATUS_LIVE1, 32), (Reg.FLT_STATUS_SPARE_STATE, 2),
      (Reg.FLT_STATUS_MOLT_SECTOR, 2)] ++ (List.range 16).map fun g => (Reg.MPH_GRP_STATUS_STATE g, grpReady))

/-- Slice 2 has passed its self-test, to own its sector again at the next binding (R384); the STRIPE_BEGIN of stripe 5 heads the CTR. -/
def sectorReturning : State :=
  ({ spareInService with stripes := [boundInBypass] }.onSlice 2 fun c => { c with returns := true }).onSub 8 fun r =>
    { r with fetched := [⟨0, plainBegin 5, .ok []⟩] }

/-- Every hypothesis under which StripesBind says that STRIPE_BEGIN binds holds of it. -/
theorem sectorReturning_mayBind :
    Heads sectorReturning 8 3 ⟨0, plainBegin 5, .ok []⟩ ∧ Zero (plainBegin 5) 1 8 ∧
      firstRefusal (bodyCheck sectorReturning (plainBegin 5)) = none ∧
      MayBind sectorReturning (Params.ofDesc (plainBegin 5)) 8 12 := by
  decide +kernel

/-- Its STRIPE_BEGIN ends the spare's cache bypass of stripe 7. -/
theorem stripeBegin_clears_spareBypass : Completes .stripeBegin sectorReturning fun t =>
    t.stripes.head?.map (·.bypass) = some #v[false, false, true, false, false] :=
  ⟨_, rfl, by decide +kernel⟩

/-- Refutes O11: the stripes that are bound already need not stay as they are. At a binding a slice that passed its self-test owns its
sector again (R384), and the spare, which served it, is then in cache bypass for no stripe: stripe 7 changes. -/
theorem not_stripesBind : ¬ Obligations.StripesBind := by
  unfold Obligations.StripesBind
  rintro ⟨hbegin, -⟩
  obtain ⟨hheads, hzero, hbody, hmay⟩ := sectorReturning_mayBind
  obtain ⟨t, ht, q, hq, -⟩ := hbegin _ _ hheads hzero hbody hmay
  obtain ⟨u, hu, hcleared⟩ := stripeBegin_clears_spareBypass
  obtain rfl : t = u := Host.Outcome.next.inj (ht.symm.trans hu)
  have hkept : t.stripes.head?.map (·.bypass) = some #v[false, false, true, false, true] := by rw [hq]; rfl
  exact absurd (hkept.symm.trans hcleared) (by decide)

end Sys2Proof.Machine
end

section
/-! SUPPORT. Slice self-tests (R384, R385): what the end of one does to SLICE_FAILED, to the slice, and to the SWITCH_BACK that asked. -/
namespace Sys2Proof.Machine

/-! ### Bits and registers -/

/-- A value from which a bit is taken away does not show it. -/
theorem bitOf_sub_and (v i : Nat) : bitOf (v - (v &&& 2 ^ i)) i = false := by
  rw [Nat.and_two_pow]
  cases h : v.testBit i with
  | false => simpa [bitOf_eq_testBit] using h
  | true =>
    have hodd : v / 2 ^ i % 2 = 1 := by simpa [Nat.testBit_eq_decide_div_mod_eq] using h
    have hdiv : (v - 2 ^ i) / 2 ^ i = v / 2 ^ i - 1 := by simpa using Nat.sub_mul_div v (2 ^ i) 1
    have heven : (v / 2 ^ i - 1) % 2 = 0 := by omega
    simp [bitOf, hdiv, heven]

/-- A field from which a bit was taken does not show it. -/
theorem State.bitOf_setReg_sub (s : State) {f : Field} (hw : f.width ≤ 32) (v i : Nat) :
    bitOf ((s.setReg f (v - (v &&& 2 ^ i))).reg f) i = false := by
  have h := bitOf_sub_and v i
  rw [State.reg_setReg_same _ _ _ hw]
  rw [bitOf_eq_testBit] at h ⊢
  rw [Nat.testBit_mod_two_pow, h, Bool.and_false]

/-! ### The command whose slice is tested (R346) -/

theorem State.setJobs_keeps (s : State) (l : List CmdJob) : Keeps [.jobs] [] s { s with jobs := l } :=
  ⟨fun p hp => by cases p <;> simp_all [Piece.same], fun _ _ => rfl⟩

/-- A SWITCH_BACK that ends leaves the jobs, and its completion waits. -/
theorem State.endSliceJob_keeps (s : State) (i : Nat) (st : Status) : Keeps [.jobs, .host, .counters] [ovf 1] s (s.endSliceJob i st) :=
  (s.setJobs_keeps _).trans (Keeps.forAll _ _ fun _ u => u.complete_keeps _)

theorem State.slice_endSliceJob (s : State) (i : Nat) (st : Status) (n : Nat) : (s.endSliceJob i st).slice n = s.slice n := by
  rw [State.slice, State.slice, (s.endSliceJob_keeps i st).1 .slices (by decide)]

theorem State.failed_endSliceJob (s : State) (i : Nat) (st : Status) :
    (s.endSliceJob i st).reg Reg.FLT_STATUS_SLICE_FAILED = s.reg Reg.FLT_STATUS_SLICE_FAILED :=
  (s.endSliceJob_keeps i st).2 _ (by decide)

/-! ### The end of a test (R384, R385) -/

section
variable {s : State} {i : Fin 5} {agreed fenced : Bool}

/-- The slice is under test no more. -/
def State.tested (s : State) (i : Nat) : State := s.onSlice i fun c => { c with testing := false }

/-- The slice is to own its sector again, and is no failed one (R384). -/
def State.readmitted (s : State) (i : Nat) : State :=
  ((s.tested i).onSlice i fun c => { c with returns := true }).setReg Reg.FLT_STATUS_SLICE_FAILED
    (s.reg Reg.FLT_STATUS_SLICE_FAILED - (s.reg Reg.FLT_STATUS_SLICE_FAILED &&& 2 ^ i))

/-- The spare is under test no more; a fenced one that passed is in standby again (R385). -/
def State.spareTested (s : State) (pass : Bool) : State :=
  (s.tested 4).when (pass && s.reg Reg.FLT_STATUS_SPARE_STATE == 1) (·.setReg Reg.FLT_STATUS_SPARE_STATE 0)

theorem State.selfTestPass_iff : s.selfTestPass i agreed fenced = true ↔
    agreed = true ∧ fenced = false ∧ s.fencedCount i ≤ s.reg (Reg.SLC_CTL_FENCE_LIMIT i) := by
  simp [State.selfTestPass, and_assoc]

theorem State.slice_tested (s : State) (i : Fin 5) : (s.tested i).slice i = { s.slice i with testing := false } :=
  s.slice_onSlice_same i _

theorem State.slice_readmitted (s : State) (i : Fin 5) :
    (s.readmitted i).slice i = { s.slice i with testing := false, returns := true } :=
  (State.slice_onSlice_same _ i _).trans (by rw [s.slice_tested i])

theorem exec_sliceSelfTestDone (ht : (s.slice i).testing = true) : exec (.sliceSelfTestDone i agreed fenced) s =
    answer s (if i.val = 4 then s.spareTested (s.selfTestPass i agreed fenced)
      else if s.selfTestPass i agreed fenced then (s.readmitted i).endSliceJob i .ok
      else (s.tested i).endSliceJob i .sliceFailed) := by
  show execSliceSelfTestDone i agreed fenced s = _
  rw [execSliceSelfTestDone, State.when, if_pos ht]
  by_cases hi : i.val = 4
  · simp only [hi, if_true]
    rfl
  · simp only [hi, if_false]
    rfl

theorem completes_selfTest_pass (ht : (s.slice i).testing = true) (hi : i.val < 4) (hpass : s.selfTestPass i agreed fenced = true) :
    Completes (.sliceSelfTestDone i agreed fenced) s fun t =>
      bitOf (t.reg Reg.FLT_STATUS_SLICE_FAILED) i = false ∧ (t.slice i).returns = true ∧ (t.slice i).testing = false := by
  have hexec := exec_sliceSelfTestDone (agreed := agreed) (fenced := fenced) ht
  rw [if_neg (by omega), if_pos hpass] at hexec
  refine Completes.of_answer_of hexec ⟨?_, ?_, ?_⟩ fun _ _ _ _ h => h
  · rw [State.failed_endSliceJob]
    exact State.bitOf_setReg_sub _ (by decide) _ _
  · rw [State.slice_endSliceJob, State.slice_readmitted]
  · rw [State.slice_endSliceJob, State.slice_readmitted]

theorem completes_selfTest_fail (ht : (s.slice i).testing = true) (hi : i.val < 4) (hfail : ¬ s.selfTestPass i agreed fenced = true) :
    Completes (.sliceSelfTestDone i agreed fenced) s fun t =>
      t.reg Reg.FLT_STATUS_SLICE_FAILED = s.reg Reg.FLT_STATUS_SLICE_FAILED ∧ (t.slice i).returns = (s.slice i).returns ∧
      (t.slice i).testing = false := by
  have hexec := exec_sliceSelfTestDone (agreed := agreed) (fenced := fenced) ht
  rw [if_neg (by omega), if_neg hfail] at hexec
  refine Completes.of_answer_of hexec ⟨?_, ?_, ?_⟩ fun _ _ _ _ h => h
  · rw [State.failed_endSliceJob, State.tested, State.reg_onSlice]
  · rw [State.slice_endSliceJob, State.slice_tested]
  · rw [State.slice_endSliceJob, State.slice_tested]

theorem State.spareTested_keeps (s : State) (pass : Bool) : Keeps [.slices] [Reg.FLT_STATUS_SPARE_STATE] s (s.spareTested pass) :=
  (s.onSlice_keeps 4 _).trans (State.when_keeps _ _ _ fun _ => State.setReg_keeps _ _ _)

theorem State.testing_spareTested (s : State) (pass : Bool) : ((s.spareTested pass).slice 4).testing = false := by
  have hslices : (s.spareTested pass).slices = (s.tested 4).slices := by
    unfold State.spareTested State.when
    split <;> rfl
  rw [State.slice, hslices]
  exact congrArg Slice.testing (s.slice_tested 4)

theorem completes_selfTest_spare (ht : (s.slice i).testing = true) (hi : i.val = 4) :
    Completes (.sliceSelfTestDone i agreed fenced) s fun t =>
      (s.selfTestPass i agreed fenced = true → s.reg Reg.FLT_STATUS_SPARE_STATE = 1 → t.reg Reg.FLT_STATUS_SPARE_STATE = 0) ∧
      (¬ s.selfTestPass i agreed fenced = true → t.reg Reg.FLT_STATUS_SPARE_STATE = s.reg Reg.FLT_STATUS_SPARE_STATE) ∧
      (t.slice i).testing = false ∧ Keeps [.slices] [Reg.FLT_STATUS_SPARE_STATE] s t := by
  have hexec := exec_sliceSelfTestDone (agreed := agreed) (fenced := fenced) ht
  rw [if_pos hi] at hexec
  have hkeeps := s.spareTested_keeps (s.selfTestPass i agreed fenced)
  refine ⟨_, hexec.trans (answer_of_pieces hkeeps.pieces (by decide)), fun hpass hstate => ?_, fun hfail => ?_, ?_, hkeeps⟩
  · rw [State.spareTested, State.when, if_pos (by simp [hpass, hstate]), State.reg_setReg_same _ _ _ (by decide), Nat.zero_mod]
  · rw [State.spareTested, State.when, if_neg (by simp [hfail]), State.tested, State.reg_onSlice]
  · rw [hi]
    exact s.testing_spareTested _

/-- A slice that is not under test ends none (log 5). -/
theorem ignored_sliceSelfTestDone (ht : (s.slice i).testing = false) : Ignored (.sliceSelfTestDone i agreed fenced) s := by
  show execSliceSelfTestDone i agreed fenced s = _
  rw [execSliceSelfTestDone, State.when, ht, if_neg (by simp)]
  exact answer_self s

end

theorem clauseSelfTests : ClauseSelfTests := by
  refine ⟨fun s i agreed fenced ht => ⟨fun hi hpass => ?_, fun hi hfail => ?_, fun hi => ?_⟩,
    fun s i agreed fenced ht => ignored_sliceSelfTestDone ht⟩
  · exact completes_selfTest_pass ht hi (State.selfTestPass_iff.2 hpass)
  · exact completes_selfTest_fail ht hi fun h => hfail (State.selfTestPass_iff.1 h)
  · simpa only [State.selfTestPass_iff] using completes_selfTest_spare (agreed := agreed) (fenced := fenced) ht hi

end Sys2Proof.Machine
end

section
/-! SUPPORT. The grids of the DCU (R158, R160 to R162): what the start and the end of one show, and the stripe that holds it. -/
namespace Sys2Proof.Machine

/-- Fields set together, no two the same, each read as set. -/
theorem State.reg_setRegs_mem {s : State} {l : List (Field × Nat)} (hl : ((l.map Prod.fst).map Field.key).Nodup) {f : Field} {v : Nat}
    (hf : (f, v) ∈ l) (hw : f.width ≤ 32) : (s.setRegs l).reg f = v % 2 ^ f.width := by
  induction l generalizing s with
  | nil => simp at hf
  | cons e l ih =>
    obtain ⟨hnot, hrest⟩ := List.nodup_cons.1 hl
    rw [State.setRegs_cons]
    rcases List.mem_cons.1 hf with rfl | hmem
    · have hkept : ∀ g ∈ l.map Prod.fst, g.key ≠ f.key := fun g hg heq => hnot (List.mem_map.2 ⟨g, hg, heq⟩)
      rw [(State.setRegs_keeps _ l).2 f hkept, State.reg_setReg_same _ _ _ hw]
    · exact ih hrest hmem

theorem State.setGridJob_keeps (s : State) (j : Option GridJob) : Keeps [.gridJob] [] s { s with gridJob := j } :=
  ⟨fun p hp => by cases p <;> simp_all [Piece.same], fun _ _ => rfl⟩

/-! ### DCU_GRID_START (R158, R162) -/

theorem State.startGrid_keeps (s : State) (k : Package) (again : Bool) :
    Keeps [.gridJob] [Reg.DCU_STATUS_BUSY, Reg.DCU_STATUS_RECOMPUTE, Reg.DCU_STATUS_ITER, Reg.DCU_STRIPE_STRIPE_ID, Reg.DCU_GRID_COLS,
      Reg.DCU_GRID_ROWS] s (s.startGrid k again) :=
  (s.setGridJob_keeps _).trans (State.setRegs_keeps _ _)

/-- What the registers show of a grid that begins (R162). -/
def Package.gridView (k : Package) (again : Bool) : List (Field × Nat) :=
  [(Reg.DCU_STATUS_BUSY, 1), (Reg.DCU_STATUS_RECOMPUTE, b2n again), (Reg.DCU_STATUS_ITER, 1), (Reg.DCU_STRIPE_STRIPE_ID, k.stripe),
    (Reg.DCU_GRID_COLS, k.gridSize.1), (Reg.DCU_GRID_ROWS, k.gridSize.2)]

theorem Package.gridView_nodup (k : Package) (again : Bool) : (((k.gridView again).map Prod.fst).map Field.key).Nodup := by
  have hkeys : ([Reg.DCU_STATUS_BUSY, Reg.DCU_STATUS_RECOMPUTE, Reg.DCU_STATUS_ITER, Reg.DCU_STRIPE_STRIPE_ID, Reg.DCU_GRID_COLS,
      Reg.DCU_GRID_ROWS].map Field.key).Nodup := by decide
  exact hkeys

theorem State.reg_startGrid (s : State) {k : Package} {again : Bool} {f : Field} {v : Nat} (hf : (f, v) ∈ k.gridView again)
    (hw : f.width ≤ 32) : (s.startGrid k again).reg f = v % 2 ^ f.width :=
  State.reg_setRegs_mem (k.gridView_nodup again) hf hw

/-- DCU_STATUS shows a grid in its first iteration, and whether it is computed again. -/
theorem State.status_startGrid (s : State) (k : Package) (again : Bool) :
    (s.startGrid k again).reg Reg.DCU_STATUS_BUSY = 1 ∧ (s.startGrid k again).reg Reg.DCU_STATUS_RECOMPUTE = b2n again ∧
      (s.startGrid k again).reg Reg.DCU_STATUS_ITER = 1 := by
  refine ⟨s.reg_startGrid (v := 1) (by simp [Package.gridView]) (by decide), ?_,
    s.reg_startGrid (v := 1) (by simp [Package.gridView]) (by decide)⟩
  rw [s.reg_startGrid (v := b2n again) (by simp [Package.gridView]) (by decide)]
  cases again <;> rfl

section
variable {s : State} {p : Stripe} {k : Package}

theorem exec_dcuGridStart (hclk : s.clocked = true) (hfree : s.dcuFree = true) (hnative : s.native = true) (hpart : s.part = .fx640)
    (hnext : s.nextGrid = some (p, k)) :
    exec .dcuGridStart s = answer s ((s.when p.grid.isSome (·.count 13 1 1)).startGrid k p.grid.isSome) := by
  show execDcuGridStart s = _
  rw [execDcuGridStart, State.when, if_pos (by simp [hclk, hfree, hnative, hpart]), hnext]
  rfl

theorem completes_dcuGridStart (hclk : s.clocked = true) (hfree : s.dcuFree = true) (hnative : s.native = true)
    (hpart : s.part = .fx640) (hnext : s.nextGrid = some (p, k)) : Completes .dcuGridStart s fun t =>
      t.gridJob = some ⟨k.stripe, p.grid.isSome⟩ ∧ t.reg Reg.DCU_STATUS_BUSY = 1 ∧
      t.reg Reg.DCU_STATUS_RECOMPUTE = b2n p.grid.isSome ∧ t.reg Reg.DCU_STATUS_ITER = 1 ∧
      Keeps (if p.grid.isSome then [.gridJob, .counters] else [.gridJob]) ([Reg.DCU_STATUS_BUSY, Reg.DCU_STATUS_RECOMPUTE,
        Reg.DCU_STATUS_ITER, Reg.DCU_STRIPE_STRIPE_ID, Reg.DCU_GRID_COLS, Reg.DCU_GRID_ROWS] ++
        if p.grid.isSome then [ovf 13] else []) s t := by
  have hcounted : Keeps (if p.grid.isSome then [.counters] else []) (if p.grid.isSome then [ovf 13] else []) s
      (s.when p.grid.isSome (·.count 13 1 1)) :=
    State.when_keeps _ _ _ fun hagain => by
      simp only [hagain, if_true]
      exact s.count_keeps 13 1 1
  have hkeeps := hcounted.trans (State.startGrid_keeps _ k p.grid.isSome)
  obtain ⟨hbusy, hrecompute, hiter⟩ := State.status_startGrid (s.when p.grid.isSome (·.count 13 1 1)) k p.grid.isSome
  refine ⟨_, (exec_dcuGridStart hclk hfree hnative hpart hnext).trans (answer_of_pieces hkeeps.pieces ?_), rfl, hbusy, hrecompute,
    hiter, hkeeps.mono ?_ fun _ hf => List.mem_append.2 (List.mem_append.1 hf).symm⟩
  · cases p.grid.isSome <;> decide
  · cases p.grid.isSome <;> simp

end

theorem ignored_dcuGridStart {s : State} (h : s.dcuFree = false ∨ s.native = false ∨ s.part = .fx632 ∨ s.nextGrid = none) :
    Ignored .dcuGridStart s := by
  show execDcuGridStart s = _
  rw [execDcuGridStart, State.when]
  obtain hoff | hnone : (s.clocked && s.dcuFree && s.native && s.part == .fx640) = false ∨ s.nextGrid = none := by
    rcases h with h | h | h | h <;> simp [h]
  · rw [hoff, if_neg Bool.false_ne_true]
    exact answer_self s
  · rw [hnone, State.whenSome, ite_self]
    exact answer_self s

/-! ### DCU_GRID_DONE (R159 to R162) -/

/-- Poisoned words that are written whole again change HBM alone (R161). -/
theorem State.rewriteGrid_keeps (s : State) (p : Stripe) : Keeps [.hbm] [] s (s.rewriteGrid p) := by
  refine Keeps.forAll s p.gridWords fun key u => ?_
  unfold State.rewriteWord State.setMemWord
  split <;> exact ⟨fun q hq => by cases q <;> simp_all [Piece.same], fun _ _ => rfl⟩

theorem State.gridIdle_keeps (s : State) :
    Keeps [.gridJob] [Reg.DCU_STATUS_BUSY, Reg.DCU_STATUS_RECOMPUTE, Reg.DCU_STATUS_ITER] s s.gridIdle :=
  (s.setGridJob_keeps none).trans (State.setRegs_keeps _ _)

theorem State.busy_gridIdle (s : State) : s.gridIdle.reg Reg.DCU_STATUS_BUSY = 0 :=
  State.reg_setRegs_mem (by decide) (v := 0) (by simp) (by decide)

/-- A stripe with its grid: the sectors that waited for it wait no more, and it is noted when the grid was computed again (R161). -/
def Stripe.gridHeld (g : DcuGrid) (again : Bool) (q : Stripe) : Stripe :=
  { q with grid := some g, gridFailed := q.gridFailed || again, gridStall := [], gridWords := [] }

/-- The registers and the counters of the DCU show a finished grid (R162). -/
def State.gridShown (s : State) (g : DcuGrid) (time cycles : Nat) : State :=
  (((((s.setRegs [(Reg.DCU_RESID_MAX_STEP, g.step), (Reg.DCU_SAT_F_SAT, min 0xFFFF g.sat), (Reg.DCU_TIME_CYCLES, time)]).drawn.count
    13 0 1).count 13 2 cycles).count 13 4 (g.cols * g.rows)).count 13 5 g.sat)

theorem State.gridShown_keeps (s : State) (g : DcuGrid) (time cycles : Nat) : Keeps [.draw, .counters]
    [Reg.DCU_RESID_MAX_STEP, Reg.DCU_SAT_F_SAT, Reg.DCU_TIME_CYCLES, ovf 13] s (s.gridShown g time cycles) := by
  have hset := (State.setRegs_keeps s _).trans (State.drawn_keeps (s.setRegs
    [(Reg.DCU_RESID_MAX_STEP, g.step), (Reg.DCU_SAT_F_SAT, min 0xFFFF g.sat), (Reg.DCU_TIME_CYCLES, time)]))
  exact ((((hset.trans (State.count_keeps _ 13 0 1)).trans (State.count_keeps _ 13 2 cycles)).trans
    (State.count_keeps _ 13 4 (g.cols * g.rows))).trans (State.count_keeps _ 13 5 g.sat)).mono (by simp) (by simp)

section
variable {s : State} {cycles : Nat} {j : GridJob} {p : Stripe} {k : Package} {kn : Kernel}

theorem State.storeGrid_eq : s.storeGrid p k kn cycles =
    (((s.rewriteGrid p).onStripe p.par.id (Stripe.gridHeld (dcuGrid kn k.flx k.rho) p.grid.isSome)).gridIdle).gridShown
      (dcuGrid kn k.flx k.rho) (s.quotient cycles 1024).toNat cycles := rfl

theorem State.storeGrid_keeps : Keeps [.hbm, .stripes, .gridJob, .draw, .counters]
    [Reg.DCU_STATUS_BUSY, Reg.DCU_STATUS_RECOMPUTE, Reg.DCU_STATUS_ITER, Reg.DCU_RESID_MAX_STEP, Reg.DCU_SAT_F_SAT, Reg.DCU_TIME_CYCLES,
      ovf 13] s (s.storeGrid p k kn cycles) :=
  (((s.rewriteGrid_keeps p).trans (State.onStripe_keeps _ _ _)).trans (State.gridIdle_keeps _)).trans (State.gridShown_keeps _ _ _ _)

/-- With no damaged word to write again, HBM is as it was. -/
theorem State.hbm_storeGrid (hwords : p.gridWords = []) : (s.storeGrid p k kn cycles).hbm = s.hbm := by
  have hrewrite : s.rewriteGrid p = s := by rw [State.rewriteGrid, hwords]; rfl
  rw [State.storeGrid_eq, hrewrite]
  exact ((State.gridShown_keeps _ _ _ _).1 .hbm (by decide)).trans ((State.gridIdle_keeps _).1 .hbm (by decide))

/-- The DCU is idle once the grid is stored. -/
theorem State.idle_storeGrid : (s.storeGrid p k kn cycles).gridJob = none ∧
    (s.storeGrid p k kn cycles).reg Reg.DCU_STATUS_BUSY = 0 := by
  rw [State.storeGrid_eq]
  exact ⟨(State.gridShown_keeps _ _ _ _).1 .gridJob (by decide),
    ((State.gridShown_keeps _ _ _ _).2 _ (by decide)).trans (State.busy_gridIdle _)⟩

/-- The stripe holds the grid, and none of its sectors waits. -/
theorem Now.storeGrid (hp : s.stripe? p.par.id = some p) : Now (s.storeGrid p k kn cycles) p.par.id fun q =>
    q.grid = some (dcuGrid kn k.flx k.rho) ∧ q.gridStall = [] := by
  have hsame : Now (s.rewriteGrid p) p.par.id fun _ => True :=
    ⟨p, (State.stripe?_congr ((s.rewriteGrid_keeps p).1 .stripes (by decide)) _).trans hp, trivial⟩
  have hheld : Now ((s.rewriteGrid p).onStripe p.par.id (Stripe.gridHeld (dcuGrid kn k.flx k.rho) p.grid.isSome)) p.par.id fun q =>
      q.grid = some (dcuGrid kn k.flx k.rho) ∧ q.gridStall = [] :=
    Now.onStripe (hsame.imp fun _ _ => ⟨rfl, rfl⟩) fun _ => rfl
  rw [State.storeGrid_eq]
  exact (hheld.congr ((State.gridIdle_keeps _).1 .stripes (by decide))).congr ((State.gridShown_keeps _ _ _ _).1 .stripes (by decide))

theorem exec_dcuGridDone (hj : s.gridJob = some j) (hp : s.stripe? j.stripe = some p) (hk : s.package? j.stripe = some k)
    (hkn : p.bv.kernel = some kn) (hclk : s.clocked = true) (hcyc : cycles ≤ gridCycles kn (k.gridSize.1 * k.gridSize.2)) :
    exec (.dcuGridDone cycles) s = answer s (s.storeGrid p k kn cycles) := by
  show execDcuGridDone cycles s = _
  simp only [execDcuGridDone, hj, hp, hk, hkn]
  rw [State.when, if_pos (by simp [hclk, hcyc])]

theorem completes_dcuGridDone (hj : s.gridJob = some j) (hp : s.stripe? j.stripe = some p) (hk : s.package? j.stripe = some k)
    (hkn : p.bv.kernel = some kn) (hclk : s.clocked = true) (hcyc : cycles ≤ gridCycles kn (k.gridSize.1 * k.gridSize.2)) :
    Completes (.dcuGridDone cycles) s fun t =>
      t.gridJob = none ∧ t.reg Reg.DCU_STATUS_BUSY = 0 ∧
      Now t j.stripe (fun q => q.grid = some (dcuGrid kn k.flx k.rho) ∧ q.gridStall = []) ∧
      (p.gridWords = [] → Keeps [.gridJob, .stripes, .draw, .counters] [Reg.DCU_STATUS_BUSY, Reg.DCU_STATUS_RECOMPUTE,
        Reg.DCU_STATUS_ITER, Reg.DCU_RESID_MAX_STEP, Reg.DCU_SAT_F_SAT, Reg.DCU_TIME_CYCLES, ovf 13] s t) := by
  have hid : p.par.id = j.stripe := State.id_of_stripe? hp
  have hkeeps : Keeps _ _ s (s.storeGrid p k kn cycles) := State.storeGrid_keeps
  obtain ⟨hjob, hbusy⟩ : (s.storeGrid p k kn cycles).gridJob = none ∧ _ := State.idle_storeGrid
  refine ⟨_, (exec_dcuGridDone hj hp hk hkn hclk hcyc).trans (answer_of_pieces hkeeps.pieces (by decide)), hjob, hbusy, ?_,
    fun hwords => ⟨fun q hq => ?_, hkeeps.2⟩⟩
  · rw [← hid] at hp ⊢
    exact Now.storeGrid hp
  · by_cases hhbm : q = .hbm
    · subst hhbm
      exact State.hbm_storeGrid hwords
    · exact hkeeps.1 q (by simp_all)

end

/-- With no grid in progress none ends (log 5). -/
theorem ignored_dcuGridDone {s : State} (hj : s.gridJob = none) (cycles : Nat) : Ignored (.dcuGridDone cycles) s := by
  show execDcuGridDone cycles s = _
  rw [execDcuGridDone, hj]
  exact answer_self s

theorem clauseGrids : ClauseGrids :=
  ⟨fun _ _ _ hclk hfree hnative hpart hnext => completes_dcuGridStart hclk hfree hnative hpart hnext, fun _ => ignored_dcuGridStart,
    fun _ _ _ _ _ _ hj hp hk hkn hclk hcyc => completes_dcuGridDone hj hp hk hkn hclk hcyc, fun _ cycles hj => ignored_dcuGridDone hj cycles⟩

/-- Settles O44: the end of a self-test splits on the slice and on its result, and what a grid's start and end touch is said once by
their frames. -/
theorem selfTestsAndGrids : Obligations.SelfTestsAndGrids := ⟨clauseSelfTests, clauseGrids⟩

end Sys2Proof.Machine
end

section
/-! SUPPORT. Sending on the lanes of a group (R193, R208, R223, R239): it changes transmitters and adds to what has left, so all that a
group's training looks at stays. -/
namespace Sys2Proof.Machine

open Sys2Proof

/-- A command whose end state keeps every piece but some, the queue, the part and the mode not among them, completes there. -/
theorem completes_of_pieces {i : Instr} {ps : List Piece} {s t : State} {P : State → Prop} (hexec : exec i s = answer s t)
    (hk : KeepsPieces ps s t) (hP : P t) (hps : .pending ∉ ps ∧ .part ∉ ps ∧ .mode ∉ ps := by decide) : Completes i s P :=
  ⟨t, hexec.trans (answer_of_pieces hk hps), hP⟩

/-! ### Where a group's registers stand (R220, R244) -/

@[simp] theorem key_spareUsed (g : Nat) : (spareUsed g).key = 32 * (0xD014 + 4 * (g / 8)) + (4 * (g % 8) + 3) := rfl
@[simp] theorem key_spareLane (g : Nat) : (spareLane g).key = 32 * (0xD014 + 4 * (g / 8)) + 4 * (g % 8) := rfl
@[simp] theorem key_txeqPre (g i : Nat) : (Reg.MPH_TXEQ_PRE g i).key = 32 * (0x10000 + 0x400 * g + 0x40 * i) + 0 := rfl
@[simp] theorem key_txeqMain (g i : Nat) : (Reg.MPH_TXEQ_MAIN g i).key = 32 * (0x10000 + 0x400 * g + 0x40 * i) + 8 := rfl
@[simp] theorem key_txeqPost (g i : Nat) : (Reg.MPH_TXEQ_POST g i).key = 32 * (0x10000 + 0x400 * g + 0x40 * i) + 16 := rfl
@[simp] theorem key_laneState (g i : Nat) : (Reg.MPH_LSTATE_STATE g i).key = 32 * (0x10004 + 0x400 * g + 0x40 * i) + 0 := rfl
@[simp] theorem key_trained (g i : Nat) : (Reg.MPH_LSTATE_TRAINED g i).key = 32 * (0x10004 + 0x400 * g + 0x40 * i) + 3 := rfl
@[simp] theorem key_loop (g i : Nat) : (Reg.MPH_PRBS_CTL_LOOP g i).key = 32 * (0x10008 + 0x400 * g + 0x40 * i) + 6 := rfl
@[simp] theorem key_lock (g i : Nat) : (Reg.MPH_PRBS_CTL_LOCK g i).key = 32 * (0x10008 + 0x400 * g + 0x40 * i) + 31 := rfl
@[simp] theorem key_prbsBits (g i : Nat) : (Reg.MPH_PRBS_BITS g i).key = 32 * (0x1000C + 0x400 * g + 0x40 * i) + 0 := rfl
@[simp] theorem key_prbsErrors (g i : Nat) : (Reg.MPH_PRBS_ERR_ERRORS g i).key = 32 * (0x10010 + 0x400 * g + 0x40 * i) + 0 := rfl
@[simp] theorem key_eqSaveTaps (g i n : Nat) : (eqSaveTaps g i n).key = 32 * (0x10000 + 0x400 * g + 0x40 * i + 0x14 + 4 * n) + 0 := rfl
@[simp] theorem key_eqSaveValid (g i n : Nat) : (eqSaveValid g i n).key = 32 * (0x10000 + 0x400 * g + 0x40 * i + 0x14 + 4 * n) + 31 := rfl
@[simp] theorem key_maxRate (g : Nat) : (Reg.MPH_GRP_CTL_MAX_RATE g).key = 32 * (0x103C0 + 0x400 * g) + 0 := rfl
@[simp] theorem key_l2Req (g : Nat) : (Reg.MPH_GRP_CTL_L2_REQ g).key = 32 * (0x103C0 + 0x400 * g) + 5 := rfl
@[simp] theorem key_verifyLog2 (g : Nat) : (Reg.MPH_GRP_CTL_VERIFY_LOG2 g).key = 32 * (0x103C0 + 0x400 * g) + 16 := rfl
@[simp] theorem key_rate (g : Nat) : (Reg.MPH_GRP_STATUS_RATE g).key = 32 * (0x103C4 + 0x400 * g) + 0 := rfl
@[simp] theorem key_farMax (g : Nat) : (Reg.MPH_GRP_STATUS_FAR_MAX g).key = 32 * (0x103C4 + 0x400 * g) + 3 := rfl
@[simp] theorem key_grpState (g : Nat) : (Reg.MPH_GRP_STATUS_STATE g).key = 32 * (0x103C4 + 0x400 * g) + 8 := rfl
@[simp] theorem key_failReason (g : Nat) : (Reg.MPH_GRP_STATUS_FAIL_REASON g).key = 32 * (0x103C4 + 0x400 * g) + 12 := rfl
@[simp] theorem key_spareFit (g : Nat) : (Reg.MPH_GRP_STATUS_SPARE_FIT g).key = 32 * (0x103C4 + 0x400 * g) + 16 := rfl
@[simp] theorem key_ratePending (g : Nat) : (Reg.MPH_GRP_STATUS_RATE_PENDING g).key = 32 * (0x103C4 + 0x400 * g) + 17 := rfl
@[simp] theorem key_steppedDown (g : Nat) : (Reg.MPH_GRP_STATUS_STEPPED_DOWN g).key = 32 * (0x103C4 + 0x400 * g) + 18 := rfl

/-! ### What sending changes -/

/-- Only transmitters changed, and something may have left. -/
def Sends (s t : State) : Prop := ∃ lines l, t = { s with link := { s.link with lines := lines }, out := l ++ s.out }

theorem Sends.refl (s : State) : Sends s s := ⟨s.link.lines, [], rfl⟩

theorem Sends.trans {s t u : State} (h : Sends s t) (h' : Sends t u) : Sends s u := by
  obtain ⟨lines, l, rfl⟩ := h
  obtain ⟨lines', l', rfl⟩ := h'
  exact ⟨lines', l' ++ l, by simp⟩

theorem Sends.when {s t : State} (h : Sends s t) (b : Bool) {f : State → State} (hf : ∀ u, Sends u (f u)) : Sends s (t.when b f) := by
  unfold State.when
  split
  · exact h.trans (hf t)
  · exact h

theorem Sends.forAll {α : Type} {s t : State} (h : Sends s t) (l : List α) {f : α → State → State} (hf : ∀ a u, Sends u (f a u)) :
    Sends s (t.forAll l f) :=
  State.forAll_induction (P := Sends s) l h fun a _ u hu => hu.trans (hf a u)

theorem State.onLine_sends (s : State) (key : Nat) (f : Line → Line) : Sends s (s.onLine key f) := ⟨_, [], rfl⟩
theorem State.emit_sends (s : State) (o : Out) : Sends s (s.emit o) := ⟨s.link.lines, [o], rfl⟩

theorem State.sendOn_sends (s : State) (key : Nat) (what : Bool → Out) (l : List Symbol) : Sends s (s.sendOn key what l) :=
  (s.onLine_sends key _).trans (State.emit_sends _ _)

theorem State.sendTsq_sends (s : State) (g phase : Nat) (times : Option Nat) (i : Nat) : Sends s (s.sendTsq g phase times i) :=
  (Sends.refl s).when _ fun u => u.sendOn_sends _ _ _

theorem State.train_sends (s : State) (g phase : Nat) (times : Option Nat) : Sends s (s.train g phase times) :=
  (Sends.refl s).forAll _ fun i u => u.sendTsq_sends g phase times i

theorem State.sendPattern_sends (s : State) (g i pattern : Nat) : Sends s (s.sendPattern g i pattern) :=
  (Sends.refl s).when _ fun u => (u.onLine_sends _ _).trans (State.emit_sends _ _)

theorem State.spareStandby_sends (s : State) (g : Nat) : Sends s (s.spareStandby g) :=
  (Sends.refl s).when _ fun u => u.sendPattern_sends g 8 2

theorem State.sendLink_sends (s : State) (g slot type : Nat) (body : List Byte) : Sends s (s.sendLink g slot type body) :=
  (Sends.refl s).when _ fun u => (u.sendOn_sends _ _ _).trans (State.onLine_sends _ _ _)

/-! ### What it leaves -/

section
variable {s t : State} (h : Sends s t)
include h

theorem Sends.keeps : Keeps linkPieces [] s t := by
  obtain ⟨lines, l, rfl⟩ := h
  exact ⟨fun p hp => by cases p <;> simp_all [Piece.same, linkPieces], fun _ _ => rfl⟩

theorem Sends.reg (f : Field) : t.reg f = s.reg f := h.keeps.2 f (by simp)
theorem Sends.group (g : Nat) : t.group g = s.group g := by obtain ⟨lines, l, rfl⟩ := h; rfl
theorem Sends.grp (g : Nat) : t.grp g = s.grp g := h.reg _
theorem Sends.naks : t.link.naks = s.link.naks := by obtain ⟨lines, l, rfl⟩ := h; rfl
theorem Sends.native : t.native = s.native := by obtain ⟨lines, l, rfl⟩ := h; rfl
theorem Sends.required (g : Nat) : t.required g = s.required g := by obtain ⟨lines, l, rfl⟩ := h; rfl
theorem Sends.drives (g i : Nat) : t.drives g i = s.drives g i := by obtain ⟨lines, l, rfl⟩ := h; rfl
theorem Sends.taps (g i : Nat) : t.taps g i = s.taps g i := by obtain ⟨lines, l, rfl⟩ := h; rfl
theorem Sends.trainRate (g : Nat) : t.trainRate g = s.trainRate g := by obtain ⟨lines, l, rfl⟩ := h; rfl
theorem Sends.verifyLog2 (g : Nat) : t.verifyLog2 g = s.verifyLog2 g := by obtain ⟨lines, l, rfl⟩ := h; rfl
theorem Sends.tsqPhase (g : Nat) : t.tsqPhase g = s.tsqPhase g := by obtain ⟨lines, l, rfl⟩ := h; rfl
theorem Sends.skipsTaps (g : Nat) : t.skipsTaps g = s.skipsTaps g := by obtain ⟨lines, l, rfl⟩ := h; rfl
theorem Sends.l2Wanted (g : Nat) : t.l2Wanted g = s.l2Wanted g := by obtain ⟨lines, l, rfl⟩ := h; rfl
theorem Sends.inL2 (g : Nat) : t.inL2 g = s.inL2 g := by obtain ⟨lines, l, rfl⟩ := h; rfl
theorem Sends.sent : s.out ⊆ t.out := by obtain ⟨lines, l, rfl⟩ := h; exact List.subset_append_right l s.out

/-- What trained goes on training. -/
theorem Sends.trains {g phase : Nat} (ht : Trains s g phase) : Trains t g phase := by
  intro i hi hd
  rw [h.required] at hi
  rw [h.drives] at hd
  obtain ⟨rd, hmem⟩ := ht i hi hd
  exact ⟨rd, by rw [h.trainRate, h.taps, h.verifyLog2]; exact h.sent hmem⟩

end

/-! ### The training sequence (R223, R225) -/

/-- A lane whose driver is on sends the training sequence with its taps. -/
theorem State.mem_out_sendTsq {s : State} {g i : Nat} (hd : s.drives g i = true) (phase : Nat) (times : Option Nat) :
    ∃ rd, .training g i rd times (tsqBody i g (s.trainRate g) phase (s.taps g i).bytes (s.verifyLog2 g)) ∈
      (s.sendTsq g phase times i).out := by
  rw [State.sendTsq, State.when, if_pos hd, State.out_sendOn]
  exact ⟨_, List.mem_cons_self⟩

/-- Once every required lane has sent it the group trains. -/
theorem State.train_trains (s : State) (g phase : Nat) : Trains (s.train g phase none) g phase := by
  have hs := s.train_sends g phase none
  intro i hi hd
  rw [hs.required] at hi
  rw [hs.drives] at hd
  rw [hs.trainRate, hs.taps, hs.verifyLog2]
  obtain ⟨l₁, l₂, hl⟩ := List.append_of_mem hi
  have hsplit : s.train g phase none =
      ((s.forAll l₁ fun i u => u.sendTsq g phase none i).sendTsq g phase none i).forAll l₂ fun i u => u.sendTsq g phase none i := by
    simp [State.train, hl, State.forAll]
  have hbefore : Sends s (s.forAll l₁ fun i u => u.sendTsq g phase none i) :=
    (Sends.refl s).forAll l₁ fun i u => u.sendTsq_sends g phase none i
  have hafter (u : State) : Sends u (u.forAll l₂ fun i u => u.sendTsq g phase none i) :=
    (Sends.refl u).forAll l₂ fun i u => u.sendTsq_sends g phase none i
  obtain ⟨rd, hmem⟩ := State.mem_out_sendTsq (hbefore.drives g i ▸ hd) phase none
  rw [hbefore.trainRate, hbefore.taps, hbefore.verifyLog2] at hmem
  exact ⟨rd, hsplit ▸ (hafter _).sent hmem⟩

end Sys2Proof.Machine
end

section
/-! SUPPORT. Ring commands whose fields are good (R330, R331, R416), SWITCH_BACK (R346), and the moves and stops of the axes (R267, R268,
R271, R347, R417). -/
namespace Sys2Proof.Machine

open Sys2Proof

/-! ### Checks that pass (R330, R331, R416) -/

/-- A header without flags and with its reserved bytes at 0 passes. -/
theorem headerChecks_pass {b : List Byte} (h : Zero b 1 8) (flags : Nat) : ∀ c ∈ headerChecks b flags, c.2 = true :=
  List.forall_mem_cons.mpr ⟨by simp [h 1 (by decide) (by decide)], zeroBytes_pass fun i hi => h i (by omega)⟩

theorem xk2HeaderChecks_pass {b : List Byte} (hflags : Zero b 1 2) (hzero : Zero b 4 8) (flags : Nat) :
    ∀ c ∈ xk2HeaderChecks b flags, c.2 = true :=
  List.forall_mem_cons.mpr ⟨by simp [hflags 1 (by decide) (by decide)], zeroBytes_pass hzero⟩

theorem firstRefusal_eq_none {checks : List (Bool × Status × Nat)} (h : ∀ c ∈ checks, c.1 = true) : firstRefusal checks = none := by
  rw [firstRefusal, Option.map_eq_none_iff, List.find?_eq_none]
  exact fun c hc => by simp [h c hc]

/-- A command whose ordered checks pass runs. -/
theorem State.unless_of_pass {checks : List (Bool × Status × Nat)} (h : ∀ c ∈ checks, c.1 = true) (s : State) (o : Origin)
    (f : State → State) : s.unless o checks f = f s := by
  rw [State.unless, firstRefusal_eq_none h]

/-- A command that a check refuses only completes. -/
theorem State.unless_of_refused {checks : List (Bool × Status × Nat)} {st : Status} {d0 : Nat} (h : firstRefusal checks = some (st, d0))
    (s : State) (o : Origin) (f : State → State) : s.unless o checks f = s.complete (Completion.mk' o st d0 0 0) := by
  rw [State.unless, h]

/-- A head of a native ring stands in native mode. -/
theorem native_of_heads {s : State} {ring op : Nat} {d : Fetched} (h : Heads s ring op d) (hr : ring ≠ 9) : s.native = true := by
  obtain ⟨-, -, -, hmode, -⟩ := h
  rw [hmode, bne_iff_ne]
  exact hr

theorem xk2_of_heads {s : State} {op : Nat} {d : Fetched} (h : Heads s 9 op d) : s.native = false := by
  obtain ⟨-, -, -, hmode, -⟩ := h
  exact hmode

/-! ### SWITCH_BACK (R217, R346) -/

section
variable {s : State} {d : Fetched} (h : Heads s 8 11 d) (hhead : Zero d.desc 1 8) (htail : Zero d.desc 10 64)
  (hmoving : s.stripeMoving = false) (hwhat : byteAt d.desc 8 ≤ 2) (hindex : switchIndexGood (byteAt d.desc 8) (byteAt d.desc 9) = true)
include h hhead htail hmoving hwhat hindex

/-- A SWITCH_BACK with good fields goes on to its ordered checks. -/
theorem exec_switchBack_checked (pass : Bool) : exec (.switchBack pass) s = answer s ((s.popped 8).unless (d.origin 8)
    [(true, .notInMode, 0), (!(byteAt d.desc 8 == 2 && s.part == .fx632), .notInMode, 0),
      (s.switched (byteAt d.desc 8) (byteAt d.desc 9), .badAddress, 0)]
    fun t => t.startSwitch (d.origin 8) (byteAt d.desc 8) (byteAt d.desc 9) pass) := by
  have hchecks : faultAt (headerChecks d.desc 0 ++ [(8, decide (byteAt d.desc 8 ≤ 2)), (9, switchIndexGood (byteAt d.desc 8)
      (byteAt d.desc 9))] ++ zeroBytes d.desc 10 64) = none :=
    faultAt_eq_none (List.forall_mem_append.mpr ⟨List.forall_mem_append.mpr ⟨headerChecks_pass hhead 0,
      by simp [hwhat, hindex]⟩, zeroBytes_pass htail⟩)
  have hstill : (!(s.popped 8).stripeMoving) = true := by
    rw [show (s.popped 8).stripeMoving = s.stripeMoving from rfl, hmoving]
    rfl
  show execSwitchBack pass s = _
  rw [execSwitchBack, State.when, if_pos (native_of_heads h (by decide)), State.take_of_heads h, State.checked_of_none hchecks, hstill]
  rfl

/-- What is there to switch back is switched back. -/
theorem exec_switchBack (hpart : byteAt d.desc 8 = 2 → s.part = .fx640)
    (hswitched : s.switched (byteAt d.desc 8) (byteAt d.desc 9) = true) (pass : Bool) : exec (.switchBack pass) s =
      answer s ((s.popped 8).startSwitch (d.origin 8) (byteAt d.desc 8) (byteAt d.desc 9) pass) := by
  have hmodel : (!(byteAt d.desc 8 == 2 && s.part == .fx632)) = true := by
    by_cases hw : byteAt d.desc 8 = 2
    · simp [hpart hw]
    · simp [hw]
  rw [exec_switchBack_checked h hhead htail hmoving hwhat hindex, State.unless_of_pass]
  simp [hmodel, hswitched]

/-- With nothing to switch back the command only completes. -/
theorem switchBack_nothing (hwhat2 : byteAt d.desc 8 ≠ 2) (hswitched : s.switched (byteAt d.desc 8) (byteAt d.desc 9) = false)
    (pass : Bool) : OnlyFinishes (.switchBack pass) s 8 (Completion.mk' (d.origin 8) .badAddress 0 0 0) := by
  obtain ⟨-, -, -, -, hcpr⟩ := id h
  have hexec := exec_switchBack_checked h hhead htail hmoving hwhat hindex pass
  rw [State.unless_of_refused (st := .badAddress) (d0 := 0) (by simp [firstRefusal, hwhat2, hswitched])] at hexec
  exact onlyFinishes_complete (by decide) rfl hcpr hexec

end

/-- The spare lane's registers as its data lane carries itself again. -/
def State.laneReturned (s : State) (g : Nat) : State :=
  (s.setRegs [(spareUsed g, 0), (spareLane g, 0), (Reg.MPH_LSTATE_STATE g (s.reg (spareLane g)), laneL0),
    (Reg.MPH_LSTATE_TRAINED g (s.reg (spareLane g)), 1), (Reg.MPH_GRP_STATUS_SPARE_FIT g, 0)]).onGroup g fun k =>
    { k with reports := [], failed := k.failed.filter (· != s.reg (spareLane g)) }

theorem State.laneBack_eq (s : State) (g : Nat) : s.laneBack g = (s.laneReturned g).spareStandby g := rfl

/-- The lane that carries itself again, and its spare: FRM_SPARE_MAP, the lane's state, and SPARE_FIT. -/
def State.switchedFields (s : State) (g : Nat) : List Field :=
  [spareUsed g, spareLane g, Reg.MPH_LSTATE_STATE g (s.reg (spareLane g)), Reg.MPH_LSTATE_TRAINED g (s.reg (spareLane g)),
    Reg.MPH_GRP_STATUS_SPARE_FIT g]

theorem State.laneReturned_keeps (s : State) (g : Nat) : Keeps linkPieces (s.switchedFields g) s (s.laneReturned g) :=
  ⟨((KeepsPieces.refl _ s).setRegs _).onGroup g _, fun f hf => (s.setRegs_keeps _).2 f hf⟩

theorem State.laneBack_keeps (s : State) (g : Nat) : Keeps linkPieces (s.switchedFields g) s (s.laneBack g) :=
  ((s.laneReturned_keeps g).trans ((s.laneReturned g).spareStandby_sends g).keeps).mono (by simp) (by simp)

/-- Once a spare lane is given back nothing is on the spare, and it is unfit. -/
theorem State.reg_laneBack (s : State) (g : Nat) :
    (s.laneBack g).reg (spareUsed g) = 0 ∧ (s.laneBack g).reg (Reg.MPH_GRP_STATUS_SPARE_FIT g) = 0 := by
  rw [State.laneBack_eq, (State.spareStandby_sends _ g).reg, (State.spareStandby_sends _ g).reg]
  constructor
  · refine ((State.setRegs_keeps (s.setReg (spareUsed g) 0) _).2 _ ?_).trans (State.reg_setReg_same _ _ _ (by simp [spareUsed]))
    simp
    omega
  · simp only [State.laneReturned, State.reg_onGroup, State.setRegs_cons, State.setRegs_nil]
    exact State.reg_setReg_same _ _ 0 (by simp [Reg.MPH_GRP_STATUS_SPARE_FIT])

/-- A field below the lane groups' registers is none of those. -/
theorem State.reg_laneBack_of_lt (s : State) {g : Nat} {f : Field} (hg : g < 16) (hf : f.key < 32 * 0xD014) :
    (s.laneBack g).reg f = s.reg f := by
  refine (s.laneBack_keeps g).2 f ?_
  simp [State.switchedFields]
  omega

/-- A spare lane that passed is given back, and the command completes. -/
theorem completes_switchBack_lane {s : State} {d : Fetched} {g : Nat} (hg : g < 16) (hcpr : s.cprOf 8 ≤ 4)
    (hexec : exec (.switchBack true) s = answer s (((s.popped 8).laneBack g).done (d.origin 8) .ok)) :
    Completes (.switchBack true) s fun t => Finishes s t 8 (Completion.mk' (d.origin 8) .ok 0 0 0) ∧ t.reg (spareUsed g) = 0 ∧
      t.reg (Reg.MPH_GRP_STATUS_SPARE_FIT g) = 0 := by
  obtain ⟨hused, hfit⟩ := (s.popped 8).reg_laneBack g
  have hback := (s.popped 8).laneBack_keeps g
  have hring : ((s.popped 8).laneBack g).cprOf 8 = s.cprOf 8 := by
    simp only [State.cprOf, (s.popped 8).reg_laneBack_of_lt (f := Reg.HIF_SQ_CTL_CPR 8) hg (by decide)]
    rfl
  have hheld : ((s.popped 8).laneBack g).heldCpl (s.cprOf 8) = s.heldCpl (s.cprOf 8) :=
    State.heldCpl_of_host (hback.1 .host (by decide)) _
  have hdone := ((s.popped 8).laneBack g).complete_keeps (Completion.mk' (d.origin 8) .ok 0 0 0)
  have hkept {f : Field} (hf : (ovf 1).key ≠ f.key) := hdone.2 f (by simpa using hf)
  refine completes_of_pieces hexec (((s.popped_keeps 8).trans hback).trans hdone).pieces ⟨?_, ?_, ?_⟩
  · have hjoin := State.heldCpl_complete ((s.popped 8).laneBack g) (Completion.mk' (d.origin 8) .ok 0 0 0) (hring.trans_le hcpr)
    rw [show (Completion.mk' (d.origin 8) .ok 0 0 0).origin.ring = 8 from rfl, hring, hheld] at hjoin
    exact hjoin
  · refine (hkept ?_).trans hused
    rw [ovf_key, key_spareUsed]
    omega
  · refine (hkept ?_).trans hfit
    rw [ovf_key, key_spareFit]
    omega

/-- A slice's test begins, with no band of its own and no drop counted. -/
theorem completes_switchBack_slice {s : State} {o : Origin} {i : Nat} {pass : Bool} (hi : i < 4)
    (hexec : exec (.switchBack pass) s = answer s ((s.popped 8).startSwitch o 2 i pass)) :
    Completes (.switchBack pass) s fun t => t.jobs = s.jobs ++ [.switchSlice o i] ∧ (t.slice i).testing = true ∧
      Keeps [.host, .jobs, .slices] [Reg.SLC_DROPS_MIG_DROPPED i, Reg.SLC_DROPS_SHADOW_DROPPED i] s t := by
  have hslice := (s.popped 8).onSlice_keeps i fun c => { c with testing := true, bands := [] }
  have hjobs := State.setJobs_keeps ((s.popped 8).onSlice i fun c => { c with testing := true, bands := [] })
    (s.jobs ++ [.switchSlice o i])
  have hkeeps := (((s.popped_keeps 8).trans hslice).trans hjobs).trans (State.setRegs_keeps _ [(Reg.SLC_DROPS_MIG_DROPPED i, 0),
    (Reg.SLC_DROPS_SHADOW_DROPPED i, 0)])
  refine completes_of_pieces hexec hkeeps.pieces ⟨rfl, ?_, hkeeps.mono (by simp) (by simp)⟩
  exact congrArg Slice.testing (State.slice_onSlice_same (s.popped 8) ⟨i, by omega⟩ fun c => { c with testing := true, bands := [] })

theorem clauseSwitchBack : ClauseSwitchBack := by
  intro s d pass h hhead htail hmoving
  obtain ⟨-, -, -, -, hcpr⟩ := id h
  refine ⟨fun hwhat hlt hused => ⟨?_, ?_⟩, fun hwhat hlt hused => ?_, fun hwhat hzero hstandby => ?_, fun hwhat hlt hpart hfailed => ?_⟩
  -- A spare lane that passed.
  · rintro rfl
    have hexec := exec_switchBack h hhead htail hmoving (by omega) (by simp [switchIndexGood, hwhat, hlt]) (by omega)
      (by rw [hwhat]; exact hused) true
    rw [hwhat] at hexec
    exact completes_switchBack_lane hlt hcpr hexec
  -- One that failed.
  · rintro rfl
    have hexec := exec_switchBack h hhead htail hmoving (by omega) (by simp [switchIndexGood, hwhat, hlt]) (by omega)
      (by rw [hwhat]; exact hused) false
    rw [hwhat] at hexec
    exact onlyFinishes_complete (by decide) rfl hcpr hexec
  -- Nothing is on the spare.
  · exact switchBack_nothing h hhead htail hmoving (by omega) (by simp [switchIndexGood, hwhat, hlt]) (by omega)
      (by rw [hwhat]; exact hused) pass
  -- A Looper engine.
  · have hexec := exec_switchBack h hhead htail hmoving (by omega) (by simp [switchIndexGood, hwhat, hzero]) (by omega)
      (by simp [hwhat, State.switched, hstandby]) pass
    rw [hwhat] at hexec
    have hkeeps := (s.popped_keeps 8).trans ((s.popped 8).setJobs_keeps (s.jobs ++ [.switchLooper (d.origin 8)]))
    exact completes_of_pieces hexec hkeeps.pieces ⟨rfl, hkeeps⟩
  -- A slice.
  · have hexec := exec_switchBack h hhead htail hmoving (by omega) (by simp [switchIndexGood, hwhat, hlt]) (fun _ => hpart)
      (by rw [hwhat]; exact hfailed) pass
    rw [hwhat] at hexec
    exact completes_switchBack_slice hlt hexec

/-! ### The axes' commands (R267, R347, R417) -/

section
variable {s : State} {d : Fetched}

/-- Without the RESUME flag, to a target in range, an AXIS_MOVE passes its field checks. -/
theorem faultAt_axisMove {b : List Byte} {axis : Nat} {t : Int} (hhead : Zero b 1 8) (haxis : byteAt b 8 = axis) (hle : axis ≤ 4)
    (hzero : Zero b 9 16) (ht : s64 b 16 = t) (htarget : targetGood axis false t = true) (htail : Zero b 24 64) :
    faultAt (headerChecks b 1 ++ [(8, decide (byteAt b 8 ≤ 4))] ++ zeroBytes b 9 16 ++
      [(16, targetGood (byteAt b 8) (bitOf (byteAt b 1) 0) (s64 b 16))] ++ zeroBytes b 24 64) = none := by
  have hresume : bitOf (byteAt b 1) 0 = false := by rw [hhead 1 (by decide) (by decide)]; rfl
  subst haxis ht
  refine faultAt_eq_none (List.forall_mem_append.mpr ⟨List.forall_mem_append.mpr ⟨List.forall_mem_append.mpr
    ⟨List.forall_mem_append.mpr ⟨headerChecks_pass hhead 1, by simp [hle]⟩, zeroBytes_pass hzero⟩, ?_⟩, zeroBytes_pass htail⟩)
  simp [hresume, htarget]

/-- An AXIS_MOVE of the stage. -/
theorem exec_axisMove_stage (h : Heads s 8 12 d) (hhead : Zero d.desc 1 16) (htail : Zero d.desc 24 64) : exec .axisMove s =
    answer s ((s.popped 8).unless (d.origin 8) (s.yChecks false (s64 d.desc 16)) fun t => t.yGo (d.origin 8) (s64 d.desc 16)) := by
  have haxis : byteAt d.desc 8 = 0 := hhead 8 (by decide) (by decide)
  have hresume : bitOf (byteAt d.desc 1) 0 = false := by rw [hhead 1 (by decide) (by decide)]; rfl
  have hchecks := faultAt_axisMove (b := d.desc) (t := s64 d.desc 16) (fun i hlo hhi => hhead i hlo (by omega)) haxis (by decide)
    (fun i hlo hhi => hhead i (by omega) hhi) rfl rfl htail
  show execAxisMove s = _
  rw [execAxisMove, State.when, if_pos (native_of_heads h (by decide)), State.take_of_heads h, State.checked_of_none hchecks, if_pos haxis,
    hresume]
  rfl

theorem State.setStage_keeps (s : State) (u : StageUnit) : Keeps [.stage] [] s { s with stage := u } :=
  ⟨fun p hp => by cases p <;> simp_all [Piece.same], fun _ _ => rfl⟩

theorem State.ySuperseded_pieces (s : State) (m : YMove) : KeepsPieces [.host, .counters, .draw] s (s.ySuperseded m) := by
  unfold State.ySuperseded
  split
  · exact ((s.complete_keeps _).trans (State.drawn_keeps _)).pieces
  · exact KeepsPieces.refl _ s

/-- A stage move that goes is the one in force. -/
theorem State.yMove_yGo (s : State) (o : Origin) (t : Int) :
    ∃ m, (s.yGo o t).stage.yMove = some m ∧ m.origin = some o ∧ m.target = t := ⟨_, rfl, rfl, rfl⟩

theorem State.yGo_keeps {s : State} (h : s.stage.yMove = none) (o : Origin) (t : Int) : Keeps [.stage] [] s (s.yGo o t) := by
  unfold State.yGo
  rw [h]
  exact s.setStage_keeps _

theorem State.yGo_pieces (s : State) (o : Origin) (t : Int) : KeepsPieces [.host, .counters, .draw, .stage] s (s.yGo o t) := by
  cases h : s.stage.yMove with
  | none => exact (State.yGo_keeps h o t).pieces.mono (by simp)
  | some m =>
    unfold State.yGo
    rw [h]
    exact ((s.ySuperseded_pieces m).mono (by simp)).trans ((State.setStage_keeps _ _).pieces.mono (by simp))

/-- A stage move that may go becomes the one in force. -/
theorem clauseStageMove (h : Heads s 8 12 d) (hhead : Zero d.desc 1 16) (htail : Zero d.desc 24 64) (hnone : s.stripes = [])
    (hsp : s.flag Reg.STG_CTL_SP_EN = true) (hfree : s.moveBlocked = none) :
    (s.yWithin (s64 d.desc 16) = true → Completes .axisMove s fun t => ∃ m, t.stage.yMove = some m ∧ m.origin = some (d.origin 8) ∧
      m.target = s64 d.desc 16 ∧ (s.stage.yMove = none → Keeps [.host, .stage] [] s t)) ∧
    (s.yWithin (s64 d.desc 16) = false → OnlyFinishes .axisMove s 8 (Completion.mk' (d.origin 8) .axisLimit 0 0 0)) := by
  obtain ⟨-, -, -, -, hcpr⟩ := id h
  have hexec := exec_axisMove_stage h hhead htail
  refine ⟨fun hin => ?_, fun hout => ?_⟩
  · rw [State.unless_of_pass (by simp [State.yChecks, hnone, hsp, hfree, hin])] at hexec
    obtain ⟨m, hm, horigin, htarget⟩ := (s.popped 8).yMove_yGo (d.origin 8) (s64 d.desc 16)
    have hpop := s.popped_keeps 8
    exact completes_of_pieces hexec ((hpop.pieces.mono (by simp)).trans (State.yGo_pieces _ _ _))
      ⟨m, hm, horigin, htarget, fun hy => hpop.trans (State.yGo_keeps (s := s.popped 8) hy _ _)⟩
  · rw [State.unless_of_refused (st := .axisLimit) (d0 := 0) (by simp [firstRefusal, State.yChecks, hnone, hsp, hfree, hout])] at hexec
    exact onlyFinishes_complete (by decide) rfl hcpr hexec

end

/-! #### An aux axis (R268, R270, R271) -/

@[simp] theorem key_auxPos (n : Nat) : (Reg.AUX_POS n).key = 32 * (0x500C + 0x40 * n) + 0 := rfl
@[simp] theorem key_auxRemain (n : Nat) : (Reg.AUX_REMAIN_STEPS n).key = 32 * (0x5018 + 0x40 * n) + 0 := rfl
@[simp] theorem key_auxState (n : Nat) : (Reg.AUX_STATUS_STATE n).key = 32 * (0x501C + 0x40 * n) + 0 := rfl
@[simp] theorem key_auxIhold (n : Nat) : (Reg.AUX_STATUS_IHOLD n).key = 32 * (0x501C + 0x40 * n) + 3 := rfl

theorem State.onAux_keeps (s : State) (n : Nat) (f : AuxAxis → AuxAxis) : Keeps [.stage] [] s (s.onAux n f) := s.setStage_keeps _

theorem State.auxAxis_onAux (s : State) (n : Fin 4) (f : AuxAxis → AuxAxis) : (s.onAux n f).auxAxis n = f (s.auxAxis n) :=
  vget_vmod_same _ _ _ _ n.isLt

/-- A profile with a way to go is the move of its axis. -/
theorem State.auxAim_of_ne {s : State} {n : Nat} {m : AuxMove} (h : m.target ≠ s.auxPos n) :
    s.auxAim n m = s.onAux n fun a => { a with move := some m } := if_neg h

/-- The fields that the start of a move from rest shows. -/
def auxStartFields (n : Nat) : List Field := [Reg.AUX_REMAIN_STEPS n, Reg.AUX_STATUS_IHOLD n, Reg.AUX_STATUS_STATE n]

/-- What the start of a move from rest shows: no steps kept, the winding's current up, and the profile under way. -/
def State.auxStarting (s : State) (n : Nat) : State :=
  (s.onAux n fun a => { a with kept := none }).setRegs [(Reg.AUX_REMAIN_STEPS n, 0), (Reg.AUX_STATUS_IHOLD n, 0),
    (Reg.AUX_STATUS_STATE n, auxAccel)]

theorem State.auxStarting_keeps (s : State) (n : Nat) : Keeps [.stage] (auxStartFields n) s (s.auxStarting n) :=
  (s.onAux_keeps n _).trans (State.setRegs_keeps _ _)

theorem State.ihold_auxStarting (s : State) (n : Nat) : (s.auxStarting n).reg (Reg.AUX_STATUS_IHOLD n) = 0 := by
  simp only [State.auxStarting, State.setRegs_cons, State.setRegs_nil]
  rw [State.reg_setReg_ne _ _ _ _ (by simp), State.reg_setReg_same _ _ _ (by simp [Reg.AUX_STATUS_IHOLD]), Nat.zero_mod]

/-- The position is none of the fields that a start shows. -/
theorem auxStartFields_ne_pos (n : Nat) : ∀ g ∈ auxStartFields n, g.key ≠ (Reg.AUX_POS n).key := by
  simp [auxStartFields]
  omega

/-- The move that starts from rest (R268, R270). -/
def State.auxFromRest (s : State) (n : Nat) (o : Option Origin) (t : Int) : AuxMove :=
  ⟨o, t, t, true, decide (s.auxPos n < t), s.auxStart2 n, true, false, .ok, [], s.auxDec n, 0⟩

/-- A move from rest that has a way to go waits for WAKE (R270). -/
theorem State.auxStart_spec (s : State) (n : Fin 4) (o : Option Origin) {t : Int} (h : t ≠ s.auxPos n) :
    (∃ m, ((s.auxStart n o t).auxAxis n).move = some m ∧ m.goal = t ∧ m.waking = true ∧ m.origin = o) ∧
    (s.auxStart n o t).reg (Reg.AUX_STATUS_IHOLD n) = 0 ∧ Keeps [.stage] (auxStartFields n) s (s.auxStart n o t) := by
  have hpos : (s.auxStarting n).auxPos n = s.auxPos n := by
    simp only [State.auxPos, State.sreg]
    rw [(s.auxStarting_keeps n).2 (Reg.AUX_POS n) (auxStartFields_ne_pos n)]
  have haim : s.auxStart n o t = (s.auxStarting n).onAux n fun a => { a with move := some (s.auxFromRest n o t) } :=
    State.auxAim_of_ne (s := s.auxStarting n) (by simpa [hpos, State.auxFromRest] using h)
  rw [haim]
  refine ⟨⟨_, by rw [State.auxAxis_onAux], rfl, rfl, rfl⟩, s.ihold_auxStarting n, ?_⟩
  exact ((s.auxStarting_keeps n).trans (State.onAux_keeps _ n _)).mono (by simp) (by simp)

/-- A move that nothing forbids starts from rest. -/
theorem State.auxMoveTo_eq {s : State} {n : Fin 4} {t : Int} (hfree : s.moveBlocked = none) (hcheck : s.checking = false)
    (hvel : s.auxVelGood n = true) (hin : s.auxWithin n t = true) (hrest : (s.auxAxis n).move = none) (o : Origin) :
    s.auxMoveTo o n false t = s.auxStart n (some o) t := by
  rw [State.auxMoveTo, State.unless_of_pass (by simp [State.auxChecks, hfree, hcheck])]
  simp [State.auxGo, hvel, hin, hrest]

section
variable {s : State} {d : Fetched} {n : Fin 4}

/-- The native form of an aux move. -/
theorem exec_axisMove_aux {t : Int} (h : Heads s 8 12 d) (hhead : Zero d.desc 1 8) (haxis : byteAt d.desc 8 = n + 1)
    (hzero : Zero d.desc 9 16) (ht : s64 d.desc 16 = t) (htail : Zero d.desc 24 64) (hlo : -2147483648 ≤ t) (hhi : t ≤ 2147483647) :
    exec .axisMove s = answer s ((s.popped 8).auxMoveTo (d.origin 8) n false t) := by
  have hresume : bitOf (byteAt d.desc 1) 0 = false := by rw [hhead 1 (by decide) (by decide)]; rfl
  have hchecks := faultAt_axisMove hhead haxis (by omega) hzero ht (by simp [targetGood, hlo, hhi]) htail
  show execAxisMove s = _
  rw [execAxisMove, State.when, if_pos (native_of_heads h (by decide)), State.take_of_heads h, State.checked_of_none hchecks,
    if_neg (by omega), hresume, haxis, ht]
  rfl

/-- The XK2 form. -/
theorem exec_auxMove {t : Int} (h : Heads s 9 6 d) (hflags : Zero d.desc 1 2) (hhead : Zero d.desc 4 8) (ht : s64 d.desc 8 = t)
    (hzero : Zero d.desc 16 24) (haxis : byteAt d.desc 24 = n) (htail : Zero d.desc 25 32) (hlo : -2147483648 ≤ t)
    (hhi : t ≤ 2147483647) : exec .auxMove s = answer s ((s.popped 9).auxMoveTo (d.origin 9) n false t) := by
  have hresume : bitOf (byteAt d.desc 1) 0 = false := by rw [hflags 1 (by decide) (by decide)]; rfl
  have hchecks : faultAt (xk2HeaderChecks d.desc 1 ++ [(8, targetGood 1 (bitOf (byteAt d.desc 1) 0) (s64 d.desc 8))] ++
      zeroBytes d.desc 16 24 ++ [(24, decide (byteAt d.desc 24 < 4))] ++ zeroBytes d.desc 25 32) = none := by
    refine faultAt_eq_none (List.forall_mem_append.mpr ⟨List.forall_mem_append.mpr ⟨List.forall_mem_append.mpr
      ⟨List.forall_mem_append.mpr ⟨xk2HeaderChecks_pass hflags hhead 1, ?_⟩, zeroBytes_pass hzero⟩, ?_⟩, zeroBytes_pass htail⟩)
    · simp [targetGood, hresume, ht, hlo, hhi]
    · simp [haxis]
  show execAuxMove s = _
  rw [execAuxMove, State.when, if_pos (by simp [xk2_of_heads h]), State.take_of_heads h, State.checked_of_none hchecks, hresume, haxis, ht]

/-- A move from rest starts, whichever ring asks for it. -/
theorem completes_auxMove {i : Instr} {ring : Nat} {o : Origin} {t : Int} (hfree : s.moveBlocked = none) (hcheck : s.checking = false)
    (hvel : s.auxVelGood n = true) (hin : s.auxWithin n t = true) (hrest : (s.auxAxis n).move = none) (hway : t ≠ s.auxPos n)
    (hexec : exec i s = answer s ((s.popped ring).auxMoveTo o n false t)) : Completes i s fun u =>
      (∃ m, (u.auxAxis n).move = some m ∧ m.goal = t ∧ m.waking = true ∧ m.origin = some o) ∧
      u.reg (Reg.AUX_STATUS_IHOLD n) = 0 ∧ u.reg (Reg.AUX_POS n) = s.reg (Reg.AUX_POS n) ∧
      Keeps [.host, .stage] [Reg.AUX_REMAIN_STEPS n, Reg.AUX_STATUS_IHOLD n, Reg.AUX_STATUS_STATE n] s u := by
  rw [State.auxMoveTo_eq (s := s.popped ring) hfree hcheck hvel hin hrest] at hexec
  obtain ⟨hmove, hihold, hstart⟩ := (s.popped ring).auxStart_spec n (some o) (t := t) hway
  have hkeeps := (s.popped_keeps ring).trans hstart
  exact completes_of_pieces hexec hkeeps.pieces ⟨hmove, hihold, hkeeps.2 _ (auxStartFields_ne_pos n), hkeeps⟩

/-- The native form of a stop of an aux axis. -/
theorem exec_axisStop_aux (h : Heads s 8 13 d) (hhead : Zero d.desc 1 8) (haxis : byteAt d.desc 8 = n + 1) (htail : Zero d.desc 9 64) :
    exec .axisStop s = answer s ((s.popped 8).auxHaltFor n (d.origin 8)) := by
  have hchecks : faultAt (headerChecks d.desc 0 ++ [(8, decide (byteAt d.desc 8 ≤ 4))] ++ zeroBytes d.desc 9 64) = none := by
    refine faultAt_eq_none (List.forall_mem_append.mpr ⟨List.forall_mem_append.mpr ⟨headerChecks_pass hhead 0, ?_⟩, zeroBytes_pass htail⟩)
    simp only [List.mem_singleton, forall_eq, decide_eq_true_eq]
    omega
  show execAxisStop s = _
  rw [execAxisStop, State.when, if_pos (native_of_heads h (by decide)), State.take_of_heads h, State.checked_of_none hchecks,
    if_neg (by omega), haxis]
  rfl

/-- The XK2 form. -/
theorem exec_auxStop (h : Heads s 9 7 d) (hflags : Zero d.desc 1 2) (hhead : Zero d.desc 4 24) (haxis : byteAt d.desc 24 = n)
    (htail : Zero d.desc 25 32) : exec .auxStop s = answer s ((s.popped 9).auxHaltFor n (d.origin 9)) := by
  have hchecks : faultAt (xk2HeaderChecks d.desc 0 ++ zeroBytes d.desc 8 24 ++ [(24, decide (byteAt d.desc 24 < 4))] ++
      zeroBytes d.desc 25 32) = none := by
    refine faultAt_eq_none (List.forall_mem_append.mpr ⟨List.forall_mem_append.mpr ⟨List.forall_mem_append.mpr
      ⟨xk2HeaderChecks_pass hflags (fun i hlo hhi => hhead i hlo (by omega)) 0, zeroBytes_pass fun i hlo => hhead i (by omega)⟩, ?_⟩,
      zeroBytes_pass htail⟩)
    simp [haxis]
  show execAuxStop s = _
  rw [execAuxStop, State.when, if_pos (by simp [xk2_of_heads h]), State.take_of_heads h, State.checked_of_none hchecks, haxis]

/-- A stop of an axis at rest with no steps kept only completes. -/
theorem auxStop_at_rest {i : Instr} {ring : Nat} (hring : ring < 10) (hcpr : s.cprOf ring ≤ 4) (hrest : (s.auxAxis n).move = none)
    (hkept : (s.auxAxis n).kept = none) (hexec : exec i s = answer s ((s.popped ring).auxHaltFor n (d.origin ring))) :
    OnlyFinishes i s ring (Completion.mk' (d.origin ring) .ok 0 0 0) := by
  have hdone : (s.popped ring).auxHaltFor n (d.origin ring) = (s.popped ring).complete (Completion.mk' (d.origin ring) .ok 0 0 0) := by
    rw [State.auxHaltFor, show ((s.popped ring).auxAxis n).move = none from hrest, show ((s.popped ring).auxAxis n).kept = none from hkept]
    simp
  rw [hdone] at hexec
  exact onlyFinishes_complete hring rfl hcpr hexec

/-- A move as a stop brings it to rest at its deceleration (R271). -/
def AuxMove.halted (m : AuxMove) (at_ : Int) (o : Origin) : AuxMove :=
  { m with target := at_, stopping := true, stopStatus := if m.stopStatus = .estop then .estop else .ok, stoppedBy := m.stoppedBy ++ [o] }

/-- A stop of an axis with a way to go to its rest. -/
theorem State.auxHaltFor_eq {s : State} {n : Fin 4} {m : AuxMove} (hm : (s.auxAxis n).move = some m)
    (hway : s.auxStopAt n m m.dec ≠ s.auxPos n) (o : Origin) : s.auxHaltFor n o =
      (s.setReg (Reg.AUX_STATUS_STATE n) auxDecel).onAux n fun a => { a with move := some (m.halted (s.auxStopAt n m m.dec) o) } := by
  have hpos : (s.setReg (Reg.AUX_STATUS_STATE n) auxDecel).auxPos n = s.auxPos n := by
    simp only [State.auxPos, State.sreg]
    rw [State.reg_setReg_ne _ _ _ _ (by simp)]
  rw [State.auxHaltFor, hm]
  dsimp only
  rw [State.auxHalt, hm]
  dsimp only
  rw [if_neg (by simp), State.auxAim_of_ne (by simpa [hpos] using hway)]
  rfl

theorem completes_auxStop {i : Instr} {ring : Nat} {o : Origin} {m : AuxMove} (hm : (s.auxAxis n).move = some m)
    (hway : s.auxStopAt n m m.dec ≠ s.auxPos n) (hexec : exec i s = answer s ((s.popped ring).auxHaltFor n o)) :
    Completes i s fun t => (t.auxAxis n).move = some (m.halted (s.auxStopAt n m m.dec) o) ∧
      t.reg (Reg.AUX_STATUS_STATE n) = auxDecel ∧ Keeps [.host, .stage] [Reg.AUX_STATUS_STATE n] s t := by
  rw [State.auxHaltFor_eq (s := s.popped ring) hm hway] at hexec
  have hkeeps := ((s.popped_keeps ring).trans (State.setReg_keeps _ (Reg.AUX_STATUS_STATE n) auxDecel)).trans
    (State.onAux_keeps _ n fun a => { a with move := some (m.halted ((s.popped ring).auxStopAt n m m.dec) o) })
  refine completes_of_pieces hexec hkeeps.pieces ⟨?_, ?_, hkeeps⟩
  · exact congrArg AuxAxis.move (State.auxAxis_onAux _ n _)
  · exact State.reg_setReg_same (s.popped ring) (Reg.AUX_STATUS_STATE n) auxDecel (by simp [Reg.AUX_STATUS_STATE])

/-- The stage's move as a stop of the host brings it to rest (R267). -/
def YMove.halted (m : YMove) (o : Origin) : YMove :=
  { m with stopping := some (m.stopping.getD .ok), stopCmd := m.stopCmd ++ [o] }

/-- A stop of the stage's move (R267, R347). -/
theorem completes_axisStop_stage {m : YMove} (h : Heads s 8 13 d) (hzero : Zero d.desc 1 64) (hmoving : s.stripeMoving = false)
    (hy : s.stage.yMove = some m) : Completes .axisStop s fun t => (∃ k, t.stage.yMove = some k ∧ k.stopCmd = m.stopCmd ++ [d.origin 8] ∧
      k.stopping.isSome = true ∧ k.target = m.target) ∧ Keeps [.host, .stage] [] s t := by
  have haxis : byteAt d.desc 8 = 0 := hzero 8 (by decide) (by decide)
  have hchecks : faultAt (headerChecks d.desc 0 ++ [(8, decide (byteAt d.desc 8 ≤ 4))] ++ zeroBytes d.desc 9 64) = none :=
    faultAt_eq_none (List.forall_mem_append.mpr ⟨List.forall_mem_append.mpr
      ⟨headerChecks_pass (fun i hlo hhi => hzero i hlo (by omega)) 0, by simp [haxis]⟩, zeroBytes_pass fun i hlo => hzero i (by omega)⟩)
  have hexec : exec .axisStop s = answer s ((s.popped 8).yHalt (d.origin 8)) := by
    show execAxisStop s = _
    rw [execAxisStop, State.when, if_pos (native_of_heads h (by decide)), State.take_of_heads h, State.checked_of_none hchecks,
      if_pos haxis, show (s.popped 8).stripeMoving = false from hmoving]
    rfl
  rw [State.yHalt, show (s.popped 8).stage.yMove = some m from hy] at hexec
  have hkeeps := (s.popped_keeps 8).trans ((s.popped 8).setStage_keeps { s.stage with yMove := some (m.halted (d.origin 8)) })
  exact completes_of_pieces hexec hkeeps.pieces ⟨⟨_, rfl, rfl, rfl, rfl⟩, hkeeps⟩

end

theorem clauseAxisCommands : ClauseAxisCommands := by
  refine ⟨fun s d h hhead htail hnone hsp hfree => clauseStageMove h hhead htail hnone hsp hfree,
    fun s n d t hfree hcheck hvel hin hrest hway x hx h h8 h9 hlo hhi => ?_, fun s n d hrest hkept => ⟨?_, ?_⟩,
    fun s n d m hm hway x hx h h8 h9 => ?_, fun s d m h hzero hmoving hy => completes_axisStop_stage h hzero hmoving hy⟩
  -- An aux move from rest.
  · simp only [List.mem_cons, List.not_mem_nil, or_false] at hx
    rcases hx with rfl | rfl
    · obtain ⟨hhead, haxis, hzero, ht, htail⟩ := h8 rfl
      exact completes_auxMove hfree hcheck hvel hin hrest hway (exec_axisMove_aux h hhead haxis hzero ht htail hlo hhi)
    · obtain ⟨hflags, hhead, ht, hzero, haxis, htail⟩ := h9 rfl
      exact completes_auxMove hfree hcheck hvel hin hrest hway (exec_auxMove h hflags hhead ht hzero haxis htail hlo hhi)
  -- A stop at rest, in both forms.
  · intro h hhead haxis htail
    obtain ⟨-, -, -, -, hcpr⟩ := id h
    exact auxStop_at_rest (by decide) hcpr hrest hkept (exec_axisStop_aux h hhead haxis htail)
  · intro h hflags hhead haxis htail
    obtain ⟨-, -, -, -, hcpr⟩ := id h
    exact auxStop_at_rest (by decide) hcpr hrest hkept (exec_auxStop h hflags hhead haxis htail)
  -- A stop of an axis that moves.
  · simp only [List.mem_cons, List.not_mem_nil, or_false] at hx
    rcases hx with rfl | rfl
    · obtain ⟨hhead, haxis, htail⟩ := h8 rfl
      exact completes_auxStop hm hway (exec_axisStop_aux h hhead haxis htail)
    · obtain ⟨hflags, hhead, haxis, htail⟩ := h9 rfl
      exact completes_auxStop hm hway (exec_auxStop h hflags hhead haxis htail)

/-- Settles O15: a good descriptor leaves its ring, and each clause follows from what the deed it asks for shows and keeps. -/
theorem switchBackAndAxisCommands : Obligations.SwitchBackAndAxisCommands := ⟨clauseSwitchBack, clauseAxisCommands⟩

end Sys2Proof.Machine
end

section
/-! SUPPORT. Messages on the return lanes (R208, R213): what a good one leaves of the state before it has its own effect, and what one that
cannot be used counts. -/
namespace Sys2Proof.Machine

open Sys2Proof

/-! ### Groups -/

theorem State.group_onGroup_same (s : State) {g : Nat} (hg : g < 16) (f : Group → Group) : (s.onGroup g f).group g = f (s.group g) :=
  vget_vmod_same _ _ _ _ hg

theorem State.group_onGroup_ne (s : State) {g h : Nat} (hne : h ≠ g) (f : Group → Group) : (s.onGroup g f).group h = s.group h :=
  vget_vmod_ne _ _ _ _ _ hne

theorem State.onGroup_keeps (s : State) (g : Nat) (f : Group → Group) : Keeps [.link] [] s (s.onGroup g f) :=
  ⟨(s.onGroup_undisturbed g f).pieces, fun _ _ => rfl⟩

@[simp] theorem State.group_setReg (s : State) (f : Field) (v g : Nat) : (s.setReg f v).group g = s.group g := rfl
@[simp] theorem State.group_setFlag (s : State) (f : Field) (b : Bool) (g : Nat) : (s.setFlag f b).group g = s.group g := rfl
@[simp] theorem State.group_setRegs (s : State) (l : List (Field × Nat)) (g : Nat) : (s.setRegs l).group g = s.group g := rfl
@[simp] theorem State.group_emit (s : State) (o : Out) (g : Nat) : (s.emit o).group g = s.group g := rfl
@[simp] theorem State.group_count (s : State) (b n k g : Nat) : (s.count b n k).group g = s.group g := rfl

/-- What leaves the links alone leaves every group. -/
theorem KeepsPieces.group {ps : List Piece} {s t : State} (h : KeepsPieces ps s t) (hl : .link ∉ ps) (g : Nat) : t.group g = s.group g := by
  have hlink : t.link = s.link := h .link hl
  simp only [State.group, hlink]

/-! ### A good message (R208) -/

/-- A group as a good message leaves it. -/
def Group.heard (k : Group) (m : LinkMsg) : Group :=
  { k with rxSeq := some ((byteAt m.bytes 1 + 1) % 256), loss := false, unconfirmed := [] }

section
variable {s : State} {g : Nat} {m : LinkMsg}

/-- A good message in its turn has its effect on the state that has heard it. -/
theorem State.receive_of_good (h : Good s g m) (f : State → State) : s.receive g m f = f (s.heard g m) := by
  obtain ⟨hhears, hcrc, hloss, hgap⟩ := h
  simp [State.receive, State.when, hhears, hcrc, hloss, hgap, State.heard]

/-- A group that is not listened to hears nothing. -/
theorem State.receive_of_deaf (h : s.hears g = false) (f : State → State) : s.receive g m f = s := by
  simp [State.receive, State.when, h]

/-- A message that fails its CRC or its pad is a loss, whatever its effect would be. -/
theorem State.receive_of_bad (h : s.hears g = true) (hcrc : linkCrcGood m.bytes m.padOk = false) (f : State → State) :
    s.receive g m f = s.badMessage g := by
  simp [State.receive, State.when, h, hcrc]

theorem State.heard_keeps (s : State) (g : Nat) (m : LinkMsg) : Keeps [.link, .counters] [ovf 16] s (s.heard g m) :=
  (s.onGroup_keeps g _).trans (State.count_keeps _ 16 4 1)

theorem State.reg_heard {f : Field} (hf : (ovf 16).key ≠ f.key) : (s.heard g m).reg f = s.reg f :=
  (s.heard_keeps g m).2 f (by simpa using hf)

theorem State.group_heard (hg : g < 16) : (s.heard g m).group g = (s.group g).heard m := s.group_onGroup_same hg _

theorem State.group_heard_ne {h : Nat} (hne : h ≠ g) : (s.heard g m).group h = s.group h := s.group_onGroup_ne hne _

/-- What a good message leaves of a group aside from what its lane has received. -/
theorem State.group_heard_cases (s : State) (g h : Nat) (m : LinkMsg) :
    (s.heard g m).group h = s.group h ∨ (s.heard g m).group h = (s.group h).heard m :=
  vget_vmod_cases s.link.groups g h _ Group.init

/-- A register of the lanes or their groups is as before a message. -/
theorem State.reg_heard_lane {f : Field} (hf : 32 * 0x10000 ≤ f.key) (hlt : f.key < 32 * 0x14000) : (s.heard g m).reg f = s.reg f :=
  State.reg_heard (by rw [ovf_key]; omega)

theorem State.grp_heard {h : Nat} (hh : h < 16) : (s.heard g m).grp h = s.grp h :=
  State.reg_heard_lane (by rw [key_grpState]; omega) (by rw [key_grpState]; omega)

/-- Beside the lane's own reception, an ALIVE or a message of a reserved kind does nothing. -/
theorem completes_heard {i : Instr} (hg : g < 16) (h : Good s g m) (hexec : exec i s = answer s (s.receive g m id)) :
    Completes i s fun t => (t.group g).rxSeq = some ((byteAt m.bytes 1 + 1) % 256) ∧ (t.group g).unconfirmed = [] ∧
      (∀ h, h ≠ g → t.group h = s.group h) ∧ Keeps [.link, .counters] [ovf 16] s t := by
  rw [State.receive_of_good h] at hexec
  have hkeeps := s.heard_keeps g m
  refine completes_of_pieces hexec hkeeps.pieces ⟨?_, ?_, fun _ hne => State.group_heard_ne hne, hkeeps⟩
  · exact congrArg Group.rxSeq (State.group_heard hg)
  · exact congrArg Group.unconfirmed (State.group_heard hg)

/-! ### A loss (R213, R220) -/

/-- The fields that show losses. -/
def lossFields : List Field := [Reg.FRM_RET_ERR_LOSSES, Reg.FRM_RET_ERR_VALID, Reg.FRM_RET_ERR_GROUP, ovf 16]

theorem State.logLoss_keeps (s : State) (g : Nat) : Keeps [.counters] lossFields s (s.logLoss g) := by
  have hshown := State.when_keeps (ps := []) (fs := lossFields) (s.addReg Reg.FRM_RET_ERR_LOSSES 1) (!s.flag Reg.FRM_RET_ERR_VALID)
    (·.setRegs [(Reg.FRM_RET_ERR_GROUP, g), (Reg.FRM_RET_ERR_VALID, 1)]) fun _ => (State.setRegs_keeps _ _).mono (by simp) (by simp [lossFields])
  exact (((s.addReg_keeps _ 1).trans hshown).trans (State.count_keeps _ 16 5 1)).mono (by simp) (by simp [lossFields])

/-- A loss is counted, and FRM_RET_ERR holds the group of the first (R220). -/
theorem State.reg_logLoss (s : State) {g : Nat} (hg : g < 16) :
    (s.logLoss g).reg Reg.FRM_RET_ERR_LOSSES = min (2 ^ Reg.FRM_RET_ERR_LOSSES.width - 1) (s.reg Reg.FRM_RET_ERR_LOSSES + 1) ∧
    (s.logLoss g).reg Reg.FRM_RET_ERR_VALID ≠ 0 ∧
    (s.reg Reg.FRM_RET_ERR_VALID = 0 → (s.logLoss g).reg Reg.FRM_RET_ERR_GROUP = g) := by
  have hvalid : (s.addReg Reg.FRM_RET_ERR_LOSSES 1).reg Reg.FRM_RET_ERR_VALID = s.reg Reg.FRM_RET_ERR_VALID :=
    (s.addReg_keeps _ 1).2 _ (by decide)
  have hcount := s.reg_addReg_same (f := Reg.FRM_RET_ERR_LOSSES) 1 (by decide)
  have hshown : ∀ u : State, (u.setRegs [(Reg.FRM_RET_ERR_GROUP, g), (Reg.FRM_RET_ERR_VALID, 1)]).reg Reg.FRM_RET_ERR_LOSSES =
      u.reg Reg.FRM_RET_ERR_LOSSES ∧
      (u.setRegs [(Reg.FRM_RET_ERR_GROUP, g), (Reg.FRM_RET_ERR_VALID, 1)]).reg Reg.FRM_RET_ERR_VALID = 1 ∧
      (u.setRegs [(Reg.FRM_RET_ERR_GROUP, g), (Reg.FRM_RET_ERR_VALID, 1)]).reg Reg.FRM_RET_ERR_GROUP = g := by
    refine fun u => ⟨(u.setRegs_keeps _).2 _ (by simp; decide), ?_, ?_⟩
    · exact State.reg_setRegs_mem (v := 1) (by simp; decide) (by simp) (by decide)
    · rw [State.reg_setRegs_mem (v := g) (by simp; decide) (by simp) (by decide)]
      exact Nat.mod_eq_of_lt hg
  unfold State.logLoss
  rw [State.reg_count _ _ _ _ (by decide), State.reg_count _ _ _ _ (by decide), State.reg_count _ _ _ _ (by decide), State.reg_when,
    State.reg_when, State.reg_when]
  obtain ⟨hl, hv, hgr⟩ := hshown (s.addReg Reg.FRM_RET_ERR_LOSSES 1)
  by_cases hz : s.reg Reg.FRM_RET_ERR_VALID = 0
  · simp only [State.flag, hz, bne_self_eq_false, Bool.not_false, if_true]
    exact ⟨hl.trans hcount, by simp [hv], fun _ => hgr⟩
  · simp only [State.flag, bne_iff_ne.2 hz, Bool.not_true, Bool.false_eq_true, if_false]
    exact ⟨hcount, hvalid ▸ hz, fun h => absurd h hz⟩

/-- A message that cannot be used is a loss, and counts in SEQ. -/
theorem completes_badMessage {i : Instr} (hg : g < 16) (hexec : exec i s = answer s (s.badMessage g)) :
    Completes i s fun t => (t.group g).loss = true ∧ (t.group g).rxSeq = (s.group g).rxSeq.map (fun q => (q + 1) % 256) ∧
      t.reg Reg.FRM_RET_ERR_LOSSES = min (2 ^ Reg.FRM_RET_ERR_LOSSES.width - 1) (s.reg Reg.FRM_RET_ERR_LOSSES + 1) ∧
      t.reg Reg.FRM_RET_ERR_VALID ≠ 0 ∧ (s.reg Reg.FRM_RET_ERR_VALID = 0 → t.reg Reg.FRM_RET_ERR_GROUP = g) ∧
      Keeps [.link, .counters] [Reg.FRM_RET_ERR_LOSSES, Reg.FRM_RET_ERR_VALID, Reg.FRM_RET_ERR_GROUP, ovf 16] s t := by
  have hlog := s.logLoss_keeps g
  have hgroup : (s.logLoss g).group g = s.group g := hlog.pieces.group (by decide) g
  have hbad : (s.badMessage g).group g = { s.group g with loss := true, rxSeq := (s.group g).rxSeq.map fun q => (q + 1) % 256 } := by
    rw [State.badMessage, State.group_onGroup_same _ hg, hgroup]
  have hkeeps : Keeps [.link, .counters] lossFields s (s.badMessage g) :=
    (hlog.trans (State.onGroup_keeps _ g _)).mono (by simp) (by simp)
  obtain ⟨hlosses, hvalid, hfirst⟩ := s.reg_logLoss hg
  exact completes_of_pieces hexec hkeeps.pieces
    ⟨congrArg Group.loss hbad, congrArg Group.rxSeq hbad, hlosses, hvalid, hfirst, hkeeps⟩

end

end Sys2Proof.Machine
end

section
/-! SUPPORT. The blanker's temperature and level (R218, R220, R406), and the messages of the return lanes (R203, R208, R209, R213, R215). -/
namespace Sys2Proof.Machine

open Sys2Proof

/-! ### Messages that are refused, counted or not heard (R208, R213) -/

/-- The commands that are messages of a return lane. -/
def messagesOf (g : Fin 16) (m : LinkMsg) : List Instr :=
  [.returnLaneLoss g m, .statusNak g m, .statusAlive g m, .statusReady g m, .statusSpareReady g m, .statusLaneDown g m, .statusHot g m,
    .tempMessage g m, .reservedLinkMessage g m, .caps g m, .tapReq g m, .prbsResult g m]

/-- Every message is received, and has its own effect where it is good. -/
theorem exec_message {i : Instr} {g : Fin 16} {m : LinkMsg} (hi : i ∈ messagesOf g m) (s : State) :
    ∃ f, exec i s = answer s (s.receive g m f) := by
  simp only [messagesOf, List.mem_cons, List.not_mem_nil, or_false] at hi
  rcases hi with rfl | rfl | rfl | rfl | rfl | rfl | rfl | rfl | rfl | rfl | rfl | rfl
  all_goals exact ⟨_, rfl⟩

theorem clauseReturnMessages : ClauseReturnMessages := by
  refine ⟨fun s g m hhears hcrc i hi => ?_, fun s g m hdeaf i hi => ?_, fun s g m hgood i hi => ?_⟩
  · obtain ⟨f, hexec⟩ := exec_message hi s
    rw [State.receive_of_bad hhears hcrc] at hexec
    exact completes_badMessage g.isLt hexec
  · obtain ⟨f, hexec⟩ := exec_message hi s
    rw [State.receive_of_deaf hdeaf] at hexec
    exact hexec
  · have hexec : exec i s = answer s (s.receive g m id) := by
      simp only [List.mem_cons, List.not_mem_nil, or_false] at hi
      rcases hi with rfl | rfl <;> rfl
    exact completes_heard g.isLt hgood hexec

/-! ### The temperature in use (R218, R220) -/

/-- The warmer of a temperature found so far and a group's own. -/
def State.warmer (s : State) (a : Option (Int × Nat)) (g : Nat) : Option (Int × Nat) :=
  match s.groupTemp g, a with
  | some t, some (u, m) => if u < t then some (t, g) else some (u, m)
  | some t, none => some (t, g)
  | none, a => a

theorem State.blkTemp_eq (s : State) : s.blkTemp = ((List.range 16).filter s.inService).foldl s.warmer none := rfl

/-- A temperature is in use, of at least `t`. -/
def Hotter (t : Int) (a : Option (Int × Nat)) : Prop := ∃ u m, a = some (u, m) ∧ t ≤ u

/-- A further group cools nothing. -/
theorem Hotter.warmer {s : State} {t : Int} {a : Option (Int × Nat)} (h : Hotter t a) (g : Nat) : Hotter t (s.warmer a g) := by
  obtain ⟨u, m, rfl, htu⟩ := h
  unfold State.warmer
  split
  case h_1 v w k _ heq =>
    obtain ⟨rfl, rfl⟩ := Prod.mk.inj (Option.some.inj heq)
    split
    · exact ⟨v, g, rfl, by omega⟩
    · exact ⟨_, _, rfl, htu⟩
  case h_2 heq => cases heq
  case h_3 => exact ⟨u, m, rfl, htu⟩

/-- A group's own temperature counts. -/
theorem State.hotter_warmer {s : State} {g : Nat} {t : Int} (h : s.groupTemp g = some t) (a : Option (Int × Nat)) :
    Hotter t (s.warmer a g) := by
  unfold State.warmer
  rw [h]
  cases a with
  | none => exact ⟨t, g, rfl, le_rfl⟩
  | some x =>
    dsimp only
    split
    · exact ⟨t, g, rfl, le_rfl⟩
    · exact ⟨_, _, rfl, by omega⟩

theorem Hotter.foldl {s : State} {t : Int} {a : Option (Int × Nat)} (h : Hotter t a) (l : List Nat) : Hotter t (l.foldl s.warmer a) := by
  induction l generalizing a with
  | nil => exact h
  | cons g l ih => exact ih (h.warmer g)

/-- The temperature in use is no lower than that of any group in service. -/
theorem State.hotter_blkTemp {s : State} {g : Nat} {t : Int} (hg : g < 16) (hin : s.inService g = true) (h : s.groupTemp g = some t) :
    Hotter t s.blkTemp := by
  have hmem : g ∈ (List.range 16).filter s.inService := List.mem_filter.mpr ⟨List.mem_range.mpr hg, hin⟩
  obtain ⟨l₁, l₂, hl⟩ := List.append_of_mem hmem
  rw [State.blkTemp_eq, hl, List.foldl_append, List.foldl_cons]
  exact (State.hotter_warmer h _).foldl l₂

/-- A group that is hot or silent counts as at the limit (log 30). -/
theorem State.hotter_of_limit {s : State} {g : Nat} (hg : g < 16) (hin : s.inService g = true)
    (h : (s.group g).hot = true ∨ (s.group g).stale = true) : Hotter (s.blkThr 2) s.blkTemp := by
  have htemp : s.groupTemp g = some (max (s.blkThr 2 : Int) ((((s.group g).temp.getD []).max?).getD (s.blkThr 2 : Int))) := by
    rw [State.groupTemp]
    exact if_pos (by simpa using h)
  obtain ⟨u, m, hu, hle⟩ := State.hotter_blkTemp hg hin htemp
  exact ⟨u, m, hu, (le_max_left _ _).trans hle⟩

/-! ### The level that follows it (R406) -/

theorem levelDown_le (t : Int) (thr : Nat → Nat) (hyst cur : Nat) : levelDown t thr hyst cur ≤ cur := by
  induction cur with
  | zero => exact le_rfl
  | succ l ih =>
    rw [levelDown]
    split
    · exact ih.trans (Nat.le_succ l)
    · exact le_rfl

theorem nextLevel_le {cur : Nat} (h : cur ≤ 3) (t : Int) (thr : Nat → Nat) (hyst : Nat) : nextLevel cur t thr hyst ≤ 3 := by
  have hup : levelUp t thr ≤ 3 := by
    unfold levelUp
    split_ifs <;> decide
  exact max_le hup ((levelDown_le t thr hyst cur).trans h)

/-- At the limit the level is 2 or more. -/
theorem two_le_nextLevel {t : Int} {thr : Nat → Nat} (h : (thr 2 : Int) ≤ t) (cur hyst : Nat) : 2 ≤ nextLevel cur t thr hyst := by
  refine le_trans ?_ (le_max_left _ _)
  unfold levelUp
  split_ifs
  · decide
  · exact le_rfl

/-! ### What entering a level does (R218, R406) -/

/-- The lanes that may go to L1 at critical. -/
def sleeperFields : List Field := (List.range 16).flatMap fun g => (List.range 8).map fun i => Reg.MPH_LSTATE_STATE g i

theorem State.sleepLane_keeps (s : State) {g i : Nat} (hg : g < 16) (hi : i < 8) :
    Keeps linkPieces sleeperFields s (s.sleepLane g i) ∧ ∀ h, (s.sleepLane g i).group h = s.group h := by
  have hsent : Sends s (s.when (s.drives g i) fun s => s.sendOn (lineKey g i) (fun rd => .sleep g i rd false) (sleepPairs false)) :=
    (Sends.refl s).when _ fun u => u.sendOn_sends _ _ _
  have hmem : Reg.MPH_LSTATE_STATE g i ∈ sleeperFields :=
    List.mem_flatMap.mpr ⟨g, List.mem_range.mpr hg, List.mem_map.mpr ⟨i, List.mem_range.mpr hi, rfl⟩⟩
  exact ⟨(hsent.keeps.trans (State.setRegs_keeps _ [(Reg.MPH_LSTATE_STATE g i, laneL1)])).mono (by simp) (by simp [hmem]),
    hsent.group⟩

/-- Every lane in L0 of a READY group goes to L1. -/
def State.allSleep (s : State) : State :=
  s.forAll (List.range 16) fun g a => a.when (a.grp g == grpReady) fun a =>
    a.forAll ((List.range 8).filter fun i => a.reg (Reg.MPH_LSTATE_STATE g i) == laneL0) fun i a => a.sleepLane g i

/-- A level from which the blanker's level entered 2 or more while nothing moved. -/
def State.blkMarked (s : State) : State := { s with cal := { s.cal with blkHot := true } }

theorem State.blkRises_eq {s : State} (hact : s.active? = none) (lo hi : Nat) : s.blkRises lo hi =
    (s.when (decide (lo < 2 ∧ 2 ≤ hi)) State.blkMarked).when (decide (lo < 3 ∧ hi = 3)) State.allSleep := by
  have habort : s.blkMarked.abort .blankerHot = s.blkMarked := by
    rw [State.abort, show s.blkMarked.active? = none from hact]
  rw [State.blkRises, show (fun u : State => ({ u with cal := { u.cal with blkHot := true } } : State).abort .blankerHot) =
    fun u : State => u.blkMarked.abort .blankerHot from rfl]
  simp only [State.when, habort]
  rfl

/-- The lanes' sleep leaves the groups and all else but the lanes' states. -/
theorem State.allSleep_keeps (s : State) : Keeps linkPieces sleeperFields s s.allSleep ∧ ∀ h, s.allSleep.group h = s.group h := by
  let P (u v : State) : Prop := Keeps linkPieces sleeperFields u v ∧ ∀ h, v.group h = u.group h
  have hrefl (u : State) : P u u := ⟨Keeps.refl _ _ u, fun _ => rfl⟩
  have htrans {u v w : State} (h : P u v) (h' : P v w) : P u w :=
    ⟨(h.1.trans h'.1).mono (by simp) (by simp), fun g => (h'.2 g).trans (h.2 g)⟩
  refine State.forAll_induction (P := P s) _ (hrefl s) fun g hg u hu => htrans hu ?_
  unfold State.when
  split
  · exact State.forAll_induction (P := P u) _ (hrefl u) fun i hi v hv =>
      htrans hv (v.sleepLane_keeps (List.mem_range.mp hg) (List.mem_range.mp (List.mem_of_mem_filter hi)))
  · exact hrefl u

/-- The value in use and the level it gives, shown and posted (R220, R406). -/
def State.levelShown (s : State) (t : Int) (g lo hi : Nat) : State :=
  (((s.setFlag Reg.FRM_TEMP_STALE s.blkStale).setRegs [(Reg.FRM_TEMP_VALUE, unsignedOf 16 t), (Reg.FRM_TEMP_GROUP, g),
    (Reg.CAL_THERM_BLK_LEVEL, hi)]).levelEvents 0xFE lo hi t).when (decide (lo < hi)) (·.raise 1)

/-- The blanker is cool again. -/
def State.blkCooled (s : State) : State := { s with cal := { s.cal with blkHot := false } }

theorem State.blkFollows_of_none {s : State} (h : s.blkTemp = none) : s.blkFollows = s.setFlag Reg.FRM_TEMP_STALE s.blkStale := by
  simp [State.blkFollows, h]

theorem State.blkFollows_of_some {s : State} {t : Int} {g lo hi : Nat} (h : s.blkTemp = some (t, g)) (hlo : s.reg Reg.CAL_THERM_BLK_LEVEL = lo)
    (hhi : nextLevel lo t s.blkThr (4 * max 1 (s.reg Reg.CAL_THR_BLK_HYST)) = hi) :
    s.blkFollows = ((if hi = 0 then (s.levelShown t g lo hi).blkCooled else s.levelShown t g lo hi).blkRises lo hi).coolFollows := by
  subst hlo hhi
  simp only [State.blkFollows, h]
  rfl

/-- What showing a level changes. -/
def levelFields : List Field :=
  [Reg.FRM_TEMP_STALE, Reg.FRM_TEMP_VALUE, Reg.FRM_TEMP_GROUP, Reg.CAL_THERM_BLK_LEVEL, causeField 1] ++ entryFields

theorem State.levelEvents_keeps (s : State) (source lo hi : Nat) (t : Int) :
    Keeps (.events :: messagePieces) entryFields s (s.levelEvents source lo hi t) := by
  have hrises := Keeps.forAll s ((List.range (hi - lo)).map fun i => lo + 1 + i) fun l u => u.event_keeps 0x04 source l (unsignedOf 16 t)
  have hfalls (u : State) := u.when_keeps (decide (hi = 0 ∧ 0 < lo)) (·.event 0x04 source 4 (unsignedOf 16 t)) fun _ =>
    u.event_keeps 0x04 source 4 (unsignedOf 16 t)
  exact (hrises.trans (hfalls _)).mono (by simp) (by simp)

theorem State.levelPosted_keeps (s : State) (source lo hi : Nat) (t : Int) (b : Bool) :
    Keeps (.events :: messagePieces) (causeField 1 :: entryFields) s ((s.levelEvents source lo hi t).when b (·.raise 1)) :=
  ((s.levelEvents_keeps source lo hi t).trans (State.when_keeps _ _ _ fun _ => State.raise_keeps _ 1)).mono
    (by simp [messagePieces]) (by simp [entryFields])

theorem State.levelShown_keeps (s : State) (t : Int) (g lo hi : Nat) :
    Keeps (.events :: messagePieces) levelFields s (s.levelShown t g lo hi) :=
  (((s.setFlag_keeps _ _).trans (State.setRegs_keeps _ _)).trans (State.levelPosted_keeps _ _ _ _ _ _)).mono
    (by simp) (by simp [levelFields])

theorem State.reg_levelShown {s : State} {t : Int} {g lo hi : Nat} (hhi : hi ≤ 3) :
    (s.levelShown t g lo hi).reg Reg.CAL_THERM_BLK_LEVEL = hi ∧ (s.levelShown t g lo hi).reg Reg.FRM_TEMP_STALE = b2n s.blkStale := by
  have hpost {f : Field} (hf : ∀ k ∈ causeField 1 :: entryFields, k.key ≠ f.key) := fun u : State =>
    (u.levelPosted_keeps 0xFE lo hi t (decide (lo < hi))).2 f hf
  refine ⟨?_, ?_⟩
  · rw [State.levelShown, hpost (by decide), State.reg_setRegs_mem (v := hi) (by simp; decide) (by simp) (by decide)]
    exact Nat.mod_eq_of_lt (Nat.lt_of_le_of_lt hhi (by decide))
  · rw [State.levelShown, hpost (by decide), (State.setRegs_keeps _ _).2 _ (by simp; decide)]
    exact State.reg_setFlag_same s _ _ (by decide) (by decide)

/-- The rise leaves the level, the groups and what is shown. -/
theorem State.blkRises_keeps {s : State} (hact : s.active? = none) (lo hi : Nat) :
    Keeps (.cal :: linkPieces) sleeperFields s (s.blkRises lo hi) ∧ (∀ h, (s.blkRises lo hi).group h = s.group h) ∧
      (s.blkRises lo hi).cal.blkHot = (s.cal.blkHot || decide (lo < 2 ∧ 2 ≤ hi)) := by
  have hmark (u : State) : Keeps [.cal] [] u u.blkMarked :=
    ⟨fun p hp => by cases p <;> simp_all [Piece.same, State.blkMarked], fun _ _ => rfl⟩
  have hrises : ∀ u : State, Keeps linkPieces sleeperFields u (u.when (decide (lo < 3 ∧ hi = 3)) State.allSleep) ∧
      ∀ h, (u.when (decide (lo < 3 ∧ hi = 3)) State.allSleep).group h = u.group h := by
    intro u
    unfold State.when
    split
    · exact u.allSleep_keeps
    · exact ⟨Keeps.refl _ _ u, fun _ => rfl⟩
  rw [State.blkRises_eq hact]
  obtain ⟨hkeeps, hgroups⟩ := hrises (s.when (decide (lo < 2 ∧ 2 ≤ hi)) State.blkMarked)
  have hmarked : Keeps [.cal] [] s (s.when (decide (lo < 2 ∧ 2 ≤ hi)) State.blkMarked) := State.when_keeps s _ _ fun _ => hmark s
  refine ⟨(hmarked.trans hkeeps).mono (by simp) (by simp), fun h => (hgroups h).trans (hmarked.pieces.group (by simp) h), ?_⟩
  rw [show (_ : State).cal = _ from hkeeps.pieces .cal (by decide)]
  by_cases h : lo < 2 ∧ 2 ≤ hi
  · rw [State.when, if_pos (decide_eq_true h), decide_eq_true h, Bool.or_true]
    rfl
  · rw [State.when, if_neg (by simpa using h), decide_eq_false h, Bool.or_false]

/-- What the blanker's level may change while no stripe runs. -/
def blkPieces : List Piece := [.stage, .cal, .events] ++ messagePieces ++ linkPieces

/-- The lanes' sleep is of the lanes' own registers. -/
theorem key_ne_of_sleeper {f : Field} (hf : f.key < 32 * 0x10000 ∨ 32 * 0x14000 ≤ f.key) : ∀ k ∈ sleeperFields, k.key ≠ f.key := by
  intro k hk
  simp only [sleeperFields, List.mem_flatMap, List.mem_map] at hk
  obtain ⟨g, hg, i, hi, rfl⟩ := hk
  have hg := List.mem_range.mp hg
  have hi := List.mem_range.mp hi
  rw [key_laneState]
  omega

theorem State.active?_of_pieces {ps : List Piece} {s t : State} (h : KeepsPieces ps s t) (hp : .stripes ∉ ps) : t.active? = s.active? := by
  have hstripes : t.stripes = s.stripes := h .stripes hp
  rw [State.active?, State.active?, hstripes]

section
variable {s : State} {t : Int} {g lo hi : Nat} (hact : s.active? = none) (htemp : s.blkTemp = some (t, g))
  (hlo : s.reg Reg.CAL_THERM_BLK_LEVEL = lo) (hhi : nextLevel lo t s.blkThr (4 * max 1 (s.reg Reg.CAL_THR_BLK_HYST)) = hi)
include hact htemp hlo hhi

/-- While no stripe runs the level's consequences leave what is shown of it, and the groups. -/
theorem State.blkFollows_shown : Keeps blkPieces sleeperFields (s.levelShown t g lo hi) s.blkFollows ∧
    (∀ h, s.blkFollows.group h = s.group h) ∧
    s.blkFollows.cal.blkHot = ((if hi = 0 then false else s.cal.blkHot) || decide (lo < 2 ∧ 2 ≤ hi)) := by
  have hcool (u : State) : Keeps [.stage] [] u u.coolFollows :=
    ⟨fun p hp => by cases p <;> simp_all [Piece.same, State.coolFollows], fun _ _ => rfl⟩
  have hcooled (u : State) : Keeps [.cal] [] u u.blkCooled :=
    ⟨fun p hp => by cases p <;> simp_all [Piece.same, State.blkCooled], fun _ _ => rfl⟩
  have hshown := s.levelShown_keeps t g lo hi
  have hcal : (s.levelShown t g lo hi).cal = s.cal := hshown.pieces .cal (by decide)
  rw [State.blkFollows_of_some htemp hlo hhi]
  generalize hu : (if hi = 0 then (s.levelShown t g lo hi).blkCooled else s.levelShown t g lo hi) = u
  have hsettled : Keeps [.cal] [] (s.levelShown t g lo hi) u ∧ u.cal.blkHot = (if hi = 0 then false else s.cal.blkHot) := by
    subst hu
    split
    · exact ⟨hcooled _, rfl⟩
    · exact ⟨Keeps.refl _ _ _, by rw [hcal]⟩
  obtain ⟨hkept, hhot⟩ := hsettled
  have huact : u.active? = none :=
    (State.active?_of_pieces hkept.pieces (by decide)).trans ((State.active?_of_pieces hshown.pieces (by decide)).trans hact)
  obtain ⟨hrise, hgroups, hmarked⟩ := State.blkRises_keeps huact lo hi
  refine ⟨((hkept.trans hrise).trans (hcool _)).mono (by decide) (by simp), fun h => ?_, hhot ▸ hmarked⟩
  calc (u.blkRises lo hi).group h
      _ = u.group h := hgroups h
      _ = (s.levelShown t g lo hi).group h := hkept.pieces.group (by decide) h
      _ = s.group h := hshown.pieces.group (by decide) h

end

/-- While no stripe runs the blanker's level leaves the groups (R220). -/
theorem State.blkFollows_keeps {s : State} (hact : s.active? = none) :
    KeepsPieces blkPieces s s.blkFollows ∧ ∀ h, s.blkFollows.group h = s.group h := by
  cases htemp : s.blkTemp with
  | none =>
    rw [State.blkFollows_of_none htemp]
    exact ⟨(s.setFlag_keeps _ _).pieces.mono (by simp), fun _ => rfl⟩
  | some x =>
    obtain ⟨hkeeps, hgroups, -⟩ := State.blkFollows_shown hact htemp rfl rfl
    exact ⟨((s.levelShown_keeps x.1 x.2 _ _).trans hkeeps).pieces.mono (by decide), hgroups⟩

/-- At the limit the blanker's level is 2 or more, and holds the stripes from then on (R218, R406). -/
theorem State.blkFollows_hot {s : State} (hact : s.active? = none) (hlevel : s.reg Reg.CAL_THERM_BLK_LEVEL ≤ 3)
    (hhot : Hotter (s.blkThr 2) s.blkTemp) :
    2 ≤ s.blkFollows.reg Reg.CAL_THERM_BLK_LEVEL ∧ s.blkFollows.reg Reg.FRM_TEMP_STALE = b2n s.blkStale ∧
      s.blkFollows.cal.blkHot = (s.cal.blkHot || decide (s.reg Reg.CAL_THERM_BLK_LEVEL < 2)) := by
  obtain ⟨t, g, htemp, ht⟩ := hhot
  obtain ⟨hkeeps, -, hmarked⟩ := State.blkFollows_shown hact htemp rfl rfl
  set hi := nextLevel (s.reg Reg.CAL_THERM_BLK_LEVEL) t s.blkThr (4 * max 1 (s.reg Reg.CAL_THR_BLK_HYST))
  have hhi : 2 ≤ hi := two_le_nextLevel ht _ _
  obtain ⟨hreg, hstale⟩ := State.reg_levelShown (s := s) (t := t) (g := g) (lo := s.reg Reg.CAL_THERM_BLK_LEVEL)
    (nextLevel_le hlevel t s.blkThr _)
  refine ⟨?_, (hkeeps.2 _ (key_ne_of_sleeper (by decide))).trans hstale, ?_⟩
  · rw [hkeeps.2 _ (key_ne_of_sleeper (by decide)), hreg]
    exact hhi
  · rw [hmarked, if_neg (by omega)]
    simp [hhi]

/-! ### READY, SPARE_READY, HOT and TEMP (R203, R215, R218) -/

section
variable {s : State} {g : Nat} {m : LinkMsg}

/-- What a good STATUS of its kind does. -/
theorem exec_of_status {i : Instr} {k : Nat} {f : State → State} (hexec : exec i s = answer s (s.receive g m fun u => u.when (isStatus m k) f))
    (h : Good s g m) (h6 : byteAt m.bytes 0 = 6) (hk : byteAt m.bytes 2 = k) : exec i s = answer s (f (s.heard g m)) := by
  rw [hexec, State.receive_of_good h, State.when, if_pos (by simp [isStatus, h6, hk])]

/-- A group's report beside its reception. -/
theorem completes_report {i : Instr} {f : Group → Group} {P : Group → Prop} (hg : g < 16)
    (hexec : exec i s = answer s ((s.heard g m).onGroup g f)) (hP : P (f ((s.group g).heard m))) :
    Completes i s fun t => P (t.group g) ∧ Keeps [.link, .counters] [ovf 16] s t := by
  have hkeeps : Keeps [.link, .counters] [ovf 16] s ((s.heard g m).onGroup g f) :=
    ((s.heard_keeps g m).trans (State.onGroup_keeps _ g f)).mono (by decide) (by simp)
  refine completes_of_pieces hexec hkeeps.pieces ⟨?_, hkeeps⟩
  rw [State.group_onGroup_same _ hg, State.group_heard hg]
  exact hP

/-- A group whose own temperature has moved, while no stripe runs. -/
theorem completes_temp {i : Instr} {u : State} {f : Group → Group} {P : State → Prop} (hg : g < 16)
    (hu : Keeps [.link, .counters] [ovf 16] s u) (hact : s.active? = none)
    (hexec : exec i s = answer s (u.onGroup g f).blkFollows)
    (hP : (u.onGroup g f).blkFollows.group g = f (u.group g) → P (u.onGroup g f).blkFollows) : Completes i s P := by
  have hmoved : Keeps [.link, .counters] [ovf 16] s (u.onGroup g f) := (hu.trans (State.onGroup_keeps u g f)).mono (by decide) (by simp)
  obtain ⟨hkeeps, hgroup⟩ := State.blkFollows_keeps ((State.active?_of_pieces hmoved.pieces (by decide)).trans hact)
  have hall : KeepsPieces ([.link, .counters] ++ blkPieces) s (u.onGroup g f).blkFollows :=
    (hmoved.pieces.mono (by decide)).trans (hkeeps.mono (by decide))
  exact completes_of_pieces hexec hall (hP ((hgroup g).trans (u.group_onGroup_same hg f)))

/-- A group in service that turns hot or silent takes the blanker to its limit (R218). -/
theorem hot_of_limit {u : State} {f : Group → Group} (hg : g < 16) (hu : Keeps [.link, .counters] [ovf 16] s u) (hact : s.active? = none)
    (hin : s.inService g = true) (hlevel : s.reg Reg.CAL_THERM_BLK_LEVEL ≤ 3)
    (hf : (f (u.group g)).hot = true ∨ (f (u.group g)).stale = true) :
    let t := (u.onGroup g f).blkFollows
    2 ≤ t.reg Reg.CAL_THERM_BLK_LEVEL ∧ t.reg Reg.FRM_TEMP_STALE = b2n (u.onGroup g f).blkStale ∧
      t.cal.blkHot = (s.cal.blkHot || decide (s.reg Reg.CAL_THERM_BLK_LEVEL < 2)) := by
  have hmoved : Keeps [.link, .counters] [ovf 16] s (u.onGroup g f) := (hu.trans (State.onGroup_keeps u g f)).mono (by decide) (by simp)
  have hgrp : (u.onGroup g f).grp g = s.grp g := hmoved.2 _ (by
    simp only [List.mem_singleton, forall_eq, ovf_key, key_grpState]
    omega)
  have hserves : (u.onGroup g f).inService g = true := by
    rw [State.inService, hgrp]
    exact hin
  have hreg : (u.onGroup g f).reg Reg.CAL_THERM_BLK_LEVEL = s.reg Reg.CAL_THERM_BLK_LEVEL := hmoved.2 _ (by decide)
  have hcal : (u.onGroup g f).cal = s.cal := hmoved.pieces .cal (by decide)
  have hot := State.blkFollows_hot ((State.active?_of_pieces hmoved.pieces (by decide)).trans hact) (hreg ▸ hlevel)
    (State.hotter_of_limit hg hserves (by rwa [State.group_onGroup_same _ hg]))
  rwa [hreg, hcal] at hot

end

theorem clauseGroupReports : ClauseGroupReports := by
  refine ⟨fun s g m p r hgood h6 hk hact hrun hann hend => ?ready, fun s g m w hgood h6 hk hw hlane => ?spare,
    fun s g m hact hin hlevel => ⟨fun hgood h6 hk => ?hot, ?silent⟩, fun s g m hact hgood h4 => ?temp, fun s g hin => ?ignored⟩
  case ready =>
    have hexec := exec_of_status (i := .statusReady g m) rfl hgood h6 hk
    have htakes : (s.heard g m).takeReady g = (s.heard g m).onGroup g fun k => { k with ready := true } := by
      have hact' : (s.heard g m).active? = some p := hact
      simp [State.takeReady, State.when, hact', hrun, hann, hend]
    rw [htakes] at hexec
    exact completes_report (P := fun k => k.ready = true) g.isLt hexec rfl
  case spare =>
    have hexec := exec_of_status (i := .statusSpareReady g m) rfl hgood h6 hk
    refine completes_report (P := fun k => k.switch = some { w with ready := true }) g.isLt hexec ?_
    simp [Group.heard, hw, hlane, msgLane]
  case hot =>
    have hexec := exec_of_status (i := .statusHot g m) rfl hgood h6 hk
    refine completes_temp g.isLt (s.heard_keeps g m) hact hexec fun hgroup => ?_
    obtain ⟨hlevel', -, hmarked⟩ := hot_of_limit g.isLt (s.heard_keeps g m) hact hin hlevel (f := fun k => { k with hot := true }) (.inl rfl)
    exact ⟨congrArg Group.hot hgroup, hlevel', hmarked⟩
  case silent =>
    have hexec : exec (.tempTimeout g) s = answer s (s.onGroup g fun k => { k with stale := true }).blkFollows := by
      simp only [exec, execTempTimeout, State.when, hin, if_true]
    have hself := (Keeps.refl [.link, .counters] [ovf 16] s)
    refine completes_temp g.isLt hself hact hexec fun hgroup => ?_
    obtain ⟨hlevel', hstale, -⟩ := hot_of_limit g.isLt hself hact hin hlevel (f := fun k => { k with stale := true }) (.inr rfl)
    refine ⟨congrArg Group.stale hgroup, hstale.trans ?_, hlevel'⟩
    have hmem : (s.onGroup g fun k => { k with stale := true }).blkStale = true :=
      List.any_eq_true.2 ⟨g, List.mem_range.2 g.isLt, by
        rw [State.group_onGroup_same _ g.isLt]
        exact (Bool.and_true _).trans hin⟩
    rw [hmem]
    rfl
  case temp =>
    have hexec : exec (.tempMessage g m) s = answer s ((s.heard g m).takeTemp g m) := by
      simp only [exec, execTempMessage, State.receive_of_good hgood, State.when, h4, beq_self_eq_true, if_true]
    refine completes_temp g.isLt (s.heard_keeps g m) hact hexec fun hgroup => ?_
    exact ⟨congrArg Group.temp hgroup, congrArg Group.hot hgroup, congrArg Group.stale hgroup⟩
  case ignored =>
    simp only [Ignored, exec, execTempTimeout, State.when, hin, Bool.false_eq_true, if_false, answer_self]

/-- Settles O30: what is refused counts as a loss alone, and a group's reports move its own state and the blanker's level. -/
theorem returnMessagesAndReports : Obligations.ReturnMessagesAndReports := ⟨clauseReturnMessages, clauseGroupReports⟩

end Sys2Proof.Machine
end

section
/-! SUPPORT. What becomes of a Muash group (R225 to R233): its entries in the log, its restart from OFF, its way out of service, a step down, and
the spare that takes a lane. -/
namespace Sys2Proof.Machine

open Sys2Proof

/-! ### The registers of lanes and groups stand outside the log's -/

/-- A register of the lanes or the groups is steady. -/
theorem steady_of_key {f : Field} {k : Nat} (hk : f.key = k) (hlo : 32 * 0x10000 ≤ k) (hhi : k < 32 * 0x14000) : f.steady = true :=
  Field.steady_iff.2 (by omega)

/-- Registers of two groups differ, those of one group by their key. -/
theorem key_ne_of_groupFields {g : Nat} {f : Field} (hf : f.key < 32 * (0x10000 + 0x400 * g) ∨ 32 * (0x10400 + 0x400 * g) ≤ f.key) :
    ∀ k ∈ groupFields g, k.key ≠ f.key := by
  intro k hk
  simp only [groupFields, List.mem_append, List.mem_flatMap, List.mem_range, List.mem_cons, List.not_mem_nil, or_false] at hk
  rcases hk with ⟨i, hi, rfl | rfl | rfl | rfl | rfl | rfl | rfl | rfl⟩ | rfl | rfl | rfl | rfl | rfl | rfl | rfl
  all_goals simp only [key_laneState, key_trained, key_txeqPre, key_txeqMain, key_txeqPost, key_lock, key_prbsBits, key_prbsErrors,
    key_grpState, key_farMax, key_spareFit, key_rate, key_failReason, key_ratePending, key_steppedDown]; omega

/-- A frame may name other fields that stand in the same place. -/
theorem Keeps.of_keys {ps : List Piece} {fs fs' : List Field} {s t : State} (h : Keeps ps fs s t)
    (hf : ∀ k ∈ fs, ∃ e ∈ fs', e.key = k.key) : Keeps ps fs' s t := by
  refine ⟨h.1, fun f hf' => h.2 f fun k hk => ?_⟩
  obtain ⟨e, he, hkey⟩ := hf k hk
  exact hkey ▸ hf' e he

/-! ### The log (R350, R351) -/

section
variable (s : State) (g kind lane : Nat)

theorem State.linkEvent_undisturbed : Undisturbed logPieces s (s.linkEvent g kind lane) := (Undisturbed.refl _ s).event _ _ _ _

theorem State.posted_linkEvent : (s.linkEvent g kind lane).posted 2 g kind := s.posted_event _ _ _ _

/-- An entry posted with its cause raised. -/
def State.linkAlert : State := (s.linkEvent g kind lane).raise 3

theorem State.linkAlert_undisturbed : Undisturbed logPieces s (s.linkAlert g kind lane) := (s.linkEvent_undisturbed g kind lane).raise 3

theorem State.posted_linkAlert : (s.linkAlert g kind lane).posted 2 g kind :=
  State.posted_of_pieces (State.raise_keeps _ 3).pieces (by decide) (s.posted_linkEvent g kind lane)

theorem State.cause_linkAlert : (s.linkAlert g kind lane).reg Reg.GLB_IRQ_CAUSE_LINK = 1 :=
  State.reg_raise_same (n := 3) _ (by decide) (by decide)

end

/-! ### OFF (R225, R234, R405) -/

section
variable {s : State} {g : Nat}

/-- A lane's registers as OFF leaves them. -/
def laneReset (g i : Nat) : List (Field × Nat) :=
  [(Reg.MPH_LSTATE_STATE g i, 0), (Reg.MPH_LSTATE_TRAINED g i, 0), (Reg.MPH_TXEQ_PRE g i, 0), (Reg.MPH_TXEQ_MAIN g i, 0x3F),
    (Reg.MPH_TXEQ_POST g i, 0), (Reg.MPH_PRBS_CTL_LOCK g i, 0), (Reg.MPH_PRBS_BITS g i, 0), (Reg.MPH_PRBS_ERR_ERRORS g i, 0)]

/-- A group's status as OFF leaves it. -/
def statusReset (g : Nat) : List (Field × Nat) :=
  [(Reg.MPH_GRP_STATUS_STATE g, grpOff), (Reg.MPH_GRP_STATUS_FAR_MAX g, 0), (Reg.MPH_GRP_STATUS_SPARE_FIT g, 0)]

/-- The lanes of a group at rest. -/
def State.lanesOff (s : State) (g : Nat) : State :=
  (s.setRegs ((List.range 11).flatMap (laneReset g))).forAll (List.range 11) fun i t => t.onLine (lineKey g i) fun l => { l with bits := 0 }

/-- A group as OFF leaves it. -/
def Group.off (k : Group) (fast : Bool) : Group :=
  { k with held := [], results := [], failed := [], reports := [], ready := false, switch := none, switchDue := [], l2Exit := false, fast := fast, rateChange := false, restartDue := false, retrainLanes := [], rxSeq := none, loss := false, unconfirmed := [], stepDue := false, agreed := 0, stepLater := false }

theorem State.groupOff_eq (s : State) (g : Nat) (fast : Bool) :
    s.groupOff g fast = ((s.lanesOff g).setRegs (statusReset g)).onGroup g fun k => k.off fast := rfl

theorem State.group_lanesOff (s : State) (g h : Nat) : (s.lanesOff g).group h = s.group h :=
  State.forAll_induction (P := fun u => u.group h = s.group h) _ (s.group_setRegs _ h) fun _ _ _ hu => hu

/-- What the lanes of a group reset. -/
theorem mem_lanesReset {g : Nat} {k : Field} (hk : k ∈ ((List.range 11).flatMap (laneReset g)).map Prod.fst) :
    k ∈ groupFields g ∧ k.key < 32 * (0x103C0 + 0x400 * g) := by
  rw [List.map_flatMap, List.mem_flatMap] at hk
  obtain ⟨i, hi, hk⟩ := hk
  have hlt := List.mem_range.1 hi
  simp only [laneReset, List.map_cons, List.map_nil, List.mem_cons, List.not_mem_nil, or_false] at hk
  refine ⟨List.mem_append_left _ (List.mem_flatMap.2 ⟨i, hi, by simpa using hk⟩), ?_⟩
  rcases hk with rfl | rfl | rfl | rfl | rfl | rfl | rfl | rfl
  all_goals simp only [key_laneState, key_trained, key_txeqPre, key_txeqMain, key_txeqPost, key_lock, key_prbsBits, key_prbsErrors]; omega

theorem State.lanesOff_keeps (s : State) (g : Nat) : Keeps [.link] (((List.range 11).flatMap (laneReset g)).map Prod.fst) s (s.lanesOff g) := by
  have hlines (u : State) : Keeps [.link] [] u (u.forAll (List.range 11) fun i t => t.onLine (lineKey g i) fun l => { l with bits := 0 }) :=
    Keeps.forAll _ _ fun i v => ⟨fun p hp => by cases p <;> simp_all [Piece.same, State.onLine], fun _ _ => rfl⟩
  exact ((s.setRegs_keeps _).trans (hlines _)).mono (by simp) (by rw [List.append_nil]; exact List.Subset.refl _)

theorem State.groupOff_keeps (s : State) (g : Nat) (fast : Bool) : Keeps [.link] (groupFields g) s (s.groupOff g fast) := by
  rw [State.groupOff_eq]
  have hlanes := (s.lanesOff_keeps g).mono (List.Subset.refl _) fun k hk => (mem_lanesReset hk).1
  exact ((hlanes.trans (State.setRegs_keeps _ _)).trans (State.onGroup_keeps _ _ _)).mono (by simp) (by simp [statusReset, groupFields])

theorem State.grp_groupOff (s : State) (g : Nat) (fast : Bool) : (s.groupOff g fast).grp g = grpOff := by
  rw [State.groupOff_eq, State.grp, State.reg_onGroup]
  exact State.reg_setRegs_mem (v := grpOff) (by simp [statusReset]) (by simp [statusReset]) (by simp [Reg.MPH_GRP_STATUS_STATE])

/-- OFF leaves what the group shows of its rate, and what software asked for (R234). -/
theorem State.reg_groupOff (s : State) (g : Nat) (fast : Bool) {f : Field} (hlo : 32 * (0x103C0 + 0x400 * g) ≤ f.key)
    (hstatus : f.key ≠ (Reg.MPH_GRP_STATUS_STATE g).key ∧ f.key ≠ (Reg.MPH_GRP_STATUS_FAR_MAX g).key ∧
      f.key ≠ (Reg.MPH_GRP_STATUS_SPARE_FIT g).key) : (s.groupOff g fast).reg f = s.reg f := by
  rw [State.groupOff_eq, State.reg_onGroup, (State.setRegs_keeps _ _).2 f ?_, (s.lanesOff_keeps g).2 f fun k hk => ?_]
  · have := (mem_lanesReset hk).2
    omega
  · simp only [statusReset, List.map_cons, List.map_nil, List.mem_cons, List.not_mem_nil, or_false, forall_eq_or_imp, forall_eq]
    exact ⟨hstatus.1.symm, hstatus.2.1.symm, hstatus.2.2.symm⟩

theorem State.group_groupOff (s : State) {g : Nat} (hg : g < 16) (fast : Bool) : (s.groupOff g fast).group g = (s.group g).off fast := by
  rw [State.groupOff_eq, State.group_onGroup_same _ hg, State.group_setRegs, State.group_lanesOff]

theorem State.retrain_keeps (s : State) (g : Nat) :
    Keeps [.link, .counters] (ovf 17 :: Reg.CAL_STATUS_DUE :: groupFields g) s (s.retrain g) :=
  (((s.groupOff_keeps g true).trans (State.count_keeps _ 17 5 1)).trans (State.setReg_keeps _ Reg.CAL_STATUS_DUE _)).mono (by simp)
    (by simp)

/-- The count and the item due leave the lanes. -/
theorem State.retrain_undisturbed (s : State) (g : Nat) : Undisturbed logPieces (s.groupOff g true) (s.retrain g) :=
  ((Undisturbed.refl _ _).count 17 5 1).setReg Reg.CAL_STATUS_DUE _

theorem State.grp_retrain (s : State) {g : Nat} (hg : g < 16) : (s.retrain g).grp g = grpOff :=
  ((s.retrain_undisturbed g).grp hg).trans (s.grp_groupOff g true)

theorem State.reg_retrain (s : State) {g : Nat} (hg : g < 16) {f : Field} (hlo : 32 * (0x103C0 + 0x400 * g) ≤ f.key) (hhi : f.key < 32 * 0x14000)
    (hstatus : f.key ≠ (Reg.MPH_GRP_STATUS_STATE g).key ∧ f.key ≠ (Reg.MPH_GRP_STATUS_FAR_MAX g).key ∧
      f.key ≠ (Reg.MPH_GRP_STATUS_SPARE_FIT g).key) : (s.retrain g).reg f = s.reg f :=
  ((s.retrain_undisturbed g).regs f (steady_of_key rfl (by omega) hhi)).trans (s.reg_groupOff g true hlo hstatus)

theorem State.group_retrain (s : State) {g : Nat} (hg : g < 16) : (s.retrain g).group g = (s.group g).off true :=
  ((s.retrain_undisturbed g).group (by decide) g).trans (s.group_groupOff hg true)

/-- Lane deskew falls due (R405). -/
theorem State.due_retrain (s : State) (g : Nat) : bitOf ((s.retrain g).reg Reg.CAL_STATUS_DUE) 0 = true :=
  bitOf_setReg (f := Reg.CAL_STATUS_DUE) (by decide) (by decide) _

/-! ### Out of service (R225, R233) -/

theorem State.groupOut_eq (s : State) (g reason : Nat) : ∃ f : Group → Group, s.groupOut g reason =
    (((s.setLanes g laneOff (List.range 10)).setRegs [(Reg.MPH_GRP_STATUS_STATE g, grpOut), (Reg.MPH_GRP_STATUS_FAIL_REASON g, reason),
      (Reg.MPH_GRP_STATUS_SPARE_FIT g, 0)]).onGroup g f).linkAlert g 5 0xFF := ⟨_, rfl⟩

/-- A group goes out with its reason, and says so (R225, R351). -/
theorem State.groupOut_shows (s : State) {g reason : Nat} (hg : g < 16) (hr : reason < 16) :
    (s.groupOut g reason).grp g = grpOut ∧ (s.groupOut g reason).reg (Reg.MPH_GRP_STATUS_FAIL_REASON g) = reason ∧
      (s.groupOut g reason).reg Reg.GLB_IRQ_CAUSE_LINK = 1 ∧ (s.groupOut g reason).posted 2 g 5 := by
  obtain ⟨f, hf⟩ := s.groupOut_eq g reason
  rw [hf]
  have halert := fun u : State => u.linkAlert_undisturbed g 5 0xFF
  refine ⟨((halert _).grp hg).trans ?_, ((halert _).regs _ (steady_of_key (key_failReason g) (by omega) (by omega))).trans ?_,
    State.cause_linkAlert _ _ _ _, State.posted_linkAlert _ _ _ _⟩
  · rw [State.grp, State.reg_onGroup]
    exact State.reg_setRegs_mem (v := grpOut) (by simp) (by simp) (by simp [Reg.MPH_GRP_STATUS_STATE])
  · rw [State.reg_onGroup]
    exact (State.reg_setRegs_mem (v := reason) (by simp) (by simp) (by simp [Reg.MPH_GRP_STATUS_FAIL_REASON])).trans (Nat.mod_eq_of_lt hr)

theorem State.groupOut_linkWork (s : State) (g reason : Nat) : LinkWork s (s.groupOut g reason) :=
  (((((LinkWork.refl s).setRegs _).setRegs _).onGroup g _).event _ _ _ _).raise 3

/-! ### A step down (R216, R233) -/

theorem State.stepDown_out {s : State} {g : Nat} (h : s.trainRate g = 0) : s.stepDown g = s.groupOut g 4 := by
  simp [State.stepDown, h]

/-- Above rate 0 a step down restarts the group one rate lower (R233). -/
theorem State.stepDown_shows {s : State} {g n : Nat} (hg : g < 16) (h : s.trainRate g = n) (hn : n ≠ 0) (hlt : n ≤ 8) :
    (s.stepDown g).grp g = grpOff ∧ (s.stepDown g).reg (Reg.MPH_GRP_STATUS_STEPPED_DOWN g) = 1 ∧
      (s.stepDown g).reg (Reg.MPH_GRP_STATUS_RATE g) = n - 1 ∧ (s.stepDown g).reg Reg.GLB_IRQ_CAUSE_LINK = 1 ∧
      (s.stepDown g).posted 2 g 2 := by
  have heq : s.stepDown g = ((s.groupOff g true).setRegs [(Reg.MPH_GRP_STATUS_STEPPED_DOWN g, 1),
      (Reg.MPH_GRP_STATUS_RATE g, n - 1)]).linkAlert g 2 0xFF := by
    rw [State.stepDown, h, if_neg hn]
    rfl
  have halert := fun u : State => u.linkAlert_undisturbed g 2 0xFF
  rw [heq]
  refine ⟨((halert _).grp hg).trans ?_, ((halert _).regs _ (steady_of_key (key_steppedDown g) (by omega) (by omega))).trans ?_,
    ((halert _).regs _ (steady_of_key (key_rate g) (by omega) (by omega))).trans ?_, State.cause_linkAlert _ _ _ _,
    State.posted_linkAlert _ _ _ _⟩
  · exact ((State.setRegs_keeps _ _).2 _ (by simp)).trans (s.grp_groupOff g true)
  · exact State.reg_setRegs_mem (v := 1) (by simp) (by simp) (by simp [Reg.MPH_GRP_STATUS_STEPPED_DOWN])
  · refine (State.reg_setRegs_mem (v := n - 1) (by simp) (by simp) (by simp [Reg.MPH_GRP_STATUS_RATE])).trans ?_
    exact Nat.mod_eq_of_lt (by simp only [Reg.MPH_GRP_STATUS_RATE]; omega)

end

end Sys2Proof.Machine
end

section
/-! SUPPORT. Refused frames (R211, R212, R214), the lanes a group loses (R214, R232, R238) and the switch-over to the spare (R213 to R216, R382). -/
namespace Sys2Proof.Machine

open Sys2Proof

/-! ### NAKs (R211, R212) -/

theorem State.keepNak_keeps (s : State) (lane : Nat) : Keeps [.link] [] s (s.keepNak lane) :=
  ⟨fun p hp => by cases p <;> simp_all [Piece.same, State.keepNak], fun _ _ => rfl⟩

theorem State.nakBogus_keeps (s : State) : Keeps [.counters] [Reg.FRM_NAK_BOGUS, ovf 16] s s.nakBogus :=
  ((s.addReg_keeps _ 1).trans (State.count_keeps _ 16 3 1)).mono (by simp) (by simp)

theorem State.reg_nakBogus (s : State) :
    s.nakBogus.reg Reg.FRM_NAK_BOGUS = min (2 ^ Reg.FRM_NAK_BOGUS.width - 1) (s.reg Reg.FRM_NAK_BOGUS + 1) :=
  (State.reg_count _ _ _ _ (by decide)).trans (s.reg_addReg_same 1 (by decide))

/-- Registers of the ledger's own use that a stripe put back may change. -/
def ledgerFields : List Field := [Reg.LDG_PEAK_ENTRIES, Reg.LDG_STATUS_OVERFLOW, ovf 15]

theorem State.putStripe_keeps (s : State) (q : Stripe) : Keeps [.stripes, .counters] ledgerFields s (s.putStripe q) := by
  unfold State.putStripe
  split
  · exact Keeps.refl _ _ s
  · extract_lets t u v
    have hu : Keeps [.stripes, .counters] ledgerFields s u :=
      ((((s.onStripe_keeps q.par.id fun _ => q).trans (State.count_keeps _ 15 0 _)).trans (State.count_keeps _ 15 2 _)).trans
        (State.count_keeps _ 15 6 _)).mono (by simp) (by simp [ledgerFields])
    have hv : Keeps [.stripes, .counters] ledgerFields s v :=
      ((hu.trans (State.count_keeps _ 15 7 _)).trans (State.setReg_keeps _ _ _)).mono (by simp) (by simp [ledgerFields])
    refine (hv.trans (State.when_keeps (ps := [.counters]) (fs := ledgerFields) v _ _ fun _ => ?_)).mono (by simp) (by simp)
    exact ((v.setReg_keeps _ _).trans (State.count_keeps _ 15 5 1)).mono (by simp) (by simp [ledgerFields])

theorem State.amendFrame_keeps (s : State) (id : Nat) (r : Run) (n cause : Nat) (sel : Nat → Bool) :
    Keeps [.stripes, .counters] ledgerFields s (s.amendFrame id r n cause sel) := by
  unfold State.amendFrame
  split
  · exact Keeps.refl _ _ s
  · exact s.putStripe_keeps _

/-- The stripe whose frame n went without dose on a lane. -/
def Stripe.frameLost (q : Stripe) (n lane : Nat) : Stripe := { q.logLost ⟨n, 1, [lane]⟩ with lostFrames := q.lostFrames + 1 }

/-- The dose of a frame given back, and the frame logged as lost. -/
def State.amendLost (s : State) (p : Stripe) (r : Run) (n lane : Nat) : State :=
  ((s.amendFrame p.par.id r n causeLost fun l => l == lane).lostVisits Reg.LDG_VIS_LOST_VISITS 1).onStripe p.par.id
    fun q => q.frameLost n lane

theorem State.nakAmend_eq (s : State) (p : Stripe) (r : Run) (n lane : Nat) : s.nakAmend p r n lane =
    ((((s.amendLost p r n lane).addReg Reg.BEM_LOST_FRAMES 1).addReg Reg.FRM_NAK_COUNT 1).count 14 3 1).count 16 2 1 := rfl

section
variable {s : State} {p : Stripe}

theorem State.amendLost_keeps (r : Run) (n lane : Nat) :
    Keeps [.stripes, .counters] (Reg.LDG_VIS_LOST_VISITS :: ledgerFields) s (s.amendLost p r n lane) :=
  ((((s.amendFrame_keeps _ _ _ _ _).trans (State.addReg_keeps _ _ _)).trans (State.count_keeps _ 15 1 _)).trans
    (State.onStripe_keeps _ _ _)).mono (by simp) (by simp [ledgerFields])

/-- A NAK amended shows in NAK_COUNT, not in NAK_BOGUS. -/
theorem State.reg_nakAmend (r : Run) (n lane : Nat) :
    (s.nakAmend p r n lane).reg Reg.FRM_NAK_COUNT = min (2 ^ Reg.FRM_NAK_COUNT.width - 1) (s.reg Reg.FRM_NAK_COUNT + 1) ∧
    (s.nakAmend p r n lane).reg Reg.FRM_NAK_BOGUS = s.reg Reg.FRM_NAK_BOGUS := by
  have hlost := ((State.amendLost_keeps (s := s) (p := p) r n lane).trans (State.addReg_keeps _ Reg.BEM_LOST_FRAMES 1)).2
  rw [State.nakAmend_eq]
  simp only [State.reg_count _ _ _ _ (show (ovf 14).key ≠ Reg.FRM_NAK_COUNT.key by decide),
    State.reg_count _ _ _ _ (show (ovf 16).key ≠ Reg.FRM_NAK_COUNT.key by decide),
    State.reg_count _ _ _ _ (show (ovf 14).key ≠ Reg.FRM_NAK_BOGUS.key by decide),
    State.reg_count _ _ _ _ (show (ovf 16).key ≠ Reg.FRM_NAK_BOGUS.key by decide)]
  refine ⟨(State.reg_addReg_same _ 1 (by decide)).trans ?_, ((State.addReg_keeps _ _ 1).2 _ (by decide)).trans (hlost _ (by decide))⟩
  rw [hlost _ (by decide)]

/-- The stripe counts the frame as lost. -/
theorem Now.nakAmend (hp : s.stripe? p.par.id = some p) (r : Run) (n lane : Nat) :
    Now (s.nakAmend p r n lane) p.par.id fun q => q.lostFrames = p.lostFrames + 1 := by
  have hfree : DoseFree fun q : Stripe => q.lostFrames = p.lostFrames := fun q q' hcore h => (congrArg Stripe.lostFrames hcore).trans h
  have hamended : Now ((s.amendFrame p.par.id r n causeLost fun l => l == lane).lostVisits Reg.LDG_VIS_LOST_VISITS 1) p.par.id
      fun q => q.lostFrames = p.lostFrames :=
    (Now.amendFrame (P := fun q => q.lostFrames = p.lostFrames) ⟨p, hp, rfl⟩ hfree r n causeLost _).undisturbed
      ((Undisturbed.refl logPieces _).lostVisits Reg.LDG_VIS_LOST_VISITS 1)
  have hlost : Now (s.amendLost p r n lane) p.par.id fun q => q.lostFrames = p.lostFrames + 1 :=
    Now.onStripe (hamended.imp fun q hq => congrArg (· + 1) hq) fun _ => rfl
  have hcounted : Keeps [.counters] [Reg.BEM_LOST_FRAMES, Reg.FRM_NAK_COUNT, ovf 14, ovf 16] (s.amendLost p r n lane) (s.nakAmend p r n lane) :=
    ((((State.addReg_keeps _ _ _).trans (State.addReg_keeps _ _ _)).trans (State.count_keeps _ 14 3 1)).trans
      (State.count_keeps _ 16 2 1)).mono (by simp) (by simp)
  exact hlost.congr (hcounted.pieces .stripes (by decide))

theorem State.nakAmend_pieces (r : Run) (n lane : Nat) : KeepsPieces [.stripes, .counters] s (s.nakAmend p r n lane) :=
  (((((State.amendLost_keeps r n lane).trans (State.addReg_keeps _ _ _)).trans (State.addReg_keeps _ _ _)).trans
    (State.count_keeps _ 14 3 1)).trans (State.count_keeps _ 16 2 1)).pieces.mono (by simp)

end

/-! ### What a NAK is taken for (R211, R212) -/

section
variable {s : State} {lane n : Nat} {p : Stripe} {r : Run}

theorem State.nakFrame_idle (h : s.active? = none) : s.nakFrame lane n = s.nakBogus := by simp [State.nakFrame, h]

/-- A NAK in time, of a frame whose dose was accounted, is amended. -/
theorem State.nakFrame_amends {f : FrameLog} (hact : s.active? = some p) (hrun : p.run = some r) (hlaunched : r.launched n = true)
    (hlane : lane < 128) (hf : (p.frames.find? fun f => f.tick == n) = some f) (hlost : lane ∉ f.lost) (hacc : f.accounted = true)
    (hpast : r.notPast (n + p.bv.nakWindow) s.now = true) : s.nakFrame lane n = s.nakAmend p r n lane := by
  simp [State.nakFrame, hact, hrun, hlaunched, Nat.not_le.2 hlane, hf, hlost, hacc, hpast]

/-- A lane of an older frame that went without dose has nothing to give back. -/
theorem State.nakFrame_older (hact : s.active? = some p) (hrun : p.run = some r) (hframes : ∀ f ∈ p.frames, f.tick ≠ n)
    (holder : ∃ e ∈ p.older, e.1 = n ∧ lane ∈ e.2) : s.nakFrame lane n = s.nakBogus := by
  have hnone : (p.frames.find? fun f => f.tick == n) = none := List.find?_eq_none.2 fun f hf => by simpa using hframes f hf
  have hany : (p.older.any fun e => e.1 == n && e.2.contains lane) = true := by simpa using holder
  simp only [State.nakFrame, hact, hrun, hnone, if_pos hany, ite_self]

end

section
variable {s : State} {g : Nat} {m : LinkMsg}

/-- A state that has heard a NAK of a lane and kept it. -/
def State.heardNak (s : State) (g : Nat) (m : LinkMsg) : State := (s.heard g m).keepNak (msgLane m)

theorem State.heardNak_keeps : Keeps [.link, .counters] [ovf 16] s (s.heardNak g m) :=
  ((s.heard_keeps g m).trans (State.keepNak_keeps _ _)).mono (by decide) (by simp)

/-- A NAK that names no accounted dose is kept for NAK_LIMIT and counted (R212, R214). -/
theorem completes_nakBogus {i : Instr} (hexec : exec i s = answer s (s.heardNak g m).nakBogus) : Completes i s fun t =>
    t.reg Reg.FRM_NAK_BOGUS = min (2 ^ Reg.FRM_NAK_BOGUS.width - 1) (s.reg Reg.FRM_NAK_BOGUS + 1) ∧
      (byteAt m.bytes 3, s.now) ∈ t.link.naks ∧ t.stripes = s.stripes ∧ Keeps [.link, .counters] [Reg.FRM_NAK_BOGUS, ovf 16] s t := by
  have hheard := State.heardNak_keeps (s := s) (g := g) (m := m)
  have hkeeps : Keeps [.link, .counters] [Reg.FRM_NAK_BOGUS, ovf 16] s (s.heardNak g m).nakBogus :=
    (hheard.trans (State.nakBogus_keeps _)).mono (by decide) (by simp)
  refine completes_of_pieces hexec hkeeps.pieces ⟨?_, ?_, hkeeps.pieces .stripes (by decide), hkeeps⟩
  · rw [State.reg_nakBogus, hheard.2 _ (by decide)]
  · have hlink : (s.heardNak g m).nakBogus.link = (s.heardNak g m).link := (State.nakBogus_keeps _).pieces .link (by decide)
    rw [hlink]
    exact List.mem_cons_self

/-- A good NAK is kept, and taken for the frame it names. -/
theorem exec_statusNak {g : Fin 16} (hgood : Good s g m) (h6 : byteAt m.bytes 0 = 6) (hk : byteAt m.bytes 2 = 1) :
    exec (.statusNak g m) s = answer s ((s.heardNak g m).nakFrame (byteAt m.bytes 3) (leAt m.bytes 4 4)) :=
  exec_of_status (f := fun u => u.takeNak m) rfl hgood h6 hk

end

/-! ### Lanes that are asked to switch, and lanes that sleep (R214, R238) -/

section
variable {s : State} {lane : Nat}

/-- A lane that is asked to switch waits behind those asked for before it. -/
theorem State.askSwitch_shows (hg : lane / 8 < 16) (hready : s.grp (lane / 8) = grpReady) (hnew : lane ∉ (s.group (lane / 8)).switchDue) :
    ((s.askSwitch lane).group (lane / 8)).switchDue = (s.group (lane / 8)).switchDue ++ [lane] ∧
      (s.askSwitch lane).link.naks = s.link.naks ∧ Keeps [.link] [] s (s.askSwitch lane) := by
  have hasks : s.askSwitch lane = s.onGroup (lane / 8) fun k => { k with switchDue := k.switchDue ++ [lane] } := by
    simp [State.askSwitch, State.when, hready, hnew]
  rw [hasks]
  exact ⟨congrArg Group.switchDue (s.group_onGroup_same hg _), rfl, s.onGroup_keeps _ _⟩

/-- The NAKs of a lane are forgotten as it is asked to switch. -/
def State.forgetNaks (s : State) (lane : Nat) : State :=
  { s with link := { s.link with naks := s.link.naks.filter fun e => e.1 != lane } }

theorem State.forgetNaks_keeps (s : State) (lane : Nat) : Keeps [.link] [] s (s.forgetNaks lane) :=
  ⟨fun p hp => by cases p <;> simp_all [Piece.same, State.forgetNaks], fun _ _ => rfl⟩

theorem completes_nakLimit {lane : Fin 128} (hready : s.grp (lane.val / 8) = grpReady)
    (hnew : lane.val ∉ (s.group (lane.val / 8)).switchDue) (hlimit : 0 < s.reg Reg.FRM_SPARE_CTL_NAK_LIMIT)
    (hnaks : s.reg Reg.FRM_SPARE_CTL_NAK_LIMIT ≤
      (s.link.naks.filter fun e => e.1 == lane.val && decide (s.now ≤ e.2 + millisecond)).length) :
    Completes (.nakLimitReached lane) s fun t =>
      (t.group (lane.val / 8)).switchDue = (s.group (lane.val / 8)).switchDue ++ [lane.val] ∧
        t.link.naks = s.link.naks.filter (fun e => e.1 != lane.val) ∧ Keeps [.link] [] s t := by
  have hexec : exec (.nakLimitReached lane) s = answer s ((s.forgetNaks lane.val).askSwitch lane.val) := by
    simp only [exec, execNakLimitReached, State.when, if_pos (decide_eq_true (And.intro hlimit hnaks))]
    rfl
  have hforgot := s.forgetNaks_keeps lane.val
  obtain ⟨hdue, hnone, hkeeps⟩ := State.askSwitch_shows (s := s.forgetNaks lane.val) (by omega) hready hnew
  have hall : Keeps [.link] [] s ((s.forgetNaks lane.val).askSwitch lane.val) := (hforgot.trans hkeeps).mono (by simp) (by simp)
  exact completes_of_pieces hexec hall.pieces ⟨hdue, hnone, hall⟩

theorem ignored_nakLimit {lane : Fin 128} (hlimit : s.reg Reg.FRM_SPARE_CTL_NAK_LIMIT = 0) : Ignored (.nakLimitReached lane) s := by
  simp [Ignored, exec, execNakLimitReached, State.when, hlimit, answer_self]

/-! ### A transmitter that fails (R214) -/

/-- Without the spare a lane is carried by its own slot. -/
theorem State.laneSlot_own {g i : Nat} (hused : s.flag (spareUsed g) = false) (hi : i < 8) : s.laneSlot (8 * g + i) = i := by
  have hg : (8 * g + i) / 8 = g := by omega
  simp [State.laneSlot, hg, hused]
  omega

/-- The lane that a transmitter's slot carries while the spare carries none. -/
theorem State.find_laneSlot {g : Nat} (hused : s.flag (spareUsed g) = false) (slot : Nat) :
    ((List.range 8).find? fun i => s.laneSlot (8 * g + i) == slot) = if slot < 8 then some slot else none := by
  have hsame : ((List.range 8).find? fun i => s.laneSlot (8 * g + i) == slot) = (List.range 8).find? fun i => i == slot := by
    refine List.find?_congr fun i hi => ?_
    rw [State.laneSlot_own hused (List.mem_range.1 hi)]
  rw [hsame]
  split
  case isTrue h =>
    have hown : ∀ slot < 8, (List.range 8).find? (fun i => i == slot) = some slot := by decide
    exact hown slot h
  case isFalse h =>
    refine List.find?_eq_none.2 fun i hi => ?_
    have := List.mem_range.1 hi
    simp only [beq_iff_eq]
    omega

theorem completes_transmitterFault {g : Fin 16} (hready : s.grp g = grpReady) (hused : s.flag (spareUsed g) = false) {i : Fin 8}
    (hnew : 8 * g.val + i ∉ (s.group g).switchDue) : Completes (.transmitterFault g ⟨i, by omega⟩) s fun t =>
      (t.group g).switchDue = (s.group g).switchDue ++ [8 * g.val + i] ∧ Keeps [.link] [] s t := by
  have hg : (8 * g.val + i) / 8 = g := by omega
  have hexec : exec (.transmitterFault g ⟨i, by omega⟩) s = answer s (s.askSwitch (8 * g + i)) := by
    simp only [exec, execTransmitterFault, State.find_laneSlot hused, if_pos i.isLt]
    rfl
  obtain ⟨hdue, -, hkeeps⟩ := State.askSwitch_shows (s := s) (lane := 8 * g + i) (by omega) (by rwa [hg]) (by rwa [hg])
  rw [hg] at hdue
  exact completes_of_pieces hexec hkeeps.pieces ⟨hdue, hkeeps⟩

/-- The spare that carries no lane has none to lose. -/
theorem ignored_transmitterFault {g : Fin 16} (hused : s.flag (spareUsed g) = false) : Ignored (.transmitterFault g 8) s := by
  show execTransmitterFault g 8 s = _
  rw [execTransmitterFault, show ((8 : Fin 9).val) = 8 from rfl, State.find_laneSlot hused]
  rfl

end

/-! ### LANE_DOWN (R214, R232, R238) -/

section
variable {s : State} {g : Nat} {m : LinkMsg}

theorem State.heard_undisturbed (s : State) (g : Nat) (m : LinkMsg) : Undisturbed lanePieces s (s.heard g m) :=
  ((s.onGroup_undisturbed g _).mono (by simp [lanePieces])).trans
    (((Undisturbed.refl logPieces _).count 16 4 1).mono logPieces_subset_lanePieces)

/-- A message leaves what is asked of every group. -/
theorem switchDue_heard (h : Nat) : ((s.heard g m).group h).switchDue = (s.group h).switchDue := by
  rcases s.group_heard_cases g h m with hsame | hheard
  · rw [hsame]
  · rw [hheard]
    rfl

/-- The group of a lane and its slot's state stand through a message. -/
theorem State.laneState_heard {lane : Nat} (hlane : lane < 128) : (s.heard g m).grp (lane / 8) = s.grp (lane / 8) ∧
    (s.heard g m).reg (Reg.MPH_LSTATE_STATE (lane / 8) ((s.heard g m).laneSlot lane)) =
      s.reg (Reg.MPH_LSTATE_STATE (lane / 8) (s.laneSlot lane)) := by
  have hheard := s.heard_undisturbed g m
  have hslot := s.laneSlot_lt lane
  rw [hheard.laneSlot hlane]
  exact ⟨hheard.grp (by omega), hheard.regs _ (steady_of_key (key_laneState _ _) (by omega) (by omega))⟩

/-- An entry changes the log's pieces and fields. -/
theorem State.event_keepsLog (s : State) (type source kind detail : Nat) :
    Keeps eventPieces eventFields s (s.event type source kind detail) :=
  ((s.event_keeps type source kind detail).mono (by decide) (List.Subset.refl _)).of_keys (by decide)

/-- A lane that went down while it slept is kept for its next exit, and logged (R238; log 17). -/
theorem State.sleepingLaneDown_shows (s : State) {g : Nat} (hg : g < 16) (slot lane : Nat) :
    slot ∈ ((s.sleepingLaneDown g slot lane).group g).retrainLanes ∧ (s.sleepingLaneDown g slot lane).posted 2 g 6 ∧
      Keeps (.link :: eventPieces) eventFields s (s.sleepingLaneDown g slot lane) := by
  refine ⟨?_, State.posted_linkEvent _ _ _ _,
    ((s.onGroup_keeps g _).trans (State.event_keepsLog _ _ _ _ _)).mono (by simp) (by simp)⟩
  rw [State.sleepingLaneDown, (State.linkEvent_undisturbed _ g 6 lane).group (by decide), State.group_onGroup_same _ hg]
  exact mem_insertAsc _ _

section
variable {g : Fin 16} (hgood : Good s g m) (h6 : byteAt m.bytes 0 = 6) (hk : byteAt m.bytes 2 = 4)
include hgood h6 hk

theorem exec_statusLaneDown : ∃ frames, exec (.statusLaneDown g m) s = answer s ((s.heard g m).takeLaneDown g m frames) :=
  ⟨_, exec_of_status (f := fun u => u.takeLaneDown g m (s.sinceGood g m)) rfl hgood h6 hk⟩

theorem exec_laneDown (hlane : byteAt m.bytes 3 < 128) :
    exec (.statusLaneDown g m) s = answer s ((s.heard g m).laneDown (byteAt m.bytes 3)) := by
  obtain ⟨frames, hexec⟩ := exec_statusLaneDown hgood h6 hk
  have hne : byteAt m.bytes 3 ≠ 0xFF := by omega
  rw [hexec]
  simp [State.takeLaneDown, msgLane, hne, State.when, hlane]

theorem exec_clockLost (hlane : byteAt m.bytes 3 = 0xFF) :
    ∃ frames, exec (.statusLaneDown g m) s = answer s ((s.heard g m).clockLost g frames) := by
  obtain ⟨frames, hexec⟩ := exec_statusLaneDown hgood h6 hk
  exact ⟨frames, hexec.trans (congrArg (answer s) (if_pos hlane))⟩

/-- A lane of a READY group that goes down while it is awake is to be switched (R214). -/
theorem completes_laneDown_awake (hlane : byteAt m.bytes 3 < 128) (hready : s.grp (byteAt m.bytes 3 / 8) = grpReady)
    (h1 : s.reg (Reg.MPH_LSTATE_STATE (byteAt m.bytes 3 / 8) (s.laneSlot (byteAt m.bytes 3))) ≠ laneL1)
    (h2 : s.reg (Reg.MPH_LSTATE_STATE (byteAt m.bytes 3 / 8) (s.laneSlot (byteAt m.bytes 3))) ≠ laneL2)
    (hnew : byteAt m.bytes 3 ∉ (s.group (byteAt m.bytes 3 / 8)).switchDue) : Completes (.statusLaneDown g m) s fun t =>
      (t.group (byteAt m.bytes 3 / 8)).switchDue = (s.group (byteAt m.bytes 3 / 8)).switchDue ++ [byteAt m.bytes 3] ∧
        Keeps [.link, .counters] [ovf 16] s t := by
  have hexec := exec_laneDown hgood h6 hk hlane
  obtain ⟨hready', hstate⟩ := State.laneState_heard (s := s) (g := g) (m := m) hlane
  have hasks : (s.heard g m).laneDown (byteAt m.bytes 3) = (s.heard g m).askSwitch (byteAt m.bytes 3) := by
    simp only [State.laneDown, hready', hready, if_true, hstate, if_neg (not_or.2 ⟨h1, h2⟩)]
  rw [hasks] at hexec
  obtain ⟨hdue, -, hkeeps⟩ := State.askSwitch_shows (s := s.heard g m) (lane := byteAt m.bytes 3) (by omega) (hready'.trans hready)
    (by rwa [switchDue_heard])
  have hall : Keeps [.link, .counters] [ovf 16] s ((s.heard g m).askSwitch (byteAt m.bytes 3)) :=
    ((s.heard_keeps g m).trans hkeeps).mono (by decide) (by simp)
  exact completes_of_pieces hexec hall.pieces ⟨by rw [hdue, switchDue_heard], hall⟩

/-- One that sleeps is logged, and retrained later (R238). -/
theorem completes_laneDown_asleep (hlane : byteAt m.bytes 3 < 128) (hready : s.grp (byteAt m.bytes 3 / 8) = grpReady)
    (hsleeps : s.reg (Reg.MPH_LSTATE_STATE (byteAt m.bytes 3 / 8) (s.laneSlot (byteAt m.bytes 3))) = laneL1 ∨
      s.reg (Reg.MPH_LSTATE_STATE (byteAt m.bytes 3 / 8) (s.laneSlot (byteAt m.bytes 3))) = laneL2) :
    Completes (.statusLaneDown g m) s fun t =>
      s.laneSlot (byteAt m.bytes 3) ∈ (t.group (byteAt m.bytes 3 / 8)).retrainLanes ∧ t.posted 2 (byteAt m.bytes 3 / 8) 6 ∧
        Keeps (.link :: eventPieces) (ovf 16 :: eventFields) s t := by
  have hexec := exec_laneDown hgood h6 hk hlane
  obtain ⟨hready', hstate⟩ := State.laneState_heard (s := s) (g := g) (m := m) hlane
  rw [(s.heard_undisturbed g m).laneSlot hlane] at hstate
  have hlogs : (s.heard g m).laneDown (byteAt m.bytes 3) =
      (s.heard g m).sleepingLaneDown (byteAt m.bytes 3 / 8) (s.laneSlot (byteAt m.bytes 3)) (byteAt m.bytes 3) := by
    simp only [State.laneDown, hready', hready, if_true, hstate, if_pos hsleeps, (s.heard_undisturbed g m).laneSlot hlane]
  rw [hlogs] at hexec
  obtain ⟨hkept, hposted, hkeeps⟩ := State.sleepingLaneDown_shows (s.heard g m) (g := byteAt m.bytes 3 / 8) (by omega)
    (s.laneSlot (byteAt m.bytes 3)) (byteAt m.bytes 3)
  have hall := ((s.heard_keeps g m).trans hkeeps).mono (ps' := .link :: eventPieces) (fs' := ovf 16 :: eventFields) (by decide) (by simp)
  exact completes_of_pieces hexec hall.pieces ⟨hkept, hposted, hall⟩

/-- The clock of a READY group is lost: it restarts from OFF (R232). -/
theorem completes_clockLost_ready (hlane : byteAt m.bytes 3 = 0xFF) (hact : s.active? = none) (hready : s.grp g = grpReady) :
    Completes (.statusLaneDown g m) s fun t => t.grp g = grpOff ∧
      Keeps [.link, .counters] ([ovf 16, ovf 17, Reg.CAL_STATUS_DUE] ++ groupFields g) s t := by
  obtain ⟨frames, hexec⟩ := exec_clockLost hgood h6 hk hlane
  have hact' : (s.heard g m).active? = none := hact
  have hlost : (s.heard g m).clockLost g frames = (s.heard g m).retrain g := by
    simp [State.clockLost, (s.heard_undisturbed g m).grp g.isLt, hready, State.cutFrames, hact', State.when]
  rw [hlost] at hexec
  have hall : Keeps [.link, .counters] ([ovf 16, ovf 17, Reg.CAL_STATUS_DUE] ++ groupFields g) s ((s.heard g m).retrain g) :=
    ((s.heard_keeps g m).trans (State.retrain_keeps _ g)).mono (by decide) (by simp)
  exact completes_of_pieces hexec hall.pieces ⟨State.grp_retrain _ g.isLt, hall⟩

/-- In training the group goes out of service (R225, R232). -/
theorem completes_clockLost_training (hlane : byteAt m.bytes 3 = 0xFF)
    (htrains : s.grp g = grpAlign ∨ s.grp g = grpEq ∨ s.grp g = grpVerify) : Completes (.statusLaneDown g m) s fun t =>
      t.grp g = grpOut ∧ t.reg (Reg.MPH_GRP_STATUS_FAIL_REASON g) = 3 := by
  obtain ⟨frames, hexec⟩ := exec_clockLost hgood h6 hk hlane
  have hlost : (s.heard g m).clockLost g frames = (s.heard g m).groupOut g 3 := by
    rcases htrains with h | h | h
    all_goals simp [State.clockLost, (s.heard_undisturbed g m).grp g.isLt, h, State.when, grpReady, grpOff, grpOut, grpAlign, grpEq, grpVerify]
  rw [hlost] at hexec
  obtain ⟨hout, hreason, -, -⟩ := State.groupOut_shows (s.heard g m) g.isLt (reason := 3) (by decide)
  exact completes_of_pieces hexec
    (((s.heard_keeps g m).pieces.linkWork (by decide) (by decide)).trans (State.groupOut_linkWork _ g 3)).pieces ⟨hout, hreason⟩

end

end

theorem clauseRefusedFramesAndLanes : ClauseRefusedFramesAndLanes := by
  refine ⟨fun s g m hgood h6 hk => ⟨fun hact => ?bogus, fun p r f hact hp hrun hlaunched hlane hf hlost hacc hpast => ?amends,
    fun p r hact hrun hframes holder => ?older⟩, fun s lane hready hnew => ⟨fun hlimit hnaks => ?limit, fun hlimit => ?unlimited⟩,
    fun s g hready hused => ⟨fun i hnew => ?fault, ?spare⟩, fun s g m hgood h6 hk => ⟨fun hlane hready => ⟨fun h1 h2 hnew => ?awake,
      fun hsleeps => ?asleep⟩, fun hlane hact hready => ?lost, fun hlane htrains => ?training⟩⟩
  case bogus =>
    have hexec := exec_statusNak hgood h6 hk
    rw [State.nakFrame_idle (show (s.heardNak g m).active? = none from hact)] at hexec
    obtain ⟨t, hnext, hcount, hkept, -, hkeeps⟩ := completes_nakBogus hexec
    exact ⟨t, hnext, hcount, hkept, hkeeps⟩
  case amends =>
    have hexec := exec_statusNak hgood h6 hk
    have hheard := State.heardNak_keeps (s := s) (g := g) (m := m)
    rw [State.nakFrame_amends (s := s.heardNak g m) hact hrun hlaunched hlane hf hlost hacc hpast] at hexec
    obtain ⟨hcount, hbogus⟩ := State.reg_nakAmend (s := s.heardNak g m) (p := p) r (leAt m.bytes 4 4) (byteAt m.bytes 3)
    have hp' : (s.heardNak g m).stripe? p.par.id = some p := hp
    rw [hheard.2 _ (by decide)] at hcount hbogus
    have hpieces : KeepsPieces [.link, .stripes, .counters] s ((s.heardNak g m).nakAmend p r (leAt m.bytes 4 4) (byteAt m.bytes 3)) :=
      (hheard.pieces.mono (by decide)).trans ((State.nakAmend_pieces r _ _).mono (by decide))
    exact completes_of_pieces hexec hpieces ⟨hcount, hbogus, Now.nakAmend hp' r _ _⟩
  case older =>
    have hexec := exec_statusNak hgood h6 hk
    rw [State.nakFrame_older (s := s.heardNak g m) hact hrun hframes holder] at hexec
    obtain ⟨t, hnext, hcount, -, hstripes, -⟩ := completes_nakBogus hexec
    exact ⟨t, hnext, hcount, hstripes⟩
  case limit => exact completes_nakLimit hready hnew hlimit hnaks
  case unlimited => exact ignored_nakLimit hlimit
  case fault => exact completes_transmitterFault hready hused hnew
  case spare => exact ignored_transmitterFault hused
  case awake => exact completes_laneDown_awake hgood h6 hk hlane hready h1 h2 hnew
  case asleep => exact completes_laneDown_asleep hgood h6 hk hlane hready hsleeps
  case lost => exact completes_clockLost_ready hgood h6 hk hlane hact hready
  case training => exact completes_clockLost_training hgood h6 hk hlane htrains

/-! ### The spare takes a lane (R214, R215, R382) -/

section
variable {s : State} {g lane at_ tick : Nat}

/-- The registers of a switch-over. -/
def switchRegs (g lane : Nat) : List (Field × Nat) :=
  [(Reg.MPH_LSTATE_STATE g (lane % 8), laneFailed), (Reg.MPH_LSTATE_STATE g 8, laneL0), (spareUsed g, 1), (spareLane g, lane % 8),
    (Reg.FLT_HOLD_DRIFT_X, 0), (Reg.FLT_HOLD_DRIFT_Y, 0)]

/-- A group whose lane the spare is to carry. -/
def Group.switched (k : Group) (lane at_ tick : Nat) : Group :=
  { k with switch := some ⟨lane, tick, at_, false, 0⟩, failed := insertAsc (lane % 8) k.failed }

/-- Looper's outputs hold. -/
def State.holdsGap (s : State) : State := { s with looper := { s.looper with holdGap := true } }

theorem State.group_holdsGap (s : State) (g : Nat) : s.holdsGap.group g = s.group g := rfl

theorem State.reg_holdsGap (s : State) (f : Field) : s.holdsGap.reg f = s.reg f := rfl

/-- A group whose lane the spare takes, before the count and the log. -/
def State.laneSwitched (s : State) (g lane at_ tick : Nat) : State :=
  (((s.setRegs (switchRegs g lane)).addReg Reg.FRM_GAP_SWITCHES 1).onGroup g fun k => k.switched lane at_ tick).holdsGap

theorem State.switchLane_eq (s : State) (g lane at_ tick : Nat) :
    s.switchLane g lane at_ tick = ((s.laneSwitched g lane at_ tick).count 16 6 1).linkEvent g 1 lane := rfl

theorem State.switchLane_undisturbed (s : State) (g lane at_ tick : Nat) :
    Undisturbed logPieces (s.laneSwitched g lane at_ tick) (s.switchLane g lane at_ tick) :=
  ((Undisturbed.refl _ _).count 16 6 1).trans (State.linkEvent_undisturbed _ g 1 lane)

theorem State.posted_switchLane (s : State) (g lane at_ tick : Nat) : (s.switchLane g lane at_ tick).posted 2 g 1 := by
  rw [State.switchLane_eq]
  exact State.posted_linkEvent _ _ _ _

theorem State.stripes_laneSwitched (s : State) (g lane at_ tick : Nat) : (s.laneSwitched g lane at_ tick).stripes = s.stripes := by
  simp [State.laneSwitched, State.holdsGap]

theorem State.group_laneSwitched (s : State) {g : Nat} (hg : g < 16) (lane at_ tick : Nat) :
    (s.laneSwitched g lane at_ tick).group g = (s.group g).switched lane at_ tick := by
  rw [State.laneSwitched, State.group_holdsGap, State.group_onGroup_same _ hg, State.addReg, State.group_setReg, State.group_setRegs]

theorem switchRegs_nodup (hg : g < 16) (lane : Nat) : (((switchRegs g lane).map Prod.fst).map Field.key).Nodup := by
  have hlane : lane % 8 < 8 := Nat.mod_lt _ (by decide)
  simp only [switchRegs, List.map_cons, List.map_nil, key_laneState, key_spareUsed, key_spareLane]
  simp only [Field.key, Reg.FLT_HOLD_DRIFT_X, Reg.FLT_HOLD_DRIFT_Y, List.nodup_cons, List.mem_cons, List.not_mem_nil, or_false, not_or,
    List.nodup_nil, not_false_eq_true, and_true]
  omega

/-- A register of a switch-over reads as it was set. -/
theorem State.reg_switchLane (hg : g < 16) {f : Field} {v : Nat} (hf : (f, v) ∈ switchRegs g lane) (hw : f.width ≤ 32) (hv : v < 2 ^ f.width)
    (hs : f.steady = true) : (s.switchLane g lane at_ tick).reg f = v := by
  rw [(s.switchLane_undisturbed g lane at_ tick).regs f hs, State.laneSwitched, State.reg_holdsGap, State.reg_onGroup]
  have hcount := ((Undisturbed.refl [] (s.setRegs (switchRegs g lane))).addReg Reg.FRM_GAP_SWITCHES 1).regs f hs
  exact hcount.trans ((State.reg_setRegs_mem (switchRegs_nodup hg lane) hf hw).trans (Nat.mod_eq_of_lt hv))

/-- The spare carries the lane from the tick on, the lane is out, and Looper holds (R215, R382). -/
theorem State.switchLane_shows (hg : g < 16) : let t := s.switchLane g lane at_ tick
    t.reg (spareUsed g) = 1 ∧ t.reg (spareLane g) = lane % 8 ∧ t.reg (Reg.MPH_LSTATE_STATE g 8) = laneL0 ∧
      t.reg (Reg.MPH_LSTATE_STATE g (lane % 8)) = laneFailed ∧ t.group g = (s.group g).switched lane at_ tick ∧
      t.looper = { s.looper with holdGap := true } ∧ t.posted 2 g 1 ∧ t.stripes = s.stripes := by
  have hlane : lane % 8 < 8 := Nat.mod_lt _ (by decide)
  have hlog := s.switchLane_undisturbed g lane at_ tick
  refine ⟨State.reg_switchLane hg (v := 1) (by simp [switchRegs]) (by simp [spareUsed]) (by simp [spareUsed]) ?_,
    State.reg_switchLane hg (v := lane % 8) (by simp [switchRegs]) (by simp [spareLane]) hlane ?_,
    State.reg_switchLane hg (v := laneL0) (by simp [switchRegs]) (by simp [Reg.MPH_LSTATE_STATE]) (by simp [Reg.MPH_LSTATE_STATE, laneL0])
      (steady_of_key (key_laneState g 8) (by omega) (by omega)),
    State.reg_switchLane hg (v := laneFailed) (by simp [switchRegs]) (by simp [Reg.MPH_LSTATE_STATE])
      (by simp [Reg.MPH_LSTATE_STATE, laneFailed]) (steady_of_key (key_laneState g _) (by omega) (by omega)),
    (hlog.group (by decide) g).trans (s.group_laneSwitched hg lane at_ tick), hlog.pieces .looper (by decide), s.posted_switchLane g lane at_ tick,
    (hlog.pieces .stripes (by decide)).trans (s.stripes_laneSwitched g lane at_ tick)⟩
  · exact Field.steady_iff.2 (by rw [key_spareUsed]; omega)
  · exact Field.steady_iff.2 (by rw [key_spareLane]; omega)

end

/-! ### No spare, none in time, and silence (R213, R216) -/

section
variable {s : State} {p : Stripe} {r : Run}

/-- A group that no spare helps is due for a step down. -/
def Group.unspared (k : Group) : Group := { k with switch := none, switchDue := [], stepDue := true }

theorem completes_noSpare {i : Instr} {u : State} {g : Nat} (hg : g < 16) (hw : Writes u p r) {f : Group → Group}
    (hexec : exec i s = answer s ((u.onGroup g f).abort .linkNoSpare)) :
    Completes i s fun t => Aborts t p.par.id .linkNoSpare ∧ t.group g = f (u.group g) := by
  have hw' : Writes (u.onGroup g f) p r := hw.congr rfl
  have habort := hw'.abort_keeps .linkNoSpare
  refine Completes.of_answer_of hexec ⟨hw'.aborts _, ?_⟩ fun _ _ _ _ h => h
  exact (habort.pieces.group (by decide) g).trans (u.group_onGroup_same hg f)

/-- A stripe with a place in a list is found by a wider test that the ones before it fail. -/
theorem find?_or {α : Type} {f g : α → Bool} {l : List α} {a : α} (hf : l.find? f = some a) (hg : l.find? g = some a) :
    (l.find? fun x => f x || g x) = some a := by
  induction l with
  | nil => cases hf
  | cons x l ih =>
    rw [List.find?_cons] at hf hg ⊢
    cases hfx : f x <;> cases hgx : g x <;> simp_all

/-- A stripe that writes goes on writing as its log grows. -/
theorem Writes.putStripe {q : Stripe} (hw : Writes s p r) (hid : q.par.id = p.par.id) (hstate : q.state = p.state) (hrun : q.run = p.run)
    (hrole : q.bv = p.bv) : Writes (s.putStripe q) q r := by
  obtain ⟨hact, hp, hs, hr, htick, hsolo⟩ := hw
  have hq : s.stripe? q.par.id = some p := hid ▸ hp
  refine ⟨?_, State.stripe?_putStripe hq, hstate.trans hs, hrun.trans hr, htick, hrole ▸ hsolo⟩
  have hstripes : (s.putStripe q).stripes = _ := (s.putStripe_log hq).pieces .stripes (by decide)
  have hmoving : q.state.moving = true := by rw [hstate, hs]; rfl
  have hkey : ((fun x : Stripe => x.state.moving) ∘ fun x => if x.par.id == q.par.id then q else x) =
      fun x => (x.par.id == q.par.id) || x.state.moving := by
    funext x
    by_cases h : x.par.id = q.par.id <;> simp [h, hmoving]
  rw [State.active?, hstripes, State.onStripe, List.find?_map, hkey, find?_or hq hact]
  simp [hid]

theorem completes_silence {g : Fin 16} (hw : Writes s p r) : Completes (.returnLaneSilence g) s fun t =>
    Aborts t p.par.id .stripeAborted ∧ (t.group g).unconfirmed = [] := by
  obtain ⟨hact, hp, hs, hrun, -⟩ := id hw
  obtain ⟨rs, hrs⟩ := p.cutGroups_eq ((s.group g).unconfirmed.map fun n => (g.val, n))
  have hput := hw.putStripe (q := { p with records := rs }) rfl rfl rfl rfl
  have hexec : exec (.returnLaneSilence g) s = answer s (((s.putStripe { p with records := rs }).onGroup g
      fun k => { k with unconfirmed := [] }).abort .stripeAborted) := by
    show execReturnLaneSilence g s = _
    rw [execReturnLaneSilence, hact]
    simp [State.when, hs, State.cutFrames, hact, hrs]
  have hw' : Writes ((s.putStripe { p with records := rs }).onGroup g fun k => { k with unconfirmed := [] }) { p with records := rs } r :=
    hput.congr rfl
  refine Completes.of_answer_of hexec ⟨hw'.aborts _, ?_⟩ fun _ _ _ _ h => h
  rw [(hw'.abort_keeps .stripeAborted).pieces.group (by decide), State.group_onGroup_same _ g.isLt]

end

/-! ### SPARE_SWITCH (R214 to R216) -/

section
variable {s : State} {g : Fin 16} {lane at_ : Nat} {rest : List Nat} {p : Stripe} {r : Run} (hdue : (s.group g).switchDue = lane :: rest)
  (hw : Writes s p r) (habort : p.abortDue = false) (hat : r.instantOf r.next = some at_)
include hdue hw habort hat

/-- The group with its switch-over begun. -/
def State.switchBegun (s : State) (g : Nat) (rest : List Nat) : State := s.onGroup g fun k => { k with switchDue := rest }

theorem exec_spareSwitch : exec (.spareSwitch g) s = answer s
    (if s.spareServes g && (s.group g).switch.isNone then (s.switchBegun g rest).switchLane g lane at_ (r.next - 1)
      else (s.switchBegun g rest).noSpare g) := by
  obtain ⟨hact, hp, hs, hrun, htick, -⟩ := hw
  have hgroup : (s.switchBegun g rest).group g = { s.group g with switchDue := rest } := s.group_onGroup_same g.isLt _
  have hserves : (s.switchBegun g rest).spareServes g = s.spareServes g := by
    rw [State.spareServes, hgroup]
    rfl
  show execSpareSwitch g s = _
  simp only [execSpareSwitch, hdue, hact, hrun, Option.bind_some, hat, Option.map_some, State.when, htick, Stripe.launches, hs, habort]
  rw [← State.switchBegun, hserves, hgroup]
  rfl

end

theorem clauseSwitchOver : ClauseSwitchOver := by
  refine ⟨fun s g lane rest p r at_ hdue hw habort hat => ⟨fun hnone hserves => ?switches, fun hcannot => ?unspared⟩,
    fun s g w p r hswitch hready hw => ?late, fun s g hall => ?ready, fun s g p r hw => completes_silence hw,
    fun s g hact => ⟨?silent, ?idle⟩⟩
  case switches =>
    have hexec := exec_spareSwitch hdue hw habort hat
    rw [hserves, hnone, Option.isNone_none, Bool.and_self, if_pos rfl] at hexec
    obtain ⟨hused, hlane, hspare, hfailed, hgroup, hlooper, hposted, hstripes⟩ :=
      State.switchLane_shows (s := s.switchBegun g rest) (lane := lane) (at_ := at_) (tick := r.next - 1) g.isLt
    refine Completes.of_answer_of hexec ⟨hused, hlane, hspare, hfailed, congrArg Group.switch hgroup, ?_, hlooper, hposted, hstripes⟩
      fun _ _ _ _ h => h
    rw [hgroup, State.switchBegun, State.group_onGroup_same _ g.isLt]
    rfl
  case unspared =>
    have hexec := exec_spareSwitch hdue hw habort hat
    have hno : (s.spareServes g && (s.group g).switch.isNone) = false := by
      rcases hcannot with h | h
      · rw [Option.isNone_eq_false_iff.2 h, Bool.and_false]
      · rw [h, Bool.false_and]
    rw [hno, if_neg Bool.false_ne_true] at hexec
    obtain ⟨t, hnext, haborts, hgroup⟩ := completes_noSpare (u := s.switchBegun g rest) (f := Group.unspared) g.isLt (hw.congr rfl) hexec
    exact ⟨t, hnext, haborts, by rw [hgroup]; rfl, by rw [hgroup]; rfl⟩
  case late =>
    have hexec : exec (.spareReadyTimeout g) s = answer s ((s.onGroup g Group.unspared).abort .linkNoSpare) := by
      show execSpareReadyTimeout g s = _
      rw [execSpareReadyTimeout, hswitch]
      simp only [hready, Bool.not_false, State.when, if_true]
      rfl
    obtain ⟨t, hnext, haborts, hgroup⟩ := completes_noSpare g.isLt hw hexec
    exact ⟨t, hnext, haborts, by rw [hgroup]; rfl, by rw [hgroup]; rfl⟩
  case ready =>
    show execSpareReadyTimeout g s = _
    rw [execSpareReadyTimeout]
    cases hswitch : (s.group g).switch with
    | none => rfl
    | some w =>
      simp only [hall w (by simp [hswitch]), Bool.not_true, State.when, Bool.false_eq_true, if_false]
      rfl
  case silent =>
    simp [Ignored, exec, execReturnLaneSilence, hact, answer_self]
  case idle =>
    show execSpareSwitch g s = _
    rw [execSpareSwitch, hact]
    cases (s.group g).switchDue <;> rfl

/-- Settles O31: a NAK gives dose back or is bogus, lanes that fail ask for the spare, and the spare takes its lane at the tick or the
stripe aborts. -/
theorem refusedFramesAndSwitchOver : Obligations.RefusedFramesAndSwitchOver := ⟨clauseRefusedFramesAndLanes, clauseSwitchOver⟩

end Sys2Proof.Machine
end

section
/-! SUPPORT. The training of a Muash group (R223 to R231): its lanes' states and taps, ALIGN, EQ and VERIFY, READY, and L2. -/
namespace Sys2Proof.Machine

open Sys2Proof

/-! ### Fields set together -/

/-- A field set reads as set where no other value is given for it. -/
theorem State.reg_setRegs_of_unique {s : State} {l : List (Field × Nat)} {f : Field} {v : Nat} (hf : (f, v) ∈ l)
    (hl : ∀ e ∈ l, e.1.key = f.key → e = (f, v)) (hw : f.width ≤ 32) : (s.setRegs l).reg f = v % 2 ^ f.width := by
  induction l generalizing s with
  | nil => cases hf
  | cons e l ih =>
    by_cases hmem : (f, v) ∈ l
    · rw [State.setRegs_cons]
      exact ih hmem fun x hx => hl x (List.mem_cons_of_mem e hx)
    · obtain rfl : (f, v) = e := (List.mem_cons.1 hf).resolve_right hmem
      have hrest : ∀ k ∈ l.map Prod.fst, k.key ≠ f.key := by
        intro k hk heq
        obtain ⟨x, hx, rfl⟩ := List.mem_map.1 hk
        exact hmem (hl x (List.mem_cons_of_mem _ hx) heq ▸ hx)
      rw [State.setRegs_cons, (State.setRegs_keeps _ l).2 f hrest, State.reg_setReg_same _ _ _ hw]

/-! ### The lanes of a group -/

section
variable {s t : State} {g : Nat}

theorem mem_required {i : Nat} (h : i ∈ s.required g) : i < 9 := List.mem_range.1 (List.mem_of_mem_filter h)

theorem State.setLanes_keeps (s : State) (g st : Nat) (slots : List Nat) :
    Keeps [] (slots.map (Reg.MPH_LSTATE_STATE g)) s (s.setLanes g st slots) :=
  (s.setRegs_keeps _).mono (List.Subset.refl _) (by simp [List.map_map, Function.comp_def])

/-- A slot that was put into a state is in it. -/
theorem State.reg_setLanes {st i : Nat} {slots : List Nat} (hi : i ∈ slots) (hst : st < 8) :
    (s.setLanes g st slots).reg (Reg.MPH_LSTATE_STATE g i) = st := by
  refine (State.reg_setRegs_of_unique (v := st) (List.mem_map.2 ⟨i, hi, rfl⟩) ?_ (by simp [Reg.MPH_LSTATE_STATE])).trans
    (Nat.mod_eq_of_lt hst)
  intro e he hkey
  obtain ⟨j, -, rfl⟩ := List.mem_map.1 he
  rw [key_laneState, key_laneState] at hkey
  obtain rfl : j = i := by omega
  rfl

/-- Other fields than those of the lanes' states stand. -/
theorem State.reg_setLanes_ne {st : Nat} {slots : List Nat} {f : Field} (hf : ∀ i ∈ slots, (Reg.MPH_LSTATE_STATE g i).key ≠ f.key) :
    (s.setLanes g st slots).reg f = s.reg f :=
  (s.setLanes_keeps g st slots).2 f fun k hk => by
    obtain ⟨i, hi, rfl⟩ := List.mem_map.1 hk
    exact hf i hi

/-- The registers of a slot that training changes. -/
def slotFields (g i : Nat) : List Field :=
  [Reg.MPH_LSTATE_STATE g i, Reg.MPH_LSTATE_TRAINED g i, Reg.MPH_TXEQ_PRE g i, Reg.MPH_TXEQ_MAIN g i, Reg.MPH_TXEQ_POST g i]

theorem slotFields_subset {i : Nat} (hi : i < 11) : slotFields g i ⊆ groupFields g := by
  intro f hf
  refine List.mem_append_left _ (List.mem_flatMap.2 ⟨i, List.mem_range.2 hi, ?_⟩)
  simp only [slotFields, List.mem_cons, List.not_mem_nil, or_false] at hf ⊢
  rcases hf with rfl | rfl | rfl | rfl | rfl <;> simp

theorem laneStates_subset {slots : List Nat} (h : ∀ i ∈ slots, i < 11) : slots.map (Reg.MPH_LSTATE_STATE g) ⊆ groupFields g := by
  intro f hf
  obtain ⟨i, hi, rfl⟩ := List.mem_map.1 hf
  exact slotFields_subset (h i hi) (by simp [slotFields])

/-! ### Which lanes are driven and required -/

/-- The fields that route a group's lanes. -/
def routeFields (g : Nat) : List Field :=
  spareUsed g :: spareLane g :: Reg.XK2_LINK_CTL_SPARE_EN :: (List.range 11).map fun i => Reg.MPH_PRBS_CTL_LOOP g i

theorem groupFields_apart_routeFields (hg : g < 16) : ∀ f ∈ routeFields g, ∀ k ∈ groupFields g, k.key ≠ f.key := by
  intro f hf
  simp only [routeFields, List.mem_cons, List.mem_map, List.mem_range] at hf
  rcases hf with rfl | rfl | rfl | ⟨j, hj, rfl⟩
  · exact key_ne_of_groupFields (by rw [key_spareUsed]; omega)
  · exact key_ne_of_groupFields (by rw [key_spareLane]; omega)
  · exact key_ne_of_groupFields (.inr (by simp only [Field.key, Reg.XK2_LINK_CTL_SPARE_EN]; omega))
  · intro k hk
    simp only [groupFields, List.mem_append, List.mem_flatMap, List.mem_range, List.mem_cons, List.not_mem_nil, or_false] at hk
    rcases hk with ⟨i, hi, rfl | rfl | rfl | rfl | rfl | rfl | rfl | rfl⟩ | rfl | rfl | rfl | rfl | rfl | rfl | rfl
    all_goals simp only [key_laneState, key_trained, key_txeqPre, key_txeqMain, key_txeqPost, key_lock, key_prbsBits, key_prbsErrors,
      key_grpState, key_farMax, key_spareFit, key_rate, key_failReason, key_ratePending, key_steppedDown, key_loop]; omega

/-- Lanes are routed alike in two states. -/
structure Routed (g : Nat) (s t : State) : Prop where
  regs : ∀ f ∈ routeFields g, t.reg f = s.reg f
  native : t.native = s.native

theorem Routed.trans {u : State} (h : Routed g s t) (h' : Routed g t u) : Routed g s u :=
  ⟨fun f hf => (h'.regs f hf).trans (h.regs f hf), h'.native.trans h.native⟩

/-- What training does to a group's own registers leaves its lanes routed. -/
theorem Keeps.routed {ps : List Piece} {fs : List Field} (h : Keeps ps fs s t) (hg : g < 16) (hfs : fs ⊆ groupFields g)
    (hm : .mode ∉ ps := by decide) : Routed g s t := by
  have hmode : t.mode = s.mode := h.pieces .mode hm
  exact ⟨fun f hf => h.2 f fun k hk => groupFields_apart_routeFields hg f hf k (hfs hk), by rw [State.native, State.native, hmode]⟩

theorem Undisturbed.routed {ps : List Piece} (h : Undisturbed ps s t) (hg : g < 16) (hm : .mode ∉ ps := by decide) : Routed g s t := by
  have hmode : t.mode = s.mode := h.pieces .mode hm
  refine ⟨fun f hf => h.regs f ?_, by rw [State.native, State.native, hmode]⟩
  simp only [routeFields, List.mem_cons, List.mem_map, List.mem_range] at hf
  rcases hf with rfl | rfl | rfl | ⟨j, hj, rfl⟩
  · exact Field.steady_iff.2 (by rw [key_spareUsed]; omega)
  · exact Field.steady_iff.2 (by rw [key_spareLane]; omega)
  · decide
  · exact steady_of_key (key_loop g j) (by omega) (by omega)

theorem Routed.spareRouted (h : Routed g s t) : t.spareRouted g = s.spareRouted g := by
  rw [State.spareRouted, h.native, h.regs _ (by simp [routeFields])]
  rfl

theorem Routed.drives (h : Routed g s t) {i : Nat} (hi : i < 11) : t.drives g i = s.drives g i := by
  have hloop := h.regs (Reg.MPH_PRBS_CTL_LOOP g i) (List.mem_append_right [_, _, _] (List.mem_map.2 ⟨i, List.mem_range.2 hi, rfl⟩))
  rw [State.drives, State.flag, hloop, h.spareRouted]
  rfl

theorem Routed.required (h : Routed g s t) (hfailed : (t.group g).failed = (s.group g).failed) : t.required g = s.required g := by
  have hused := h.regs (spareUsed g) (by simp [routeFields])
  have hlane := h.regs (spareLane g) (by simp [routeFields])
  rw [State.required, State.flag, hused, hlane, hfailed, h.spareRouted]
  rfl

end

/-! ### Taps (R228 to R230) -/

section
variable {s : State} {g : Nat}

theorem unsignedOf_lt (v : Int) : unsignedOf 8 v < 2 ^ 8 := by
  have hpos : (0 : Int) < ((2 ^ 8 : Nat) : Int) := by decide
  have hlt := Int.emod_lt_of_pos v hpos
  have hnonneg := Int.emod_nonneg v hpos.ne'
  rw [unsignedOf]
  omega

/-- The taps' registers of a slot. -/
def tapFields (g i : Nat) : List Field := [Reg.MPH_TXEQ_PRE g i, Reg.MPH_TXEQ_MAIN g i, Reg.MPH_TXEQ_POST g i]

theorem State.setTaps_keeps (s : State) (g i : Nat) (t : Taps) : Keeps [] (tapFields g i) s (s.setTaps g i t) := s.setRegs_keeps _

/-- Taps that are put in force show (R228). -/
theorem State.reg_setTaps (s : State) (g i : Nat) (t : Taps) :
    (s.setTaps g i t).reg (Reg.MPH_TXEQ_PRE g i) = unsignedOf 8 t.pre ∧ (s.setTaps g i t).reg (Reg.MPH_TXEQ_MAIN g i) = unsignedOf 8 t.main ∧
      (s.setTaps g i t).reg (Reg.MPH_TXEQ_POST g i) = unsignedOf 8 t.post := by
  have hnodup : (([(Reg.MPH_TXEQ_PRE g i, unsignedOf 8 t.pre), (Reg.MPH_TXEQ_MAIN g i, unsignedOf 8 t.main),
      (Reg.MPH_TXEQ_POST g i, unsignedOf 8 t.post)].map Prod.fst).map Field.key).Nodup := by simp
  refine ⟨?_, ?_, ?_⟩
  · exact (State.reg_setRegs_mem hnodup (v := unsignedOf 8 t.pre) (by simp) (by simp [Reg.MPH_TXEQ_PRE])).trans
      (Nat.mod_eq_of_lt (unsignedOf_lt _))
  · exact (State.reg_setRegs_mem hnodup (v := unsignedOf 8 t.main) (by simp) (by simp [Reg.MPH_TXEQ_MAIN])).trans
      (Nat.mod_eq_of_lt (unsignedOf_lt _))
  · exact (State.reg_setRegs_mem hnodup (v := unsignedOf 8 t.post) (by simp) (by simp [Reg.MPH_TXEQ_POST])).trans
      (Nat.mod_eq_of_lt (unsignedOf_lt _))

theorem State.setInitialTaps_keeps (s : State) (g n : Nat) :
    Keeps [] ((List.range 9).flatMap (tapFields g)) s (s.setInitialTaps g n) := by
  refine State.forAll_induction (P := fun u => Keeps [] ((List.range 9).flatMap (tapFields g)) s u) _ (Keeps.refl _ _ s) fun i hi u hu => ?_
  refine (hu.trans (u.setTaps_keeps g i _)).mono (by simp) (List.append_subset.2 ⟨List.Subset.refl _, ?_⟩)
  exact fun f hf => List.mem_flatMap.2 ⟨i, hi, hf⟩

theorem initialTaps_subset : (List.range 9).flatMap (tapFields g) ⊆ groupFields g := by
  intro f hf
  obtain ⟨i, hi, hf⟩ := List.mem_flatMap.1 hf
  have hi := List.mem_range.1 hi
  refine slotFields_subset (i := i) (by omega) ?_
  simp only [tapFields, slotFields, List.mem_cons, List.not_mem_nil, or_false] at hf ⊢
  tauto

/-- Initial taps leave what is not of the taps. -/
theorem State.reg_setInitialTaps {n : Nat} {f : Field} (hf : ∀ i < 9, ∀ k ∈ tapFields g i, k.key ≠ f.key) :
    (s.setInitialTaps g n).reg f = s.reg f :=
  (s.setInitialTaps_keeps g n).2 f fun k hk => by
    obtain ⟨i, hi, hk⟩ := List.mem_flatMap.1 hk
    exact hf i (List.mem_range.1 hi) k hk

/-! ### VERIFY (R225, R231) -/

/-- A group whose verification begins. -/
def Group.verifying (k : Group) : Group := { k with results := [], stepLater := false }

/-- A group in VERIFY, before its lanes send anything. -/
def State.verifyBegun (s : State) (g : Nat) : State :=
  (s.setReg (Reg.MPH_GRP_STATUS_STATE g) grpVerify).onGroup g Group.verifying

theorem State.enterVerify_sends (s : State) (g : Nat) : Sends ((s.verifyBegun g).train g ((s.verifyBegun g).tsqPhase g) none) (s.enterVerify g) := by
  unfold State.enterVerify
  extract_lets t
  exact (Sends.refl _).when _ fun u => (Sends.refl u).forAll _ fun i v => v.sendPattern_sends g i 2

theorem State.verifyBegun_sends (s : State) (g : Nat) : Sends (s.verifyBegun g) (s.enterVerify g) :=
  (State.train_sends _ g _ none).trans (s.enterVerify_sends g)

/-- In VERIFY the lanes send the training sequence of its phase (R223, R231). -/
theorem State.enterVerify_trains (s : State) (g : Nat) : Trains (s.enterVerify g) g ((s.enterVerify g).tsqPhase g) := by
  rw [(s.verifyBegun_sends g).tsqPhase]
  exact (s.enterVerify_sends g).trains (State.train_trains _ g _)

theorem State.reg_setState {v : Nat} (hv : v < 8) : (s.setReg (Reg.MPH_GRP_STATUS_STATE g) v).grp g = v :=
  (State.reg_setReg_same _ _ _ (by simp [Reg.MPH_GRP_STATUS_STATE])).trans (Nat.mod_eq_of_lt hv)

theorem State.grp_enterVerify (s : State) (g : Nat) : (s.enterVerify g).grp g = grpVerify :=
  ((s.verifyBegun_sends g).grp g).trans (State.reg_setState (s := s) (v := grpVerify) (by decide))

theorem State.group_enterVerify (s : State) (hg : g < 16) : (s.enterVerify g).group g = (s.group g).verifying :=
  ((s.verifyBegun_sends g).group g).trans (State.group_onGroup_same _ hg _)

theorem State.enterVerify_keeps (s : State) (g : Nat) : Keeps linkPieces [Reg.MPH_GRP_STATUS_STATE g] s (s.enterVerify g) :=
  (((s.setReg_keeps _ _).trans (State.onGroup_keeps _ g _)).trans (s.verifyBegun_sends g).keeps).mono (by decide) (by simp)

/-! ### Where every lane is held (R225) -/

theorem State.heldOn_align (hheld : s.allHeld g = true) (h : s.grp g = grpAlign) :
    s.heldOn g = s.setReg (Reg.MPH_GRP_STATUS_STATE g) grpLow := by
  simp [State.heldOn, hheld, h]

theorem State.heldOn_eq (hheld : s.allHeld g = true) (h : s.grp g = grpEq) : s.heldOn g = s.enterVerify g := by
  simp [State.heldOn, hheld, h, grpEq, grpAlign]

/-- Elsewhere than in ALIGN and EQ nothing follows. -/
theorem State.heldOn_other (h : s.grp g ≠ grpAlign) (h' : s.grp g ≠ grpEq) : s.heldOn g = s := by
  rw [State.heldOn, if_neg h, if_neg h', ite_self]

theorem State.heldOn_keeps (s : State) (g : Nat) : Keeps linkPieces [Reg.MPH_GRP_STATUS_STATE g] s (s.heldOn g) := by
  unfold State.heldOn
  split_ifs
  · exact Keeps.refl _ _ s
  · exact (s.setReg_keeps _ _).mono (by simp) (by simp)
  · exact s.enterVerify_keeps g
  · exact Keeps.refl _ _ s

/-! ### L2 (R237) -/

/-- Every required lane's last words before L2. -/
def State.lanesRest (s : State) (g : Nat) : State :=
  s.forAll (s.required g) fun i s => s.when (s.drives g i) fun s =>
    s.sendOn (lineKey g i) (fun rd => .sleep g i rd true) (sleepPairs true)

theorem State.lanesRest_sends (s : State) (g : Nat) : Sends s (s.lanesRest g) :=
  (Sends.refl s).forAll _ fun _ u => (Sends.refl u).when _ fun v => v.sendOn_sends _ _ _

theorem State.enterL2_eq (s : State) (g : Nat) : s.enterL2 g = if s.grp g == grpReady && !s.inL2 g then
    ((s.lanesRest g).setLanes g laneL2 (List.range 10)).emit (.clock g none) else s := rfl

theorem State.enterL2_keeps (s : State) (g : Nat) : Keeps linkPieces ((List.range 10).map (Reg.MPH_LSTATE_STATE g)) s (s.enterL2 g) := by
  rw [State.enterL2_eq]
  split
  · have hlanes := State.setLanes_keeps (s.lanesRest g) g laneL2 (List.range 10)
    exact (((s.lanesRest_sends g).keeps.trans hlanes).trans (State.emit_keeps _ _)).mono (by simp [linkPieces])
      (by rw [List.nil_append, List.append_nil]; exact List.Subset.refl _)
  · exact Keeps.refl _ _ s

/-- A READY group that enters L2 is in it. -/
theorem State.inL2_enterL2 (h : s.grp g = grpReady) : (s.enterL2 g).inL2 g = true := by
  rw [State.enterL2_eq]
  split
  case isFalse hnot => simpa [h] using hnot
  case isTrue =>
    refine List.all_eq_true.2 fun i hi => ?_
    have hi : i ∈ List.range 10 := List.mem_range.2 (by have := List.mem_range.1 hi; omega)
    rw [State.reg_emit, State.reg_setLanes hi (by decide)]
    rfl

end

/-! ### READY (R225, R229, R237, R242) -/

section
variable {s : State} {g : Nat}

/-- The taps that a READY group saves at a rate. -/
def State.savedTaps (s : State) (g n : Nat) : List (Field × Nat) :=
  (s.required g).flatMap fun i => [(eqSaveTaps g i n, (s.taps g i).word), (eqSaveValid g i n, 1)]

/-- In native mode a READY group saves its taps (R229). -/
def State.tapsSaved (s : State) (g : Nat) : State := s.when s.native fun u => u.setRegs (u.savedTaps g (s.trainRate g))

/-- What a READY group shows. -/
def State.readyRegs (s : State) (g : Nat) : List (Field × Nat) :=
  [(Reg.MPH_GRP_STATUS_STATE g, grpReady), (Reg.MPH_GRP_STATUS_FAIL_REASON g, 0), (Reg.MPH_GRP_STATUS_RATE g, s.trainRate g),
    (Reg.MPH_GRP_STATUS_SPARE_FIT g, if (s.group g).l2Exit then s.reg (Reg.MPH_GRP_STATUS_SPARE_FIT g) else 0)]
    ++ (s.required g).map fun i => (Reg.MPH_LSTATE_TRAINED g i, 1)

/-- A group that is READY. -/
def Group.readied (k : Group) : Group :=
  { k with held := [], results := [], reports := if k.l2Exit then k.reports else [], l2Exit := false, fast := false, rateChange := false, stepLater := false }

/-- A READY group, before its spare stands by or it goes on to L2. -/
def State.readied (s : State) (g : Nat) : State :=
  (((((s.tapsSaved g).setLanes g laneL0 (s.required g)).setRegs (s.readyRegs g)).when (s.group g).l2Exit
    (·.count 17 6 1))).onGroup g Group.readied

theorem State.groupReady_eq (s : State) (g : Nat) :
    s.groupReady g = ((s.readied g).spareStandby g).when ((s.readied g).l2Wanted g) (·.enterL2 g) := rfl

theorem State.required_nodup (s : State) (g : Nat) : (s.required g).Nodup := List.nodup_range.filter _

theorem readyRegs_nodup (s : State) (g : Nat) : (((s.readyRegs g).map Prod.fst).map Field.key).Nodup := by
  have htrained : ((s.required g).map fun i => (Reg.MPH_LSTATE_TRAINED g i).key).Nodup :=
    (s.required_nodup g).map fun i j h => by
      simp only [key_trained] at h
      omega
  simp only [State.readyRegs, List.map_append, List.map_cons, List.map_nil, List.map_map, Function.comp_def]
  refine List.nodup_append.2 ⟨by simp, htrained, ?_⟩
  intro a ha b hb
  obtain ⟨i, -, rfl⟩ := List.mem_map.1 hb
  simp only [List.mem_cons, List.not_mem_nil, or_false, key_grpState, key_failReason, key_rate, key_spareFit] at ha
  rw [key_trained]
  omega

/-- The count of an L2 left leaves the lanes. -/
theorem State.readied_undisturbed (s : State) (g : Nat) : Undisturbed lanePieces
    (((s.tapsSaved g).setLanes g laneL0 (s.required g)).setRegs (s.readyRegs g)) (s.readied g) :=
  (((Undisturbed.refl logPieces _).when _ fun w => (Undisturbed.refl _ w).count 17 6 1).mono logPieces_subset_lanePieces).trans
    ((State.onGroup_undisturbed _ g _).mono (by simp [lanePieces]))

/-- A READY group shows what it is set to show. -/
theorem State.reg_readied {f : Field} {v : Nat} (hf : (f, v) ∈ s.readyRegs g) (hw : f.width ≤ 32) (hs : f.steady = true) :
    (s.readied g).reg f = v % 2 ^ f.width :=
  ((s.readied_undisturbed g).regs f hs).trans (State.reg_setRegs_mem (readyRegs_nodup s g) hf hw)

/-- Where the registers of READY do not stand. -/
theorem readyRegs_apart {f : Field} (hf : f.key % 32 = 5 ∨ (f.key % 32 = 0 ∧ f.key ≠ (Reg.MPH_GRP_STATUS_RATE g).key)) :
    ∀ k ∈ (s.readyRegs g).map Prod.fst, k.key ≠ f.key := by
  intro k hk
  simp only [State.readyRegs, List.map_append, List.map_cons, List.map_nil, List.map_map, Function.comp_def, List.mem_append, List.mem_cons,
    List.not_mem_nil, or_false, List.mem_map] at hk
  rw [key_rate] at hf
  rcases hk with (rfl | rfl | rfl | rfl) | ⟨i, -, rfl⟩
  · rw [key_grpState]; omega
  · rw [key_failReason]; omega
  · rw [key_rate]; omega
  · rw [key_spareFit]; omega
  · rw [key_trained]; omega

theorem State.readied_shows (hg : g < 16) : (s.readied g).grp g = grpReady ∧ (s.readied g).reg (Reg.MPH_GRP_STATUS_FAIL_REASON g) = 0 ∧
    ((s.group g).l2Exit = false → (s.readied g).reg (Reg.MPH_GRP_STATUS_SPARE_FIT g) = 0) ∧
    ∀ i ∈ s.required g, (s.readied g).reg (Reg.MPH_LSTATE_TRAINED g i) = 1 ∧ (s.readied g).reg (Reg.MPH_LSTATE_STATE g i) = laneL0 := by
  refine ⟨?_, ?_, fun hexit => ?_, fun i hi => ⟨?_, ?_⟩⟩
  · exact State.reg_readied (v := grpReady) (by simp [State.readyRegs]) (by simp [Reg.MPH_GRP_STATUS_STATE])
      (steady_of_key (key_grpState g) (by omega) (by omega))
  · exact State.reg_readied (v := 0) (by simp [State.readyRegs]) (by simp [Reg.MPH_GRP_STATUS_FAIL_REASON])
      (steady_of_key (key_failReason g) (by omega) (by omega))
  · exact State.reg_readied (v := 0) (by simp [State.readyRegs, hexit]) (by simp [Reg.MPH_GRP_STATUS_SPARE_FIT])
      (steady_of_key (key_spareFit g) (by omega) (by omega))
  · have hi9 := mem_required hi
    exact State.reg_readied (v := 1) (List.mem_append_right _ (List.mem_map.2 ⟨i, hi, rfl⟩)) (by simp [Reg.MPH_LSTATE_TRAINED])
      (steady_of_key (key_trained g i) (by omega) (by omega))
  · have hi9 := mem_required hi
    rw [(s.readied_undisturbed g).regs _ (steady_of_key (key_laneState g i) (by omega) (by omega)),
      (State.setRegs_keeps _ _).2 _ (readyRegs_apart (.inr (by rw [key_laneState, key_rate]; omega))), State.reg_setLanes hi (by decide)]

/-- READY leaves L2_REQ and all that is not of the links. -/
theorem State.l2Wanted_readied (s : State) (g : Nat) (hg : g < 16) : (s.readied g).l2Wanted g = s.l2Wanted g := by
  have hsaved : ∀ k ∈ (s.savedTaps g (s.trainRate g)).map Prod.fst, k.key ≠ (Reg.MPH_GRP_CTL_L2_REQ g).key := by
    intro k hk
    simp only [State.savedTaps, List.map_flatMap, List.mem_flatMap, List.map_cons, List.map_nil, List.mem_cons, List.not_mem_nil, or_false] at hk
    rw [key_l2Req]
    rcases hk with ⟨i, -, rfl | rfl⟩
    · rw [key_eqSaveTaps]; omega
    · rw [key_eqSaveValid]; omega
  have hwhen : Keeps [] ((s.savedTaps g (s.trainRate g)).map Prod.fst) s (s.tapsSaved g) := State.when_keeps s _ _ fun _ => s.setRegs_keeps _
  have hset := State.setRegs_keeps ((s.tapsSaved g).setLanes g laneL0 (s.required g)) (s.readyRegs g)
  have hready := s.readied_undisturbed g
  have hreq : (s.readied g).reg (Reg.MPH_GRP_CTL_L2_REQ g) = s.reg (Reg.MPH_GRP_CTL_L2_REQ g) := by
    rw [hready.regs _ (steady_of_key (key_l2Req g) (by omega) (by omega)), hset.2 _ (readyRegs_apart (.inl (by rw [key_l2Req]; omega))),
      State.reg_setLanes_ne fun i _ => by rw [key_laneState, key_l2Req]; omega]
    exact hwhen.2 _ hsaved
  have hpieces := (hwhen.pieces.mono (List.nil_subset lanePieces)).trans (((State.setLanes_keeps _ g laneL0 (s.required g)).pieces.mono
    (List.nil_subset _)).trans ((hset.pieces.mono (List.nil_subset _)).trans hready.pieces))
  have hpower : (s.readied g).power = s.power := hpieces .power (by decide)
  have hstripes : (s.readied g).stripes = s.stripes := hpieces .stripes (by decide)
  simp only [State.l2Wanted, State.flag, State.stripeBusy, hreq, hpower, hstripes]

/-- READY as the group shows it (R225, R237, R242). -/
theorem State.groupReady_shows (s : State) (hg : g < 16) : let t := s.groupReady g
    t.grp g = grpReady ∧ (∀ i ∈ s.required g, t.reg (Reg.MPH_LSTATE_TRAINED g i) = 1) ∧
      (s.l2Wanted g = false → ∀ i ∈ s.required g, t.reg (Reg.MPH_LSTATE_STATE g i) = laneL0) ∧ (s.l2Wanted g = true → t.inL2 g = true) ∧
      t.reg (Reg.MPH_GRP_STATUS_FAIL_REASON g) = 0 ∧ ((s.group g).l2Exit = false → t.reg (Reg.MPH_GRP_STATUS_SPARE_FIT g) = 0) := by
  obtain ⟨hgrp, hreason, hfit, hlanes⟩ := State.readied_shows (s := s) hg
  have hsent : Sends (s.readied g) ((s.readied g).spareStandby g) := State.spareStandby_sends _ g
  have hstays {f : Field} (hf : ∀ i < 10, (Reg.MPH_LSTATE_STATE g i).key ≠ f.key) : (s.groupReady g).reg f = (s.readied g).reg f := by
    rw [State.groupReady_eq]
    have hl2 := State.when_keeps ((s.readied g).spareStandby g) ((s.readied g).l2Wanted g) (·.enterL2 g) fun _ => State.enterL2_keeps _ g
    refine (hl2.2 f fun k hk => ?_).trans (hsent.reg f)
    obtain ⟨i, hi, rfl⟩ := List.mem_map.1 hk
    exact hf i (List.mem_range.1 hi)
  refine ⟨?_, fun i hi => ?_, fun hno i hi => ?_, fun hyes => ?_, ?_, fun hexit => ?_⟩
  · exact (hstays fun i hi => by rw [key_laneState, key_grpState]; omega).trans hgrp
  · exact (hstays fun j hj => by rw [key_laneState, key_trained]; omega).trans (hlanes i hi).1
  · rw [State.groupReady_eq, s.l2Wanted_readied g hg, hno, State.when, if_neg Bool.false_ne_true, hsent.reg]
    exact (hlanes i hi).2
  · rw [State.groupReady_eq, s.l2Wanted_readied g hg, hyes, State.when, if_pos rfl]
    exact State.inL2_enterL2 ((hsent.grp g).trans hgrp)
  · exact (hstays fun i hi => by rw [key_laneState, key_failReason]; omega).trans hreason
  · exact (hstays fun i hi => by rw [key_laneState, key_spareFit]; omega).trans (hfit hexit)

theorem State.groupReady_linkWork (s : State) (g : Nat) : LinkWork s (s.groupReady g) := by
  have hready : LinkWork s (s.readied g) :=
    ((((((LinkWork.refl s).when _ fun u => (LinkWork.refl u).setRegs _).setRegs _).setRegs _).when _ fun u => (LinkWork.refl u).count 17 6 1)).onGroup g _
  rw [State.groupReady_eq]
  exact (hready.trans ((State.spareStandby_sends _ g).keeps.pieces.linkWork (by decide) (by decide))).when _ fun u =>
    (LinkWork.refl u).enterL2 g

end

end Sys2Proof.Machine
end

section
/-! SUPPORT. A Muash group that comes up (R225, R226, R230, R231), and the taps that its far side asks for (R219, R223, R228). -/
namespace Sys2Proof.Machine

open Sys2Proof

/-! ### GROUP_START (R225) -/

section
variable {s : State} {g : Nat}

/-- The lanes of a group as its training begins. -/
def State.lanesStart (s : State) (g : Nat) : State :=
  ((s.setLanes g laneTrain (s.required g)).setLanes g laneL0 [9, 10]).setInitialTaps g 0

/-- A group in CAPS, before its lanes send anything. -/
def State.capsBegun (s : State) (g : Nat) : State :=
  (((s.lanesStart g).when (!s.flag (Reg.MPH_GRP_STATUS_STEPPED_DOWN g)) (·.setReg (Reg.MPH_GRP_STATUS_RATE g) 0)).setReg
    (Reg.MPH_GRP_STATUS_STATE g) grpCaps).emit (.clock g (some 0))

theorem exec_groupStart {g : Fin 16} (hoff : s.grp g = grpOff) (hstage : 2 ≤ s.reg Reg.GLB_STATUS_INSTAR) :
    exec (.groupStart g) s = answer s ((s.capsBegun g).train g 0 none) := by
  show execGroupStart g s = _
  simp only [execGroupStart, State.when, hoff, hstage, decide_true, beq_self_eq_true, Bool.and_self, if_true]
  rfl

theorem State.lanesStart_keeps (s : State) (g : Nat) : Keeps [] (groupFields g) s (s.lanesStart g) := by
  have hrequired : ∀ i ∈ s.required g, i < 11 := fun i hi => (mem_required hi).trans (by decide)
  have htrain := (s.setLanes_keeps g laneTrain (s.required g)).mono (List.Subset.refl _) (laneStates_subset hrequired)
  have hrest := ((s.setLanes g laneTrain (s.required g)).setLanes_keeps g laneL0 [9, 10]).mono (List.Subset.refl _)
    (laneStates_subset (g := g) (by simp))
  exact ((htrain.trans hrest).trans ((State.setInitialTaps_keeps _ g 0).mono (List.Subset.refl _) initialTaps_subset)).mono (by simp) (by simp)

/-- The slots' registers that training changes are the group's. -/
theorem statusFields_subset : [Reg.MPH_GRP_STATUS_STATE g, Reg.MPH_GRP_STATUS_RATE g] ⊆ groupFields g := by
  simp [groupFields]

theorem State.capsBegun_keeps (s : State) (g : Nat) : Keeps linkPieces [Reg.MPH_GRP_STATUS_STATE g, Reg.MPH_GRP_STATUS_RATE g]
    (s.lanesStart g) (s.capsBegun g) := by
  have hrate := State.when_keeps (s.lanesStart g) (!s.flag (Reg.MPH_GRP_STATUS_STEPPED_DOWN g)) (·.setReg (Reg.MPH_GRP_STATUS_RATE g) 0)
    fun _ => State.setReg_keeps _ _ _
  exact ((hrate.trans (State.setReg_keeps _ (Reg.MPH_GRP_STATUS_STATE g) grpCaps)).trans (State.emit_keeps _ _)).mono
    (by simp [linkPieces]) (by simp)

/-- The lanes as training begins: data lanes train, the clock and the return lane are up. -/
theorem State.reg_lanesStart (s : State) (g : Nat) :
    (∀ i ∈ s.required g, (s.lanesStart g).reg (Reg.MPH_LSTATE_STATE g i) = laneTrain) ∧
      (s.lanesStart g).reg (Reg.MPH_LSTATE_STATE g 9) = laneL0 := by
  have htaps (i : Nat) (u : State) : (u.setInitialTaps g 0).reg (Reg.MPH_LSTATE_STATE g i) = u.reg (Reg.MPH_LSTATE_STATE g i) := by
    refine State.reg_setInitialTaps fun j _ k hk => ?_
    simp only [tapFields, List.mem_cons, List.not_mem_nil, or_false] at hk
    rw [key_laneState]
    rcases hk with rfl | rfl | rfl
    · rw [key_txeqPre]; omega
    · rw [key_txeqMain]; omega
    · rw [key_txeqPost]; omega
  refine ⟨fun i hi => ?_, ?_⟩
  · have hi9 := mem_required hi
    rw [State.lanesStart, htaps, State.reg_setLanes_ne fun j hj => ?_, State.reg_setLanes hi (by decide)]
    rw [key_laneState, key_laneState]
    have : j = 9 ∨ j = 10 := by simpa using hj
    omega
  · rw [State.lanesStart, htaps, State.reg_setLanes (by simp) (by decide)]

theorem completes_groupStart {g : Fin 16} (hoff : s.grp g = grpOff) (hstage : 2 ≤ s.reg Reg.GLB_STATUS_INSTAR) :
    Completes (.groupStart g) s fun t => t.grp g = grpCaps ∧ (∀ i ∈ s.required g, t.reg (Reg.MPH_LSTATE_STATE g i) = laneTrain) ∧
      t.reg (Reg.MPH_LSTATE_STATE g 9) = laneL0 ∧ .clock g (some 0) ∈ t.out ∧ Trains t g 0 ∧ Keeps [.link, .out] (groupFields g) s t := by
  have hsent := State.train_sends (s.capsBegun g) g 0 none
  have hbegun := s.capsBegun_keeps g
  have hall : Keeps [.link, .out] (groupFields g) s ((s.capsBegun g).train g 0 none) :=
    (((s.lanesStart_keeps g).trans (hbegun.mono (List.Subset.refl _) statusFields_subset)).trans hsent.keeps).mono (by decide) (by simp)
  obtain ⟨htrain, hclock⟩ := s.reg_lanesStart g
  have hstate (i : Nat) (hi : i ≤ 9) : ((s.capsBegun g).train g 0 none).reg (Reg.MPH_LSTATE_STATE g i) =
      (s.lanesStart g).reg (Reg.MPH_LSTATE_STATE g i) := by
    refine (hsent.reg _).trans (hbegun.2 _ ?_)
    simp only [List.mem_cons, List.not_mem_nil, or_false, forall_eq_or_imp, forall_eq, key_grpState, key_rate, key_laneState]
    omega
  refine completes_of_pieces (exec_groupStart hoff hstage) hall.pieces
    ⟨?_, fun i hi => (hstate i (Nat.le_of_lt (mem_required hi))).trans (htrain i hi), (hstate 9 (by decide)).trans hclock,
      hsent.sent List.mem_cons_self, State.train_trains _ _ _, hall⟩
  rw [hsent.grp]
  exact State.reg_setState (s := _) (v := grpCaps) (by decide)

/-! ### CAPS (R208, R225, R226) -/

/-- The far side's capabilities as its CAPS gives them. -/
def farOf (b : List Byte) : FarCaps := ⟨byteAt b 2, byteAt b 3, leAt b 4 2⟩

/-- CAPS noted. -/
def State.capsTaken (s : State) (g : Nat) (b : List Byte) : State :=
  (s.onGroup g fun k => { k with far := some (farOf b) }).setReg (Reg.MPH_GRP_STATUS_FAR_MAX g) (byteAt b 2)

/-- A group that aligns at an agreed rate. -/
def State.alignBegun (s : State) (g : Nat) : State :=
  (s.setReg (Reg.MPH_GRP_STATUS_STATE g) grpAlign).onGroup g fun k => { k with agreed := s.agreed g }

/-- A group that has answered CAPS. -/
def State.capsAnswered (s : State) (g : Nat) (b : List Byte) : State :=
  ((s.capsTaken g b).alignBegun g).sendLink g 0 0x01 ((s.capsTaken g b).ownCaps g)

theorem State.takeCaps_bad {b : List Byte} (h : s.grp g = grpCaps) (hbad : byteAt b 7 ≠ 1 ∨ leAt b 4 2 ≠ s.reg Reg.FRM_DEVICE_DEVICE_ID) :
    s.takeCaps g b = (s.capsTaken g b).groupOut g 1 := by
  simp only [State.takeCaps, State.when, h, beq_self_eq_true, if_true, if_pos hbad]
  rfl

/-- A good CAPS is answered, and the group aligns, or goes on to LOW where taps are not exchanged. -/
theorem State.takeCaps_good {b : List Byte} (h : s.grp g = grpCaps) (h7 : byteAt b 7 = 1) (hid : leAt b 4 2 = s.reg Reg.FRM_DEVICE_DEVICE_ID) :
    s.takeCaps g b = (s.capsAnswered g b).when ((s.capsAnswered g b).skipsTaps g) (·.setReg (Reg.MPH_GRP_STATUS_STATE g) grpLow) := by
  simp only [State.takeCaps, State.when, h, beq_self_eq_true, if_true, if_neg (not_or.2 ⟨not_not.2 h7, not_not.2 hid⟩)]
  rfl

/-- The rate agreed is of the far side's, the group's own and the mode's ceiling (R226). -/
theorem State.agreed_congr {t : State} (hfar : (t.group g).far = (s.group g).far) (hnative : t.native = s.native)
    (hmax : t.reg (Reg.MPH_GRP_CTL_MAX_RATE g) = s.reg (Reg.MPH_GRP_CTL_MAX_RATE g))
    (hstep : t.reg (Reg.MPH_GRP_STATUS_STEPPED_DOWN g) = s.reg (Reg.MPH_GRP_STATUS_STEPPED_DOWN g))
    (hrate : t.reg (Reg.MPH_GRP_STATUS_RATE g) = s.reg (Reg.MPH_GRP_STATUS_RATE g)) : t.agreed g = s.agreed g := by
  simp only [State.agreed, State.flag, State.modeRate, hfar, hnative, hmax, hstep, hrate]
  rfl

theorem State.out_sendLink (s : State) (g slot type : Nat) (body : List Byte) : (s.sendLink g slot type body).out =
    if s.drives g slot then .message g slot (s.disparity (lineKey g slot)) (linkMessage type (s.line (lineKey g slot)).seq body) :: s.out
    else s.out := by
  unfold State.sendLink State.when
  split <;> rfl

theorem State.capsTaken_keeps (s : State) (g : Nat) (b : List Byte) : Keeps [.link] [Reg.MPH_GRP_STATUS_FAR_MAX g] s (s.capsTaken g b) :=
  ((s.onGroup_keeps g _).trans (State.setReg_keeps _ _ _)).mono (by decide) (by simp)

theorem State.alignBegun_keeps (s : State) (g : Nat) : Keeps [.link] [Reg.MPH_GRP_STATUS_STATE g] s (s.alignBegun g) :=
  ((s.setReg_keeps _ _).trans (State.onGroup_keeps _ g _)).mono (by decide) (by simp)

end

/-- The device tells its own ceiling and id (R208). -/
theorem State.ownCaps_congr {s t : State} {g : Nat} (hnative : t.native = s.native)
    (hmax : t.reg (Reg.MPH_GRP_CTL_MAX_RATE g) = s.reg (Reg.MPH_GRP_CTL_MAX_RATE g))
    (hid : t.reg Reg.FRM_DEVICE_DEVICE_ID = s.reg Reg.FRM_DEVICE_DEVICE_ID) : t.ownCaps g = s.ownCaps g := by
  simp only [State.ownCaps, State.modeRate, hnative, hmax, hid]

section
variable {s : State} {g : Nat} (hg : g < 16) (b : List Byte)

theorem State.capsAnswered_keeps : Keeps linkPieces [Reg.MPH_GRP_STATUS_STATE g, Reg.MPH_GRP_STATUS_FAR_MAX g] s (s.capsAnswered g b) :=
  (((s.capsTaken_keeps g b).trans (State.alignBegun_keeps _ g)).trans (State.sendLink_sends _ _ _ _ _).keeps).mono (by decide) (by simp)

theorem State.grp_capsAnswered : (s.capsAnswered g b).grp g = grpAlign :=
  ((State.sendLink_sends _ _ _ _ _).grp g).trans (State.reg_setState (s := s.capsTaken g b) (v := grpAlign) (by decide))

include hg

theorem State.far_capsTaken : ((s.capsTaken g b).group g).far = some (farOf b) := congrArg Group.far (s.group_onGroup_same hg _)

/-- The group knows its far side and the rate agreed. -/
theorem State.group_capsAnswered :
    ((s.capsAnswered g b).group g).far = some (farOf b) ∧ ((s.capsAnswered g b).group g).agreed = (s.capsTaken g b).agreed g := by
  have hgroup : (s.capsAnswered g b).group g = _ :=
    ((State.sendLink_sends _ _ _ _ _).group g).trans (State.group_onGroup_same _ hg _)
  rw [hgroup]
  exact ⟨State.far_capsTaken hg b, rfl⟩

/-- The rate agreed is that of all that is known now. -/
theorem State.agreed_capsAnswered : ((s.capsAnswered g b).group g).agreed = (s.capsAnswered g b).agreed g := by
  obtain ⟨hfar, hagreed⟩ := State.group_capsAnswered (s := s) hg b
  have htaken : Keeps linkPieces [Reg.MPH_GRP_STATUS_STATE g] (s.capsTaken g b) (s.capsAnswered g b) :=
    ((State.alignBegun_keeps _ g).trans (State.sendLink_sends _ _ _ _ _).keeps).mono (by decide) (by simp)
  have hmode : (s.capsAnswered g b).mode = (s.capsTaken g b).mode := htaken.pieces .mode (by decide)
  rw [hagreed]
  refine (State.agreed_congr (hfar.trans (State.far_capsTaken hg b).symm) (by rw [State.native, State.native, hmode])
    (htaken.2 _ ?_) (htaken.2 _ ?_) (htaken.2 _ ?_)).symm
  · simp only [List.mem_singleton, forall_eq, key_grpState, key_maxRate]; omega
  · simp only [List.mem_singleton, forall_eq, key_grpState, key_steppedDown]; omega
  · simp only [List.mem_singleton, forall_eq, key_grpState, key_rate]; omega

theorem State.out_capsAnswered : (s.capsAnswered g b).out =
    if s.drives g 0 then .message g 0 (s.disparity (lineKey g 0)) (linkMessage 0x01 (s.line (lineKey g 0)).seq (s.ownCaps g)) :: s.out
    else s.out := by
  have htaken := ((s.capsTaken_keeps g b).trans (State.alignBegun_keeps (s.capsTaken g b) g)).mono (ps' := [.link]) (fs' := groupFields g)
    (by decide) (by simp [groupFields])
  have hown : (s.capsTaken g b).ownCaps g = s.ownCaps g := by
    refine State.ownCaps_congr rfl ((s.capsTaken_keeps g b).2 _ ?_) ((s.capsTaken_keeps g b).2 _ ?_)
    · simp only [List.mem_singleton, forall_eq, key_farMax, key_maxRate]; omega
    · rw [List.forall_mem_singleton, key_farMax, show Reg.FRM_DEVICE_DEVICE_ID.key = 32 * 0xD004 + 0 from rfl]
      omega
  rw [State.capsAnswered, State.out_sendLink, (htaken.routed hg (List.Subset.refl _)).drives (by decide), hown]
  rfl

theorem State.skipsTaps_capsAnswered : (s.capsAnswered g b).skipsTaps g = !(s.native && bitOf (byteAt b 3) 0) := by
  obtain ⟨hfar, -⟩ := State.group_capsAnswered (s := s) hg b
  have hmode : (s.capsAnswered g b).mode = s.mode := (State.capsAnswered_keeps b).pieces .mode (by decide)
  simp only [State.skipsTaps, hfar, State.native, hmode, farOf, Bool.not_and]

end

section
variable {s : State} {g : Fin 16} {m : LinkMsg} (hgood : Good s g m) (hcaps : s.grp g = grpCaps) (hkind : byteAt m.bytes 0 = 1)
include hgood hkind

theorem exec_caps : exec (.caps g m) s = answer s ((s.heard g m).takeCaps g m.bytes) := by
  simp only [exec, execCaps, State.receive_of_good hgood, State.when, hkind, beq_self_eq_true, if_true]

include hcaps

/-- What a bad CAPS names wrong puts the group out (R225). -/
theorem completes_caps_bad (hbad : byteAt m.bytes 7 ≠ 1 ∨ leAt m.bytes 4 2 ≠ s.reg Reg.FRM_DEVICE_DEVICE_ID) :
    Completes (.caps g m) s fun t => t.grp g = grpOut ∧ t.reg (Reg.MPH_GRP_STATUS_FAIL_REASON g) = 1 ∧
      t.reg Reg.GLB_IRQ_CAUSE_LINK = 1 ∧ t.posted 2 g 5 := by
  have hexec := exec_caps hgood hkind
  have hid : (s.heard g m).reg Reg.FRM_DEVICE_DEVICE_ID = s.reg Reg.FRM_DEVICE_DEVICE_ID := State.reg_heard (by decide)
  rw [State.takeCaps_bad ((State.grp_heard g.isLt).trans hcaps) (hid ▸ hbad)] at hexec
  have hwork : LinkWork s (((s.heard g m).capsTaken g m.bytes).groupOut g 1) :=
    ((((s.heard_keeps g m).trans (State.capsTaken_keeps _ g m.bytes)).pieces.linkWork (by decide) (by decide))).trans
      (State.groupOut_linkWork _ g 1)
  exact completes_of_pieces hexec hwork.pieces (State.groupOut_shows _ g.isLt (by decide))

/-- A good CAPS (R208, R226). -/
theorem completes_caps_good (h7 : byteAt m.bytes 7 = 1) (hdev : leAt m.bytes 4 2 = s.reg Reg.FRM_DEVICE_DEVICE_ID) :
    Completes (.caps g m) s fun t =>
      t.grp g = (if s.native = true ∧ bitOf (byteAt m.bytes 3) 0 = true then grpAlign else grpLow) ∧
      (t.group g).far = some ⟨byteAt m.bytes 2, byteAt m.bytes 3, leAt m.bytes 4 2⟩ ∧
      (t.group g).agreed = t.agreed g ∧
      t.out = (if s.drives g 0 then .message g 0 (s.disparity (lineKey g 0)) (linkMessage 0x01 (s.line (lineKey g 0)).seq (s.ownCaps g)) ::
        s.out else s.out) ∧
      Keeps [.link, .out, .counters] [Reg.MPH_GRP_STATUS_STATE g, Reg.MPH_GRP_STATUS_FAR_MAX g, ovf 16] s t := by
  have hexec := exec_caps hgood hkind
  have hid : (s.heard g m).reg Reg.FRM_DEVICE_DEVICE_ID = s.reg Reg.FRM_DEVICE_DEVICE_ID := State.reg_heard (by decide)
  rw [State.takeCaps_good ((State.grp_heard g.isLt).trans hcaps) h7 (hdev.trans hid.symm), State.skipsTaps_capsAnswered g.isLt] at hexec
  have hlow := State.when_keeps ((s.heard g m).capsAnswered g m.bytes) (!((s.heard g m).native && bitOf (byteAt m.bytes 3) 0))
    (·.setReg (Reg.MPH_GRP_STATUS_STATE g) grpLow) fun _ => State.setReg_keeps _ _ _
  have hkeeps := (((s.heard_keeps g m).trans (State.capsAnswered_keeps m.bytes)).trans hlow).mono (ps' := [.link, .out, .counters])
    (fs' := [Reg.MPH_GRP_STATUS_STATE g, Reg.MPH_GRP_STATUS_FAR_MAX g, ovf 16]) (by decide) (by simp)
  obtain ⟨hfar, -⟩ := State.group_capsAnswered (s := s.heard g m) g.isLt m.bytes
  generalize ht : ((s.heard g m).capsAnswered g m.bytes).when (!((s.heard g m).native && bitOf (byteAt m.bytes 3) 0))
    (·.setReg (Reg.MPH_GRP_STATUS_STATE g) grpLow) = t at hexec hlow hkeeps
  have hgroup : t.group g = ((s.heard g m).capsAnswered g m.bytes).group g := hlow.pieces.group (by decide) g
  have hout : t.out = ((s.heard g m).capsAnswered g m.bytes).out := hlow.pieces .out (by decide)
  refine completes_of_pieces hexec hkeeps.pieces ⟨?_, (congrArg Group.far hgroup).trans hfar, ?_, ?_, hkeeps⟩
  · subst ht
    cases hbit : s.native && bitOf (byteAt m.bytes 3) 0 with
    | true =>
      have hbit' : ((s.heard g m).native && bitOf (byteAt m.bytes 3) 0) = true := hbit
      rw [hbit', if_pos (by simpa using hbit)]
      exact State.grp_capsAnswered m.bytes
    | false =>
      have hbit' : ((s.heard g m).native && bitOf (byteAt m.bytes 3) 0) = false := hbit
      rw [hbit', if_neg (by simpa using hbit)]
      exact State.reg_setState (s := (s.heard g m).capsAnswered g m.bytes) (v := grpLow) (by decide)
  · have hmode : t.mode = ((s.heard g m).capsAnswered g m.bytes).mode := hlow.pieces .mode (by decide)
    rw [hgroup, State.agreed_capsAnswered g.isLt]
    refine (State.agreed_congr (congrArg Group.far hgroup) (by rw [State.native, State.native, hmode]) (hlow.2 _ ?_) (hlow.2 _ ?_)
      (hlow.2 _ ?_)).symm
    · simp only [List.mem_singleton, forall_eq, key_grpState, key_maxRate]; omega
    · simp only [List.mem_singleton, forall_eq, key_grpState, key_steppedDown]; omega
    · simp only [List.mem_singleton, forall_eq, key_grpState, key_rate]; omega
  · have hown : (s.heard g m).ownCaps g = s.ownCaps g :=
      State.ownCaps_congr rfl (State.reg_heard_lane (by rw [key_maxRate]; omega) (by rw [key_maxRate]; omega)) hid
    rw [hout, State.out_capsAnswered g.isLt, ((s.heard_undisturbed g m).routed g.isLt).drives (by decide), hown]
    rfl

end

theorem completes_capsTimeout {s : State} {g : Fin 16} (hcaps : s.grp g = grpCaps) : Completes (.capsTimeout g) s fun t =>
    t.grp g = grpOut ∧ t.reg (Reg.MPH_GRP_STATUS_FAIL_REASON g) = 2 ∧ t.reg Reg.GLB_IRQ_CAUSE_LINK = 1 ∧ t.posted 2 g 5 := by
  have hexec : exec (.capsTimeout g) s = answer s (s.groupOut g 2) := by
    simp only [exec, execCapsTimeout, State.when, hcaps, beq_self_eq_true, if_true]
  exact completes_of_pieces hexec (s.groupOut_linkWork g 2).pieces (s.groupOut_shows g.isLt (by decide))

/-! ### GROUP_RATE_RAISE (R225, R226) -/

section
variable {s : State} {g : Nat}

/-- A group that leaves LOW for the rate agreed. -/
def State.raiseBegun (s : State) (g : Nat) : State :=
  (s.setReg (Reg.MPH_GRP_STATUS_RATE g) (s.group g).agreed).onGroup g fun k => { k with held := [] }

/-- The lanes' last words at rate 0, and the clock at the new rate with its initial taps. -/
def State.clockRaised (s : State) (g n : Nat) : State :=
  (((s.train g 3 (some 8)).emit (.clock g none)).emit (.clock g (some n))).setInitialTaps g n

/-- A group in EQ, before its lanes send anything. -/
def State.eqBegun (s : State) (g n : Nat) : State :=
  ((s.clockRaised g n).setRegs ((List.range 9).map fun i => (Reg.MPH_LSTATE_TRAINED g i, 0))).setReg (Reg.MPH_GRP_STATUS_STATE g) grpEq

theorem State.raiseBegun_keeps (s : State) (g : Nat) : Keeps [.link] [Reg.MPH_GRP_STATUS_RATE g] s (s.raiseBegun g) :=
  ((s.setReg_keeps _ _).trans (State.onGroup_keeps _ g _)).mono (by decide) (by simp)

theorem State.clockRaised_keeps (s : State) (g n : Nat) :
    Keeps linkPieces ((List.range 9).flatMap (tapFields g)) s (s.clockRaised g n) ∧ ∀ h, (s.clockRaised g n).group h = s.group h := by
  have hsent : Sends s (((s.train g 3 (some 8)).emit (.clock g none)).emit (.clock g (some n))) :=
    ((s.train_sends g 3 (some 8)).trans (State.emit_sends _ _)).trans (State.emit_sends _ _)
  have htaps := State.setInitialTaps_keeps (((s.train g 3 (some 8)).emit (.clock g none)).emit (.clock g (some n))) g n
  exact ⟨(hsent.keeps.trans htaps).mono (by simp [linkPieces]) (List.Subset.refl _),
    fun h => (htaps.pieces.group (by simp) h).trans (hsent.group h)⟩

/-- No lane is trained yet. -/
def untrained (g : Nat) : List (Field × Nat) := (List.range 9).map fun i => (Reg.MPH_LSTATE_TRAINED g i, 0)

theorem mem_untrained {k : Field} (hk : k ∈ (untrained g).map Prod.fst) : ∃ i < 9, k = Reg.MPH_LSTATE_TRAINED g i := by
  obtain ⟨e, he, rfl⟩ := List.mem_map.1 hk
  obtain ⟨i, hi, rfl⟩ := List.mem_map.1 he
  exact ⟨i, List.mem_range.1 hi, rfl⟩

theorem State.eqBegun_eq (s : State) (g n : Nat) :
    s.eqBegun g n = ((s.clockRaised g n).setRegs (untrained g)).setReg (Reg.MPH_GRP_STATUS_STATE g) grpEq := rfl

theorem State.eqBegun_keeps (s : State) (g n : Nat) : Keeps linkPieces (groupFields g) s (s.eqBegun g n) ∧
    ∀ h, (s.eqBegun g n).group h = s.group h := by
  obtain ⟨hclock, hgroup⟩ := s.clockRaised_keeps g n
  have hset : Keeps [] (groupFields g) (s.clockRaised g n) ((s.clockRaised g n).setRegs (untrained g)) :=
    (State.setRegs_keeps _ (untrained g)).mono (List.Subset.refl _) fun k hk => by
      obtain ⟨i, hi, rfl⟩ := mem_untrained hk
      exact slotFields_subset (i := i) (by omega) (by simp [slotFields])
  have hstate := (State.setReg_keeps ((s.clockRaised g n).setRegs (untrained g)) (Reg.MPH_GRP_STATUS_STATE g) grpEq).mono
    (fs' := groupFields g) (List.Subset.refl _) (by simp [groupFields])
  rw [State.eqBegun_eq]
  exact ⟨(((hclock.mono (List.Subset.refl _) initialTaps_subset).trans hset).trans hstate).mono (by simp) (by simp), fun h => by
    rw [State.group_setReg, State.group_setRegs, hgroup]⟩

theorem State.rate_eqBegun (s : State) (g n : Nat) :
    (s.eqBegun g n).reg (Reg.MPH_GRP_STATUS_RATE g) = s.reg (Reg.MPH_GRP_STATUS_RATE g) := by
  rw [State.eqBegun_eq, State.reg_setReg_ne _ _ _ _ (by rw [key_rate, key_grpState]; omega), (State.setRegs_keeps _ (untrained g)).2 _ fun k hk => ?_]
  · refine (s.clockRaised_keeps g n).1.2 _ fun k hk => ?_
    simp only [List.mem_flatMap, tapFields, List.mem_cons, List.not_mem_nil, or_false] at hk
    rw [key_rate]
    rcases hk with ⟨i, -, rfl | rfl | rfl⟩
    · rw [key_txeqPre]; omega
    · rw [key_txeqMain]; omega
    · rw [key_txeqPost]; omega
  · obtain ⟨i, -, rfl⟩ := mem_untrained hk
    rw [key_trained, key_rate]
    omega

theorem exec_groupRateRaise {g : Fin 16} (hlow : s.grp g = grpLow) (hstage : 3 ≤ s.reg Reg.GLB_STATUS_INSTAR) :
    exec (.groupRateRaise g) s = answer s (if (s.group g).agreed = 0 then (s.raiseBegun g).enterVerify g
      else if ((s.raiseBegun g).eqBegun g (s.group g).agreed).skipsTaps g then ((s.raiseBegun g).eqBegun g (s.group g).agreed).enterVerify g
      else ((s.raiseBegun g).eqBegun g (s.group g).agreed).train g (((s.raiseBegun g).eqBegun g (s.group g).agreed).tsqPhase g) none) := by
  show execGroupRateRaise g s = _
  simp only [execGroupRateRaise, State.when, hlow, hstage, decide_true, beq_self_eq_true, Bool.and_self, if_true]
  rfl

/-- The group's record and rate as it leaves LOW. -/
theorem State.raiseBegun_shows (s : State) (hg : g < 16) : (s.raiseBegun g).group g = { s.group g with held := [] } ∧
    (s.raiseBegun g).reg (Reg.MPH_GRP_STATUS_RATE g) = (s.group g).agreed % 8 :=
  ⟨State.group_onGroup_same _ hg _, State.reg_setReg_same _ _ _ (by simp [Reg.MPH_GRP_STATUS_RATE])⟩

theorem State.skipsTaps_congr {t : State} (hfar : (t.group g).far = (s.group g).far) (hnative : t.native = s.native) :
    t.skipsTaps g = s.skipsTaps g := by
  simp only [State.skipsTaps, hfar, hnative]

theorem completes_groupRateRaise {g : Fin 16} (hlow : s.grp g = grpLow) (hstage : 3 ≤ s.reg Reg.GLB_STATUS_INSTAR) :
    Completes (.groupRateRaise g) s fun t =>
      t.reg (Reg.MPH_GRP_STATUS_RATE g) = (s.group g).agreed % 8 ∧ (t.group g).held = [] ∧
        t.grp g = (if (s.group g).agreed = 0 ∨ s.skipsTaps g = true then grpVerify else grpEq) ∧ Trains t g (t.tsqPhase g) ∧
        Keeps [.link, .out] (groupFields g) s t := by
  have hexec := exec_groupRateRaise hlow hstage
  obtain ⟨hgroup, hrate⟩ := s.raiseBegun_shows g.isLt
  have hbegun : Keeps [.link] (groupFields g) s (s.raiseBegun g) := (s.raiseBegun_keeps g).mono (List.Subset.refl _) (by simp [groupFields])
  obtain ⟨heq, heqGroup⟩ := (s.raiseBegun g).eqBegun_keeps g (s.group g).agreed
  have heqRate := (s.raiseBegun g).rate_eqBegun g (s.group g).agreed
  have hskips : ((s.raiseBegun g).eqBegun g (s.group g).agreed).skipsTaps g = s.skipsTaps g := by
    have hmode : ((s.raiseBegun g).eqBegun g (s.group g).agreed).mode = s.mode :=
      (heq.pieces .mode (by decide)).trans (hbegun.pieces .mode (by decide))
    exact State.skipsTaps_congr (by rw [heqGroup, hgroup]) (by rw [State.native, State.native, hmode])
  -- VERIFY entered from a state of the raise
  have hverify {u : State} (hu : Keeps linkPieces (groupFields g) s u) (hug : u.group g = { s.group g with held := [] })
      (hur : u.reg (Reg.MPH_GRP_STATUS_RATE g) = (s.group g).agreed % 8) :
      (u.enterVerify g).reg (Reg.MPH_GRP_STATUS_RATE g) = (s.group g).agreed % 8 ∧ ((u.enterVerify g).group g).held = [] ∧
        Keeps [.link, .out] (groupFields g) s (u.enterVerify g) := by
    have hkeeps := u.enterVerify_keeps g
    refine ⟨(hkeeps.2 _ ?_).trans hur, ?_, (hu.trans hkeeps).mono (by decide) (by simp [groupFields])⟩
    · rw [List.forall_mem_singleton, key_grpState, key_rate]; omega
    · rw [u.group_enterVerify g.isLt, hug]
      rfl
  by_cases h0 : (s.group g).agreed = 0
  · rw [if_pos h0] at hexec
    obtain ⟨hr, hheld, hkeeps⟩ := hverify (hbegun.mono (by decide) (List.Subset.refl _)) hgroup hrate
    exact completes_of_pieces hexec hkeeps.pieces
      ⟨hr, hheld, by rw [if_pos (.inl h0), State.grp_enterVerify], State.enterVerify_trains _ _, hkeeps⟩
  · rw [if_neg h0, hskips] at hexec
    have hall : Keeps linkPieces (groupFields g) s ((s.raiseBegun g).eqBegun g (s.group g).agreed) :=
      (hbegun.trans heq).mono (by decide) (by simp)
    by_cases hskip : s.skipsTaps g = true
    · rw [if_pos hskip] at hexec
      obtain ⟨hr, hheld, hkeeps⟩ := hverify hall ((heqGroup g).trans hgroup) (heqRate.trans hrate)
      exact completes_of_pieces hexec hkeeps.pieces
        ⟨hr, hheld, by rw [if_pos (.inr hskip), State.grp_enterVerify], State.enterVerify_trains _ _, hkeeps⟩
    · rw [if_neg hskip] at hexec
      have hsent := State.train_sends ((s.raiseBegun g).eqBegun g (s.group g).agreed) g
        (((s.raiseBegun g).eqBegun g (s.group g).agreed).tsqPhase g) none
      have hkeeps : Keeps [.link, .out] (groupFields g) s _ := (hall.trans hsent.keeps).mono (by decide) (by simp)
      refine completes_of_pieces hexec hkeeps.pieces ⟨(hsent.reg _).trans (heqRate.trans hrate), ?_, ?_, ?_, hkeeps⟩
      · rw [hsent.group, heqGroup, hgroup]
      · rw [if_neg (not_or.2 ⟨h0, hskip⟩), hsent.grp]
        exact State.reg_setState (s := _) (v := grpEq) (by decide)
      · rw [hsent.tsqPhase]
        exact State.train_trains _ _ _

end

/-! ### What a message leaves of a group (R208) -/

section
variable {s : State} {g : Nat} {m : LinkMsg} (hg : g < 16)
include hg

theorem required_heard : (s.heard g m).required g = s.required g :=
  ((s.heard_undisturbed g m).routed hg).required (by rw [State.group_heard hg]; rfl)

theorem verifyLog2_heard : (s.heard g m).verifyLog2 g = s.verifyLog2 g := by
  rw [State.verifyLog2, State.verifyLog2, State.group_heard hg,
    (s.heard_undisturbed g m).regs _ (steady_of_key (key_verifyLog2 g) (by omega) (by omega))]
  rfl

theorem l2Wanted_heard : (s.heard g m).l2Wanted g = s.l2Wanted g := by
  rw [State.l2Wanted, State.l2Wanted, State.flag, State.flag,
    (s.heard_undisturbed g m).regs _ (steady_of_key (key_l2Req g) (by omega) (by omega))]
  rfl

end

/-! ### The end of VERIFY (R231, R235, R237) -/

section
variable {s : State} {g : Nat}

/-- A group with a lane's result. -/
def Group.noted (k : Group) (lane : Nat) (pass : Bool) : Group := { k with results := (lane, pass) :: k.results.filter fun r => r.1 != lane }

/-- The window ends once every required lane has passed. -/
theorem State.verifiedOn_passed (hverify : s.grp g = grpVerify) (hall : ∀ i ∈ s.required g, (i, true) ∈ (s.group g).results) :
    s.verifiedOn g = s.windowEnds g := by
  have hany : ((s.required g).all fun i => (s.group g).results.any fun r => r.1 == i) = true :=
    List.all_eq_true.2 fun i hi => List.any_eq_true.2 ⟨(i, true), hall i hi, beq_self_eq_true i⟩
  simp [State.verifiedOn, State.when, hverify, hany]

theorem State.windowEnds_change (h : (s.group g).rateChange = true) : s.windowEnds g = s.retrain g := by
  simp [State.windowEnds, h]

theorem State.windowEnds_ready (h : (s.group g).rateChange = false) (h' : (s.group g).stepLater = false)
    (hall : ∀ i ∈ s.required g, (i, true) ∈ (s.group g).results) : s.windowEnds g = s.groupReady g := by
  have hpassed : ((s.required g).all fun i => (s.group g).results.contains (i, true)) = true :=
    List.all_eq_true.2 fun i hi => List.contains_iff_mem.2 (hall i hi)
  simp only [State.windowEnds, h, h', State.when, hpassed, Bool.false_eq_true, if_false, if_true]

theorem State.retrain_linkWork (s : State) (g : Nat) : LinkWork s (s.retrain g) := (LinkWork.refl s).retrain g

end

section
variable {s : State} {g : Fin 16} {m : LinkMsg} (hgood : Good s g m) (hkind : byteAt m.bytes 0 = 5)
include hgood hkind

theorem exec_prbsResult : exec (.prbsResult g m) s = answer s ((s.heard g m).takePrbsResult g m.bytes) := by
  simp only [exec, execPrbsResult, State.receive_of_good hgood, State.when, hkind, beq_self_eq_true, if_true]

variable (hverify : s.grp g = grpVerify) (hnative : s.native = true) (hlane : byteAt m.bytes 2 ∈ s.required g)
  (hclean : leAt m.bytes 8 4 = 0) (hok : byteAt m.bytes 12 = 1) (hbits : leAt m.bytes 4 4 = 2 ^ (s.verifyLog2 g - 20))
include hverify hnative hlane hclean hok hbits

/-- A lane that passed is noted (R231). -/
theorem exec_prbsResult_passed : exec (.prbsResult g m) s = answer s
    (((s.heard g m).onGroup g fun k => k.noted (byteAt m.bytes 2) true).verifiedOn g) := by
  have hgrp : (s.heard g m).grp g = grpVerify := (State.grp_heard g.isLt).trans hverify
  have hnat : (s.heard g m).native = true := hnative
  have hreq : ((s.heard g m).required g).contains (byteAt m.bytes 2) = true := by
    rw [required_heard g.isLt]
    exact List.contains_iff_mem.2 hlane
  rw [exec_prbsResult hgood hkind, State.takePrbsResult, if_pos ⟨hgrp, hnat⟩, State.when, if_pos hreq, verifyLog2_heard g.isLt, hclean, hok, hbits]
  simp only [beq_self_eq_true, Bool.and_self, Bool.not_true, State.when, Bool.false_eq_true, if_false]
  rfl

variable (hrest : ∀ i ∈ s.required g, i ≠ byteAt m.bytes 2 → (i, true) ∈ (s.group g).results)
include hrest

/-- With the last lane's result the window ends. -/
theorem exec_prbsResult_last : ∃ u : State, exec (.prbsResult g m) s = answer s (u.windowEnds g) ∧ LinkWork s u ∧
    u.required g = s.required g ∧ u.l2Wanted g = s.l2Wanted g ∧ u.group g = ((s.group g).heard m).noted (byteAt m.bytes 2) true ∧
    ∀ i ∈ u.required g, (i, true) ∈ (u.group g).results := by
  have hgroup : ((s.heard g m).onGroup g fun k => k.noted (byteAt m.bytes 2) true).group g =
      ((s.group g).heard m).noted (byteAt m.bytes 2) true := by
    rw [State.group_onGroup_same _ g.isLt, State.group_heard g.isLt]
  have hreq : ((s.heard g m).onGroup g fun k => k.noted (byteAt m.bytes 2) true).required g = s.required g :=
    (((State.onGroup_keeps _ g _).routed g.isLt (List.nil_subset _)).required
      (by rw [hgroup, State.group_heard g.isLt]; rfl)).trans (required_heard g.isLt)
  have hall : ∀ i ∈ s.required g, (i, true) ∈ (((s.group g).heard m).noted (byteAt m.bytes 2) true).results := by
    intro i hi
    by_cases hne : i = byteAt m.bytes 2
    · exact hne ▸ List.mem_cons_self
    · exact List.mem_cons_of_mem _ (List.mem_filter.2 ⟨hrest i hi hne, by simpa using hne⟩)
  refine ⟨(s.heard g m).onGroup g fun k => k.noted (byteAt m.bytes 2) true, ?_,
    (((s.heard_keeps g m).pieces.linkWork (by decide) (by decide))).onGroup g _, hreq, l2Wanted_heard (m := m) g.isLt, hgroup, ?_⟩
  · rw [exec_prbsResult_passed hgood hkind hverify hnative hlane hclean hok hbits, State.verifiedOn_passed]
    · exact (State.grp_heard g.isLt).trans hverify
    · rw [hreq, hgroup]
      exact hall
  · rw [hreq, hgroup]
    exact hall

end

/-! ### VERIFY in XK2 mode (R231, R235) -/

theorem exec_xk2VerifyDone {s : State} {g : Fin 16} (hverify : s.grp g = grpVerify) (hxk2 : s.native = false) :
    exec (.xk2VerifyDone g) s = answer s (if (s.group g).rateChange then s.retrain g else s.groupReady g) := by
  simp only [exec, execXk2VerifyDone, State.when, hverify, hxk2, beq_self_eq_true, Bool.not_false, Bool.and_self, if_true]

theorem clauseGroupBringUp : ClauseGroupBringUp := by
  refine ⟨fun s g hoff hstage => completes_groupStart hoff hstage,
    fun s g m hgood hcaps hkind => ⟨fun h7 hdev => completes_caps_good hgood hcaps hkind h7 hdev,
      fun hbad => completes_caps_bad hgood hcaps hkind hbad⟩,
    fun s g hcaps => completes_capsTimeout hcaps, fun s g hlow hstage => completes_groupRateRaise hlow hstage,
    fun s g m hgood hverify hnative hkind hlane hclean hok hbits hrest => ?native, fun s g hverify hxk2 => ?xk2⟩
  case native =>
    obtain ⟨u, hexec, hwork, hreq, hl2, hgroup, hall⟩ := exec_prbsResult_last hgood hkind hverify hnative hlane hclean hok hbits hrest
    refine ⟨fun hrate hstep => ?_, fun hrate => ?_⟩
    · have hchange : (u.group g).rateChange = false := by rw [hgroup]; exact hrate
      have hlater : (u.group g).stepLater = false := by rw [hgroup]; exact hstep
      have hexit : (u.group g).l2Exit = (s.group g).l2Exit := by rw [hgroup]; rfl
      rw [State.windowEnds_ready hchange hlater hall] at hexec
      have hshows := u.groupReady_shows g.isLt
      rw [hreq, hl2, hexit] at hshows
      exact completes_of_pieces hexec (hwork.trans (u.groupReady_linkWork g)).pieces hshows
    · have hchange : (u.group g).rateChange = true := by rw [hgroup]; exact hrate
      rw [State.windowEnds_change hchange] at hexec
      exact completes_of_pieces hexec (hwork.trans (u.retrain_linkWork g)).pieces (u.grp_retrain g.isLt)
  case xk2 =>
    have hexec := exec_xk2VerifyDone hverify hxk2
    refine ⟨fun hrate => ?_, fun hrate => ?_⟩
    · rw [hrate, if_neg Bool.false_ne_true] at hexec
      obtain ⟨hready, -, hlanes, -⟩ := s.groupReady_shows g.isLt
      exact completes_of_pieces hexec (s.groupReady_linkWork g).pieces ⟨hready, hlanes⟩
    · rw [hrate, if_pos rfl] at hexec
      exact completes_of_pieces hexec (s.retrain_linkWork g).pieces (s.grp_retrain g.isLt)

/-! ### TAP_REQ (R219, R223, R228) -/

section
variable {s t : State} {g : Nat}

/-- What a group's training sequence says is the same in two states, aside from its taps. -/
structure Staged (g : Nat) (s t : State) : Prop where
  grp : t.grp g = s.grp g
  rate : t.reg (Reg.MPH_GRP_STATUS_RATE g) = s.reg (Reg.MPH_GRP_STATUS_RATE g)
  log2 : t.reg (Reg.MPH_GRP_CTL_VERIFY_LOG2 g) = s.reg (Reg.MPH_GRP_CTL_VERIFY_LOG2 g)
  l2Exit : (t.group g).l2Exit = (s.group g).l2Exit
  fast : (t.group g).fast = (s.group g).fast
  native : t.native = s.native

theorem Staged.trans {u : State} (h : Staged g s t) (h' : Staged g t u) : Staged g s u :=
  ⟨h'.grp.trans h.grp, h'.rate.trans h.rate, h'.log2.trans h.log2, h'.l2Exit.trans h.l2Exit, h'.fast.trans h.fast, h'.native.trans h.native⟩

theorem Staged.trainRate (h : Staged g s t) : t.trainRate g = s.trainRate g := by simp only [State.trainRate, h.grp, h.rate]
theorem Staged.tsqPhase (h : Staged g s t) : t.tsqPhase g = s.tsqPhase g := by simp only [State.tsqPhase, h.grp, h.fast, h.native]
theorem Staged.verifyLog2 (h : Staged g s t) : t.verifyLog2 g = s.verifyLog2 g := by simp only [State.verifyLog2, h.l2Exit, h.log2]

theorem heard_staged (hg : g < 16) (m : LinkMsg) : Staged g s (s.heard g m) := by
  have hheard := s.heard_undisturbed g m
  exact ⟨hheard.grp hg, hheard.regs _ (steady_of_key (key_rate g) (by omega) (by omega)),
    hheard.regs _ (steady_of_key (key_verifyLog2 g) (by omega) (by omega)), by rw [State.group_heard hg]; rfl,
    by rw [State.group_heard hg]; rfl, rfl⟩

theorem Undisturbed.taps {ps : List Piece} (h : Undisturbed ps s t) (hg : g < 16) {i : Nat} (hi : i < 11) : t.taps g i = s.taps g i := by
  have hpre := h.regs (Reg.MPH_TXEQ_PRE g i) (steady_of_key (key_txeqPre g i) (by omega) (by omega))
  have hmain := h.regs (Reg.MPH_TXEQ_MAIN g i) (steady_of_key (key_txeqMain g i) (by omega) (by omega))
  have hpost := h.regs (Reg.MPH_TXEQ_POST g i) (steady_of_key (key_txeqPost g i) (by omega) (by omega))
  simp only [State.taps, State.sreg, hpre, hmain, hpost]

/-- A transmitter is kept with the links. -/
theorem State.line_congr (h : t.link = s.link) (key : Nat) : t.line key = s.line key := by simp only [State.line, h]

/-- Taps put in force, and the request counted. -/
def State.tapsPut (s : State) (g lane : Nat) (r : Nat × Taps) : State := (s.setTaps g lane r.2).count 17 (if r.1 = 0 then 2 else 3) 1

theorem State.tapsPut_keeps (s : State) (g lane : Nat) (r : Nat × Taps) :
    Keeps [.counters] (tapFields g lane ++ [ovf 17]) s (s.tapsPut g lane r) :=
  ((s.setTaps_keeps g lane r.2).trans (State.count_keeps _ 17 _ 1)).mono (by simp) (List.Subset.refl _)

/-- Putting taps in force leaves every other register of the lanes and groups. -/
theorem State.reg_tapsPut {lane : Nat} {r : Nat × Taps} {f : Field} (hoff : f.key / 32 ≠ 0x10000 + 0x400 * g + 0x40 * lane)
    (hlt : f.key < 32 * 0x14000) : (s.tapsPut g lane r).reg f = s.reg f := by
  refine (s.tapsPut_keeps g lane r).2 f fun k hk => ?_
  simp only [tapFields, List.cons_append, List.nil_append, List.mem_cons, List.not_mem_nil, or_false] at hk
  rcases hk with rfl | rfl | rfl | rfl
  · rw [key_txeqPre]; omega
  · rw [key_txeqMain]; omega
  · rw [key_txeqPost]; omega
  · rw [ovf_key]; omega

theorem tapsPut_staged (s : State) (hg : g < 16) {lane : Nat} (hlane : lane < 11) (r : Nat × Taps) : Staged g s (s.tapsPut g lane r) := by
  have hkeeps := s.tapsPut_keeps g lane r
  have hgroup := hkeeps.pieces.group (by decide) g
  have hmode : (s.tapsPut g lane r).mode = s.mode := hkeeps.pieces .mode (by decide)
  refine ⟨State.reg_tapsPut (by rw [key_grpState]; omega) (by rw [key_grpState]; omega),
    State.reg_tapsPut (by rw [key_rate]; omega) (by rw [key_rate]; omega),
    State.reg_tapsPut (by rw [key_verifyLog2]; omega) (by rw [key_verifyLog2]; omega), by rw [hgroup], by rw [hgroup], ?_⟩
  rw [State.native, State.native, hmode]

/-- The taps put in force show. -/
theorem State.taps_tapsPut (s : State) {lane : Nat} (hlane : lane < 11) (hg : g < 16) (r : Nat × Taps) :
    (s.tapsPut g lane r).reg (Reg.MPH_TXEQ_PRE g lane) = unsignedOf 8 r.2.pre ∧
      (s.tapsPut g lane r).reg (Reg.MPH_TXEQ_MAIN g lane) = unsignedOf 8 r.2.main ∧
      (s.tapsPut g lane r).reg (Reg.MPH_TXEQ_POST g lane) = unsignedOf 8 r.2.post := by
  obtain ⟨hpre, hmain, hpost⟩ := s.reg_setTaps g lane r.2
  have hcount : Undisturbed logPieces (s.setTaps g lane r.2) (s.tapsPut g lane r) := (Undisturbed.refl _ _).count 17 _ 1
  exact ⟨(hcount.regs _ (steady_of_key (key_txeqPre g lane) (by omega) (by omega))).trans hpre,
    (hcount.regs _ (steady_of_key (key_txeqMain g lane) (by omega) (by omega))).trans hmain,
    (hcount.regs _ (steady_of_key (key_txeqPost g lane) (by omega) (by omega))).trans hpost⟩

theorem State.tapsPut_routed (s : State) (hg : g < 16) {lane : Nat} (hlane : lane < 11) (r : Nat × Taps) : Routed g s (s.tapsPut g lane r) := by
  have hfields : tapFields g lane ⊆ groupFields g := fun f hf => slotFields_subset hlane (by
    simp only [tapFields, slotFields, List.mem_cons, List.not_mem_nil, or_false] at hf ⊢
    tauto)
  have hcount : Undisturbed logPieces (s.setTaps g lane r.2) (s.tapsPut g lane r) := (Undisturbed.refl _ _).count 17 _ 1
  exact ((s.setTaps_keeps g lane r.2).routed hg hfields).trans (hcount.routed hg)

theorem State.line_tapsPut (s : State) (lane : Nat) (r : Nat × Taps) (key : Nat) : (s.tapsPut g lane r).line key = s.line key :=
  State.line_congr ((s.tapsPut_keeps g lane r).pieces .link (by decide)) key

/-- A lane that holds its taps. -/
def State.laneHeld (s : State) (g lane : Nat) : State :=
  (s.setReg (Reg.MPH_LSTATE_TRAINED g lane) 1).onGroup g fun k => { k with held := insertAsc lane k.held }

theorem State.laneHeld_keeps (s : State) (g lane : Nat) : Keeps [.link] [Reg.MPH_LSTATE_TRAINED g lane] s (s.laneHeld g lane) :=
  ((s.setReg_keeps _ _).trans (State.onGroup_keeps _ g _)).mono (by decide) (by simp)

/-- What goes on from a held lane keeps what was sent. -/
theorem State.sent_heldOn (s : State) (g : Nat) : s.out ⊆ (s.heldOn g).out := by
  unfold State.heldOn
  split_ifs
  · exact List.Subset.refl _
  · exact List.Subset.refl _
  · exact (s.verifyBegun_sends g).sent
  · exact List.Subset.refl _

/-- The answer to a request for taps, its result and the training sequence that follows (R223, R228). -/
def State.tapsSent (s : State) (g lane : Nat) (r : Nat × Taps) (body : List Byte) : State :=
  ((s.tapsPut g lane r).sendLink g lane 0x03 body).when (r.2 != s.taps g lane && s.grp g != grpVerify) fun u =>
    u.sendTsq g (u.tsqPhase g) none lane

theorem State.tapsSent_sends (s : State) (g lane : Nat) (r : Nat × Taps) (body : List Byte) :
    Sends ((s.tapsPut g lane r).sendLink g lane 0x03 body) (s.tapsSent g lane r body) :=
  (Sends.refl _).when _ fun u => u.sendTsq_sends g _ none lane

/-- What a request for taps is answered (R228). -/
def State.tapReply (s : State) (g : Nat) (b : List Byte) : Nat × Taps :=
  tapAnswer (s.grp g == grpEq || s.grp g == grpAlign || s.grp g == grpLow || (s.group g).l2Exit) (s.taps g (byteAt b 2)) (byteAt b 2) (byteAt b 3)
    (byteAt b 4) (byteAt b 5)

/-- TAP_ACK's body (R208). -/
def tapAck (b : List Byte) (r : Nat × Taps) : List Byte := leBytes 1 (byteAt b 2) ++ leBytes 1 (byteAt b 3) ++ leBytes 1 r.1 ++ r.2.bytes

theorem State.tapExchange_eq {b : List Byte} (hlane : byteAt b 2 ≤ 8) : s.tapExchange g b =
    (s.tapsSent g (byteAt b 2) (s.tapReply g b) (tapAck b (s.tapReply g b))).when
      (decide ((s.tapReply g b).1 = 0 ∧ byteAt b 4 = 0)) fun u => (u.laneHeld g (byteAt b 2)).heldOn g := by
  simp only [State.tapExchange, hlane, if_true, decide_true, Bool.true_and]
  rfl

/-- What follows the answer changes the hold and the group's state alone (R225, R228). -/
theorem State.tapExchange_keeps {b : List Byte} (hlane : byteAt b 2 ≤ 8) :
    Keeps linkPieces [Reg.MPH_LSTATE_TRAINED g (byteAt b 2), Reg.MPH_GRP_STATUS_STATE g]
      (s.tapsSent g (byteAt b 2) (s.tapReply g b) (tapAck b (s.tapReply g b))) (s.tapExchange g b) ∧
    (s.tapsSent g (byteAt b 2) (s.tapReply g b) (tapAck b (s.tapReply g b))).out ⊆ (s.tapExchange g b).out ∧
    ((s.tapReply g b).1 = 0 → byteAt b 4 = 0 → (s.tapExchange g b).reg (Reg.MPH_LSTATE_TRAINED g (byteAt b 2)) = 1) := by
  rw [State.tapExchange_eq hlane]
  generalize s.tapsSent g (byteAt b 2) (s.tapReply g b) (tapAck b (s.tapReply g b)) = u
  have hheld := (u.laneHeld_keeps g (byteAt b 2)).trans (State.heldOn_keeps _ g)
  unfold State.when
  split
  case isTrue =>
    refine ⟨hheld.mono (by decide) (by simp), State.sent_heldOn (u.laneHeld g (byteAt b 2)) g, fun _ _ => ?_⟩
    rw [(State.heldOn_keeps _ g).2 _ (by rw [List.forall_mem_singleton, key_grpState, key_trained]; omega)]
    exact State.reg_setReg_same u (Reg.MPH_LSTATE_TRAINED g (byteAt b 2)) 1 (by simp [Reg.MPH_LSTATE_TRAINED])
  case isFalse hnot =>
    exact ⟨Keeps.refl _ _ u, List.Subset.refl _, fun h h' => absurd (decide_eq_true ⟨h, h'⟩) hnot⟩

end

section
variable {s : State} {g : Fin 16} {m : LinkMsg} (hgood : Good s g m) (hkind : byteAt m.bytes 0 = 2)
include hgood hkind

theorem exec_tapReq : exec (.tapReq g m) s = answer s ((s.heard g m).takeTapReq g m.bytes) := by
  simp only [exec, execTapReq, State.receive_of_good hgood, State.when, hkind, beq_self_eq_true, if_true]

/-- In XK2 mode taps are fixed (R219). -/
theorem completes_tapReq_xk2 (hxk2 : s.native = false) : Completes (.tapReq g m) s fun t => Keeps [.link, .counters] [ovf 16] s t := by
  have hexec := exec_tapReq hgood hkind
  have hnone : (s.heard g m).takeTapReq g m.bytes = s.heard g m := by
    rw [State.takeTapReq, State.when, show (s.heard g m).native = false from hxk2, if_neg Bool.false_ne_true]
  rw [hnone] at hexec
  exact completes_of_pieces hexec (s.heard_keeps g m).pieces (s.heard_keeps g m)

variable (hnative : s.native = true)
include hnative

theorem exec_tapReq_native : exec (.tapReq g m) s = answer s ((s.heard g m).tapExchange g m.bytes) := by
  rw [exec_tapReq hgood hkind, State.takeTapReq, State.when, show (s.heard g m).native = true from hnative, if_pos rfl]

end

section
variable {s : State} {g : Nat} {m : LinkMsg} (hg : g < 16)
include hg

/-- The request is judged by what the group was before the message. -/
theorem tapReply_heard {b : List Byte} (hlane : byteAt b 2 ≤ 8) : (s.heard g m).tapReply g b = s.tapReply g b := by
  have hstage := heard_staged (s := s) hg m
  rw [State.tapReply, State.tapReply, hstage.grp, hstage.l2Exit, (s.heard_undisturbed g m).taps hg (by omega)]

variable {lane : Nat} (hlane : lane ≤ 8) (r : Nat × Taps)
include hlane

/-- The answer leaves on its lane (R208, R228). -/
theorem mem_out_tapsPut (hdrives : s.drives g lane = true) (body : List Byte) :
    .message g lane (s.disparity (lineKey g lane)) (linkMessage 0x03 (s.line (lineKey g lane)).seq body) ∈
      (((s.heard g m).tapsPut g lane r).sendLink g lane 0x03 body).out := by
  have hline (key : Nat) : ((s.heard g m).tapsPut g lane r).line key = s.line key := State.line_tapsPut _ lane r key
  have hrouted : Routed g s ((s.heard g m).tapsPut g lane r) :=
    ((s.heard_undisturbed g m).routed hg).trans (State.tapsPut_routed _ hg (by omega) r)
  rw [State.out_sendLink, hrouted.drives (by omega), if_pos hdrives, State.disparity, hline]
  exact List.mem_cons_self

/-- New taps are reported by the training sequence that follows (R223). -/
theorem mem_out_tapsSent (hdrives : s.drives g lane = true) (hnew : r.2 ≠ s.taps g lane) (hverify : s.grp g ≠ grpVerify) (body : List Byte) :
    ∃ rd, .training g lane rd none (tsqBody lane g (s.trainRate g) (s.tsqPhase g) (((s.heard g m).tapsPut g lane r).taps g lane).bytes
      (s.verifyLog2 g)) ∈ ((s.heard g m).tapsSent g lane r body).out := by
  have hsent := State.sendLink_sends ((s.heard g m).tapsPut g lane r) g lane 0x03 body
  have hstage : Staged g s ((s.heard g m).tapsPut g lane r) := (heard_staged hg m).trans (tapsPut_staged _ hg (by omega) r)
  have hrouted : Routed g s ((s.heard g m).tapsPut g lane r) :=
    ((s.heard_undisturbed g m).routed hg).trans (State.tapsPut_routed _ hg (by omega) r)
  have hcond : (r.2 != (s.heard g m).taps g lane && (s.heard g m).grp g != grpVerify) = true := by
    rw [(s.heard_undisturbed g m).taps hg (by omega), State.grp_heard hg]
    simp [hnew, hverify]
  obtain ⟨rd, hmem⟩ := State.mem_out_sendTsq (s := ((s.heard g m).tapsPut g lane r).sendLink g lane 0x03 body) (g := g) (i := lane)
    (by rw [hsent.drives, hrouted.drives (by omega)]; exact hdrives)
    ((((s.heard g m).tapsPut g lane r).sendLink g lane 0x03 body).tsqPhase g) none
  rw [hsent.tsqPhase, hsent.trainRate, hsent.taps, hsent.verifyLog2, hstage.tsqPhase, hstage.trainRate, hstage.verifyLog2] at hmem
  refine ⟨rd, ?_⟩
  rw [State.tapsSent, State.when, if_pos hcond, hsent.tsqPhase, hstage.tsqPhase]
  exact hmem

end

theorem clauseTapExchange : ClauseTapExchange := by
  refine fun s g m hgood hkind => ⟨fun hxk2 => completes_tapReq_xk2 hgood hkind hxk2, fun hnative hlane => ?_⟩
  have hexec := exec_tapReq_native hgood hkind hnative
  have hreply := tapReply_heard (s := s) (m := m) g.isLt hlane
  obtain ⟨hafter, hsent, htrained⟩ := State.tapExchange_keeps (s := s.heard g m) (g := g) hlane
  rw [hreply] at hafter hsent htrained
  set lane := byteAt m.bytes 2
  set r := s.tapReply g m.bytes with hr
  have hsends := (State.sendLink_sends ((s.heard g m).tapsPut g lane r) g lane 0x03 (tapAck m.bytes r)).trans
    (State.tapsSent_sends (s.heard g m) g lane r (tapAck m.bytes r))
  obtain ⟨hpre, hmain, hpost⟩ := (s.heard g m).taps_tapsPut (lane := lane) (by omega) g.isLt r
  have hstays {f : Field} (hf : f.key / 32 = 0x10000 + 0x400 * g + 0x40 * lane) :
      ((s.heard g m).tapExchange g m.bytes).reg f = ((s.heard g m).tapsPut g lane r).reg f := by
    refine (hafter.2 f ?_).trans (hsends.reg f)
    simp only [List.mem_cons, List.not_mem_nil, or_false, forall_eq_or_imp, forall_eq, key_trained, key_grpState]
    omega
  have hall : Keeps [.link, .out, .counters] [Reg.MPH_TXEQ_PRE g lane, Reg.MPH_TXEQ_MAIN g lane, Reg.MPH_TXEQ_POST g lane,
        Reg.MPH_LSTATE_TRAINED g lane, Reg.MPH_GRP_STATUS_STATE g, ovf 16] s ((s.heard g m).tapExchange g m.bytes) := by
    have hchain := (((s.heard_keeps g m).trans (State.tapsPut_keeps _ g lane r)).trans hsends.keeps).trans hafter
    refine (hchain.mono (by decide) (List.Subset.refl _)).of_keys fun k hk => ?_
    have hovf : (ovf 16).key = (ovf 17).key := rfl
    simp only [tapFields, List.append_nil, List.cons_append, List.nil_append, List.mem_cons, List.not_mem_nil, or_false] at hk
    rcases hk with rfl | rfl | rfl | rfl | rfl | rfl | rfl <;> simp [hovf]
  refine completes_of_pieces hexec hall.pieces ⟨?_, ?_, ?_, fun hdrives => ?_, fun hdrives hnew hverify => ?_, htrained, hall⟩
  · exact (hstays (by rw [key_txeqPre]; omega)).trans hpre
  · exact (hstays (by rw [key_txeqMain]; omega)).trans hmain
  · exact (hstays (by rw [key_txeqPost]; omega)).trans hpost
  · have hmem := mem_out_tapsPut (s := s) (m := m) g.isLt hlane r hdrives (tapAck m.bytes r)
    have hbody : tapAck m.bytes r = leBytes 1 lane ++ leBytes 1 (byteAt m.bytes 3) ++ leBytes 1 r.1 ++ leBytes 1 (unsignedOf 8 r.2.pre) ++
          leBytes 1 (unsignedOf 8 r.2.main) ++ leBytes 1 (unsignedOf 8 r.2.post) := by
      simp only [tapAck, Taps.bytes, List.append_assoc]
      rfl
    have hleft := hsent ((State.tapsSent_sends _ g lane r _).sent hmem)
    rw [hbody] at hleft
    exact hleft
  · obtain ⟨rd, hmem⟩ := mem_out_tapsSent (m := m) g.isLt hlane r hdrives hnew hverify (tapAck m.bytes r)
    have htaps : ((s.heard g m).tapExchange g m.bytes).taps g lane = ((s.heard g m).tapsPut g lane r).taps g lane := by
      simp only [State.taps, State.sreg, hstays (f := Reg.MPH_TXEQ_PRE g lane) (by rw [key_txeqPre]; omega),
        hstays (f := Reg.MPH_TXEQ_MAIN g lane) (by rw [key_txeqMain]; omega), hstays (f := Reg.MPH_TXEQ_POST g lane) (by rw [key_txeqPost]; omega)]
    rw [htaps]
    exact ⟨rd, hsent hmem⟩

/-- Settles O28: a group comes up from OFF to READY by the states of R225, and answers the requests of its far side for taps. -/
theorem groupBringUpAndTaps : Obligations.GroupBringUpAndTaps := ⟨clauseGroupBringUp, clauseTapExchange⟩

end Sys2Proof.Machine
end

section
/-! SUPPORT. Lanes of a Muash group that fail in training (R225, R231, R233, R242), and the restarts that software, a change of rate or of device
asks for (R208, R234, R235, R405). -/
namespace Sys2Proof.Machine

open Sys2Proof

/-! ### One lane fails, and a free spare takes it (R233) -/

section
variable {s : State} {g i : Nat}

/-- The registers of a lane that the spare takes. -/
def takenRegs (g i : Nat) : List (Field × Nat) :=
  [(spareUsed g, 1), (spareLane g, i), (Reg.MPH_LSTATE_STATE g i, laneFailed), (Reg.MPH_LSTATE_TRAINED g i, 0)]

/-- A group whose lane the spare takes, before the log. -/
def State.laneTaken (s : State) (g i : Nat) : State := (s.setRegs (takenRegs g i)).onGroup g fun k => { k with failed := insertAsc i k.failed }

theorem State.spareTakes_undisturbed (s : State) (g i : Nat) : Undisturbed logPieces (s.laneTaken g i) (s.spareTakes g i) :=
  State.linkEvent_undisturbed _ g 6 _

theorem takenRegs_nodup (hi : i < 8) : (((takenRegs g i).map Prod.fst).map Field.key).Nodup := by
  simp only [takenRegs, List.map_cons, List.map_nil, key_spareUsed, key_spareLane, key_laneState, key_trained, List.nodup_cons, List.mem_cons,
    List.not_mem_nil, or_false, not_or, List.nodup_nil, not_false_eq_true, and_true]
  omega

/-- The spare carries the lane that failed (R220, R233). -/
theorem State.reg_spareTakes (s : State) (hg : g < 16) (hi : i < 8) :
    (s.spareTakes g i).reg (spareUsed g) = 1 ∧ (s.spareTakes g i).reg (spareLane g) = i ∧
      (s.spareTakes g i).reg (Reg.MPH_LSTATE_STATE g i) = laneFailed := by
  have hlog := s.spareTakes_undisturbed g i
  have hnodup := takenRegs_nodup (g := g) hi
  refine ⟨(hlog.regs _ ?_).trans ?_, (hlog.regs _ ?_).trans ?_, (hlog.regs _ (steady_of_key (key_laneState g i) (by omega) (by omega))).trans ?_⟩
  · exact Field.steady_iff.2 (by rw [key_spareUsed]; omega)
  · exact State.reg_setRegs_mem (v := 1) hnodup (by simp [takenRegs]) (by simp [spareUsed])
  · exact Field.steady_iff.2 (by rw [key_spareLane]; omega)
  · exact (State.reg_setRegs_mem (v := i) hnodup (by simp [takenRegs]) (by simp [spareLane])).trans (Nat.mod_eq_of_lt (by simpa [spareLane] using hi))
  · exact State.reg_setRegs_mem (v := laneFailed) hnodup (by simp [takenRegs]) (by simp [Reg.MPH_LSTATE_STATE])

/-- What the spare takes is of the lane and the spare. -/
theorem State.reg_spareTakes_ne (s : State) {f : Field} (hs : f.steady = true) (hf : ∀ k ∈ (takenRegs g i).map Prod.fst, k.key ≠ f.key) :
    (s.spareTakes g i).reg f = s.reg f :=
  ((s.spareTakes_undisturbed g i).regs f hs).trans ((s.setRegs_keeps _).2 f hf)

theorem State.grp_spareTakes (s : State) (hg : g < 16) : (s.spareTakes g i).grp g = s.grp g := by
  refine s.reg_spareTakes_ne (steady_of_key (key_grpState g) (by omega) (by omega)) fun k hk => ?_
  simp only [takenRegs, List.map_cons, List.map_nil, List.mem_cons, List.not_mem_nil, or_false] at hk
  rw [key_grpState]
  rcases hk with rfl | rfl | rfl | rfl
  · rw [key_spareUsed]; omega
  · rw [key_spareLane]; omega
  · rw [key_laneState]; omega
  · rw [key_trained]; omega

theorem State.group_spareTakes (s : State) (hg : g < 16) (i : Nat) :
    (s.spareTakes g i).group g = { s.group g with failed := insertAsc i (s.group g).failed } :=
  ((s.spareTakes_undisturbed g i).group (by decide) g).trans (State.group_onGroup_same _ hg _)

theorem mem_insertAsc_of_mem {x y : Nat} {l : List Nat} (h : y ∈ l) : y ∈ insertAsc x l := by
  induction l with
  | nil => cases h
  | cons z l ih =>
    unfold insertAsc
    split_ifs
    · exact List.mem_cons_of_mem _ h
    · exact h
    · rcases List.mem_cons.1 h with rfl | hmem
      · exact List.mem_cons_self
      · exact List.mem_cons_of_mem _ (ih hmem)

/-- A lane must be held or verified where the spare has not its place, it has not failed, and it is routed (R232, R233). -/
theorem mem_required_iff {j : Nat} : j ∈ s.required g ↔ j < 9 ∧ ¬(s.flag (spareUsed g) = true ∧ s.reg (spareLane g) = j) ∧
    j ∉ (s.group g).failed ∧ (j ≠ 8 ∨ s.spareRouted g = true) := by
  simp only [State.required, List.mem_filter, List.mem_range, and_assoc, Bool.and_eq_true, Bool.or_eq_true]
  cases s.flag (spareUsed g) <;> simp

theorem spareTakes_routed (s : State) (hg : g < 16) : (s.spareTakes g i).spareRouted g = s.spareRouted g := by
  have hlog := s.spareTakes_undisturbed g i
  have hmode : (s.spareTakes g i).mode = s.mode := hlog.pieces .mode (by decide)
  have hxk2 : (s.spareTakes g i).reg Reg.XK2_LINK_CTL_SPARE_EN = s.reg Reg.XK2_LINK_CTL_SPARE_EN := by
    refine s.reg_spareTakes_ne (by decide) fun k hk => ?_
    simp only [takenRegs, List.map_cons, List.map_nil, List.mem_cons, List.not_mem_nil, or_false] at hk
    have hkey : Reg.XK2_LINK_CTL_SPARE_EN.key = 32 * 0x20038 + 16 := rfl
    rw [hkey]
    rcases hk with rfl | rfl | rfl | rfl
    · rw [key_spareUsed]; omega
    · rw [key_spareLane]; omega
    · rw [key_laneState]; omega
    · rw [key_trained]; omega
  rw [State.spareRouted, State.spareRouted, State.native, State.native, hmode, hxk2]

/-- With the spare in the lane's place every other lane is held. -/
theorem State.allHeld_spareTakes (hg : g < 16) (hi : i < 8) (hunheld : s.unheld g = [i]) (hfree : s.spareTaken g = false) :
    (s.spareTakes g i).allHeld g = true := by
  obtain ⟨hused, hlane, -⟩ := s.reg_spareTakes hg hi
  have hgroup := s.group_spareTakes hg i
  refine List.all_eq_true.2 fun j hj => ?_
  obtain ⟨hj9, hplace, hfailed, hrouted⟩ := mem_required_iff.1 hj
  rw [spareTakes_routed s hg] at hrouted
  rw [hgroup] at hfailed ⊢
  have hne : j ≠ i := fun h => hplace ⟨by rw [State.flag, hused]; rfl, hlane.trans h.symm⟩
  have hflag : s.flag (spareUsed g) = false := by
    simp only [State.spareTaken, Bool.or_eq_false_iff] at hfree
    exact hfree.1
  have hreq : j ∈ s.required g := mem_required_iff.2
    ⟨hj9, fun h => by rw [hflag] at h; exact Bool.false_ne_true h.1, fun h => hfailed (mem_insertAsc_of_mem h), hrouted⟩
  by_contra hheld
  have hun : j ∈ s.unheld g := List.mem_filter.2 ⟨hreq, by simpa using hheld⟩
  rw [hunheld] at hun
  exact hne (List.mem_singleton.1 hun)

theorem State.lanesFail_taken (hi : i < 8) (hspare : 8 ∉ (s.group g).failed) (hfree : s.spareTaken g = false) :
    s.lanesFail g [i] = s.spareTakes g i := by
  have hne : i ≠ 8 := by omega
  simp [State.lanesFail, hne, hspare, hfree, hne.symm]

theorem State.spareTakes_linkWork (s : State) (g i : Nat) : LinkWork s (s.spareTakes g i) :=
  (((LinkWork.refl s).setRegs _).onGroup g _).event _ _ _ _

theorem State.heldOn_linkWork (s : State) (g : Nat) : LinkWork s (s.heldOn g) :=
  (s.heldOn_keeps g).pieces.linkWork (by decide) (by decide)

end

/-! ### ALIGN_TIMEOUT and EQ_TIMEOUT (R225, R233) -/

section
variable {s : State} {g : Fin 16}

theorem exec_alignTimeout (h : s.grp g = grpAlign) :
    exec (.alignTimeout g) s = answer s ((s.lanesFail g (s.unheld g)).heldOn g) := by
  simp only [exec, execAlignTimeout, State.when, h, beq_self_eq_true, if_true]
  rfl

theorem exec_eqTimeout (h : s.grp g = grpEq) : exec (.eqTimeout g) s = answer s ((s.lanesFail g (s.unheld g)).heldOn g) := by
  simp only [exec, execEqTimeout, State.when, h, beq_self_eq_true, if_true]
  rfl

/-- The spare takes the one lane that fails, and the group goes on (R225, R233). -/
theorem completes_laneFails {x : Instr} {i v v' : Nat} (hexec : exec x s = answer s ((s.lanesFail g (s.unheld g)).heldOn g))
    (hunheld : s.unheld g = [i]) (hi : i < 8) (hspare : 8 ∉ (s.group g).failed) (hfree : s.spareTaken g = false) (hgrp : s.grp g = v)
    (hgoes : ∀ u : State, u.allHeld g = true → u.grp g = v → (u.heldOn g).grp g = v') :
    Completes x s fun t => t.flag (spareUsed g) = true ∧ t.reg (spareLane g) = i ∧ t.reg (Reg.MPH_LSTATE_STATE g i) = laneFailed ∧
      t.posted 2 g 6 ∧ t.grp g = v' := by
  have hwork := (s.spareTakes_linkWork g i).trans (State.heldOn_linkWork _ g)
  rw [hunheld, State.lanesFail_taken hi hspare hfree] at hexec
  obtain ⟨hused, hlane, hfailed⟩ := s.reg_spareTakes g.isLt hi
  have hkeeps := State.heldOn_keeps (s.spareTakes g i) g
  have hstays {f : Field} (hf : (Reg.MPH_GRP_STATUS_STATE g).key ≠ f.key) : ((s.spareTakes g i).heldOn g).reg f = (s.spareTakes g i).reg f :=
    hkeeps.2 f (by rw [List.forall_mem_singleton]; exact hf)
  refine completes_of_pieces hexec hwork.pieces ⟨?_, ?_, ?_, State.posted_of_pieces hkeeps.pieces (by decide) (State.posted_linkEvent _ _ _ _),
    hgoes _ (State.allHeld_spareTakes g.isLt hi hunheld hfree) ((s.grp_spareTakes g.isLt).trans hgrp)⟩
  · rw [State.flag, hstays (by rw [key_grpState, key_spareUsed]; omega), hused]
    rfl
  · exact (hstays (by rw [key_grpState, key_spareLane]; omega)).trans hlane
  · exact (hstays (by rw [key_grpState, key_laneState]; omega)).trans hfailed

/-- Of two lanes and more none is taken over. -/
theorem State.lanesFail_lower {slots : List Nat} (h : 2 ≤ (slots.filter (· != 8)).length) : s.lanesFail g slots = s.lowerRate g := by
  unfold State.lanesFail
  dsimp only
  split
  case h_1 heq =>
    rw [heq] at h
    exact absurd h (by decide)
  case h_2 heq =>
    rw [heq] at h
    exact absurd h (by simp)
  case h_3 => rfl

theorem State.lowerRate_now (h : s.grp g ≠ grpVerify) : s.lowerRate g = s.stepDown g := by
  rw [State.lowerRate, if_neg fun hv => h hv.1]

/-- In ALIGN the rate cannot go lower (R233). -/
theorem completes_alignLost (h : s.grp g = grpAlign) (hmany : 2 ≤ ((s.unheld g).filter (· != 8)).length) :
    Completes (.alignTimeout g) s fun t =>
      t.grp g = grpOut ∧ t.reg (Reg.MPH_GRP_STATUS_FAIL_REASON g) = 4 ∧ t.reg Reg.GLB_IRQ_CAUSE_LINK = 1 := by
  have hexec := exec_alignTimeout h
  have hout : s.lanesFail g (s.unheld g) = s.groupOut g 4 := by
    rw [State.lanesFail_lower hmany, State.lowerRate_now (by rw [h]; decide), State.stepDown_out]
    rw [State.trainRate, if_pos (by rw [h]; decide)]
  obtain ⟨hgrp, hreason, hcause, -⟩ := s.groupOut_shows g.isLt (reason := 4) (by decide)
  rw [hout, State.heldOn_other (by rw [hgrp]; decide) (by rw [hgrp]; decide)] at hexec
  exact completes_of_pieces hexec (s.groupOut_linkWork g 4).pieces ⟨hgrp, hreason, hcause⟩

/-- What a step down from a rate above 0 shows. -/
def SteppedDown (t : State) (g rate : Nat) : Prop :=
  t.grp g = grpOff ∧ t.reg (Reg.MPH_GRP_STATUS_STEPPED_DOWN g) = 1 ∧ t.reg (Reg.MPH_GRP_STATUS_RATE g) = rate - 1 ∧
    t.reg Reg.GLB_IRQ_CAUSE_LINK = 1 ∧ t.posted 2 g 2

/-- In EQ the group steps down at once (R233). -/
theorem completes_eqLost (h : s.grp g = grpEq) (hmany : 2 ≤ ((s.unheld g).filter (· != 8)).length)
    (hlo : 1 ≤ s.reg (Reg.MPH_GRP_STATUS_RATE g)) (hhi : s.reg (Reg.MPH_GRP_STATUS_RATE g) ≤ 4) :
    Completes (.eqTimeout g) s fun t => SteppedDown t g (s.reg (Reg.MPH_GRP_STATUS_RATE g)) := by
  have hexec := exec_eqTimeout h
  have hrate : s.trainRate g = s.reg (Reg.MPH_GRP_STATUS_RATE g) := by rw [State.trainRate, if_neg (by rw [h]; decide)]
  have hdown := State.stepDown_shows g.isLt hrate (by omega) (by omega)
  have hgrp := hdown.1
  rw [State.lanesFail_lower hmany, State.lowerRate_now (by rw [h]; decide),
    State.heldOn_other (by rw [hgrp]; decide) (by rw [hgrp]; decide)] at hexec
  exact completes_of_pieces hexec ((LinkWork.refl s).stepDown g).pieces hdown

/-! ### VERIFY_TIMEOUT (R231, R233, R235) -/

/-- Required lanes with no result. -/
def State.unverified (s : State) (g : Nat) : List Nat := (s.required g).filter fun k => !(s.group g).results.any fun r => r.1 == k

/-- At the end of the window the group steps down (R233, R235). -/
theorem completes_verifyLost (h : s.grp g = grpVerify) (hnative : s.native = true) (hchange : (s.group g).rateChange = false)
    (hmany : 2 ≤ ((s.unverified g).filter (· != 8)).length) (hlo : 1 ≤ s.reg (Reg.MPH_GRP_STATUS_RATE g))
    (hhi : s.reg (Reg.MPH_GRP_STATUS_RATE g) ≤ 4) :
    Completes (.verifyTimeout g) s fun t => SteppedDown t g (s.reg (Reg.MPH_GRP_STATUS_RATE g)) := by
  obtain ⟨u, hu⟩ : ∃ u, u = (s.count 17 7 (s.unverified g).length).onGroup g fun k => { k with stepLater := true } := ⟨_, rfl⟩
  have hcount : Undisturbed logPieces s (s.count 17 7 (s.unverified g).length) := (Undisturbed.refl _ s).count 17 7 _
  have hgroup : u.group g = { s.group g with stepLater := true } := by
    rw [hu, State.group_onGroup_same _ g.isLt]
    rfl
  have hexec : exec (.verifyTimeout g) s = answer s (u.windowEnds g) := by
    have hlower : (s.count 17 7 (s.unverified g).length).lanesFail g (s.unverified g) = u := by
      rw [State.lanesFail_lower hmany, State.lowerRate, if_pos ⟨(hcount.grp g.isLt).trans h, hnative⟩, hu]
    rw [← hlower]
    simp only [exec, execVerifyTimeout, State.when, h, hnative, beq_self_eq_true, Bool.and_self, if_true]
    rfl
  have hends : u.windowEnds g = u.stepDown g := by
    rw [State.windowEnds, hgroup]
    simp only [hchange, Bool.false_eq_true, if_false, if_true]
  have hrate : u.trainRate g = s.reg (Reg.MPH_GRP_STATUS_RATE g) := by
    have hgrp : u.grp g = grpVerify := by
      rw [hu]
      exact (hcount.grp g.isLt).trans h
    rw [State.trainRate, if_neg (by rw [hgrp]; decide), hu]
    exact hcount.regs _ (steady_of_key (key_rate g) (by omega) (by omega))
  rw [hends] at hexec
  have hwork : LinkWork s (u.stepDown g) := by
    rw [hu]
    exact (((LinkWork.refl s).count 17 7 _).onGroup g _).stepDown g
  exact completes_of_pieces hexec hwork.pieces (State.stepDown_shows g.isLt hrate (by omega) (by omega))

/-! ### The spare in standby (R242) -/

/-- A spare that reports nothing is unfit (R242). -/
theorem completes_spareStale (hnative : s.native = true) (h : s.grp g = grpReady) (hused : s.flag (spareUsed g) = false) :
    Completes (.spareStale g) s fun t => t.reg (Reg.MPH_GRP_STATUS_SPARE_FIT g) = 0 ∧ (t.group g).reports = [] ∧
      (s.reg (Reg.MPH_GRP_STATUS_SPARE_FIT g) = 1 → t.posted 2 g 3 ∧ t.reg Reg.GLB_IRQ_CAUSE_LINK = 1) := by
  obtain ⟨u, hu⟩ : ∃ u, u = (s.onGroup g fun k => { k with reports := [] }).setReg (Reg.MPH_GRP_STATUS_SPARE_FIT g) 0 := ⟨_, rfl⟩
  have hexec : exec (.spareStale g) s = answer s (u.when (s.flag (Reg.MPH_GRP_STATUS_SPARE_FIT g)) (·.linkAlert g 3 0xFF)) := by
    rw [hu]
    simp only [exec, execSpareStale, State.when, h, hnative, hused, beq_self_eq_true, Bool.not_false, Bool.and_self, if_true]
    rfl
  have hlog : Undisturbed logPieces u (u.when (s.flag (Reg.MPH_GRP_STATUS_SPARE_FIT g)) (·.linkAlert g 3 0xFF)) :=
    (Undisturbed.refl _ u).when _ fun w => w.linkAlert_undisturbed g 3 0xFF
  have hpieces : KeepsPieces lanePieces s (u.when (s.flag (Reg.MPH_GRP_STATUS_SPARE_FIT g)) (·.linkAlert g 3 0xFF)) := by
    have hbegun : KeepsPieces [.link] s u := by
      rw [hu]
      exact ((s.onGroup_keeps g _).trans (State.setReg_keeps _ _ _)).pieces
    exact (hbegun.mono (by decide)).trans (hlog.pieces.mono logPieces_subset_lanePieces)
  refine completes_of_pieces hexec hpieces ⟨?_, ?_, fun hfit => ?_⟩
  · rw [hlog.regs _ (steady_of_key (key_spareFit g) (by omega) (by omega)), hu]
    exact State.reg_setReg_same _ _ 0 (by simp [Reg.MPH_GRP_STATUS_SPARE_FIT])
  · rw [hlog.group (by decide), hu, State.group_setReg, State.group_onGroup_same _ g.isLt]
  · have hwas : s.flag (Reg.MPH_GRP_STATUS_SPARE_FIT g) = true := by rw [State.flag, hfit]; rfl
    rw [hwas, State.when, if_pos rfl]
    exact ⟨State.posted_linkAlert _ _ _ _, State.cause_linkAlert _ _ _ _⟩

theorem Undisturbed.inL2 {ps : List Piece} {s t : State} (h : Undisturbed ps s t) {g : Nat} (hg : g < 16) : t.inL2 g = s.inL2 g := by
  rw [State.inL2, State.inL2, Bool.eq_iff_iff, List.all_eq_true, List.all_eq_true]
  refine forall₂_congr fun i hi => ?_
  have hi := List.mem_range.1 hi
  rw [h.regs _ (steady_of_key (key_laneState g i) (by omega) (by omega))]

/-- A clean report after three is the last that the spare needs (R242). -/
theorem State.spareReport_fit {s : State} {g : Nat} (hthree : (s.group g).reports = [true, true, true]) :
    s.spareReport g true = ((s.onGroup g fun k => { k with reports := [true, true, true, true] }).setFlag
      (Reg.MPH_GRP_STATUS_SPARE_FIT g) true).when (!s.flag (Reg.MPH_GRP_STATUS_SPARE_FIT g)) (·.linkEvent g 4 0xFF) := by
  simp [State.spareReport, hthree, State.when]

/-- Four clean reports make the spare fit (R242). -/
theorem completes_spareFit {m : LinkMsg} (hgood : Good s g m) (h : s.grp g = grpReady) (hnative : s.native = true)
    (hkind : byteAt m.bytes 0 = 5) (hlane : byteAt m.bytes 2 = 8) (hused : s.flag (spareUsed g) = false) (hl2 : s.inL2 g = false)
    (hfailed : 8 ∉ (s.group g).failed) (hclean : leAt m.bytes 8 4 = 0) (hok : byteAt m.bytes 12 = 1)
    (hthree : (s.group g).reports = [true, true, true]) :
    Completes (.prbsResult g m) s fun t => t.reg (Reg.MPH_GRP_STATUS_SPARE_FIT g) = 1 ∧
      (s.reg (Reg.MPH_GRP_STATUS_SPARE_FIT g) = 0 → t.posted 2 g 4) := by
  have hheard := s.heard_undisturbed g m
  have hgrp : (s.heard g m).grp g = grpReady := (hheard.grp g.isLt).trans h
  have hgroup := State.group_heard (s := s) (m := m) g.isLt
  have hwas : (s.heard g m).flag (Reg.MPH_GRP_STATUS_SPARE_FIT g) = s.flag (Reg.MPH_GRP_STATUS_SPARE_FIT g) := by
    rw [State.flag, State.flag, hheard.regs _ (steady_of_key (key_spareFit g) (by omega) (by omega))]
  have hreports : (s.heard g m).takePrbsResult g m.bytes = (s.heard g m).spareReport g true := by
    have hnot : ¬((s.heard g m).grp g = grpVerify ∧ (s.heard g m).native = true) := fun hv => by
      rw [hgrp] at hv
      exact absurd hv.1 (by decide)
    have hflag : (s.heard g m).flag (spareUsed g) = false := by
      rw [State.flag, hheard.regs _ (Field.steady_iff.2 (by rw [key_spareUsed]; omega))]
      exact hused
    have hnot8 : ((s.heard g m).group g).failed.contains 8 = false := by
      rw [hgroup]
      simpa [Group.heard] using hfailed
    rw [State.takePrbsResult, if_neg hnot, hgrp, show (s.heard g m).native = true from hnative, hlane, hflag, hheard.inL2 g.isLt, hl2, hnot8,
      hclean, hok]
    rfl
  have hexec := exec_prbsResult hgood hkind
  rw [hreports, State.spareReport_fit (by rw [hgroup]; exact hthree), hwas] at hexec
  obtain ⟨u, hu⟩ : ∃ u, u = ((s.heard g m).onGroup g fun k => { k with reports := [true, true, true, true] }).setFlag
    (Reg.MPH_GRP_STATUS_SPARE_FIT g) true := ⟨_, rfl⟩
  rw [← hu] at hexec
  have hlog : Undisturbed logPieces u (u.when (!s.flag (Reg.MPH_GRP_STATUS_SPARE_FIT g)) (·.linkEvent g 4 0xFF)) :=
    (Undisturbed.refl _ u).when _ fun w => w.linkEvent_undisturbed g 4 0xFF
  have hbegun : KeepsPieces [.link, .counters] s u := by
    rw [hu]
    exact (((s.heard_keeps g m).trans (State.onGroup_keeps _ g _)).trans (State.setFlag_keeps _ _ _)).pieces.mono (by decide)
  refine completes_of_pieces hexec ((hbegun.mono (by decide)).trans (hlog.pieces.mono logPieces_subset_lanePieces)) ⟨?_, fun hfit => ?_⟩
  · rw [hlog.regs _ (steady_of_key (key_spareFit g) (by omega) (by omega)), hu]
    exact State.reg_setFlag_same _ _ _ (by simp [Reg.MPH_GRP_STATUS_SPARE_FIT]) (by simp [Reg.MPH_GRP_STATUS_SPARE_FIT])
  · have hnot : s.flag (Reg.MPH_GRP_STATUS_SPARE_FIT g) = false := by rw [State.flag, hfit]; rfl
    rw [hnot, Bool.not_false, State.when, if_pos rfl]
    exact State.posted_linkEvent _ _ _ _

end

theorem clauseGroupFailures : ClauseGroupFailures := by
  refine ⟨fun s g i x hx hgrp hunheld hi hspare hfree => ?taken, fun s g hgrp hmany => completes_alignLost hgrp hmany,
    fun s g missing hlo hhi hmany i hi heq hverify => ?lost,
    fun s g hnative hgrp hused => completes_spareStale hnative hgrp hused,
    fun s g m hgood hgrp hnative hkind hlane hused hl2 hfailed hclean hok hthree =>
      completes_spareFit hgood hgrp hnative hkind hlane hused hl2 hfailed hclean hok hthree⟩
  case taken =>
    simp only [List.mem_cons, List.not_mem_nil, or_false] at hx
    rcases hx with rfl | rfl
    · refine completes_laneFails (exec_alignTimeout hgrp) hunheld hi hspare hfree hgrp fun u hheld hu => ?_
      rw [State.heldOn_align hheld hu]
      exact State.reg_setState (s := u) (v := grpLow) (by decide)
    · refine completes_laneFails (exec_eqTimeout hgrp) hunheld hi hspare hfree hgrp fun u hheld hu => ?_
      rw [State.heldOn_eq hheld hu]
      exact u.grp_enterVerify g
  case lost =>
    simp only [List.mem_cons, List.not_mem_nil, or_false] at hi
    rcases hi with rfl | rfl
    · obtain ⟨hgrp, rfl⟩ := heq rfl
      exact completes_eqLost hgrp hmany hlo hhi
    · obtain ⟨hgrp, hnative, hchange, rfl⟩ := hverify rfl
      exact completes_verifyLost hgrp hnative hchange hmany hlo hhi

/-! ### Writes to MPH_GRP_CTL (R234, R235) -/

/-- The registers of MPH_GRP_CTL. -/
theorem fieldsAt_grpCtl : ∀ g < 16, Reg.fieldsAt (0x10000 + 0x400 * g + 0x3C0) = [Reg.MPH_GRP_CTL_MAX_RATE g, Reg.MPH_GRP_CTL_RETRAIN g,
    Reg.MPH_GRP_CTL_L2_REQ g, Reg.MPH_GRP_CTL_EQ_TIMEOUT g, Reg.MPH_GRP_CTL_VERIFY_LOG2 g] := by decide +kernel

@[simp] theorem key_eqTimeout (g : Nat) : (Reg.MPH_GRP_CTL_EQ_TIMEOUT g).key = 32 * (0x103C0 + 0x400 * g) + 8 := rfl

/-- The settings of MPH_GRP_CTL. -/
def ctlFields (g : Nat) : List Field :=
  [Reg.MPH_GRP_CTL_MAX_RATE g, Reg.MPH_GRP_CTL_L2_REQ g, Reg.MPH_GRP_CTL_EQ_TIMEOUT g, Reg.MPH_GRP_CTL_VERIFY_LOG2 g]

/-- A command that follows an access to BAR0 (R433, R445). -/
theorem completes_after_access {i : Instr} {ps : List Piece} {s t : State} {P : State → Prop} (hexec : exec i s = answer s t)
    (hk : KeepsPieces ps s.access t) (hP : P t) (hps : .pending ∉ ps ∧ .part ∉ ps ∧ .mode ∉ ps := by decide) : Completes i s P :=
  ⟨t, hexec.trans ((answer_access s t).trans (answer_of_pieces hk hps)), hP⟩

section
variable {s : State} {g : Nat} {v : Nat}

/-- The state with MPH_GRP_CTL's settings written. -/
def State.ctlWritten (s : State) (g v : Nat) : State := s.writeFields (0x10000 + 0x400 * g + 0x3C0) v

/-- RETRAIN holds nothing. -/
theorem State.ctlWritten_eq (hg : g < 16) : s.ctlWritten g v = { s with regs := (ctlFields g).foldl (writtenField s v) s.regs } := by
  rw [State.ctlWritten, State.writeFields, fieldsAt_grpCtl g hg]
  rfl

theorem State.ctlWritten_keeps (hg : g < 16) : Keeps [] (ctlFields g) s (s.ctlWritten g v) := by
  rw [State.ctlWritten_eq hg]
  exact ⟨fun p _ => by cases p <;> simp [Piece.same], fun f hf => reg_writtenFields_ne s v s.regs _ f hf⟩

theorem State.maxRate_ctlWritten (hg : g < 16) : (s.ctlWritten g v).reg (Reg.MPH_GRP_CTL_MAX_RATE g) = bits v 0 3 := by
  rw [State.ctlWritten_eq hg]
  exact reg_writtenFields_mem v (l := ctlFields g) (by simp [ctlFields]) (by simp [ctlFields]) (by simp [Reg.MPH_GRP_CTL_MAX_RATE]) rfl

theorem State.reg_ctlWritten (hg : g < 16) {f : Field} (hf : f.key < 32 * (0x103C0 + 0x400 * g) ∨ 32 * (0x103C4 + 0x400 * g) ≤ f.key) :
    (s.ctlWritten g v).reg f = s.reg f := by
  refine (State.ctlWritten_keeps hg).2 f fun k hk => ?_
  simp only [ctlFields, List.mem_cons, List.not_mem_nil, or_false] at hk
  rcases hk with rfl | rfl | rfl | rfl
  · rw [key_maxRate]; omega
  · rw [key_l2Req]; omega
  · rw [key_eqTimeout]; omega
  · rw [key_verifyLog2]; omega

/-- Settings leave the groups' states and the stripes. -/
theorem State.ctlWritten_same (hg : g < 16) : (s.ctlWritten g v).grp g = s.grp g ∧ (s.ctlWritten g v).group g = s.group g ∧
    (s.ctlWritten g v).stripeBusy = s.stripeBusy := by
  have hpieces := (State.ctlWritten_keeps (s := s) (v := v) hg).pieces
  have hstripes : (s.ctlWritten g v).stripes = s.stripes := hpieces .stripes (by decide)
  exact ⟨State.reg_ctlWritten hg (by rw [key_grpState]; omega), hpieces.group (by decide) g, by rw [State.stripeBusy, hstripes, State.stripeBusy]⟩

/-- A write with L2_REQ 0, where L2_REQ is 0 (R234, R235). -/
theorem grpCtlWrite_eq (h5 : bitOf v 5 = false) (hl2 : s.flag (Reg.MPH_GRP_CTL_L2_REQ g) = false) :
    grpCtlWrite g v s = ((s.ctlWritten g v).rateLowered g).when (bitOf v 4) (·.requestRetrain g) := by
  simp only [grpCtlWrite, State.when, h5, hl2, Bool.false_eq_true, if_false, State.ctlWritten]

theorem bitOf_toNat (v : Word) (i : Nat) : bitOf v.toNat i = v.getLsbD i := by
  rw [bitOf_eq_testBit]
  rfl

/-! ### What a change of rate does (R235) -/

theorem State.rateLowered_not (h : s.training g = false ∨ (s.group g).agreed ≤ s.agreed g) : s.rateLowered g = s := by
  unfold State.rateLowered State.when
  split
  case isTrue hif =>
    simp only [Bool.and_eq_true, decide_eq_true_eq] at hif
    rcases h with h | h
    · exact absurd hif.1 (by simp [h])
    · omega
  case isFalse => rfl

theorem State.rateLowered_lower (h : s.training g = true) (hlt : s.agreed g < (s.group g).agreed) : s.rateLowered g = s.rateChanges g := by
  rw [State.rateLowered, State.when, if_pos (by simp [h, hlt])]

theorem State.rateChanges_now (h : s.grp g ≠ grpVerify) : s.rateChanges g = s.retrain g := by rw [State.rateChanges, if_neg h]

/-- A change of rate that waits leaves the rate that would be agreed. -/
theorem State.agreed_rateMarked (hg : g < 16) : (s.onGroup g fun k => { k with rateChange := true }).agreed g = s.agreed g :=
  by
  refine State.agreed_congr ?_ rfl rfl rfl rfl
  rw [State.group_onGroup_same _ hg]

theorem State.training_congr {t : State} (h : t.grp g = s.grp g) : t.training g = s.training g := by simp only [State.training, h]

/-- A restart leaves the rate that would be agreed. -/
theorem State.agreed_retrain (s : State) (hg : g < 16) : (s.retrain g).agreed g = s.agreed g := by
  have hmode : (s.retrain g).mode = s.mode := (s.retrain_keeps g).pieces .mode (by decide)
  refine State.agreed_congr (by rw [s.group_retrain hg]; rfl) (by rw [State.native, State.native, hmode]) ?_ ?_ ?_
  · exact s.reg_retrain hg (by rw [key_maxRate]; omega) (by rw [key_maxRate]; omega)
      (by rw [key_maxRate, key_grpState, key_farMax, key_spareFit]; omega)
  · exact s.reg_retrain hg (by rw [key_steppedDown]; omega) (by rw [key_steppedDown]; omega)
      (by rw [key_steppedDown, key_grpState, key_farMax, key_spareFit]; omega)
  · exact s.reg_retrain hg (by rw [key_rate]; omega) (by rw [key_rate]; omega)
      (by rw [key_rate, key_grpState, key_farMax, key_spareFit]; omega)

/-! ### RETRAIN (R234) -/

/-- The rate ceiling is lifted, and no RETRAIN is held. -/
def State.ceilingLifted (s : State) (g : Nat) : State :=
  s.setRegs [(Reg.MPH_GRP_STATUS_STEPPED_DOWN g, 0), (Reg.MPH_GRP_STATUS_RATE_PENDING g, 0)]

theorem State.requestRetrain_held (h : s.stripeBusy = true) :
    s.requestRetrain g = s.setReg (Reg.MPH_GRP_STATUS_RATE_PENDING g) 1 := by
  rw [State.requestRetrain, if_pos h]

/-- Between stripes a RETRAIN is carried out, its ceiling lifted (R234). -/
theorem State.requestRetrain_now (h : s.stripeBusy = false) (hverify : s.grp g ≠ grpVerify) :
    s.requestRetrain g = (s.ceilingLifted g).retrain g := by
  have hgrp : (s.ceilingLifted g).grp g ≠ grpVerify := by
    rw [State.grp, State.ceilingLifted, (s.setRegs_keeps _).2 _ (by simp)]
    exact hverify
  rw [State.requestRetrain, h, if_neg Bool.false_ne_true]
  dsimp only
  rw [← State.ceilingLifted, State.rateChanges_now hgrp, ite_self]

/-- A group restarted by RETRAIN. -/
theorem State.requestRetrain_shows (hg : g < 16) (h : s.stripeBusy = false) (hverify : s.grp g ≠ grpVerify) :
    (s.requestRetrain g).grp g = grpOff ∧ (s.requestRetrain g).reg (Reg.MPH_GRP_STATUS_STEPPED_DOWN g) = 0 ∧
      (s.requestRetrain g).reg (Reg.MPH_GRP_STATUS_RATE_PENDING g) = 0 ∧ bitOf ((s.requestRetrain g).reg Reg.CAL_STATUS_DUE) 0 = true ∧
      Keeps [.link, .counters] (ovf 17 :: Reg.CAL_STATUS_DUE :: groupFields g) s (s.requestRetrain g) := by
  rw [State.requestRetrain_now h hverify]
  refine ⟨State.grp_retrain _ hg, ?_, ?_, State.due_retrain _ g, ?_⟩
  · rw [State.reg_retrain _ hg (by rw [key_steppedDown]; omega) (by rw [key_steppedDown]; omega)
      (by rw [key_steppedDown, key_grpState, key_farMax, key_spareFit]; omega)]
    exact State.reg_setRegs_mem (v := 0) (by simp) (by simp) (by simp [Reg.MPH_GRP_STATUS_STEPPED_DOWN])
  · rw [State.reg_retrain _ hg (by rw [key_ratePending]; omega) (by rw [key_ratePending]; omega)
      (by rw [key_ratePending, key_grpState, key_farMax, key_spareFit]; omega)]
    exact State.reg_setRegs_mem (v := 0) (by simp) (by simp) (by simp [Reg.MPH_GRP_STATUS_RATE_PENDING])
  · exact ((s.setRegs_keeps _).trans (State.retrain_keeps _ g)).mono (by decide) (by simp [groupFields])

theorem or_not_lower (h : ¬(s.training g = true ∧ s.agreed g < (s.group g).agreed)) :
    s.training g = false ∨ (s.group g).agreed ≤ s.agreed g := by
  rcases Bool.eq_false_or_eq_true (s.training g) with ht | ht
  · exact .inr (Nat.le_of_not_lt fun hlt => h ⟨ht, hlt⟩)
  · exact .inl ht

/-- A change of rate that is not to wait leaves the group's restart to follow (R235). -/
theorem State.rateLowered_free (hg : g < 16) (h : s.stripeBusy = false) (hverify : s.grp g ≠ grpVerify) :
    (s.rateLowered g).stripeBusy = false ∧ (s.rateLowered g).grp g ≠ grpVerify ∧ KeepsPieces [.link, .counters] s (s.rateLowered g) := by
  by_cases hlower : s.training g = true ∧ s.agreed g < (s.group g).agreed
  · have hpieces := (s.retrain_keeps g).pieces
    have hstripes : (s.retrain g).stripes = s.stripes := hpieces .stripes (by decide)
    rw [State.rateLowered_lower hlower.1 hlower.2, State.rateChanges_now hverify, s.grp_retrain hg]
    exact ⟨by rw [State.stripeBusy, hstripes]; exact h, by decide, hpieces⟩
  · rw [State.rateLowered_not (or_not_lower hlower)]
    exact ⟨h, hverify, KeepsPieces.refl _ s⟩

end

theorem State.stripeBusy_access (s : State) : s.access.stripeBusy = s.stripeBusy := by
  have hstripes : s.access.stripes = s.stripes := s.access_pieces .stripes (by decide)
  rw [State.stripeBusy, hstripes, State.stripeBusy]

section
variable {s : State} {g : Fin 16} {v : Word} (hlink : s.linkUp = true) (hnative : s.native = true)
include hlink hnative

theorem bus_grpCtl (h5 : v.getLsbD 5 = false) (hl2 : s.access.flag (Reg.MPH_GRP_CTL_L2_REQ g) = false) :
    s.bus (0x103C0 + 0x400 * g) (grpCtlWrite g v.toNat) =
      ((s.access.ctlWritten g v.toNat).rateLowered g).when (v.getLsbD 4) (·.requestRetrain g) := by
  have habsent : absentOn632 (0x103C0 + 0x400 * g) = false := by
    simp only [absentOn632, Bool.or_eq_false_iff, Bool.and_eq_false_iff, decide_eq_false_iff_not]
    omega
  rw [State.bus_taken hlink (State.takesWrite_native hnative (.inl (by omega)) habsent), grpCtlWrite_eq ((bitOf_toNat v 5).trans h5) hl2, bitOf_toNat]

variable (h5 : v.getLsbD 5 = false) (hl2 : s.access.flag (Reg.MPH_GRP_CTL_L2_REQ g) = false)
include h5 hl2

/-- While a stripe is bound a RETRAIN is held (R234). -/
theorem completes_retrain_held (h4 : v.getLsbD 4 = true) (hmax : bits v.toNat 0 3 = s.access.reg (Reg.MPH_GRP_CTL_MAX_RATE g))
    (hbusy : s.stripeBusy = true) (hagreed : s.access.training g = true → (s.access.group g).agreed ≤ s.access.agreed g) :
    Completes (.groupRetrain g v) s fun t => t.reg (Reg.MPH_GRP_STATUS_RATE_PENDING g) = 1 ∧ t.grp g = s.access.grp g := by
  have hexec : exec (.groupRetrain g v) s = answer s _ := congrArg (answer s) (bus_grpCtl hlink hnative h5 hl2)
  obtain ⟨hgrp, hgroup, hstripes⟩ := State.ctlWritten_same (s := s.access) (v := v.toNat) g.isLt
  have hrate : (s.access.ctlWritten g v.toNat).agreed g = s.access.agreed g := by
    have hkeeps := State.ctlWritten_keeps (s := s.access) (v := v.toNat) g.isLt
    have hmode : (s.access.ctlWritten g v.toNat).mode = s.access.mode := hkeeps.pieces .mode (by decide)
    exact State.agreed_congr (by rw [hgroup]) (by rw [State.native, State.native, hmode])
      ((State.maxRate_ctlWritten g.isLt).trans hmax) (State.reg_ctlWritten g.isLt (by rw [key_steppedDown]; omega))
      (State.reg_ctlWritten g.isLt (by rw [key_rate]; omega))
  have hnot : (s.access.ctlWritten g v.toNat).training g = false ∨
      ((s.access.ctlWritten g v.toNat).group g).agreed ≤ (s.access.ctlWritten g v.toNat).agreed g := by
    rw [State.training_congr hgrp, hgroup, hrate]
    rcases Bool.eq_false_or_eq_true (s.access.training g) with ht | ht
    · exact .inr (hagreed ht)
    · exact .inl ht
  rw [State.rateLowered_not hnot, h4, State.when, if_pos rfl,
    State.requestRetrain_held (hstripes.trans (s.stripeBusy_access.trans hbusy))] at hexec
  have hpieces := ((State.ctlWritten_keeps (s := s.access) (v := v.toNat) g.isLt).trans
    (State.setReg_keeps _ (Reg.MPH_GRP_STATUS_RATE_PENDING g) 1)).pieces
  refine completes_after_access hexec hpieces ⟨State.reg_setReg_same _ _ 1 (by simp [Reg.MPH_GRP_STATUS_RATE_PENDING]), ?_⟩
  rw [State.grp, State.reg_setReg_ne _ _ _ _ (by rw [key_grpState, key_ratePending]; omega)]
  exact hgrp

/-- Between stripes it restarts the group (R234, R235). -/
theorem completes_retrain_now (h4 : v.getLsbD 4 = true) (hbusy : s.stripeBusy = false) (hverify : s.access.grp g ≠ grpVerify) :
    Completes (.groupRetrain g v) s fun t => t.grp g = grpOff ∧ t.reg (Reg.MPH_GRP_STATUS_STEPPED_DOWN g) = 0 ∧
      t.reg (Reg.MPH_GRP_STATUS_RATE_PENDING g) = 0 := by
  have hexec : exec (.groupRetrain g v) s = answer s _ := congrArg (answer s) (bus_grpCtl hlink hnative h5 hl2)
  obtain ⟨hgrp, -, hstripes⟩ := State.ctlWritten_same (s := s.access) (v := v.toNat) g.isLt
  obtain ⟨hfree, hgrp', hlowered⟩ := State.rateLowered_free (s := s.access.ctlWritten g v.toNat) g.isLt
    (hstripes.trans (s.stripeBusy_access.trans hbusy)) (by rw [hgrp]; exact hverify)
  rw [h4, State.when, if_pos rfl] at hexec
  obtain ⟨hoff, hstepped, hpending, -, hkeeps⟩ := State.requestRetrain_shows g.isLt hfree hgrp'
  have hwritten := (State.ctlWritten_keeps (s := s.access) (v := v.toNat) g.isLt).pieces.mono (List.nil_subset [.link, .counters])
  exact completes_after_access hexec (hwritten.trans (hlowered.trans hkeeps.pieces)) ⟨hoff, hstepped, hpending⟩

/-- A write of MAX_RATE alone (R235). -/
theorem completes_maxRate (h4 : v.getLsbD 4 = false) : Completes (.groupMaxRateWrite g v) s fun t =>
      t.reg (Reg.MPH_GRP_CTL_MAX_RATE g) = bits v.toNat 0 3 ∧
      ((s.access.training g = false ∨ (s.access.group g).agreed ≤ t.agreed g) → Keeps [] (ctlFields g) s.access t) ∧
      (s.access.training g = true → t.agreed g < (s.access.group g).agreed →
        if s.access.grp g = grpVerify then t.grp g = grpVerify ∧ (t.group g).rateChange = true else t.grp g = grpOff) := by
  have hexec : exec (.groupMaxRateWrite g v) s = answer s _ := congrArg (answer s) (bus_grpCtl hlink hnative h5 hl2)
  rw [h4, State.when, if_neg Bool.false_ne_true] at hexec
  obtain ⟨hgrp, hgroup, -⟩ := State.ctlWritten_same (s := s.access) (v := v.toNat) g.isLt
  have hwritten := State.ctlWritten_keeps (s := s.access) (v := v.toNat) g.isLt
  have hmax := State.maxRate_ctlWritten (s := s.access) (v := v.toNat) g.isLt
  generalize s.access.ctlWritten g v.toNat = u at *
  by_cases hlower : u.training g = true ∧ u.agreed g < (u.group g).agreed
  · rw [State.rateLowered_lower hlower.1 hlower.2] at hexec
    rw [State.training_congr hgrp, hgroup] at hlower
    by_cases hv : u.grp g = grpVerify
    · rw [State.rateChanges, if_pos hv] at hexec
      refine completes_after_access hexec (hwritten.trans (u.onGroup_keeps g _)).pieces
        ⟨hmax, fun h => ?_, fun _ _ => ?_⟩
      · rw [State.agreed_rateMarked g.isLt] at h
        exact absurd h (not_or.2 ⟨by rw [hlower.1]; decide, Nat.not_le.2 hlower.2⟩)
      · rw [if_pos (hgrp.symm.trans hv)]
        exact ⟨hv, congrArg Group.rateChange (u.group_onGroup_same g.isLt _)⟩
    · rw [State.rateChanges_now hv] at hexec
      have hstays : (u.retrain g).reg (Reg.MPH_GRP_CTL_MAX_RATE g) = u.reg (Reg.MPH_GRP_CTL_MAX_RATE g) :=
        u.reg_retrain g.isLt (by rw [key_maxRate]; omega) (by rw [key_maxRate]; omega)
          (by rw [key_maxRate, key_grpState, key_farMax, key_spareFit]; omega)
      refine completes_after_access hexec ((hwritten.trans (u.retrain_keeps g)).pieces) ⟨hstays.trans hmax, fun h => ?_, fun _ _ => ?_⟩
      · rw [u.agreed_retrain g.isLt] at h
        exact absurd h (not_or.2 ⟨by rw [hlower.1]; decide, Nat.not_le.2 hlower.2⟩)
      · rw [if_neg (by rw [← hgrp]; exact hv)]
        exact u.grp_retrain g.isLt
  · rw [State.rateLowered_not (or_not_lower hlower)] at hexec
    refine completes_after_access hexec hwritten.pieces ⟨hmax, fun _ => hwritten, fun ht hlt => ?_⟩
    rw [State.training_congr hgrp, hgroup] at hlower
    exact absurd ⟨ht, hlt⟩ hlower

end

/-! ### DEFERRED_RETRAIN (R234, R405) -/

theorem completes_deferredRetrain {s : State} {g : Fin 16} (hpending : s.flag (Reg.MPH_GRP_STATUS_RATE_PENDING g) = true)
    (hbusy : s.stripeBusy = false) (hverify : s.grp g ≠ grpVerify) : Completes (.deferredRetrain g) s fun t =>
      t.grp g = grpOff ∧ t.reg (Reg.MPH_GRP_STATUS_STEPPED_DOWN g) = 0 ∧ t.reg (Reg.MPH_GRP_STATUS_RATE_PENDING g) = 0 ∧
      bitOf (t.reg Reg.CAL_STATUS_DUE) 0 = true ∧
      Keeps [.link, .counters] (ovf 17 :: Reg.CAL_STATUS_DUE :: groupFields g) s t := by
  have hexec : exec (.deferredRetrain g) s = answer s (s.requestRetrain g) := by
    simp only [exec, execDeferredRetrain, State.when, hpending, hbusy, Bool.not_false, Bool.and_self, if_true]
  have hshows := State.requestRetrain_shows g.isLt hbusy hverify
  exact completes_of_pieces hexec hshows.2.2.2.2.pieces hshows

theorem ignored_deferredRetrain {s : State} {g : Fin 16} (h : s.flag (Reg.MPH_GRP_STATUS_RATE_PENDING g) = false ∨ s.stripeBusy = true) :
    Ignored (.deferredRetrain g) s := by
  have hno : (s.flag (Reg.MPH_GRP_STATUS_RATE_PENDING g) && !s.stripeBusy) = false := by
    rcases h with h | h
    · rw [h, Bool.false_and]
    · rw [h, Bool.not_true, Bool.and_false]
  simp only [Ignored, exec, execDeferredRetrain, State.when, hno, Bool.false_eq_true, if_false, answer_self]

/-! ### FRM_DEVICE (R208) -/

section
variable {s : State} {v : Nat}

/-- The device id set. -/
def State.idWritten (s : State) (v : Nat) : State := s.setRegs [(Reg.FRM_DEVICE_DEVICE_ID, v), (Reg.XK2_LINK_CTL_DEVICE_ID, v)]

theorem State.reg_idWritten (s : State) (v : Nat) : (s.idWritten v).reg Reg.FRM_DEVICE_DEVICE_ID = v % 2 ^ 11 :=
  State.reg_setRegs_mem (v := v) (by simp; decide) (by simp) (by decide)

theorem mem_mismatched {g : Nat} (hg : g < 16) {f : FarCaps} (hf : (s.group g).far = some f) :
    g ∈ s.mismatched ↔ f.device ≠ s.reg Reg.FRM_DEVICE_DEVICE_ID := by
  simp [State.mismatched, hg, hf]

theorem State.grp_idWritten (s : State) (v : Nat) {g : Nat} (hg : g < 16) : (s.idWritten v).grp g = s.grp g := by
  refine (s.setRegs_keeps _).2 _ fun k hk => ?_
  simp only [List.map_cons, List.map_nil, List.mem_cons, List.not_mem_nil, or_false] at hk
  rw [key_grpState]
  rcases hk with rfl | rfl
  · rw [show Reg.FRM_DEVICE_DEVICE_ID.key = 32 * 0xD004 + 0 from rfl]; omega
  · simp only [Field.key, Reg.XK2_LINK_CTL_DEVICE_ID]; omega

/-- The restarts that a device id asks for leave what it is. -/
theorem reg_deviceId_restarts (s : State) (l : List Nat) :
    (s.forAll l fun g t => t.groupOff g false).reg Reg.FRM_DEVICE_DEVICE_ID = s.reg Reg.FRM_DEVICE_DEVICE_ID :=
  State.forAll_induction (P := fun u => u.reg Reg.FRM_DEVICE_DEVICE_ID = s.reg Reg.FRM_DEVICE_DEVICE_ID) l rfl fun g _ u hu =>
    ((u.groupOff_keeps g false).2 _ (key_ne_of_groupFields (.inl (by
      rw [show Reg.FRM_DEVICE_DEVICE_ID.key = 32 * 0xD004 + 0 from rfl]; omega)))).trans hu

theorem State.grp_groupOff_ne (s : State) {g h : Nat} (hne : h ≠ g) (fast : Bool) : (s.groupOff g fast).grp h = s.grp h :=
  (s.groupOff_keeps g fast).2 _ (key_ne_of_groupFields (by rw [key_grpState]; omega))

/-- Of the groups of a list each restarts, and no other. -/
theorem grp_restarts (s : State) (l : List Nat) (g : Nat) :
    (s.forAll l fun g t => t.groupOff g false).grp g = if g ∈ l then grpOff else s.grp g := by
  split
  case isTrue hmem =>
    have hkeep (h : Nat) (u : State) (hu : u.grp g = grpOff) : (u.groupOff h false).grp g = grpOff := by
      by_cases hne : g = h
      · rw [← hne]
        exact u.grp_groupOff g false
      · exact (u.grp_groupOff_ne hne false).trans hu
    exact State.forAll_establishes (P := fun u => u.grp g = grpOff) (f := fun g t => t.groupOff g false) (a := g) hmem
      (fun u => u.grp_groupOff g false) hkeep s
  case isFalse hnot =>
    refine State.forAll_induction (P := fun u => u.grp g = s.grp g) l rfl fun h hh u hu => ?_
    exact (u.grp_groupOff_ne (fun heq => hnot (by rw [heq]; exact hh)) false).trans hu

/-- A group marked to restart once no stripe is bound (R208). -/
def State.restartMarked (s : State) (g : Nat) : State := s.onGroup g fun k => { k with restartDue := true }

theorem State.restartDue_marked (s : State) {g : Nat} (hg : g < 16) : ((s.restartMarked g).group g).restartDue = true :=
  congrArg Group.restartDue (s.group_onGroup_same hg fun k => { k with restartDue := true })

/-- Of the groups of a list each is marked. -/
theorem restartDue_marks (s : State) {l : List Nat} {g : Nat} (hg : g < 16) (hmem : g ∈ l) :
    ((s.forAll l fun g t => t.restartMarked g).group g).restartDue = true := by
  have hkeep (h : Nat) (u : State) (hu : (u.group g).restartDue = true) : ((u.restartMarked h).group g).restartDue = true := by
    by_cases hne : g = h
    · rw [← hne]
      exact u.restartDue_marked hg
    · rw [State.restartMarked, u.group_onGroup_ne hne]
      exact hu
  exact State.forAll_establishes (P := fun u => (u.group g).restartDue = true) (f := fun g t => t.restartMarked g) (a := g) hmem
    (fun u => u.restartDue_marked hg) hkeep s

theorem restartMarks_keeps (s : State) (l : List Nat) : Keeps [.link] [] s (s.forAll l fun g t => t.restartMarked g) :=
  Keeps.forAll _ _ fun g u => u.onGroup_keeps g _

end

/-- A new device id restarts the groups whose CAPS carried another, or marks them while a stripe is bound (R208). -/
theorem deviceIdWrite_cases (v : Nat) (s : State) : deviceIdWrite v s =
    if v % 2 ^ 11 = s.reg Reg.FRM_DEVICE_DEVICE_ID then s.idWritten v
    else if s.stripeBusy then (s.idWritten v).forAll (s.idWritten v).mismatched fun g t => t.restartMarked g
    else (s.idWritten v).forAll (s.idWritten v).mismatched fun g t => t.groupOff g false := by
  have hstripes : (s.idWritten v).stripes = s.stripes := (s.setRegs_keeps _).1 .stripes (by decide)
  have hbusy : (s.idWritten v).stripeBusy = s.stripeBusy := by rw [State.stripeBusy, hstripes, State.stripeBusy]
  rw [deviceIdWrite, ← State.idWritten, State.when, s.reg_idWritten, hbusy]
  by_cases heq : v % 2 ^ 11 = s.reg Reg.FRM_DEVICE_DEVICE_ID
  · rw [if_pos heq, if_neg fun h => bne_iff_ne.1 h heq]
  · rw [if_neg heq, if_pos (bne_iff_ne.2 heq)]
    rfl

section
variable {s : State} {v : Word}

theorem mismatched_idWritten {n g : Nat} (hg : g < 16) {f : FarCaps} (hf : (s.group g).far = some f) :
    g ∈ (s.idWritten n).mismatched ↔ f.device ≠ n % 2 ^ 11 := by
  rw [mem_mismatched hg (by rw [State.idWritten, State.group_setRegs]; exact hf), s.reg_idWritten]

theorem completes_deviceId (hlink : s.linkUp = true) (hnative : s.native = true) : Completes (.deviceIdWrite v) s fun t =>
    t.reg Reg.FRM_DEVICE_DEVICE_ID = v.toNat % 2 ^ 11 ∧
    (s.stripeBusy = false → v.toNat % 2 ^ 11 ≠ s.access.reg Reg.FRM_DEVICE_DEVICE_ID → ∀ g < 16, ∀ f, (s.access.group g).far = some f →
      t.grp g = if f.device = v.toNat % 2 ^ 11 then s.access.grp g else grpOff) ∧
    (s.stripeBusy = true → v.toNat % 2 ^ 11 ≠ s.access.reg Reg.FRM_DEVICE_DEVICE_ID → ∀ g < 16, t.grp g = s.access.grp g ∧
      ∀ f, (s.access.group g).far = some f → f.device ≠ v.toNat % 2 ^ 11 → (t.group g).restartDue = true) := by
  have hexec : exec (.deviceIdWrite v) s = answer s (deviceIdWrite v.toNat s.access) :=
    congrArg (answer s) (State.bus_taken hlink (State.takesWrite_native hnative (.inl (by decide)) (by decide)) _)
  have hid := s.access.reg_idWritten v.toNat
  have hgrp (g : Nat) (hg : g < 16) := s.access.grp_idWritten v.toNat hg
  have hwritten : KeepsPieces [] s.access (s.access.idWritten v.toNat) := (s.access.setRegs_keeps _).pieces
  rw [deviceIdWrite_cases, s.stripeBusy_access] at hexec
  by_cases hsame : v.toNat % 2 ^ 11 = s.access.reg Reg.FRM_DEVICE_DEVICE_ID
  · rw [if_pos hsame] at hexec
    exact completes_after_access hexec hwritten ⟨hid, fun _ hne => absurd hsame hne, fun _ hne => absurd hsame hne⟩
  rw [if_neg hsame] at hexec
  cases hbusy : s.stripeBusy with
  | true =>
    rw [hbusy, if_pos rfl] at hexec
    have hmarks := restartMarks_keeps (s.access.idWritten v.toNat) (s.access.idWritten v.toNat).mismatched
    refine completes_after_access hexec ((hwritten.mono (List.nil_subset [.link])).trans hmarks.pieces)
      ⟨(hmarks.2 _ (by simp)).trans hid, fun h => absurd h (by decide), fun _ _ g hg => ⟨(hmarks.2 _ (by simp)).trans (hgrp g hg), ?_⟩⟩
    exact fun f hf hne => restartDue_marks _ hg ((mismatched_idWritten hg hf).2 hne)
  | false =>
    rw [hbusy, if_neg Bool.false_ne_true] at hexec
    have hrestarts : KeepsPieces [.link] (s.access.idWritten v.toNat) _ :=
      (KeepsPieces.refl _ _).forAll (s.access.idWritten v.toNat).mismatched fun g u => (u.groupOff_keeps g false).pieces
    refine completes_after_access hexec ((hwritten.mono (List.nil_subset [.link])).trans hrestarts)
      ⟨(reg_deviceId_restarts _ _).trans hid, fun _ _ g hg f hf => ?_, fun h => absurd h (by decide)⟩
    rw [grp_restarts, hgrp g hg]
    simp only [mismatched_idWritten hg hf, ne_eq, ite_not]

end

theorem clauseGroupRetrains : ClauseGroupRetrains :=
  ⟨fun _ _ _ hlink hnative h4 h5 hl2 hmax => ⟨fun hbusy hagreed => completes_retrain_held hlink hnative h5 hl2 h4 hmax hbusy hagreed,
      fun hbusy hverify => completes_retrain_now hlink hnative h5 hl2 h4 hbusy hverify⟩,
    fun _ _ hpending hbusy hverify => completes_deferredRetrain hpending hbusy hverify,
    fun _ _ h => ignored_deferredRetrain h,
    fun _ _ _ hlink hnative h4 h5 hl2 => completes_maxRate hlink hnative h5 hl2 h4,
    fun _ _ hlink hnative => completes_deviceId hlink hnative⟩

/-- Settles O32: the writes of MPH_GRP_CTL and of the device id are followed through the settings to the restart they ask for; the failures of
lanes in training are split by how many data lanes fail. -/
theorem groupRetrainsAndFailures : Obligations.GroupRetrainsAndFailures := ⟨clauseGroupRetrains, clauseGroupFailures⟩

end Sys2Proof.Machine
end

section
/-! SUPPORT. The power states of a Muash group's lanes (R237, R238): a lane enters L1 and leaves it, alone or with every lane that went down
meanwhile, and a group enters L2 and leaves it by a fast retrain. -/
namespace Sys2Proof.Machine

-- One proof after another: elaborated together, each waits in a thread of its own, and a check of the whole text runs out of memory.
set_option Elab.async false

open Sys2Proof

/-! ### L1_ENTRY (R237) -/

section
variable {s : State} {g i : Nat}

/-- A lane's last words before L1. -/
def State.laneRests (s : State) (g i : Nat) : State :=
  s.when (s.drives g i) fun s => s.sendOn (lineKey g i) (fun rd => .sleep g i rd false) (sleepPairs false)

theorem State.laneRests_sends (s : State) (g i : Nat) : Sends s (s.laneRests g i) := (Sends.refl s).when _ fun u => u.sendOn_sends _ _ _

theorem State.out_laneRests (s : State) (g i : Nat) : (s.laneRests g i).out =
    if s.drives g i then .sleep g i (s.disparity (lineKey g i)) false :: s.out else s.out := by
  unfold State.laneRests State.when
  split <;> rfl

theorem State.sleepLane_eq (s : State) (g i : Nat) : s.sleepLane g i = (s.laneRests g i).setLanes g laneL1 [i] := rfl

theorem exec_l1Entry {g : Fin 16} {i : Fin 8} (hready : s.grp g = grpReady) (hl0 : s.reg (Reg.MPH_LSTATE_STATE g i) = laneL0)
    (hidle : s.active? = none) : exec (.l1Entry g i) s = answer s (s.sleepLane g i) := by
  simp only [exec, execL1Entry, State.when, hready, hl0, hidle, Option.isNone_none, beq_self_eq_true, Bool.or_true, Bool.and_self, if_true]

theorem completes_l1Entry {g : Fin 16} {i : Fin 8} (hready : s.grp g = grpReady) (hl0 : s.reg (Reg.MPH_LSTATE_STATE g i) = laneL0)
    (hidle : s.active? = none) : Completes (.l1Entry g i) s fun t => t.reg (Reg.MPH_LSTATE_STATE g i) = laneL1 ∧
      t.out = (if s.drives g i then .sleep g i (s.disparity (lineKey g i)) false :: s.out else s.out) ∧
      Keeps [.link, .out] [Reg.MPH_LSTATE_STATE g i] s t := by
  have hkeeps : Keeps [.link, .out] [Reg.MPH_LSTATE_STATE g i] s (s.sleepLane g i) := by
    rw [State.sleepLane_eq]
    exact ((s.laneRests_sends g i).keeps.trans (State.setLanes_keeps _ g laneL1 [i.val])).mono (by decide) (by simp)
  exact completes_of_pieces (exec_l1Entry hready hl0 hidle) hkeeps.pieces
    ⟨State.reg_setLanes (List.mem_singleton_self _) (by decide), s.out_laneRests g i, hkeeps⟩

end

/-! ### L1_EXIT of a lane that is up (R237) -/

section
variable {s t : State} {g i : Nat}

/-- What leaves the steady registers and the links says the same in the training sequence. -/
theorem Undisturbed.staged {ps : List Piece} (h : Undisturbed ps s t) (hg : g < 16) (hl : .link ∉ ps := by decide)
    (hm : .mode ∉ ps := by decide) : Staged g s t := by
  have hgroup := h.pieces.group hl g
  have hmode : t.mode = s.mode := h.pieces .mode hm
  exact ⟨h.grp hg, h.regs _ (steady_of_key (key_rate g) (by omega) (by omega)),
    h.regs _ (steady_of_key (key_verifyLog2 g) (by omega) (by omega)), by rw [hgroup], by rw [hgroup], by rw [State.native, State.native, hmode]⟩

/-- The lanes' states are not in the training sequence. -/
theorem State.setLanes_staged (s : State) (st : Nat) {slots : List Nat} (hslots : ∀ j ∈ slots, j < 11) : Staged g s (s.setLanes g st slots) := by
  refine ⟨State.reg_setLanes_ne fun j _ => ?_, State.reg_setLanes_ne fun j hj => ?_, State.reg_setLanes_ne fun j _ => ?_, rfl, rfl, rfl⟩
  · rw [key_laneState, key_grpState]; omega
  · have := hslots j hj
    rw [key_laneState, key_rate]; omega
  · rw [key_laneState, key_verifyLog2]; omega

theorem State.taps_setLanes (s : State) (st : Nat) (slots : List Nat) : (s.setLanes g st slots).taps g i = s.taps g i := by
  have hpre : (s.setLanes g st slots).reg (Reg.MPH_TXEQ_PRE g i) = s.reg (Reg.MPH_TXEQ_PRE g i) :=
    State.reg_setLanes_ne fun j _ => by rw [key_laneState, key_txeqPre]; omega
  have hmain : (s.setLanes g st slots).reg (Reg.MPH_TXEQ_MAIN g i) = s.reg (Reg.MPH_TXEQ_MAIN g i) :=
    State.reg_setLanes_ne fun j _ => by rw [key_laneState, key_txeqMain]; omega
  have hpost : (s.setLanes g st slots).reg (Reg.MPH_TXEQ_POST g i) = s.reg (Reg.MPH_TXEQ_POST g i) :=
    State.reg_setLanes_ne fun j _ => by rw [key_laneState, key_txeqPost]; omega
  simp only [State.taps, State.sreg, hpre, hmain, hpost]

/-- A lane that is awake again, before it sends anything. -/
def State.laneWoken (s : State) (g i : Nat) : State := (s.setLanes g laneL0 [i]).count 17 4 1

theorem State.laneWoken_keeps (s : State) (g i : Nat) : Keeps [.counters] [Reg.MPH_LSTATE_STATE g i, ovf 17] s (s.laneWoken g i) :=
  ((s.setLanes_keeps g laneL0 [i]).trans (State.count_keeps _ 17 4 1)).mono (by simp) (by simp)

/-- The count of a lane that wakes leaves the lanes. -/
theorem State.laneWoken_undisturbed (s : State) (g i : Nat) : Undisturbed logPieces (s.setLanes g laneL0 [i]) (s.laneWoken g i) :=
  (Undisturbed.refl _ _).count 17 4 1

/-- A woken lane sends what it would have sent (R223). -/
theorem State.sent_laneWoken (s : State) (hg : g < 16) (hi : i < 11) (hd : s.drives g i = true) : ∃ rd, .training g i rd none
    (tsqBody i g (s.trainRate g) 0 (s.taps g i).bytes (s.verifyLog2 g)) ∈ ((s.laneWoken g i).sendTsq g 0 none i).out := by
  have hslots : ∀ j ∈ [i], j < 11 := by simpa using hi
  have hcount := s.laneWoken_undisturbed g i
  have hstaged : Staged g s (s.laneWoken g i) := (s.setLanes_staged laneL0 hslots).trans (hcount.staged hg)
  have hrouted : Routed g s (s.laneWoken g i) :=
    ((s.setLanes_keeps g laneL0 [i]).routed hg (laneStates_subset hslots)).trans (hcount.routed hg)
  have hsent := State.mem_out_sendTsq ((hrouted.drives hi).trans hd) 0 none
  rw [hstaged.trainRate, hstaged.verifyLog2, hcount.taps hg hi, s.taps_setLanes] at hsent
  exact hsent

theorem exec_l1Exit_up {g : Fin 16} {i : Fin 8} (hl1 : s.reg (Reg.MPH_LSTATE_STATE g i) = laneL1)
    (hup : i.val ∉ (s.group g).retrainLanes) : exec (.l1Exit g i) s = answer s ((s.laneWoken g i).sendTsq g 0 none i) := by
  have hcontains : (s.group g).retrainLanes.contains i.val = false := by simpa using hup
  show execL1Exit g i s = _
  rw [execL1Exit, hl1, State.when, if_pos (by decide), hcontains]
  rfl

theorem completes_l1Exit_up {g : Fin 16} {i : Fin 8} (hl1 : s.reg (Reg.MPH_LSTATE_STATE g i) = laneL1)
    (hup : i.val ∉ (s.group g).retrainLanes) : Completes (.l1Exit g i) s fun t => t.reg (Reg.MPH_LSTATE_STATE g i) = laneL0 ∧
      (s.drives g i = true → ∃ rd, .training g i rd none
        (tsqBody i g (s.trainRate g) 0 (s.taps g i).bytes (s.verifyLog2 g)) ∈ t.out) ∧
      Keeps [.link, .out, .counters] [Reg.MPH_LSTATE_STATE g i, ovf 17] s t := by
  have hsent := (s.laneWoken g i).sendTsq_sends g 0 none i
  have hkeeps : Keeps [.link, .out, .counters] [Reg.MPH_LSTATE_STATE g i, ovf 17] s ((s.laneWoken g i).sendTsq g 0 none i) :=
    ((s.laneWoken_keeps g i).trans hsent.keeps).mono (by decide) (by simp)
  refine completes_of_pieces (exec_l1Exit_up hl1 hup) hkeeps.pieces
    ⟨?_, fun hd => s.sent_laneWoken g.isLt (by omega) hd, hkeeps⟩
  rw [hsent.reg, (s.laneWoken_undisturbed g i).regs _ (steady_of_key (key_laneState g i) (by omega) (by omega))]
  exact State.reg_setLanes (List.mem_singleton_self _) (by decide)

/-! ### L1_EXIT of a lane that went down (R238) -/

/-- The registers of lanes that are trained again from ALIGN. -/
def downRegs (g : Nat) (down : List Nat) : List (Field × Nat) :=
  (Reg.MPH_GRP_STATUS_STATE g, grpAlign) :: down.flatMap fun i => [(Reg.MPH_LSTATE_STATE g i, laneTrain), (Reg.MPH_LSTATE_TRAINED g i, 0)]

/-- A group whose lanes that went down are trained again, every other of those required being held. -/
def Group.realigned (k : Group) (required down : List Nat) : Group :=
  { k with held := required.filter fun i => !down.contains i, retrainLanes := [] }

/-- A group whose lanes that went down are trained again, before they send anything. -/
def State.lanesDown (s : State) (g : Nat) : State :=
  ((s.count 17 4 1).setRegs (downRegs g (s.group g).retrainLanes)).onGroup g (·.realigned (s.required g) (s.group g).retrainLanes)

theorem State.lanesDown_pieces (s : State) (g : Nat) : KeepsPieces [.link, .counters] s (s.lanesDown g) :=
  (((s.count_keeps 17 4 1).trans (State.setRegs_keeps _ _)).trans (State.onGroup_keeps _ g _)).pieces.mono (by simp)

/-- The registers of lanes trained again stand apart. -/
theorem mem_downRegs {down : List Nat} {e : Field × Nat} (he : e ∈ downRegs g down) : e = (Reg.MPH_GRP_STATUS_STATE g, grpAlign) ∨
    ∃ j ∈ down, e = (Reg.MPH_LSTATE_STATE g j, laneTrain) ∨ e = (Reg.MPH_LSTATE_TRAINED g j, 0) := by
  simpa [downRegs] using he

theorem State.lanesDown_shows (s : State) (hg : g < 16) (hdown : i ∈ (s.group g).retrainLanes) :
    (s.lanesDown g).reg (Reg.MPH_LSTATE_STATE g i) = laneTrain ∧ (s.lanesDown g).grp g = grpAlign ∧
      i ∉ ((s.lanesDown g).group g).retrainLanes ∧ i ∉ ((s.lanesDown g).group g).held := by
  have hgroup : (s.lanesDown g).group g = (s.group g).realigned (s.required g) (s.group g).retrainLanes := State.group_onGroup_same _ hg _
  refine ⟨?_, ?_, ?_, ?_⟩
  · refine (State.reg_setRegs_of_unique (v := laneTrain) (List.mem_cons_of_mem _ (List.mem_flatMap.2 ⟨i, hdown, by simp⟩)) ?_
      (by simp [Reg.MPH_LSTATE_STATE])).trans (Nat.mod_eq_of_lt (b := 2 ^ 3) (by decide))
    intro e he hkey
    rcases mem_downRegs he with rfl | ⟨j, -, rfl | rfl⟩
    · rw [key_grpState, key_laneState] at hkey; omega
    · rw [key_laneState, key_laneState] at hkey
      obtain rfl : j = i := by omega
      rfl
    · rw [key_trained, key_laneState] at hkey; omega
  · refine (State.reg_setRegs_of_unique (v := grpAlign) List.mem_cons_self ?_ (by simp [Reg.MPH_GRP_STATUS_STATE])).trans
      (Nat.mod_eq_of_lt (b := 2 ^ 3) (by decide))
    intro e he hkey
    rcases mem_downRegs he with rfl | ⟨j, -, rfl | rfl⟩
    · rfl
    · rw [key_grpState, key_laneState] at hkey; omega
    · rw [key_grpState, key_trained] at hkey; omega
  · rw [hgroup]; simp [Group.realigned]
  · rw [hgroup]; simp [Group.realigned, hdown]

theorem exec_l1Exit_down {g : Fin 16} {i : Fin 8} (hl1 : s.reg (Reg.MPH_LSTATE_STATE g i) = laneL1)
    (hdown : i.val ∈ (s.group g).retrainLanes) : exec (.l1Exit g i) s =
      answer s ((s.lanesDown g).forAll (s.group g).retrainLanes fun j t => t.sendTsq g 0 none j) := by
  have hcontains : (s.group g).retrainLanes.contains i.val = true := by simpa using hdown
  show execL1Exit g i s = _
  rw [execL1Exit, hl1, State.when, if_pos (by decide), hcontains]
  rfl

theorem completes_l1Exit_down {g : Fin 16} {i : Fin 8} (hl1 : s.reg (Reg.MPH_LSTATE_STATE g i) = laneL1)
    (hdown : i.val ∈ (s.group g).retrainLanes) : Completes (.l1Exit g i) s fun t => t.reg (Reg.MPH_LSTATE_STATE g i) = laneTrain ∧
      t.grp g = grpAlign ∧ i.val ∉ (t.group g).retrainLanes ∧ i.val ∉ (t.group g).held := by
  have hsent : Sends (s.lanesDown g) ((s.lanesDown g).forAll (s.group g).retrainLanes fun j t => t.sendTsq g 0 none j) :=
    (Sends.refl _).forAll _ fun j u => u.sendTsq_sends g 0 none j
  have hpieces : KeepsPieces [.link, .out, .counters] s _ :=
    ((s.lanesDown_pieces g).mono (by decide)).trans (hsent.keeps.pieces.mono (by decide))
  refine completes_of_pieces (exec_l1Exit_down hl1 hdown) hpieces ?_
  rw [hsent.reg, hsent.grp, hsent.group]
  exact s.lanesDown_shows g.isLt hdown

end

/-! ### Writes of L2_REQ (R237) -/

theorem bits_one (v i : Nat) : bits v i 1 = b2n (bitOf v i) := by
  rcases Nat.mod_two_eq_zero_or_one (v / 2 ^ i) with h | h <;> simp [bits, bitOf, b2n, h]

section
variable {s : State} {g : Nat} {v : Nat}

theorem State.l2Req_ctlWritten (hg : g < 16) : (s.ctlWritten g v).reg (Reg.MPH_GRP_CTL_L2_REQ g) = b2n (bitOf v 5) := by
  have hwritten : (s.ctlWritten g v).reg (Reg.MPH_GRP_CTL_L2_REQ g) = bits v 5 1 := by
    rw [State.ctlWritten_eq hg]
    exact reg_writtenFields_mem v (l := ctlFields g) (by simp [ctlFields]) (by simp [ctlFields]) (by simp [Reg.MPH_GRP_CTL_L2_REQ]) rfl
  rw [hwritten, bits_one]

/-- Settings leave how the lanes are routed, and what any group shows. -/
theorem State.ctlWritten_routed (hg : g < 16) : Routed g s (s.ctlWritten g v) := by
  have hmode : (s.ctlWritten g v).mode = s.mode := (State.ctlWritten_keeps hg).pieces .mode (by decide)
  refine ⟨fun f hf => State.reg_ctlWritten hg ?_, by rw [State.native, State.native, hmode]⟩
  simp only [routeFields, List.mem_cons, List.mem_map, List.mem_range] at hf
  rcases hf with rfl | rfl | rfl | ⟨j, hj, rfl⟩
  · rw [key_spareUsed]; omega
  · rw [key_spareLane]; omega
  · simp only [Field.key, Reg.XK2_LINK_CTL_SPARE_EN]; omega
  · rw [key_loop]; omega

theorem State.inL2_congr {t : State} {h : Nat} (hreg : ∀ i < 9, t.reg (Reg.MPH_LSTATE_STATE h i) = s.reg (Reg.MPH_LSTATE_STATE h i)) :
    t.inL2 h = s.inL2 h := by
  rw [State.inL2, State.inL2, Bool.eq_iff_iff, List.all_eq_true, List.all_eq_true]
  exact forall₂_congr fun i hi => by rw [hreg i (List.mem_range.1 hi)]

theorem State.inL2_ctlWritten (hg : g < 16) {h : Nat} : (s.ctlWritten g v).inL2 h = s.inL2 h :=
  State.inL2_congr fun i hi => State.reg_ctlWritten hg (by rw [key_laneState]; omega)

/-- A READY group is asked for L2 or out of it: the settings are written, and its state follows L2_REQ (R237). -/
theorem grpCtlWrite_ready (hg : g < 16) (h4 : bitOf v 4 = false) (hready : s.grp g = grpReady) (hbusy : bitOf v 5 = true → s.stripeBusy = false)
    (hl2 : bitOf v 5 = false → s.flag (Reg.MPH_GRP_CTL_L2_REQ g) = true) :
    grpCtlWrite g v s = if bitOf v 5 then (s.ctlWritten g v).enterL2 g else (s.ctlWritten g v).leaveL2 g := by
  obtain ⟨hgrp, -, hstripes⟩ := State.ctlWritten_same (s := s) (v := v) hg
  have hnot : (s.ctlWritten g v).rateLowered g = s.ctlWritten g v :=
    State.rateLowered_not (.inl (by rw [State.training_congr hgrp, State.training, hready]; decide))
  rw [grpCtlWrite, ← State.ctlWritten, hnot, h4]
  cases h5 : bitOf v 5 with
  | true => simp [State.when, hstripes, hbusy h5]
  | false => simp [State.when, hl2 h5]

theorem bus_grpCtlWrite {g : Fin 16} {v : Word} (hlink : s.linkUp = true) (hnative : s.native = true) :
    s.bus (0x103C0 + 0x400 * g) (grpCtlWrite g v.toNat) = grpCtlWrite g v.toNat s.access := by
  have habsent : absentOn632 (0x103C0 + 0x400 * g) = false := by
    simp only [absentOn632, Bool.or_eq_false_iff, Bool.and_eq_false_iff, decide_eq_false_iff_not]
    omega
  exact State.bus_taken hlink (State.takesWrite_native hnative (.inl (by omega)) habsent) _

/-- Between stripes a READY group enters L2 (R237). -/
theorem completes_l2Enter {g : Fin 16} {v : Word} (hlink : s.linkUp = true) (hnative : s.native = true) (h4 : v.getLsbD 4 = false)
    (h5 : v.getLsbD 5 = true) (hbusy : s.stripeBusy = false) (hready : s.access.grp g = grpReady) :
    Completes (.l2Request g v) s fun t => t.inL2 g = true ∧ t.reg (Reg.MPH_GRP_CTL_L2_REQ g) = 1 ∧
      (s.access.inL2 g = false → .clock g none ∈ t.out) ∧ ∀ h < 16, h ≠ g.val → t.inL2 h = s.access.inL2 h := by
  have h5' : bitOf v.toNat 5 = true := (bitOf_toNat v 5).trans h5
  have hexec : exec (.l2Request g v) s = answer s ((s.access.ctlWritten g v.toNat).enterL2 g) := by
    show answer s (s.bus _ _) = _
    rw [bus_grpCtlWrite hlink hnative, grpCtlWrite_ready g.isLt ((bitOf_toNat v 4).trans h4) hready
      (fun _ => s.stripeBusy_access.trans hbusy) (fun h => absurd (h5'.symm.trans h) (by decide)), if_pos h5']
  have hwritten := State.ctlWritten_keeps (s := s.access) (v := v.toNat) g.isLt
  have henter := (s.access.ctlWritten g v.toNat).enterL2_keeps g
  have hgrp := (State.ctlWritten_same (s := s.access) (v := v.toNat) g.isLt).1.trans hready
  have hstays {f : Field} (hf : ∀ i, (Reg.MPH_LSTATE_STATE g i).key ≠ f.key) := henter.2 f fun k hk => by
    obtain ⟨i, -, rfl⟩ := List.mem_map.1 hk
    exact hf i
  refine completes_after_access hexec ((hwritten.trans henter).pieces) ⟨State.inL2_enterL2 hgrp, ?_, fun hout => ?_, fun h hh hne => ?_⟩
  · rw [hstays fun i => by rw [key_laneState, key_l2Req]; omega, State.l2Req_ctlWritten g.isLt, h5']
    rfl
  · rw [State.enterL2_eq, hgrp, State.inL2_ctlWritten g.isLt, hout]
    exact List.mem_cons_self
  · refine (State.inL2_congr fun i hi => henter.2 _ fun k hk => ?_).trans (State.inL2_ctlWritten g.isLt)
    obtain ⟨j, hj, rfl⟩ := List.mem_map.1 hk
    have := List.mem_range.1 hj
    rw [key_laneState, key_laneState]
    omega

end

/-! ### A group leaves L2 (R237, R238) -/

section
variable {s : State} {g : Nat}

/-- A group on its way out of L2. -/
def Group.leaving (k : Group) : Group := { k with held := [], results := [], l2Exit := true, fast := true }

/-- The lanes of a group on its way out of L2, in training with their initial taps. -/
def State.l2Left (s : State) (g : Nat) : State :=
  (((((s.setLanes g laneTrain (s.required g)).setLanes g laneL0 [9]).forAll (s.restSlots g) fun i t =>
    t.setLanes g (if i = 8 ∧ !s.spareRouted g then laneOff else laneFailed) [i])).setInitialTaps g
      (s.reg (Reg.MPH_GRP_STATUS_RATE g))).onGroup g Group.leaving

/-- A group on its way out of L2 by EQ, before its lanes send anything. -/
def State.l2Eq (s : State) (g : Nat) : State :=
  ((s.l2Left g).setReg (Reg.MPH_GRP_STATUS_STATE g) grpEq).emit (.clock g (some (s.reg (Reg.MPH_GRP_STATUS_RATE g))))

theorem State.leaveL2_eq (hl2 : s.inL2 g = true) : s.leaveL2 g =
    if (s.group g).retrainLanes.any fun i => (s.required g).contains i then (s.l2Left g).alignSleepers g
    else if (s.l2Eq g).skipsTaps g then (s.l2Eq g).enterVerify g else (s.l2Eq g).train g ((s.l2Eq g).tsqPhase g) none := by
  rw [State.leaveL2, State.when, if_pos hl2]
  rfl

theorem State.l2Left_keeps (s : State) (g : Nat) : Keeps [.link] (groupFields g) s (s.l2Left g) := by
  have hlanes (u : State) (st : Nat) {slots : List Nat} (hslots : ∀ i ∈ slots, i < 11) : Keeps [] (groupFields g) u (u.setLanes g st slots) :=
    (u.setLanes_keeps g st slots).mono (List.Subset.refl _) (laneStates_subset hslots)
  have hrest (u : State) : Keeps [] (groupFields g) u (u.forAll (s.restSlots g) fun i t =>
      t.setLanes g (if i = 8 ∧ !s.spareRouted g then laneOff else laneFailed) [i]) := by
    refine State.forAll_induction (P := Keeps [] (groupFields g) u) _ (Keeps.refl _ _ u) fun i hi w hw => ?_
    have hi := List.mem_range.1 (List.mem_of_mem_filter hi)
    exact (hw.trans (hlanes w _ (by simpa using hi.trans (by decide)))).mono (by simp) (by simp)
  exact (((((hlanes s laneTrain fun i hi => (mem_required hi).trans (by decide)).trans (hlanes _ laneL0 (by simp))).trans (hrest _)).trans
    ((State.setInitialTaps_keeps _ g _).mono (List.Subset.refl _) initialTaps_subset)).trans (State.onGroup_keeps _ g Group.leaving)).mono
      (by simp) (by simp)

theorem State.group_l2Left (s : State) (hg : g < 16) : (s.l2Left g).group g = (s.group g).leaving := by
  have hrest (u : State) : (u.forAll (s.restSlots g) fun i t =>
      t.setLanes g (if i = 8 ∧ !s.spareRouted g then laneOff else laneFailed) [i]).group g = u.group g :=
    State.forAll_induction (P := fun w => w.group g = u.group g) _ rfl fun _ _ _ hw => hw
  rw [State.l2Left, State.group_onGroup_same _ hg, (State.setInitialTaps_keeps _ g _).pieces.group (by decide), hrest]
  rfl

/-- L2_REQ is none of the registers that show a group. -/
theorem groupFields_apart_l2Req : ∀ k ∈ groupFields g, k.key ≠ (Reg.MPH_GRP_CTL_L2_REQ g).key := by
  intro k hk
  simp only [groupFields, List.mem_append, List.mem_flatMap, List.mem_range, List.mem_cons, List.not_mem_nil, or_false] at hk
  rw [key_l2Req]
  rcases hk with ⟨i, hi, rfl | rfl | rfl | rfl | rfl | rfl | rfl | rfl⟩ | rfl | rfl | rfl | rfl | rfl | rfl | rfl
  all_goals simp only [key_laneState, key_trained, key_txeqPre, key_txeqMain, key_txeqPost, key_lock, key_prbsBits, key_prbsErrors,
    key_grpState, key_farMax, key_spareFit, key_rate, key_failReason, key_ratePending, key_steppedDown]; omega

/-- What a group shows once it has left L2: L2_REQ as it was, the exit under way, and its lanes in training. -/
structure LeavesL2 (g : Nat) (s t : State) : Prop where
  l2Req : t.reg (Reg.MPH_GRP_CTL_L2_REQ g) = s.reg (Reg.MPH_GRP_CTL_L2_REQ g)
  l2Exit : (t.group g).l2Exit = true
  trains : Trains t g (t.tsqPhase g)

/-- Lanes that went down are trained again, before they send anything. -/
def State.sleepersAligned (s : State) (g : Nat) : State :=
  ((s.setRegs ((Reg.MPH_GRP_STATUS_STATE g, grpAlign) :: (s.group g).retrainLanes.map fun i => (Reg.MPH_LSTATE_TRAINED g i, 0))).onGroup g
    (·.realigned (s.required g) (s.group g).retrainLanes)).emit (.clock g (some 0))

theorem State.alignSleepers_eq (s : State) (g : Nat) : s.alignSleepers g = (s.sleepersAligned g).train g 0 none := rfl

theorem State.grp_sleepersAligned (s : State) (g : Nat) : (s.sleepersAligned g).grp g = grpAlign := by
  refine (State.reg_setRegs_of_unique (v := grpAlign) List.mem_cons_self ?_ (by simp [Reg.MPH_GRP_STATUS_STATE])).trans
    (Nat.mod_eq_of_lt (b := 2 ^ 3) (by decide))
  intro e he hkey
  rcases List.mem_cons.1 he with rfl | he
  · rfl
  · obtain ⟨j, -, rfl⟩ := List.mem_map.1 he
    rw [key_grpState, key_trained] at hkey
    omega

/-- By ALIGN, where a required lane went down (R238). -/
theorem State.leavesL2_align (s : State) (hg : g < 16) :
    LeavesL2 g s ((s.l2Left g).alignSleepers g) ∧ ((s.l2Left g).alignSleepers g).grp g = grpAlign := by
  have hsent := State.train_sends ((s.l2Left g).sleepersAligned g) g 0 none
  have hgrp := (s.l2Left g).grp_sleepersAligned g
  rw [State.alignSleepers_eq]
  refine ⟨⟨?_, ?_, ?_⟩, (hsent.grp g).trans hgrp⟩
  · rw [hsent.reg, State.sleepersAligned, State.reg_emit, State.reg_onGroup, (State.setRegs_keeps _ _).2 _ ?_]
    · exact (s.l2Left_keeps g).2 _ groupFields_apart_l2Req
    · intro k hk
      rcases List.mem_cons.1 hk with rfl | hk
      · rw [key_grpState, key_l2Req]; omega
      · obtain ⟨e, he, rfl⟩ := List.mem_map.1 hk
        obtain ⟨j, -, rfl⟩ := List.mem_map.1 he
        rw [key_trained, key_l2Req]; omega
  · rw [hsent.group, State.sleepersAligned, State.group_emit, State.group_onGroup_same _ hg, State.group_setRegs, s.group_l2Left hg]
    rfl
  · have hphase : ((s.l2Left g).sleepersAligned g).tsqPhase g = 0 := by
      rw [State.tsqPhase, hgrp]
      rfl
    rw [hsent.tsqPhase, hphase]
    exact State.train_trains _ g 0

theorem State.l2Eq_keeps (s : State) (g : Nat) : Keeps linkPieces (groupFields g) s (s.l2Eq g) :=
  (((s.l2Left_keeps g).trans (State.setReg_keeps _ (Reg.MPH_GRP_STATUS_STATE g) grpEq)).trans (State.emit_keeps _ _)).mono (by decide)
    (by simp [groupFields])

theorem State.group_l2Eq (s : State) (hg : g < 16) : (s.l2Eq g).group g = (s.group g).leaving := by
  rw [State.l2Eq, State.group_emit, State.group_setReg, s.group_l2Left hg]

/-- By VERIFY, where the far side does not train (R226). -/
theorem State.leavesL2_verify (s : State) (hg : g < 16) : LeavesL2 g s ((s.l2Eq g).enterVerify g) := by
  refine ⟨?_, by rw [State.group_enterVerify _ hg, s.group_l2Eq hg]; rfl, State.enterVerify_trains _ g⟩
  rw [(State.enterVerify_keeps _ g).2 _ (by rw [List.forall_mem_singleton, key_grpState, key_l2Req]; omega)]
  exact (s.l2Eq_keeps g).2 _ groupFields_apart_l2Req

/-- By EQ, else (R237). -/
theorem State.leavesL2_eq (s : State) (hg : g < 16) : LeavesL2 g s ((s.l2Eq g).train g ((s.l2Eq g).tsqPhase g) none) ∧
    ((s.l2Eq g).train g ((s.l2Eq g).tsqPhase g) none).grp g = grpEq := by
  have hsent := State.train_sends (s.l2Eq g) g ((s.l2Eq g).tsqPhase g) none
  refine ⟨⟨?_, ?_, ?_⟩, ?_⟩
  · rw [hsent.reg]
    exact (s.l2Eq_keeps g).2 _ groupFields_apart_l2Req
  · rw [hsent.group, s.group_l2Eq hg]
    rfl
  · rw [hsent.tsqPhase]
    exact State.train_trains _ g _
  · rw [hsent.grp, State.grp, State.l2Eq, State.reg_emit]
    exact State.reg_setState (s := s.l2Left g) (v := grpEq) (by decide)

theorem State.skipsTaps_l2Eq (s : State) (hg : g < 16) : (s.l2Eq g).skipsTaps g = s.skipsTaps g := by
  have hmode : (s.l2Eq g).mode = s.mode := (s.l2Eq_keeps g).pieces .mode (by decide)
  have hfar : ((s.l2Eq g).group g).far = (s.group g).far := by rw [s.group_l2Eq hg, Group.leaving]
  have hnative : (s.l2Eq g).native = s.native := by rw [State.native, State.native, hmode]
  exact State.skipsTaps_congr hfar hnative

/-- A group leaves L2 by ALIGN, VERIFY or EQ (R237, R238). -/
theorem State.leaveL2_shows (hg : g < 16) (hl2 : s.inL2 g = true) : LeavesL2 g s (s.leaveL2 g) ∧ (s.leaveL2 g).grp g =
    if ∃ i ∈ (s.group g).retrainLanes, i ∈ s.required g then grpAlign else if s.skipsTaps g then grpVerify else grpEq := by
  have hany : ((s.group g).retrainLanes.any fun i => (s.required g).contains i) = true ↔ ∃ i ∈ (s.group g).retrainLanes, i ∈ s.required g := by
    simp
  rw [State.leaveL2_eq hl2, s.skipsTaps_l2Eq hg]
  by_cases hdown : ∃ i ∈ (s.group g).retrainLanes, i ∈ s.required g
  · rw [if_pos (hany.2 hdown), if_pos hdown]
    exact s.leavesL2_align hg
  rw [if_neg (mt hany.1 hdown), if_neg hdown]
  cases hskips : s.skipsTaps g with
  | true =>
    rw [if_pos rfl, if_pos rfl]
    exact ⟨s.leavesL2_verify hg, State.grp_enterVerify _ g⟩
  | false =>
    rw [if_neg Bool.false_ne_true, if_neg Bool.false_ne_true]
    exact s.leavesL2_eq hg

/-- L2_REQ 0 takes a group out of L2 (R237, R238). -/
theorem completes_l2Leave {g : Fin 16} {v : Word} (hlink : s.linkUp = true) (hnative : s.native = true) (h4 : v.getLsbD 4 = false)
    (h5 : v.getLsbD 5 = false) (hreq : s.access.flag (Reg.MPH_GRP_CTL_L2_REQ g) = true) (hl2 : s.access.inL2 g = true)
    (hready : s.access.grp g = grpReady) : Completes (.l2Request g v) s fun t =>
      t.reg (Reg.MPH_GRP_CTL_L2_REQ g) = 0 ∧ (t.group g).l2Exit = true ∧
      t.grp g = (if ∃ i ∈ (s.access.group g).retrainLanes, i ∈ s.access.required g then grpAlign
        else if s.access.skipsTaps g then grpVerify else grpEq) ∧
      Trains t g (t.tsqPhase g) := by
  have h5' : bitOf v.toNat 5 = false := (bitOf_toNat v 5).trans h5
  have hexec : exec (.l2Request g v) s = answer s ((s.access.ctlWritten g v.toNat).leaveL2 g) := by
    show answer s (s.bus _ _) = _
    rw [bus_grpCtlWrite hlink hnative, grpCtlWrite_ready g.isLt ((bitOf_toNat v 4).trans h4) hready
      (fun h => absurd (h5'.symm.trans h) (by decide)) (fun _ => hreq), h5', if_neg Bool.false_ne_true]
  obtain ⟨-, hgroup, -⟩ := State.ctlWritten_same (s := s.access) (v := v.toNat) g.isLt
  have hrouted := State.ctlWritten_routed (s := s.access) (v := v.toNat) g.isLt
  obtain ⟨hleaves, hgrp⟩ := State.leaveL2_shows g.isLt ((State.inL2_ctlWritten (s := s.access) (v := v.toNat) g.isLt).trans hl2)
  rw [hgroup, hrouted.required (by rw [hgroup]), State.skipsTaps_congr (by rw [hgroup]) hrouted.native] at hgrp
  have hwritten := (State.ctlWritten_keeps (s := s.access) (v := v.toNat) g.isLt).pieces.mono (List.nil_subset linkPieces)
  refine completes_after_access hexec (hwritten.trans (State.leaveL2_pieces _ g)) ⟨?_, hleaves.l2Exit, hgrp, hleaves.trains⟩
  rw [hleaves.l2Req, State.l2Req_ctlWritten g.isLt, h5']
  rfl

/-! ### L2_EXIT_TIMEOUT (R237) -/

/-- An exit from L2 that takes too long starts from OFF (R237). -/
theorem completes_l2ExitTimeout {g : Fin 16} (hexit : (s.group g).l2Exit = true) : Completes (.l2ExitTimeout g) s fun t =>
    t.grp g = grpOff ∧ (t.group g).l2Exit = false ∧ Keeps [.link, .counters] (ovf 17 :: Reg.CAL_STATUS_DUE :: groupFields g) s t := by
  have hexec : exec (.l2ExitTimeout g) s = answer s (s.retrain g) := by
    simp only [exec, execL2ExitTimeout, State.when, hexit, if_true]
  have hkeeps := s.retrain_keeps g
  exact completes_of_pieces hexec hkeeps.pieces ⟨s.grp_retrain g.isLt, by rw [s.group_retrain g.isLt]; rfl, hkeeps⟩

theorem ignored_l2ExitTimeout {g : Fin 16} (hexit : (s.group g).l2Exit = false) : Ignored (.l2ExitTimeout g) s := by
  simp only [Ignored, exec, execL2ExitTimeout, State.when, hexit, Bool.false_eq_true, if_false, answer_self]

end

theorem clauseLanePower : ClauseLanePower :=
  ⟨fun _ _ _ hready hl0 hidle => completes_l1Entry hready hl0 hidle,
    fun _ _ _ hl1 => ⟨fun hup => completes_l1Exit_up hl1 hup, fun hdown => completes_l1Exit_down hl1 hdown⟩,
    fun _ _ _ hlink hnative h4 _ => ⟨fun h5 hbusy hready => completes_l2Enter hlink hnative h4 h5 hbusy hready,
      fun h5 hreq hl2 hready => completes_l2Leave hlink hnative h4 h5 hreq hl2 hready⟩,
    fun _ _ => ⟨fun hexit => completes_l2ExitTimeout hexit, fun hexit => ignored_l2ExitTimeout hexit⟩⟩

end Sys2Proof.Machine
end

section
/-! SUPPORT. The lane tests (R239 to R241, R244): a write to MPH_PRBS_CTL gives its fields their values, puts a lane in test, starts or stops its
checker and injects an error; and a checker's lock. -/
namespace Sys2Proof.Machine

-- One proof after another: elaborated together, each waits in a thread of its own, and a check of the whole text runs out of memory.
set_option Elab.async false

open Sys2Proof

/-! ### The register (R244) -/

section
variable {s : State} {g i : Nat} {v : Nat}

/-- The fields of MPH_PRBS_CTL. -/
def prbsFields (g i : Nat) : List Field :=
  [Reg.MPH_PRBS_CTL_PATTERN g i, Reg.MPH_PRBS_CTL_GEN_EN g i, Reg.MPH_PRBS_CTL_CHK_EN g i, Reg.MPH_PRBS_CTL_LOOP g i,
    Reg.MPH_PRBS_CTL_INJ_ONE g i, Reg.MPH_PRBS_CTL_INJ_RATE g i, Reg.MPH_PRBS_CTL_LOCK g i]

theorem fieldsAt_prbsCtl : ∀ g < 16, ∀ i < 11, Reg.fieldsAt (0x10000 + 0x400 * g + 0x40 * i + 0x08) = prbsFields g i := by decide +kernel

@[simp] theorem key_pattern (g i : Nat) : (Reg.MPH_PRBS_CTL_PATTERN g i).key = 32 * (0x10008 + 0x400 * g + 0x40 * i) + 0 := rfl
@[simp] theorem key_genEn (g i : Nat) : (Reg.MPH_PRBS_CTL_GEN_EN g i).key = 32 * (0x10008 + 0x400 * g + 0x40 * i) + 4 := rfl
@[simp] theorem key_chkEn (g i : Nat) : (Reg.MPH_PRBS_CTL_CHK_EN g i).key = 32 * (0x10008 + 0x400 * g + 0x40 * i) + 5 := rfl
@[simp] theorem key_injOne (g i : Nat) : (Reg.MPH_PRBS_CTL_INJ_ONE g i).key = 32 * (0x10008 + 0x400 * g + 0x40 * i) + 8 := rfl
@[simp] theorem key_injRate (g i : Nat) : (Reg.MPH_PRBS_CTL_INJ_RATE g i).key = 32 * (0x10008 + 0x400 * g + 0x40 * i) + 12 := rfl

theorem prbsFields_nodup : ((prbsFields g i).map Field.key).Nodup := by simp [prbsFields]

theorem prbsFields_width : ∀ f ∈ prbsFields g i, f.width ≤ 32 := by
  simp [prbsFields, Reg.MPH_PRBS_CTL_PATTERN, Reg.MPH_PRBS_CTL_GEN_EN, Reg.MPH_PRBS_CTL_CHK_EN, Reg.MPH_PRBS_CTL_LOOP, Reg.MPH_PRBS_CTL_INJ_ONE,
    Reg.MPH_PRBS_CTL_INJ_RATE, Reg.MPH_PRBS_CTL_LOCK]

/-- The state with MPH_PRBS_CTL's settings written. -/
def State.prbsWritten (s : State) (g i v : Nat) : State := s.writeFields (0x10000 + 0x400 * g + 0x40 * i + 0x08) v

theorem State.prbsWritten_keeps (hg : g < 16) (hi : i < 11) : Keeps [] (prbsFields g i) s (s.prbsWritten g i v) := by
  rw [← fieldsAt_prbsCtl g hg i hi]
  exact s.writeFields_keeps _ v

/-- Each field is written under its access code (R11). -/
theorem State.reg_prbsWritten (hg : g < 16) (hi : i < 11) {f : Field} (hf : f ∈ prbsFields g i) :
    (s.prbsWritten g i v).reg f = written s v f := by
  rw [State.prbsWritten, State.writeFields, fieldsAt_prbsCtl g hg i hi]
  exact reg_writtenFields_mem v prbsFields_nodup hf (prbsFields_width f hf) rfl

/-- The bit that is written to a flag of MPH_PRBS_CTL shows. -/
theorem State.flag_prbsWritten (hg : g < 16) (hi : i < 11) :
    (s.prbsWritten g i v).reg (Reg.MPH_PRBS_CTL_GEN_EN g i) = b2n (bitOf v 4) ∧ (s.prbsWritten g i v).reg (Reg.MPH_PRBS_CTL_CHK_EN g i) = b2n (bitOf v 5) ∧
      (s.prbsWritten g i v).reg (Reg.MPH_PRBS_CTL_LOOP g i) = b2n (bitOf v 6) := by
  refine ⟨?_, ?_, ?_⟩
  all_goals rw [State.reg_prbsWritten hg hi (by simp [prbsFields])]; exact bits_one v _

/-- The pattern that is written shows, and the checker's lock stands. -/
theorem State.pattern_prbsWritten (hg : g < 16) (hi : i < 11) :
    (s.prbsWritten g i v).reg (Reg.MPH_PRBS_CTL_PATTERN g i) = bits v 0 2 ∧
      (s.prbsWritten g i v).reg (Reg.MPH_PRBS_CTL_LOCK g i) = s.reg (Reg.MPH_PRBS_CTL_LOCK g i) :=
  ⟨State.reg_prbsWritten hg hi (by simp [prbsFields]), State.reg_prbsWritten hg hi (by simp [prbsFields])⟩

theorem State.flag_eq_b2n {f : Field} {b : Bool} (h : s.reg f = b2n b) : s.flag f = b := by
  rw [State.flag, h]
  cases b <;> rfl

/-! ### The parts of a write (R239 to R241) -/

/-- What a write does to a lane's checker: CHK_EN 0 ends its lock, a first 1 starts it from 0 (R240, R244). -/
def State.checkerSet (s old : State) (g i v : Nat) : State :=
  if bitOf v 5 then s.when (!old.flag (Reg.MPH_PRBS_CTL_CHK_EN g i)) fun u => (u.setRegs
    [(Reg.MPH_PRBS_BITS g i, 0), (Reg.MPH_PRBS_ERR_ERRORS g i, 0)]).onLine (lineKey g i) fun l => { l with bits := 0 }
  else s.setReg (Reg.MPH_PRBS_CTL_LOCK g i) 0

/-- A write that turns no generator on or off: the settings, the checker and an injected error. -/
def State.checkerWritten (s : State) (g i v : Nat) : State :=
  ((s.prbsWritten g i v).checkerSet s g i v).when (bitOf v 8) (·.injectBit g i)

theorem prbsCtlWrite_checker (hg : g < 16) (hi : i < 11) (h4 : bitOf v 4 = false) (hgen : s.flag (Reg.MPH_PRBS_CTL_GEN_EN g i) = false) :
    prbsCtlWrite g i v s = s.checkerWritten g i v := by
  have hnew : (s.prbsWritten g i v).flag (Reg.MPH_PRBS_CTL_GEN_EN g i) = false := by
    rw [State.flag_eq_b2n (State.flag_prbsWritten hg hi).1, h4]
  rw [prbsCtlWrite, ← State.prbsWritten]
  simp only [h4, hgen, hnew, Bool.false_and, Bool.false_eq_true, if_false, State.when]
  rfl

/-- A lane in test, its pattern begun (R239). -/
def State.laneTested (s old : State) (g i : Nat) : State := (s.setLanes g laneTest [i]).generate old g i

/-- A write that turns on a generator that is allowed (R239). -/
theorem prbsCtlWrite_generates (hg : g < 16) (hi : i < 11) (h4 : bitOf v 4 = true) (h8 : bitOf v 8 = false) (hallowed : s.genAllowed i = true) :
    prbsCtlWrite g i v s = ((s.prbsWritten g i v).laneTested s g i).checkerSet s g i v := by
  have hnew : (s.prbsWritten g i v).flag (Reg.MPH_PRBS_CTL_GEN_EN g i) = true := by
    rw [State.flag_eq_b2n (State.flag_prbsWritten hg hi).1, h4]
  rw [prbsCtlWrite, ← State.prbsWritten]
  simp only [hnew, h8, hallowed, Bool.not_true, Bool.and_false, Bool.false_eq_true, if_false, if_true, State.when]
  rfl

/-- One that is not allowed makes the write do nothing (log 32). -/
theorem prbsCtlWrite_refused (h4 : bitOf v 4 = true) (hgen : s.flag (Reg.MPH_PRBS_CTL_GEN_EN g i) = false) (hnot : s.genAllowed i = false) :
    prbsCtlWrite g i v s = s := by
  rw [prbsCtlWrite, h4, hgen, hnot]
  rfl

/-- The registers of a lane's checker. -/
def checkerFields (g i : Nat) : List Field := [Reg.MPH_PRBS_BITS g i, Reg.MPH_PRBS_ERR_ERRORS g i, Reg.MPH_PRBS_CTL_LOCK g i]

theorem checkerFields_subset (hi : i < 11) : checkerFields g i ⊆ groupFields g := by
  intro f hf
  refine List.mem_append_left _ (List.mem_flatMap.2 ⟨i, List.mem_range.2 hi, ?_⟩)
  simp only [checkerFields, List.mem_cons, List.not_mem_nil, or_false] at hf
  rcases hf with rfl | rfl | rfl <;> simp

theorem State.checkerSet_keeps (s old : State) (g i v : Nat) :
    Keeps [.link] (checkerFields g i) s (s.checkerSet old g i v) := by
  unfold State.checkerSet
  split
  · exact State.when_keeps s _ _ fun _ => ((s.setRegs_keeps _).trans (State.onLine_keeps _ _ _)).mono (by simp) (by simp [checkerFields])
  · exact (s.setReg_keeps _ _).mono (by simp) (by simp [checkerFields])

/-- The checker leaves every register but its own. -/
theorem State.reg_checkerSet {old : State} {f : Field} (hf : f.key ≠ (Reg.MPH_PRBS_BITS g i).key ∧ f.key ≠ (Reg.MPH_PRBS_ERR_ERRORS g i).key ∧
    f.key ≠ (Reg.MPH_PRBS_CTL_LOCK g i).key) : (s.checkerSet old g i v).reg f = s.reg f := by
  refine (s.checkerSet_keeps old g i v).2 f ?_
  simpa [checkerFields] using ⟨hf.1.symm, hf.2.1.symm, hf.2.2.symm⟩

/-- A checker that is started begins from 0 and locks afresh (R244). -/
theorem State.checkerSet_started {old : State} (h5 : bitOf v 5 = true) (hold : old.flag (Reg.MPH_PRBS_CTL_CHK_EN g i) = false) :
    (s.checkerSet old g i v).reg (Reg.MPH_PRBS_BITS g i) = 0 ∧ (s.checkerSet old g i v).reg (Reg.MPH_PRBS_ERR_ERRORS g i) = 0 ∧
      (s.checkerSet old g i v).reg (Reg.MPH_PRBS_CTL_LOCK g i) = s.reg (Reg.MPH_PRBS_CTL_LOCK g i) := by
  rw [State.checkerSet, if_pos h5, hold, State.when, if_pos (by rfl)]
  refine ⟨?_, ?_, ?_⟩
  · exact State.reg_setRegs_mem (v := 0) (by simp) (by simp) (by simp [Reg.MPH_PRBS_BITS])
  · exact State.reg_setRegs_mem (v := 0) (by simp) (by simp) (by simp [Reg.MPH_PRBS_ERR_ERRORS])
  · exact (State.setRegs_keeps _ _).2 _ (by simp; omega)

/-- A checker that goes on is left alone. -/
theorem State.checkerSet_runs {old : State} (h5 : bitOf v 5 = true) (hold : old.flag (Reg.MPH_PRBS_CTL_CHK_EN g i) = true) :
    s.checkerSet old g i v = s := by
  rw [State.checkerSet, if_pos h5, hold]
  rfl

theorem State.checkerSet_stopped {old : State} (h5 : bitOf v 5 = false) :
    (s.checkerSet old g i v).reg (Reg.MPH_PRBS_CTL_LOCK g i) = 0 := by
  rw [State.checkerSet, h5, if_neg Bool.false_ne_true]
  exact State.reg_setReg_same _ _ 0 (by simp [Reg.MPH_PRBS_CTL_LOCK])

theorem State.out_checkerSet (s old : State) (g i v : Nat) : (s.checkerSet old g i v).out = s.out :=
  (s.checkerSet_keeps old g i v).pieces .out (by decide)

/-! ### An injected error (R241) -/

theorem State.injectBit_keeps (s : State) (g i : Nat) : Keeps [.out] [Reg.MPH_PRBS_ERR_ERRORS g i] s (s.injectBit g i) :=
  State.when_keeps s _ _ fun _ => ((s.emit_keeps _).trans (State.when_keeps _ _ _ fun _ => State.addReg_keeps _ _ _)).mono (by simp) (by simp)

theorem State.injectBit_sends (hi : i ≤ 9) : s.injectBit g i = (s.emit (.inject g i)).when
    (s.flag (Reg.MPH_PRBS_CTL_LOOP g i) && s.flag (Reg.MPH_PRBS_CTL_LOCK g i)) (·.addReg (Reg.MPH_PRBS_ERR_ERRORS g i) 1) := by
  rw [State.injectBit, State.when, if_pos (decide_eq_true hi)]

/-- The return lane sends nothing. -/
theorem State.injectBit_silent (hi : ¬i ≤ 9) : s.injectBit g i = s := by
  rw [State.injectBit, State.when, if_neg (by simpa using hi)]

theorem State.out_injectBit (s : State) (g i : Nat) : (s.injectBit g i).out = if i ≤ 9 then .inject g i :: s.out else s.out := by
  by_cases hi : i ≤ 9
  · rw [if_pos hi, State.injectBit_sends hi, State.when]
    split <;> rfl
  · rw [if_neg hi, State.injectBit_silent hi]

/-- A checker that is not locked counts no error. -/
theorem State.errors_injectBit_unlocked (hlock : s.flag (Reg.MPH_PRBS_CTL_LOCK g i) = false) :
    (s.injectBit g i).reg (Reg.MPH_PRBS_ERR_ERRORS g i) = s.reg (Reg.MPH_PRBS_ERR_ERRORS g i) := by
  by_cases hi : i ≤ 9
  · rw [State.injectBit_sends hi, hlock, Bool.and_false, State.when, if_neg Bool.false_ne_true, State.reg_emit]
  · rw [State.injectBit_silent hi]

/-- A locked checker behind the lane's loopback counts one (R240, R241). -/
theorem State.errors_injectBit_locked (hi : i ≤ 9) (hloop : s.flag (Reg.MPH_PRBS_CTL_LOOP g i) = true)
    (hlock : s.flag (Reg.MPH_PRBS_CTL_LOCK g i) = true) :
    (s.injectBit g i).reg (Reg.MPH_PRBS_ERR_ERRORS g i) = min (2 ^ 32 - 1) (s.reg (Reg.MPH_PRBS_ERR_ERRORS g i) + 1) := by
  rw [State.injectBit_sends hi, hloop, hlock, Bool.and_self, State.when, if_pos rfl]
  exact State.reg_addReg_same (f := Reg.MPH_PRBS_ERR_ERRORS g i) (s.emit (.inject g i)) 1 (by simp [Reg.MPH_PRBS_ERR_ERRORS])

/-- An injected error leaves every register but the count. -/
theorem State.reg_injectBit {b : Bool} {f : Field} (hf : f.key ≠ (Reg.MPH_PRBS_ERR_ERRORS g i).key) :
    (s.when b (·.injectBit g i)).reg f = s.reg f :=
  (State.when_keeps s b (·.injectBit g i) fun _ => s.injectBit_keeps g i).2 f (by simpa using hf.symm)

/-! ### A write that leaves the generator off (R240, R241, R244) -/

theorem State.checkerWritten_pieces (hg : g < 16) (hi : i < 11) : KeepsPieces linkPieces s (s.checkerWritten g i v) := by
  have hwritten := (State.prbsWritten_keeps (s := s) (v := v) hg hi).pieces
  have hchecker := ((s.prbsWritten g i v).checkerSet_keeps s g i v).pieces
  have hinject := (State.when_keeps ((s.prbsWritten g i v).checkerSet s g i v) (bitOf v 8) (·.injectBit g i)
    fun _ => State.injectBit_keeps _ g i).pieces
  exact ((hwritten.mono (by decide)).trans (hchecker.mono (by decide))).trans (hinject.mono (by decide))

/-- CHK_EN as it is written. -/
theorem State.chkEn_checkerWritten (hg : g < 16) (hi : i < 11) :
    (s.checkerWritten g i v).reg (Reg.MPH_PRBS_CTL_CHK_EN g i) = b2n (bitOf v 5) := by
  rw [State.checkerWritten, State.reg_injectBit (by simp; omega), State.reg_checkerSet (by simp; omega), (State.flag_prbsWritten hg hi).2.1]

end

/-! ### PRBS_GEN_ENABLE (R239) -/

section
variable {s : State} {g : Nat} {i : Nat}

theorem State.generate_sends (s old : State) (g i : Nat) : Sends s (s.generate old g i) :=
  (Sends.refl s).when _ fun u => u.sendPattern_sends g i _

/-- A generator that is turned on sends its pattern where the lane's driver is on (R239). -/
theorem State.mem_out_generate {old : State} (hold : old.flag (Reg.MPH_PRBS_CTL_GEN_EN g i) = false) (hd : s.drives g i = true) :
    ∃ seed, .pattern g i (s.reg (Reg.MPH_PRBS_CTL_PATTERN g i)) seed ∈ (s.generate old g i).out := by
  rw [State.generate, hold, Bool.not_false, Bool.true_or, State.when, if_pos rfl, State.sendPattern, State.when, if_pos hd]
  exact ⟨_, List.mem_cons_self⟩

theorem State.laneTested_keeps (s old : State) (g i : Nat) : Keeps linkPieces [Reg.MPH_LSTATE_STATE g i] s (s.laneTested old g i) :=
  ((s.setLanes_keeps g laneTest [i]).trans (State.generate_sends _ old g i).keeps).mono (by simp) (by simp)

theorem State.laneTested_shows {old : State} (hold : old.flag (Reg.MPH_PRBS_CTL_GEN_EN g i) = false) :
    (s.laneTested old g i).reg (Reg.MPH_LSTATE_STATE g i) = laneTest ∧
      ((s.laneTested old g i).drives g i = true →
        ∃ seed, .pattern g i (s.reg (Reg.MPH_PRBS_CTL_PATTERN g i)) seed ∈ (s.laneTested old g i).out) := by
  have hsent := State.generate_sends (s.setLanes g laneTest [i]) old g i
  refine ⟨(hsent.reg _).trans (State.reg_setLanes (List.mem_singleton_self i) (by decide)), fun hd => ?_⟩
  have hpattern : (s.setLanes g laneTest [i]).reg (Reg.MPH_PRBS_CTL_PATTERN g i) = s.reg (Reg.MPH_PRBS_CTL_PATTERN g i) :=
    State.reg_setLanes_ne fun j _ => by rw [key_laneState, key_pattern]; omega
  rw [← hpattern]
  exact State.mem_out_generate hold ((hsent.drives g i).symm.trans hd)

theorem State.genAllowed_access (s : State) (i : Nat) : s.access.genAllowed i = s.genAllowed i := by
  rw [State.genAllowed, State.genAllowed, s.stripeBusy_access]

end

section
variable {s : State} {g : Fin 16} {i : Fin 11} {v : Word} (hlink : s.linkUp = true) (hnative : s.native = true)
include hlink hnative

theorem bus_prbsCtl : s.bus (0x10008 + 0x400 * g + 0x40 * i) (prbsCtlWrite g i v.toNat) = prbsCtlWrite g i v.toNat s.access := by
  have habsent : absentOn632 (0x10008 + 0x400 * g + 0x40 * i) = false := by
    simp only [absentOn632, Bool.or_eq_false_iff, Bool.and_eq_false_iff, decide_eq_false_iff_not]
    omega
  exact State.bus_taken hlink (State.takesWrite_native hnative (.inl (by omega)) habsent) _

/-- A generator that is allowed puts its lane in test (R239). -/
theorem completes_genEnable (h4 : v.getLsbD 4 = true) (h8 : v.getLsbD 8 = false)
    (hgen : s.access.flag (Reg.MPH_PRBS_CTL_GEN_EN g i) = false) (hallowed : s.genAllowed i = true) :
    Completes (.prbsGenEnable g i v) s fun t => t.reg (Reg.MPH_LSTATE_STATE g i) = laneTest ∧ t.reg (Reg.MPH_PRBS_CTL_GEN_EN g i) = 1 ∧
      t.reg (Reg.MPH_PRBS_CTL_PATTERN g i) = bits v.toNat 0 2 ∧
      (t.drives g i = true → ∃ seed, .pattern g i (bits v.toNat 0 2) seed ∈ t.out) := by
  have h4' := (bitOf_toNat v 4).trans h4
  have hexec : exec (.prbsGenEnable g i v) s =
      answer s (((s.access.prbsWritten g i v.toNat).laneTested s.access g i).checkerSet s.access g i v.toNat) := by
    show answer s (s.bus _ _) = _
    rw [bus_prbsCtl hlink hnative, prbsCtlWrite_generates g.isLt i.isLt h4' ((bitOf_toNat v 8).trans h8)
      ((s.genAllowed_access i).trans hallowed)]
  have hwritten := State.prbsWritten_keeps (s := s.access) (v := v.toNat) g.isLt i.isLt
  obtain ⟨hgenEn, -, -⟩ := State.flag_prbsWritten (s := s.access) (v := v.toNat) g.isLt i.isLt
  obtain ⟨hpattern, -⟩ := State.pattern_prbsWritten (s := s.access) (v := v.toNat) g.isLt i.isLt
  obtain ⟨htest, hsent⟩ := State.laneTested_shows (s := s.access.prbsWritten g i v.toNat) hgen
  have htested := (s.access.prbsWritten g i v.toNat).laneTested_keeps s.access g i
  rw [hpattern] at hsent
  generalize s.access.prbsWritten g i v.toNat = w at *
  have hchecker := (w.laneTested s.access g i).checkerSet_keeps s.access g i v.toNat
  have hstays {f : Field} (hf : f.key ≠ (Reg.MPH_PRBS_BITS g i).key ∧ f.key ≠ (Reg.MPH_PRBS_ERR_ERRORS g i).key ∧
      f.key ≠ (Reg.MPH_PRBS_CTL_LOCK g i).key) (hl : f.key ≠ (Reg.MPH_LSTATE_STATE g i).key) :
      ((w.laneTested s.access g i).checkerSet s.access g i v.toNat).reg f = w.reg f :=
    (State.reg_checkerSet hf).trans (htested.2 f (by simpa using hl.symm))
  refine completes_after_access hexec ((hwritten.trans htested).trans hchecker).pieces ⟨?_, ?_, ?_, fun hd => ?_⟩
  · rw [State.reg_checkerSet (by simp; omega)]
    exact htest
  · rw [hstays (by simp; omega) (by simp; omega), hgenEn, h4']
    rfl
  · rw [hstays (by simp) (by simp), hpattern]
  · rw [State.out_checkerSet]
    exact hsent (((hchecker.routed g.isLt (checkerFields_subset i.isLt)).drives i.isLt).symm.trans hd)

/-- One that is not allowed leaves everything (log 32). -/
theorem completes_genRefused (h4 : v.getLsbD 4 = true) (hgen : s.access.flag (Reg.MPH_PRBS_CTL_GEN_EN g i) = false)
    (hnot : s.genAllowed i = false) : Completes (.prbsGenEnable g i v) s fun t => Keeps [] [] s.access t := by
  have hexec : exec (.prbsGenEnable g i v) s = answer s s.access := by
    show answer s (s.bus _ _) = _
    rw [bus_prbsCtl hlink hnative, prbsCtlWrite_refused ((bitOf_toNat v 4).trans h4) hgen ((s.genAllowed_access i).trans hnot)]
  exact completes_after_access hexec (KeepsPieces.refl [] _) (Keeps.refl _ _ _)

/-! ### PRBS_CHECKER_ENABLE and INJ_ONE (R240, R241, R244) -/

section
variable (h4 : v.getLsbD 4 = false) (hgen : s.access.flag (Reg.MPH_PRBS_CTL_GEN_EN g i) = false)
include h4 hgen

theorem bus_checker : s.bus (0x10008 + 0x400 * g + 0x40 * i) (prbsCtlWrite g i v.toNat) =
    s.access.checkerWritten g i v.toNat := by
  rw [bus_prbsCtl hlink hnative, prbsCtlWrite_checker g.isLt i.isLt ((bitOf_toNat v 4).trans h4) hgen]

/-- A checker that is started begins from 0 (R244). -/
theorem completes_checkerStart (h5 : v.getLsbD 5 = true) (hchk : s.access.flag (Reg.MPH_PRBS_CTL_CHK_EN g i) = false)
    (hlock : s.access.flag (Reg.MPH_PRBS_CTL_LOCK g i) = false) : Completes (.prbsCheckerEnable g i v) s fun t =>
      t.reg (Reg.MPH_PRBS_CTL_CHK_EN g i) = 1 ∧ t.reg (Reg.MPH_PRBS_BITS g i) = 0 ∧ t.reg (Reg.MPH_PRBS_ERR_ERRORS g i) = 0 := by
  have hexec : exec (.prbsCheckerEnable g i v) s = answer s _ := congrArg (answer s) (bus_checker hlink hnative h4 hgen)
  obtain ⟨hbits, herrors, hlocked⟩ := State.checkerSet_started (s := s.access.prbsWritten g i v.toNat) ((bitOf_toNat v 5).trans h5) hchk
  have hunlocked : ((s.access.prbsWritten g i v.toNat).checkerSet s.access g i v.toNat).flag (Reg.MPH_PRBS_CTL_LOCK g i) = false := by
    rw [State.flag, hlocked, (State.pattern_prbsWritten g.isLt i.isLt).2]
    exact hlock
  refine completes_after_access hexec (State.checkerWritten_pieces g.isLt i.isLt) ⟨?_, ?_, ?_⟩
  · rw [State.chkEn_checkerWritten g.isLt i.isLt, bitOf_toNat, h5]
    rfl
  · rw [State.checkerWritten, State.reg_injectBit (by simp), hbits]
  · unfold State.checkerWritten State.when
    split
    · rw [State.errors_injectBit_unlocked hunlocked, herrors]
    · exact herrors

/-- CHK_EN 0 ends a checker's lock (R240). -/
theorem completes_checkerStop (h5 : v.getLsbD 5 = false) : Completes (.prbsCheckerEnable g i v) s fun t =>
    t.reg (Reg.MPH_PRBS_CTL_CHK_EN g i) = 0 ∧ t.reg (Reg.MPH_PRBS_CTL_LOCK g i) = 0 := by
  have hexec : exec (.prbsCheckerEnable g i v) s = answer s _ := congrArg (answer s) (bus_checker hlink hnative h4 hgen)
  refine completes_after_access hexec (State.checkerWritten_pieces g.isLt i.isLt) ⟨?_, ?_⟩
  · rw [State.chkEn_checkerWritten g.isLt i.isLt, bitOf_toNat, h5]
    rfl
  · rw [State.checkerWritten, State.reg_injectBit (by simp; omega), State.checkerSet_stopped ((bitOf_toNat v 5).trans h5)]

/-- INJ_ONE inverts a bit, which a locked checker behind the lane's loopback counts (R240, R241). -/
theorem completes_injOne (h8 : v.getLsbD 8 = true) : Completes (.injOne g i v) s fun t =>
    t.out = (if i.val ≤ 9 then .inject g i :: s.access.out else s.access.out) ∧
    (i.val ≤ 9 → v.getLsbD 5 = true → v.getLsbD 6 = true → s.access.flag (Reg.MPH_PRBS_CTL_CHK_EN g i) = true →
      s.access.flag (Reg.MPH_PRBS_CTL_LOCK g i) = true → t.reg (Reg.MPH_PRBS_ERR_ERRORS g i) =
        min (2 ^ 32 - 1) (s.access.reg (Reg.MPH_PRBS_ERR_ERRORS g i) + 1)) := by
  have hexec : exec (.injOne g i v) s = answer s _ := congrArg (answer s) (bus_checker hlink hnative h4 hgen)
  have hpieces := State.checkerWritten_pieces (s := s.access) (v := v.toNat) g.isLt i.isLt
  rw [State.checkerWritten, bitOf_toNat, h8, State.when, if_pos rfl] at hexec hpieces
  have hwritten := State.prbsWritten_keeps (s := s.access) (v := v.toNat) g.isLt i.isLt
  refine completes_after_access hexec hpieces ⟨?_, fun hi h5 h6 hchk hlock => ?_⟩
  · have hout : (s.access.prbsWritten g i v.toNat).out = s.access.out := hwritten.pieces .out (by decide)
    rw [State.out_injectBit, State.out_checkerSet, hout]
  · have hloop := State.flag_eq_b2n (State.flag_prbsWritten (s := s.access) (v := v.toNat) g.isLt i.isLt).2.2
    have hlocked : (s.access.prbsWritten g i v.toNat).flag (Reg.MPH_PRBS_CTL_LOCK g i) = true := by
      rw [State.flag, (State.pattern_prbsWritten g.isLt i.isLt).2]
      exact hlock
    rw [State.checkerSet_runs ((bitOf_toNat v 5).trans h5) hchk,
      State.errors_injectBit_locked hi (hloop.trans ((bitOf_toNat v 6).trans h6)) hlocked,
      hwritten.2 (Reg.MPH_PRBS_ERR_ERRORS g i) (by simp [prbsFields]; omega)]

end

end

/-! ### A checker's lock (R240) -/

section
variable {s : State} {g : Fin 16} {i : Fin 11}

theorem completes_checkerLock (hchk : s.flag (Reg.MPH_PRBS_CTL_CHK_EN g i) = true) : Completes (.prbsCheckerLock g i) s fun t =>
    t.reg (Reg.MPH_PRBS_CTL_LOCK g i) = 1 ∧ Keeps [] [Reg.MPH_PRBS_CTL_LOCK g i] s t := by
  have hexec : exec (.prbsCheckerLock g i) s = answer s (s.setReg (Reg.MPH_PRBS_CTL_LOCK g i) 1) := by
    simp only [exec, execPrbsCheckerLock, State.when, hchk, if_true]
  have hkeeps := s.setReg_keeps (Reg.MPH_PRBS_CTL_LOCK g i) 1
  exact completes_of_pieces hexec hkeeps.pieces ⟨State.reg_setReg_same _ _ 1 (by simp [Reg.MPH_PRBS_CTL_LOCK]), hkeeps⟩

/-- The errors that broke a lock are counted, more than 64 of them (R240; their number is free, log 42). -/
def State.lockBroken (s : State) (g i : Nat) : State :=
  (s.addReg (Reg.MPH_PRBS_ERR_ERRORS g i) (65 + Config.lineErrors s.draw (lineKey g i) % 960)).drawn

theorem exec_checkerLockLost (s : State) (g : Fin 16) (i : Fin 11) : exec (.prbsCheckerLockLost g i) s =
    answer s ((s.when (s.flag (Reg.MPH_PRBS_CTL_LOCK g i)) (·.lockBroken g i)).setReg (Reg.MPH_PRBS_CTL_LOCK g i) 0) := rfl

theorem State.lockBroken_keeps (s : State) (g i : Nat) : Keeps [.draw] [Reg.MPH_PRBS_ERR_ERRORS g i] s (s.lockBroken g i) :=
  ((s.addReg_keeps _ _).trans (State.drawn_keeps _)).mono (by simp) (by simp)

theorem State.errors_lockBroken (s : State) (g i : Nat) :
    min (2 ^ 32 - 1) (s.reg (Reg.MPH_PRBS_ERR_ERRORS g i) + 65) ≤ (s.lockBroken g i).reg (Reg.MPH_PRBS_ERR_ERRORS g i) := by
  rw [State.lockBroken, State.reg_drawn, State.reg_addReg_same _ _ (by simp [Reg.MPH_PRBS_ERR_ERRORS])]
  exact min_le_min_left _ (by omega)

theorem completes_checkerLockLost (s : State) (g : Fin 16) (i : Fin 11) : Completes (.prbsCheckerLockLost g i) s fun t =>
    t.reg (Reg.MPH_PRBS_CTL_LOCK g i) = 0 ∧ Keeps [.draw] [Reg.MPH_PRBS_CTL_LOCK g i, Reg.MPH_PRBS_ERR_ERRORS g i] s t ∧
      (s.flag (Reg.MPH_PRBS_CTL_LOCK g i) = false → t.reg (Reg.MPH_PRBS_ERR_ERRORS g i) = s.reg (Reg.MPH_PRBS_ERR_ERRORS g i)) ∧
      (s.flag (Reg.MPH_PRBS_CTL_LOCK g i) = true →
        min (2 ^ 32 - 1) (s.reg (Reg.MPH_PRBS_ERR_ERRORS g i) + 65) ≤ t.reg (Reg.MPH_PRBS_ERR_ERRORS g i)) := by
  have hbroken := State.when_keeps s (s.flag (Reg.MPH_PRBS_CTL_LOCK g i)) (·.lockBroken g i) fun _ => s.lockBroken_keeps g i
  have hkeeps := (hbroken.trans (State.setReg_keeps _ (Reg.MPH_PRBS_CTL_LOCK g i) 0)).mono (ps' := [.draw])
    (fs' := [Reg.MPH_PRBS_CTL_LOCK g i, Reg.MPH_PRBS_ERR_ERRORS g i]) (by simp) (by simp)
  have hne : (Reg.MPH_PRBS_ERR_ERRORS g i).key ≠ (Reg.MPH_PRBS_CTL_LOCK g i).key := by simp; omega
  refine completes_of_pieces (exec_checkerLockLost s g i) hkeeps.pieces
    ⟨State.reg_setReg_same _ _ 0 (by simp [Reg.MPH_PRBS_CTL_LOCK]), hkeeps, fun hlock => ?_, fun hlock => ?_⟩
  · rw [State.reg_setReg_ne _ _ _ _ hne, hlock, State.when, if_neg Bool.false_ne_true]
  · rw [State.reg_setReg_ne _ _ _ _ hne, hlock, State.when, if_pos rfl]
    exact s.errors_lockBroken g i

end

theorem clauseLaneTests : ClauseLaneTests :=
  ⟨fun _ _ _ _ hlink hnative h4 h8 hgen => ⟨fun hallowed => completes_genEnable hlink hnative h4 h8 hgen hallowed,
      fun hnot => completes_genRefused hlink hnative h4 hgen hnot⟩,
    fun _ _ _ _ hlink hnative h4 hgen => ⟨fun h5 hchk hlock => completes_checkerStart hlink hnative h4 hgen h5 hchk hlock,
      fun h5 => completes_checkerStop hlink hnative h4 hgen h5, fun h8 => completes_injOne hlink hnative h4 hgen h8⟩,
    fun s g i => ⟨fun hchk => completes_checkerLock hchk, completes_checkerLockLost s g i⟩⟩

/-- Settles O29: a lane's or a group's power state is followed through what its lanes send to the state that it shows, and a write to
MPH_PRBS_CTL is taken apart into its settings, the generator, the checker and the injected error. -/
theorem lanePowerAndTests : Obligations.LanePowerAndTests := ⟨clauseLanePower, clauseLaneTests⟩

end Sys2Proof.Machine
end

section
/-! SUPPORT. Work done while no stripe moves: a link put right between stripes, work and packages given up, and what a lost word of HBM
costs. It leaves the power state, the time base, Looper, the kernels, the beams and the registers of the PWR block, and no stripe moves
after it. -/
namespace Sys2Proof.Machine

-- One proof after another: elaborated together, each waits in a thread of its own, and a check of the whole text runs out of memory.
set_option Elab.async false

open Sys2Proof

/-! ### The frame -/

/-- A field of the PWR block. -/
def Field.power (f : Field) : Bool := decide (0x2000 ≤ f.key / 32 ∧ f.key / 32 < 0x3000)

/-- Offsets from 0x3000 on lie beyond the PWR block. -/
theorem Field.beyond_power {f : Field} (h : 0x3000 ≤ f.off) : f.power = false :=
  decide_eq_false (by simp only [Field.key]; omega)

theorem key_ne_of_power {f g : Field} (hg : g.power = false) (hf : f.power = true) : g.key ≠ f.key := by
  intro h
  simp only [Field.power, h] at hg hf
  simp [hf] at hg

theorem ovf_not_power (b : Nat) : (ovf b).power = false := Field.beyond_power (by simp only [ovf, Reg.PMC_OVF]; omega)

/-- The pieces that this work leaves. -/
def sparedPieces : List Piece := [.power, .time, .looper, .kernels, .beams]

/-- No stripe is in motion. -/
theorem State.active?_eq_none {s : State} : s.active? = none ↔ ∀ q ∈ s.stripes, q.state.moving = false := by
  simp [State.active?, List.find?_eq_none]

/-- The spared pieces and the PWR block are as before, and no stripe moves. -/
structure Spared (s t : State) : Prop where
  pieces : ∀ p ∈ sparedPieces, p.same s t
  regs : ∀ f : Field, f.power = true → t.reg f = s.reg f
  still : t.active? = none

/-- Work that spares them from any state in which no stripe moves. -/
def StillWork (s t : State) : Prop := s.active? = none → Spared s t

theorem StillWork.refl (s : State) : StillWork s s := fun h => ⟨fun p _ => (Keeps.refl [] [] s).1 p (by simp), fun _ _ => rfl, h⟩

theorem StillWork.trans {s t u : State} (h : StillWork s t) (h' : StillWork t u) : StillWork s u := fun hs =>
  ⟨fun p hp => p.same_trans s t u ((h hs).pieces p hp) ((h' (h hs).still).pieces p hp),
    fun f hf => ((h' (h hs).still).regs f hf).trans ((h hs).regs f hf), (h' (h hs).still).still⟩

/-- A frame that names no spared piece, no stripe and no field of the PWR block. -/
theorem Keeps.stillWork {ps : List Piece} {fs : List Field} {s t : State} (h : Keeps ps fs s t)
    (hp : ∀ p ∈ .stripes :: sparedPieces, p ∉ ps := by decide) (hf : ∀ g ∈ fs, g.power = false := by decide) : StillWork s t :=
  fun hs => ⟨fun p hmem => h.1 p (hp p (List.mem_cons_of_mem _ hmem)), fun f hpow => h.2 f fun g hg => key_ne_of_power (hf g hg) hpow,
    (State.active?_of_pieces h.pieces (hp .stripes List.mem_cons_self)).trans hs⟩

theorem StillWork.when {s t : State} (h : StillWork s t) (b : Bool) {f : State → State} (hf : ∀ u, StillWork u (f u)) :
    StillWork s (t.when b f) := by
  unfold State.when
  split
  · exact h.trans (hf t)
  · exact h

theorem StillWork.forAll {α : Type} {s t : State} (h : StillWork s t) (l : List α) {f : α → State → State}
    (hf : ∀ a u, StillWork u (f a u)) : StillWork s (t.forAll l f) :=
  State.forAll_induction (P := StillWork s) l h fun a _ u hu => hu.trans (hf a u)

/-! ### Single changes -/

section
variable {s t : State} (h : StillWork s t)
include h

/-- Another state with the same spared pieces, stripes and registers. -/
theorem StillWork.to {u : State} (hpower : u.power = t.power := by rfl) (htime : u.time = t.time := by rfl)
    (hlooper : u.looper = t.looper := by rfl) (hkernels : u.kernels = t.kernels := by rfl) (hbeams : u.beams = t.beams := by rfl)
    (hstripes : u.stripes = t.stripes := by rfl) (hregs : u.regs = t.regs := by rfl) : StillWork s u := by
  refine h.trans fun ht => ⟨fun p hp => ?_, fun f _ => State.reg_congr t u f hregs, ?_⟩
  · simp only [sparedPieces, List.mem_cons, List.not_mem_nil, or_false] at hp
    obtain rfl | rfl | rfl | rfl | rfl := hp
    exacts [hpower, htime, hlooper, hkernels, hbeams]
  · rw [State.active?, hstripes]
    exact ht

theorem StillWork.setReg (f : Field) (v : Nat) (hf : f.power = false := by decide) : StillWork s (t.setReg f v) :=
  h.trans ((t.setReg_keeps f v).stillWork (by decide) (by simpa using hf))

theorem StillWork.setRegs (l : List (Field × Nat)) (hf : ∀ e ∈ l, e.1.power = false) : StillWork s (t.setRegs l) :=
  h.trans ((t.setRegs_keeps l).stillWork (by decide) (by simpa using hf))

theorem StillWork.addReg (f : Field) (k : Nat) (hf : f.power = false := by decide) : StillWork s (t.addReg f k) := h.setReg f _ hf

theorem StillWork.count (b n k : Nat) : StillWork s (t.count b n k) :=
  h.trans ((t.count_keeps b n k).stillWork (by decide) (by simpa using ovf_not_power b))

theorem StillWork.raise (n : Nat) (hn : (causeField n).power = false := by decide) : StillWork s (t.raise n) :=
  h.trans ((t.raise_keeps n).stillWork (by decide) (by simpa using ⟨hn, ovf_not_power 0, ovf_not_power 1⟩))

theorem StillWork.complete (c : Completion) : StillWork s (t.complete c) := h.trans (t.complete_keeps c).stillWork

theorem StillWork.event (type source kind detail : Nat) : StillWork s (t.event type source kind detail) :=
  h.trans (t.event_keeps type source kind detail).stillWork

theorem StillWork.emit (o : Out) : StillWork s (t.emit o) := h.to

theorem StillWork.drawn : StillWork s t.drawn := h.to

theorem StillWork.onLine (key : Nat) (f : Line → Line) : StillWork s (t.onLine key f) := h.to

theorem StillWork.onGroup (g : Nat) (f : Group → Group) : StillWork s (t.onGroup g f) := h.to

theorem StillWork.onPackage (id : Nat) (f : Package → Package) : StillWork s (t.onPackage id f) := h.to

theorem StillWork.withHbm (u : HbmUnit) : StillWork s { t with hbm := u } := h.to

/-- A change of a stripe under which it does not begin to move. -/
theorem StillWork.onStripe_of (id : Nat) (f : Stripe → Stripe)
    (hf : t.active? = none → ∀ q, q.state.moving = false → (f q).state.moving = false) : StillWork s (t.onStripe id f) := by
  refine h.trans fun ht => ⟨fun p hp => (t.onStripe_keeps id f).1 p ?_, fun _ _ => rfl, ?_⟩
  · rintro hm
    simp only [List.mem_singleton] at hm
    exact absurd (hm ▸ hp) (by decide)
  · refine State.active?_eq_none.2 fun p hp => ?_
    obtain ⟨q, hq, rfl⟩ := List.mem_map.1 hp
    have hstill := State.active?_eq_none.1 ht q hq
    split
    · exact hf ht q hstill
    · exact hstill

theorem StillWork.onStripe (id : Nat) (f : Stripe → Stripe) (hf : ∀ q, (f q).state = q.state := by intro; rfl) :
    StillWork s (t.onStripe id f) := h.onStripe_of id f fun _ q hq => (congrArg _ (hf q)).trans hq

end

/-! ### Engines, comparisons and packages given up (R138, R142, R299, R439) -/

theorem State.wasteJob_stillWork (s : State) (i e : Nat) : StillWork s (s.wasteJob i e) := by
  unfold State.wasteJob State.bookTile
  split
  · exact StillWork.count (StillWork.to (StillWork.refl s)) _ _ _
  · exact StillWork.refl s

theorem State.freeShadow_stillWork (s : State) (h : Shadow) : StillWork s (s.freeShadow h) := by
  refine (StillWork.refl s).forAll _ fun x u => ?_
  split
  · split
    · exact u.wasteJob_stillWork _ _
    · exact StillWork.refl u
  · exact StillWork.refl u

theorem State.dropShadow_stillWork (s : State) (h : Shadow) : StillWork s (s.dropShadow h) := by
  have hend : StillWork s (s.endShadow h) := by
    unfold State.endShadow
    extract_lets t
    have ht : StillWork s t := s.freeShadow_stillWork h
    clear_value t
    exact ht.to.onPackage _ _
  exact (hend.addReg _ 1 (Field.beyond_power (by simp only [Reg.SLC_DROPS_SHADOW_DROPPED]; omega))).onPackage _ _

theorem State.dropShadowsOf_stillWork (s : State) (stripe col row : Nat) : StillWork s (s.dropShadowsOf stripe col row) :=
  (StillWork.refl s).forAll _ fun h u => u.dropShadow_stillWork h

theorem State.gridIdle_stillWork (s : State) : StillWork s s.gridIdle := s.gridIdle_keeps.stillWork

theorem State.dropGrid_stillWork (s : State) (id : Nat) : StillWork s (s.dropGrid id) :=
  (StillWork.refl s).when _ fun u => u.gridIdle_stillWork

theorem State.freeWork_stillWork (s : State) (id : Nat) : StillWork s (s.freeWork id) := by
  unfold State.freeWork
  extract_lets t
  have ht : StillWork s t := by
    refine (StillWork.refl s).forAll _ fun x u => ?_
    split
    · split
      · exact u.wasteJob_stillWork _ _
      · exact StillWork.refl u
    · exact StillWork.refl u
  clear_value t
  exact ht.to

theorem State.dropPackage_stillWork (s : State) (id : Nat) : StillWork s (s.dropPackage id) := by
  unfold State.dropPackage
  extract_lets t
  have ht : StillWork s t := (s.freeWork_stillWork id).trans (State.dropGrid_stillWork _ id)
  clear_value t
  exact ht.to

/-- Fewer stripes: none of them moves. -/
theorem State.filterStripes_stillWork (s : State) (keep : Stripe → Bool) : StillWork s { s with stripes := s.stripes.filter keep } := by
  refine fun hs => ⟨fun p hp => ?_, fun _ _ => rfl, ?_⟩
  · cases p <;> simp_all [sparedPieces, Piece.same]
  · exact State.active?_eq_none.2 fun q hq => State.active?_eq_none.1 hs q (List.mem_of_mem_filter hq)

theorem State.dropStripe_stillWork (s : State) (id : Nat) : StillWork s (s.dropStripe id) :=
  (s.filterStripes_stillWork _).trans (State.dropGrid_stillWork _ id)

/-! ### Links between stripes (R208, R216, R237) -/

theorem groupFields_beyond_power (g : Nat) : ∀ f ∈ groupFields g, f.power = false := by
  intro f hf
  simp only [groupFields, List.mem_append, List.mem_flatMap, List.mem_range, List.mem_cons, List.not_mem_nil, or_false] at hf
  apply Field.beyond_power
  rcases hf with ⟨i, hi, rfl | rfl | rfl | rfl | rfl | rfl | rfl | rfl⟩ | rfl | rfl | rfl | rfl | rfl | rfl | rfl
  all_goals
    simp only [Reg.MPH_LSTATE_STATE, Reg.MPH_LSTATE_TRAINED, Reg.MPH_TXEQ_PRE, Reg.MPH_TXEQ_MAIN, Reg.MPH_TXEQ_POST,
      Reg.MPH_PRBS_CTL_LOCK, Reg.MPH_PRBS_BITS, Reg.MPH_PRBS_ERR_ERRORS, Reg.MPH_GRP_STATUS_STATE, Reg.MPH_GRP_STATUS_FAR_MAX,
      Reg.MPH_GRP_STATUS_SPARE_FIT, Reg.MPH_GRP_STATUS_RATE, Reg.MPH_GRP_STATUS_FAIL_REASON, Reg.MPH_GRP_STATUS_RATE_PENDING,
      Reg.MPH_GRP_STATUS_STEPPED_DOWN]
    omega

theorem laneStates_beyond_power (g : Nat) (l : List Nat) : ∀ f ∈ l.map (Reg.MPH_LSTATE_STATE g), f.power = false := by
  intro f hf
  obtain ⟨i, -, rfl⟩ := List.mem_map.1 hf
  exact Field.beyond_power (by simp only [Reg.MPH_LSTATE_STATE]; omega)

theorem State.groupOff_stillWork (s : State) (g : Nat) (fast : Bool) : StillWork s (s.groupOff g fast) :=
  (s.groupOff_keeps g fast).stillWork (by decide) (groupFields_beyond_power g)

theorem State.setLanes_stillWork (s : State) (g st : Nat) (l : List Nat) : StillWork s (s.setLanes g st l) :=
  (s.setLanes_keeps g st l).stillWork (by decide) (laneStates_beyond_power g l)

/-- Fields among those that training of a group may change. -/
theorem StillWork.setGroupRegs {s t : State} (h : StillWork s t) {g : Nat} (l : List (Field × Nat))
    (hl : ∀ e ∈ l, e.1 ∈ groupFields g) : StillWork s (t.setRegs l) :=
  h.setRegs l fun e he => groupFields_beyond_power g _ (hl e he)

theorem State.groupOut_stillWork (s : State) (g reason : Nat) : StillWork s (s.groupOut g reason) :=
  (((((s.setLanes_stillWork g _ _).setGroupRegs (g := g) _ (by simp [groupFields])).onGroup g _).event _ _ _ _).raise 3)

theorem State.retrain_stillWork (s : State) (g : Nat) : StillWork s (s.retrain g) :=
  ((s.groupOff_stillWork g true).count 17 5 1).setReg Reg.CAL_STATUS_DUE _

theorem State.stepDown_stillWork (s : State) (g : Nat) : StillWork s (s.stepDown g) := by
  unfold State.stepDown
  dsimp only
  split
  · exact s.groupOut_stillWork g 4
  · exact (((s.groupOff_stillWork g true).setGroupRegs (g := g) _ (by simp [groupFields])).event _ _ _ _).raise 3

theorem State.stepAfter_stillWork (s : State) (g : Nat) : StillWork s (s.stepAfter g) := by
  unfold State.stepAfter
  split
  · have hmap : ∀ e ∈ [(spareUsed g, 0), (spareLane g, 0)], e.1.power = false := by
      simp only [List.forall_mem_cons, List.not_mem_nil, false_imp_iff, implies_true, and_true]
      exact ⟨Field.beyond_power (by simp only [spareUsed]; omega), Field.beyond_power (by simp only [spareLane]; omega)⟩
    exact ((StillWork.refl s).setRegs _ hmap).trans (State.retrain_stillWork _ g)
  · exact s.stepDown_stillWork g

theorem State.enterL2_stillWork (s : State) (g : Nat) : StillWork s (s.enterL2 g) :=
  (s.enterL2_keeps g).stillWork (by decide) (laneStates_beyond_power g _)

theorem State.between_stillWork (s : State) : StillWork s s.between := by
  unfold State.between
  extract_lets t
  have ht : StillWork s t := (StillWork.refl s).when _ fun u => (StillWork.refl u).forAll _ fun g v =>
    (StillWork.refl v).when _ fun w => w.stepAfter_stillWork g
  refine ht.when _ fun u => (StillWork.refl u).forAll _ fun g v => ?_
  split
  · exact v.groupOff_stillWork g false
  · exact (StillWork.refl v).when _ fun w => w.enterL2_stillWork g

/-! ### Frames (R186, R458) -/

theorem snoopCount_beyond_power (u : Nat) : (Reg.CHK_SN_COUNT u).power = false :=
  Field.beyond_power (by simp only [Reg.CHK_SN_COUNT]; omega)

theorem State.setSnoopVal_stillWork (s : State) (u n : Nat) : StillWork s (s.setSnoopVal u n) := by
  refine (StillWork.refl s).setRegs _ ?_
  simp only [List.forall_mem_cons, List.not_mem_nil, false_imp_iff, implies_true, and_true]
  exact ⟨Field.beyond_power (by simp only [Reg.CHK_SN_VAL_LO_WORD]; omega),
    Field.beyond_power (by simp only [Reg.CHK_SN_VAL_HI_WORD]; omega)⟩

theorem State.snoopVerify_stillWork (s : State) (u n : Nat) : StillWork s (s.snoopVerify u n) :=
  (StillWork.refl s).when _ fun v => ((StillWork.refl v).addReg _ n (snoopCount_beyond_power u)).count 20 0 n

theorem State.snoopFrom_stillWork (s : State) (u src : Nat) (bs : List Byte) : StillWork s (s.snoopFrom u src bs) :=
  (StillWork.refl s).when _ fun v => (StillWork.refl v).when _ fun w =>
    ((w.setSnoopVal_stillWork u _).addReg _ _ (snoopCount_beyond_power u)).count 20 2 _

theorem State.snooped_stillWork (s : State) (f : LaneFrame) : StillWork s (s.snooped f) :=
  (s.snoopVerify_stillWork _ _).trans (State.snoopFrom_stillWork _ _ _ _)

theorem State.sendFrame_stillWork (s : State) (f : LaneFrame) : StillWork s (s.sendFrame f) := by
  rw [State.sendFrame_eq]
  exact (s.snooped_stillWork f).when _ fun u => ((StillWork.refl u).onLine _ _).emit _

theorem State.broadcast_stillWork (s : State) (p : Stripe) (n : Nat) (fl : FrameFlags) (payload : List Byte) :
    StillWork s (s.broadcast p n fl payload) := (StillWork.refl s).forAll _ fun f u => u.sendFrame_stillWork f

/-! ### Stripes unbound and packages refused (R302, R339) -/

/-- With no stripe in motion there is nothing to abort. -/
theorem State.abort_stillWork (s : State) (st : Status) : StillWork s (s.abort st) := by
  intro hs
  have habort : s.abort st = s := by rw [State.abort, hs]
  exact habort.symm ▸ StillWork.refl s hs

theorem State.unbind_stillWork (s : State) (p : Stripe) (c : Completion) : StillWork s (s.unbind p c) :=
  (((StillWork.refl s).complete c).trans (State.dropStripe_stillWork _ _)).trans (State.between_stillWork _)

theorem State.xk2Err_stillWork (s : State) (b : Bool) : StillWork s (s.xk2Err b) :=
  (StillWork.refl s).when _ fun u => ((StillWork.refl u).setReg Reg.XK2_IRQ_ERR _).when _ fun v => (StillWork.refl v).emit _

theorem State.refuseBound_stillWork (s : State) (r : PkgRefusal) : StillWork s (s.refuseBound r) := by
  unfold State.refuseBound
  split
  · exact (StillWork.refl s).when _ fun u => (u.unbind_stillWork _ _).trans (State.xk2Err_stillWork _ _)
  · exact StillWork.refl s

theorem State.endAssembly_stillWork (s : State) (ch : Nat) (a : Assembly) (r : PkgRefusal) (fault : Option Nat) :
    StillWork s (s.endAssembly ch a r fault) := by
  unfold State.endAssembly
  extract_lets c part front sp t
  have ht : StillWork s t := (StillWork.refl s).to
  exact (ht.forAll _ fun k u => (StillWork.refl u).complete k).forAll _ fun b u => (StillWork.refl u).complete _

theorem State.refusePackage_stillWork (s : State) (ch : Nat) (a : Assembly) (off : Nat) (r : PkgRefusal) :
    StillWork s (s.refusePackage ch a off r) := by
  unfold State.refusePackage
  extract_lets t
  have ht : StillWork s t := s.endAssembly_stillWork ch a r (some off)
  clear_value t
  exact ht.to.trans (State.refuseBound_stillWork _ r)

theorem State.refuseStaged_stillWork (s : State) (k : Package) (r : PkgRefusal) : StillWork s (s.refuseStaged k r) := by
  unfold State.refuseStaged
  extract_lets a b
  have ha : StillWork s a := by
    dsimp only [a]
    split
    · exact StillWork.refl s
    · refine (StillWork.trans ?_ (State.unbind_stillWork _ _ _)).trans (State.xk2Err_stillWork _ _)
      split
      · exact (StillWork.refl s).when _ fun u => u.broadcast_stillWork _ _ _ _
      · exact StillWork.refl s
  have hb : StillWork s b := ha.trans (State.dropPackage_stillWork _ _)
  clear_value b
  exact hb.to

/-! ### What a lost word costs (R111, R161, R300 to R302) -/

theorem State.logMem_stillWork (s : State) (kind : Nat) (st : Status) (pc addr : Nat) : StillWork s (s.logMem kind st pc addr) :=
  (StillWork.refl s).when _ fun u => ((StillWork.refl u).setRegs _ (by simp; decide)).when _ fun v => (StillWork.refl v).raise 4

theorem State.stagedLost_stillWork (s : State) (k : Package) (st : Status) (off : Nat) : StillWork s (s.stagedLost k st off) := by
  unfold State.stagedLost
  split
  · split
    · exact (((StillWork.refl s).when _ fun u => u.abort_stillWork _).onStripe _ _).trans (State.dropPackage_stillWork _ _)
    · exact s.refuseStaged_stillWork _ _
  · exact s.refuseStaged_stillWork _ _

theorem State.stagingLost_stillWork (s : State) (st : Status) (addr : Nat) : StillWork s (s.stagingLost st addr) := by
  unfold State.stagingLost
  extract_lets n i t
  have ht : StillWork s t := (StillWork.refl s).drawn.trans (State.logMem_stillWork _ _ _ _ _)
  split
  · split
    · exact ht.trans (State.refusePackage_stillWork _ _ _ _ _)
    · exact ht
  · split
    · exact ht.trans (State.stagedLost_stillWork _ _ _ _)
    · exact ht

theorem State.epochLimit_stillWork (s : State) (i stripe col row : Nat) : StillWork s (s.epochLimit i stripe col row) :=
  ((StillWork.refl s).event _ _ _ _).when _ fun u => u.abort_stillWork _

theorem State.replaceTile_stillWork (s : State) (i stripe col row : Nat) : StillWork s (s.replaceTile i stripe col row) := by
  unfold State.replaceTile
  split
  · exact StillWork.refl s
  · dsimp only
    split
    · exact (StillWork.refl s).addReg _ 1 (Field.beyond_power (by simp only [Reg.SLC_DROPS_MIG_DROPPED]; omega))
    · split
      · exact s.epochLimit_stillWork i stripe col row
      · exact ((s.dropShadowsOf_stillWork stripe col row).onPackage _ _).count _ _ _

theorem State.cacheLost_stillWork (s : State) : StillWork s s.cacheLost := by
  unfold State.cacheLost
  extract_lets w t
  have ht : StillWork s t := (StillWork.refl s).drawn.count 19 3 1
  split
  · exact (ht.onPackage _ _).trans (State.replaceTile_stillWork _ _ _ _ _)
  · exact ht

theorem State.gridDamaged_stillWork (s : State) (id sector key : Nat) : StillWork s (s.gridDamaged id sector key) := by
  unfold State.gridDamaged
  split
  · split
    · exact (StillWork.refl s).when _ fun u => u.abort_stillWork _
    · refine ((StillWork.refl s).onStripe id _).when _ fun u => ?_
      refine (((StillWork.refl u).when _ fun v => ?_).count 13 1 1).trans (State.startGrid_keeps _ _ _).stillWork
      exact (StillWork.refl v).count 13 3 1
  · exact StillWork.refl s

theorem State.gridLost_stillWork (s : State) (addr : Nat) : StillWork s (s.gridLost addr) := by
  unfold State.gridLost
  dsimp only
  split
  · exact (StillWork.refl s).drawn.trans (State.gridDamaged_stillWork _ _ _ _)
  · exact (StillWork.refl s).drawn

/-- A stripe put back with the state it had. -/
theorem State.putStripe_stillWork {s : State} {p q : Stripe} (hp : s.stripe? q.par.id = some p) (hq : q.core = p.core) :
    StillWork s (s.putStripe q) := by
  unfold State.putStripe
  rw [hp]
  have hput : StillWork s (s.onStripe q.par.id fun _ => q) := by
    refine (StillWork.refl s).onStripe_of _ _ fun hs _ _ => ?_
    rw [Stripe.state_of_core hq]
    exact State.active?_eq_none.1 hs p (List.mem_of_find?_eq_some hp)
  refine StillWork.when (StillWork.setReg (StillWork.count ?_ 15 7 _) Reg.LDG_PEAK_ENTRIES _) _ fun u =>
    ((StillWork.refl u).setReg Reg.LDG_STATUS_OVERFLOW 1).count 15 5 1
  exact ((hput.count 15 0 _).count 15 2 _).count 15 6 _

theorem State.cutPixels_stillWork (s : State) (id x0 x1 y : Nat) : StillWork s (s.cutPixels id x0 x1 y) := by
  cases h : s.stripe? id with
  | none => rw [State.cutPixels_of_none h]; exact StillWork.refl s
  | some p =>
    have hcore := p.core_cutRow s.draw x0 x1 y
    have hid : (p.cutRow s.draw x0 x1 y).par.id = id := by rw [Stripe.par_of_core hcore, State.id_of_stripe? h]
    rw [State.cutPixels_of_some h]
    exact (State.putStripe_stillWork (hid.symm ▸ h) hcore).drawn

theorem State.residueLost_stillWork (s : State) : StillWork s s.residueLost := by
  unfold State.residueLost
  dsimp only
  split
  · exact (StillWork.refl s).drawn.trans (State.cutPixels_stillWork _ _ _ _ _)
  · exact (StillWork.refl s).drawn

theorem State.bandLost_stillWork (s : State) : StillWork s s.bandLost := by
  unfold State.bandLost
  dsimp only
  split
  · exact (StillWork.refl s).drawn.trans (State.cutPixels_stillWork _ _ _ _ _)
  · exact (StillWork.refl s).drawn

theorem State.entryLost_stillWork (s : State) : StillWork s s.entryLost := by
  unfold State.entryLost
  dsimp only
  split
  · exact (StillWork.refl s).drawn.trans (State.cutPixels_stillWork _ _ _ _ _)
  · exact (StillWork.refl s).drawn

theorem State.tableLost_stillWork (s : State) : StillWork s s.tableLost := by
  refine (StillWork.refl s).when _ fun u => ?_
  split
  · exact (StillWork.refl u).drawn.trans (State.unbind_stillWork _ _ _)
  · exact (StillWork.refl u).drawn

theorem State.wordMissed_stillWork (s : State) (who : Requester) (st : Status) (addr : Nat) : StillWork s (s.wordMissed who st addr) := by
  unfold State.wordMissed
  split
  · exact StillWork.refl s
  · cases who with
    | staging => exact s.stagingLost_stillWork st addr
    | bins => exact (StillWork.refl s).to
    | cache => exact s.cacheLost_stillWork
    | grid => exact s.gridLost_stillWork addr
    | residue => exact s.residueLost_stillWork
    | band => exact s.bandLost_stillWork
    | ledger => exact s.entryLost_stillWork
    | report => exact (StillWork.refl s).to
    | tables => exact s.tableLost_stillWork
    | ingest => exact StillWork.refl s
    | tableLoad => exact StillWork.refl s

/-! ### Requests to HBM that are served (R300, R305, R307, R308, R312 to R317) -/

theorem State.answerMem_stillWork (s : State) (r : HbmReq) (st : Status) (data : BitVec 64) : StillWork s (s.answerMem r st data) := by
  unfold State.answerMem
  dsimp only
  split
  · exact (StillWork.refl s).emit _
  · exact ((StillWork.refl s).emit _).trans (State.wordMissed_stillWork _ _ _ _)

theorem State.setMemWord_stillWork (s : State) (key : Nat) (w : HbmWord) : StillWork s (s.setMemWord key w) := by
  unfold State.setMemWord
  split <;> exact (StillWork.refl s).to

theorem State.corrected_stillWork (s : State) (pc addr : Nat) : StillWork s (s.corrected pc addr) :=
  (((StillWork.refl s).addReg Reg.MEM_CE_COUNT 1).count 18 6 1).trans (State.logMem_stillWork _ _ _ _ _)

theorem State.issue_stillWork (s : State) (pc : Nat) (c : HbmCmd) : StillWork s (s.issue pc c) := (StillWork.refl s).to

theorem State.activate_stillWork (s : State) (pc page : Nat) : StillWork s (s.activate pc page) := by
  unfold State.activate
  extract_lets n a
  have ha : StillWork s a := (s.issue_stillWork pc (.activate pc page)).count 18 4 1
  split
  · exact ha
  · exact StillWork.when ha.to _ fun u =>
      (((u.issue_stillWork pc (.refresh pc)).emit _).addReg Reg.MEM_RD_REFRESH_COUNT 1).count 18 5 1

theorem State.openRow_stillWork (s : State) (key : Nat) (who : Requester) (hint : PageHint) : StillWork s (s.openRow key who hint) := by
  unfold State.openRow
  extract_lets bank served a n kept
  have ha : StillWork s a := (StillWork.refl s).when _ fun u => u.activate_stillWork _ _
  exact ha.to

theorem State.harden_stillWork (s : State) (key addr : Nat) (good bad : HbmWord) : StillWork s (s.harden key addr good bad) := by
  unfold State.harden
  extract_lets pc t h u
  have ht : StillWork s t := s.logMem_stillWork _ _ _ _
  have hu : StillWork s u := ht.trans (t.setMemWord_stillWork key bad)
  split
  · exact StillWork.setReg ht.to Reg.MEM_REMAP_USED _
  · split
    · exact hu
    · exact (StillWork.setReg hu.to Reg.MEM_REMAP_FULL 1).event _ _ _ _

theorem State.writeBack_stillWork (s : State) (key addr : Nat) (good bad : HbmWord) (hard : Bool) :
    StillWork s (s.writeBack key addr good bad hard) := by
  unfold State.writeBack
  split
  · exact s.harden_stillWork key addr good bad
  · exact s.setMemWord_stillWork key good

theorem State.storeWhole_stillWork (s : State) (key addr : Nat) (d : BitVec 64) : StillWork s (s.storeWhole key addr d) := by
  unfold State.storeWhole
  split
  · exact (s.setMemWord_stillWork _ _).setReg Reg.MEM_FLIP_CTL_ARM 0
  · exact s.setMemWord_stillWork _ _

theorem State.freshChecks_stillWork (s : State) (pc page : Nat) : StillWork s (s.freshChecks pc page) := (StillWork.refl s).withHbm _

theorem State.beginDecode_stillWork (s : State) (r : HbmReq) : StillWork s (s.beginDecode r) :=
  StillWork.count (StillWork.to (StillWork.refl s)) 18 1 1

theorem State.readWord_stillWork (s : State) (key : Nat) (r : HbmReq) : StillWork s (s.readWord key r) := by
  unfold State.readWord
  extract_lets m w t
  have ht : StillWork s t := s.setMemWord_stillWork key w
  split
  · exact ht.trans (State.answerMem_stillWork _ _ _ _)
  · exact ((ht.trans (State.corrected_stillWork _ _ _)).when _ fun u => u.writeBack_stillWork _ _ _ _ _).trans
      (State.answerMem_stillWork _ _ _ _)
  · exact ht.trans (State.beginDecode_stillWork _ _)
  · exact ht.trans (State.beginDecode_stillWork _ _)

theorem State.writeWord_stillWork (s : State) (key : Nat) (r : HbmReq) (bs : List Byte) : StillWork s (s.writeWord key r bs) := by
  unfold State.writeWord
  extract_lets m w d
  have hstore (u : State) (b : Bool) (v : BitVec 64) :
      StillWork u (if b then u.storeWhole key r.addr v else u.setMemWord key (HbmWord.of v)) := by
    split
    · exact u.storeWhole_stillWork _ _ _
    · exact u.setMemWord_stillWork _ _
  split
  · exact ((s.storeWhole_stillWork _ _ _).trans (State.freshChecks_stillWork _ _ _)).trans (State.answerMem_stillWork _ _ _ _)
  · split
    · split
      · exact (s.storeWhole_stillWork _ _ _).trans (State.answerMem_stillWork _ _ _ _)
      · exact (s.setMemWord_stillWork _ _).trans (State.answerMem_stillWork _ _ _ _)
    · exact ((s.corrected_stillWork _ _).trans (hstore _ _ _)).trans (State.answerMem_stillWork _ _ _ _)
    · exact (s.setMemWord_stillWork _ _).trans (State.beginDecode_stillWork _ _)
    · exact (s.setMemWord_stillWork _ _).trans (State.beginDecode_stillWork _ _)

theorem State.serve_stillWork (s : State) (r : HbmReq) : StillWork s (s.serve r) := by
  unfold State.serve
  dsimp only
  split
  · exact (StillWork.refl s).to
  · split
    · exact s.answerMem_stillWork _ _ _
    · have hopen := s.openRow_stillWork (s.memKey r.addr) r.who r.hint
      split
      · exact ((hopen.trans (State.issue_stillWork _ _ _)).count 18 0 1).trans (State.readWord_stillWork _ _ _)
      · exact (hopen.trans (State.issue_stillWork _ _ _)).trans (State.writeWord_stillWork _ _ _ _)

theorem State.serveWaiting_stillWork (s : State) : StillWork s s.serveWaiting := by
  unfold State.serveWaiting
  exact (StillWork.refl s).to.forAll _ fun r u => u.serve_stillWork r

end Sys2Proof.Machine
end

section
/-! SUPPORT. Hot reset, FLR and warm reset (R411, R436 to R439). -/
namespace Sys2Proof.Machine

-- One proof after another: elaborated together, each waits in a thread of its own, and a check of the whole text runs out of memory.
set_option Elab.async false

open Sys2Proof

/-! ### What a hot reset and an FLR stop while nothing moves (R437, R439) -/

/-- Bound stripes return to IDLE, and the others owe no completion any more. -/
def State.stripesSilenced (s : State) : State :=
  { s with stripes := (s.stripes.filter fun p => p.state != .bound).map Stripe.silenced }

theorem State.stripesSilenced_stillWork (s : State) : StillWork s s.stripesSilenced := by
  refine fun hs => ⟨fun p hp => ?_, fun _ _ => rfl, State.active?_eq_none.2 fun q hq => ?_⟩
  · cases p <;> simp_all [sparedPieces, Piece.same, State.stripesSilenced]
  · obtain ⟨k, hk, rfl⟩ := List.mem_map.1 hq
    exact State.active?_eq_none.1 hs k (List.mem_of_mem_filter hk)

/-- With no stripe in motion only the links remain to be seen to. -/
theorem State.stopStripes_eq {s : State} (h : s.active? = none) : s.stopStripes = s.stripesSilenced.between := by
  have hs : s.stripesSilenced.active? = none := (s.stripesSilenced_stillWork h).still
  unfold State.stopStripes
  extract_lets t
  rw [show t.active? = none from hs]
  rfl

theorem State.stopStripes_stillWork (s : State) : StillWork s s.stopStripes := by
  intro hs
  rw [State.stopStripes_eq hs]
  exact (s.stripesSilenced_stillWork.trans (State.between_stillWork _)) hs

theorem State.stage_stopStripes {s : State} (h : s.active? = none) : s.stopStripes.stage = s.stage := by
  rw [State.stopStripes_eq h]
  exact (State.between_linkWork s.stripesSilenced).pieces .stage (by decide)

/-- No aux axis moves. -/
def State.AuxStill (s : State) : Prop := ∀ n < 4, (s.auxAxis n).move = none

/-- A change of an axis's move starts none. -/
theorem State.AuxStill.onAuxMove {s : State} (h : s.AuxStill) (n : Nat) (f : AuxMove → AuxMove) : (s.onAuxMove n f).AuxStill := by
  intro m hm
  rcases vget_vmod_cases s.stage.aux n m (fun a => { a with move := a.move.map f }) ⟨none, none, false⟩ with hs | hs
  · exact (congrArg AuxAxis.move hs).trans (h m hm)
  · exact (congrArg AuxAxis.move hs).trans (congrArg (Option.map f) (h m hm))

theorem State.AuxStill.stopAux_eq {s : State} (h : s.AuxStill) {n : Nat} (hn : n < 4) :
    s.stopAux n = s.onAuxMove n fun m => { m with origin := none, stoppedBy := [] } := by
  unfold State.stopAux State.auxHalt
  rw [h.onAuxMove n _ n hn]

/-- Stopping axes that rest leaves what still work leaves. -/
theorem State.AuxStill.stopAxes_stillWork {s : State} (h : s.AuxStill) :
    StillWork s (s.forAll (List.range 4) fun n t => t.stopAux n) := by
  refine (State.forAll_induction (P := fun u => StillWork s u ∧ u.AuxStill) _ ⟨StillWork.refl s, h⟩ fun n hn u hu => ?_).1
  obtain ⟨hwork, hstill⟩ := hu
  rw [hstill.stopAux_eq (List.mem_range.1 hn)]
  exact ⟨hwork.to, hstill.onAuxMove n _⟩

theorem State.holdAtRest_stillWork (s : State) : StillWork s s.holdAtRest :=
  (StillWork.refl s).forAll _ fun n u =>
    (StillWork.refl u).setReg (Reg.AUX_STATUS_IHOLD n) 1 (Field.beyond_power (by simp only [Reg.AUX_STATUS_IHOLD]; omega))

theorem State.dropUnsettled_stillWork (s : State) : StillWork s s.dropUnsettled := by
  unfold State.dropUnsettled
  extract_lets t
  have ht : StillWork s t := (StillWork.refl s).forAll _ fun k u => u.dropPackage_stillWork _
  clear_value t
  exact ht.to

theorem State.dropLostGrid_stillWork (s : State) : StillWork s s.dropLostGrid :=
  (StillWork.refl s).when _ fun u => u.gridIdle_stillWork

theorem State.abandonItems_stillWork (s : State) : StillWork s s.abandonItems :=
  (((StillWork.refl s).setReg Reg.CAL_STATUS_DUE _).setReg Reg.CAL_STATUS_RUNNING 0).count 22 3 _

theorem State.abandonSweep_stillWork (s : State) : StillWork s s.abandonSweep :=
  (StillWork.refl s).when _ fun u =>
    (((StillWork.refl u).withHbm _).setReg Reg.MEM_STATUS_SWEEPING 0).trans (State.serveWaiting_stillWork _)

/-- Where nothing moves, what a reset stops is still work. -/
theorem State.stopAll_spared {s : State} (h : Quiet s) : Spared s s.stopAll := by
  obtain ⟨hact, -, haux⟩ := h
  have hstill : s.stopStripes.stopY.AuxStill := fun n hn => by
    have haxes : s.stopStripes.stopY.stage.aux = s.stage.aux := by
      show s.stopStripes.stage.aux = s.stage.aux
      rw [State.stage_stopStripes hact]
    rw [State.auxAxis, haxes]
    exact haux n hn
  have hy : StillWork s s.stopStripes.stopY := s.stopStripes_stillWork.to
  have ha := (hy.trans hstill.stopAxes_stillWork).trans (State.holdAtRest_stillWork _)
  have hb := (((ha.trans (State.dropUnsettled_stillWork _)).trans (State.dropLostGrid_stillWork _)).trans
    (State.abandonItems_stillWork _)).trans (State.abandonSweep_stillWork _)
  unfold State.stopAll
  extract_lets a b
  have hb : StillWork s b := hb
  clear_value b
  have hend : StillWork s { b with jobs := [] } := hb.to
  exact hend hact

/-! ### Hot reset and FLR (R411, R436 to R439) -/

/-- The host interface's class V fields return to their reset values, and no other field does. -/
theorem State.hostReset_retains (s : State) : Retains (fun f => !f.ofHost) [] s s.hostReset := Retains.of_keepFields rfl

/-- A hot reset or an FLR as it is counted and begins. -/
def State.hotBegun (s : State) (flr : Bool) (code : Nat) : State :=
  let a := s.addReg Reg.PWR_RESET_CNT_HOT_FLR 1
  { a with power := { a.power with flrBusy := flr } }.lastReset code

/-- The end state of a hot reset or an FLR that no soft reset absorbs. -/
def State.hotReset (s : State) (flr : Bool) (code : Nat) : State :=
  (s.hotBegun flr code).stopAll.hostReset.setReg Reg.GLB_IRQ_MASK 0xFFF

section
variable {s : State}

theorem exec_pcieHotReset (hlink : s.linkUp = true) (hbusy : s.softBusy = false) :
    exec .pcieHotReset s = answer s (s.hotReset false 4) := by
  show execPcieHotReset s = _
  simp only [execPcieHotReset, State.when, hlink, hbusy, if_true, Bool.false_eq_true, if_false]
  rfl

theorem exec_flr (hlink : s.linkUp = true) (hnative : s.native = true) (hbusy : s.softBusy = false) (hflr : s.power.flrBusy = false) :
    exec .flr s = answer s (s.hotReset true 5) := by
  show execFlr s = _
  simp only [execFlr, State.when, hlink, hnative, hbusy, hflr, Bool.and_self, Bool.or_self, if_true, Bool.false_eq_true, if_false]
  rfl

theorem exec_pcieHotReset_of_busy (hlink : s.linkUp = true) (hbusy : s.softBusy = true) :
    exec .pcieHotReset s = answer s (s.addReg Reg.PWR_RESET_CNT_HOT_FLR 1) := by
  show execPcieHotReset s = _
  simp only [execPcieHotReset, State.when, hlink, hbusy, if_true]

theorem exec_flr_of_busy (hlink : s.linkUp = true) (hnative : s.native = true) (hbusy : s.softBusy = true) :
    exec .flr s = answer s (s.addReg Reg.PWR_RESET_CNT_HOT_FLR 1) := by
  show execFlr s = _
  simp only [execFlr, State.when, hlink, hnative, hbusy, Bool.and_self, Bool.true_or, if_true]

theorem ignored_flr_of_xk2 (hnative : s.native = false) : Ignored .flr s := by
  show execFlr s = _
  rw [execFlr, State.when, if_neg (by simp [hnative])]
  exact answer_self s

/-- LAST_RESET names the code as the reset begins. -/
theorem State.lastReset_hotBegun (s : State) (flr : Bool) {code : Nat} (hcode : code < 2 ^ 3) :
    (s.hotBegun flr code).reg Reg.PWR_STATUS_LAST_RESET = code :=
  (State.reg_setReg_same _ _ _ (by decide)).trans (Nat.mod_eq_of_lt hcode)

/-- It is counted as it begins. -/
theorem State.hotResets_hotBegun (s : State) (flr : Bool) (code : Nat) :
    (s.hotBegun flr code).reg Reg.PWR_RESET_CNT_HOT_FLR = min 255 (s.reg Reg.PWR_RESET_CNT_HOT_FLR + 1) :=
  (State.reg_setReg_ne _ _ _ _ (by decide)).trans (State.reg_addReg_same s 1 (by decide))

/-- What a hot reset or an FLR leaves of the state it began in. -/
theorem State.hotReset_spared (h : Quiet s) (flr : Bool) (code : Nat) : Spared (s.hotBegun flr code) (s.hotBegun flr code).stopAll :=
  State.stopAll_spared h

theorem State.hotBegun_pieces (s : State) (flr : Bool) (code : Nat) : KeepsPieces [.power] s (s.hotBegun flr code) := by
  have hpower (t : State) (p : PowerUnit) : KeepsPieces [.power] t { t with power := p } :=
    fun p hp => by cases p <;> simp_all [Piece.same]
  exact (((KeepsPieces.refl _ s).setReg _ _).trans (hpower _ _)).setReg _ _

theorem State.hostReset_pieces (s : State) : KeepsPieces [.host] s s.hostReset :=
  fun p hp => by cases p <;> simp_all [Piece.same, State.hostReset]

/-- The spared pieces are the same after a hot reset as at its start. -/
theorem State.hotReset_pieces (h : Quiet s) (flr : Bool) (code : Nat) (p : Piece) (hp : p ∈ sparedPieces := by decide) :
    p.same (s.hotBegun flr code) (s.hotReset flr code) := by
  have hend := ((s.hotBegun flr code).stopAll.hostReset_pieces.setReg Reg.GLB_IRQ_MASK 0xFFF) p fun hm => by
    simp only [List.mem_singleton] at hm
    exact absurd (hm ▸ hp) (by decide)
  exact p.same_trans _ _ _ ((s.hotReset_spared h flr code).pieces p hp) hend

/-- Beside the power state they are as before it. -/
theorem State.hotReset_keeps (h : Quiet s) (flr : Bool) (code : Nat) (p : Piece) (hp : p ∈ sparedPieces := by decide)
    (hne : p ≠ .power := by decide) : p.same s (s.hotReset flr code) :=
  p.same_trans _ _ _ (s.hotBegun_pieces flr code p (by simpa using hne)) (State.hotReset_pieces h flr code p hp)

/-- A field of the PWR block reads after a hot reset as at its start. -/
theorem State.reg_hotReset_of_power (h : Quiet s) (flr : Bool) (code : Nat) {f : Field} (hf : f.power = true)
    (hkey : Reg.fieldOfKey f.key = some f) (hhost : f.ofHost = false) (hmask : f.key ≠ Reg.GLB_IRQ_MASK.key) :
    (s.hotReset flr code).reg f = (s.hotBegun flr code).reg f := by
  rw [State.hotReset, State.reg_setReg_ne _ _ _ _ hmask, (State.hostReset_retains _).reg_eq hkey (by rw [hhost]; rfl)]
  exact (s.hotReset_spared h flr code).regs f hf

/-- Every submission ring is disabled. -/
theorem State.subsDisabled_hotReset (flr : Bool) (code : Nat) {n : Nat} (hn : n < 9) :
    (s.hotReset flr code).reg (Reg.HIF_SQ_CTL_EN n) = 0 := by
  have htable : ∀ n < 9, Reg.fieldOfKey (Reg.HIF_SQ_CTL_EN n).key = some (Reg.HIF_SQ_CTL_EN n) ∧
      (Reg.HIF_SQ_CTL_EN n).ofHost = true ∧ (Reg.HIF_SQ_CTL_EN n).key ≠ Reg.GLB_IRQ_MASK.key := by decide +kernel
  obtain ⟨hkey, hhost, hmask⟩ := htable n hn
  rw [State.hotReset, State.reg_setReg_ne _ _ _ _ hmask, (State.hostReset_retains _).reg_eq_reset hkey (by rw [hhost]; rfl)]
  exact State.reg_reset _

/-- What holds of the end state of a hot reset or an FLR. -/
theorem completes_hotReset (h : Quiet s) {i : Instr} {flr : Bool} {code : Nat} (hcode : code < 2 ^ 3)
    (hexec : exec i s = answer s (s.hotReset flr code)) : Completes i s fun t =>
      t.host = HostUnit.init ∧ t.jobs = [] ∧ t.reg Reg.PWR_STATUS_LAST_RESET = code ∧ t.reg Reg.GLB_IRQ_MASK = 0xFFF ∧
      t.reg Reg.PWR_RESET_CNT_HOT_FLR = min 255 (s.reg Reg.PWR_RESET_CNT_HOT_FLR + 1) ∧ t.power.flrBusy = flr ∧
      (∀ n < 9, t.reg (Reg.HIF_SQ_CTL_EN n) = 0) ∧ t.kernels = s.kernels ∧ t.beams = s.beams ∧ t.time = s.time ∧
      t.looper = s.looper := by
  have hlast := (State.reg_hotReset_of_power h flr code (f := Reg.PWR_STATUS_LAST_RESET) (by decide) (by decide +kernel) (by decide)
    (by decide)).trans (s.lastReset_hotBegun flr hcode)
  have hcount := (State.reg_hotReset_of_power h flr code (f := Reg.PWR_RESET_CNT_HOT_FLR) (by decide) (by decide +kernel) (by decide)
    (by decide)).trans (s.hotResets_hotBegun flr code)
  have hmask : (s.hotReset flr code).reg Reg.GLB_IRQ_MASK = 0xFFF := State.reg_setReg_same _ _ _ (by decide)
  have hflr : (s.hotReset flr code).power.flrBusy = flr :=
    congrArg PowerUnit.flrBusy (State.hotReset_pieces h flr code .power)
  refine Completes.of_answer_of hexec ?_ fun _ _ _ _ hu => hu
  exact ⟨rfl, rfl, hlast, hmask, hcount, hflr, fun n hn => State.subsDisabled_hotReset flr code hn,
    State.hotReset_keeps h flr code .kernels, State.hotReset_keeps h flr code .beams, State.hotReset_keeps h flr code .time,
    State.hotReset_keeps h flr code .looper⟩

/-- A reset that is only counted. -/
theorem completes_counted {i : Instr} {f : Field} (hexec : exec i s = answer s (s.addReg f 1)) :
    Completes i s fun t => Keeps [] [f] s t := Completes.of_answer hexec (s.addReg_keeps f 1).answered

end

theorem clauseHotResetAndFlr : ClauseHotResetAndFlr := by
  refine ⟨fun s hlink hbusy h x hx hflr => ?_, fun s hlink hbusy i hi hnative => ?_, fun s hnative => ignored_flr_of_xk2 hnative,
    fun s => ?_⟩
  -- Neither is absorbed.
  · simp only [List.mem_cons, List.not_mem_nil, or_false] at hx
    obtain rfl | rfl := hx
    · exact completes_hotReset h (by decide) (exec_pcieHotReset hlink hbusy)
    · obtain ⟨hnative, hfree⟩ := hflr rfl
      exact completes_hotReset h (by decide) (exec_flr hlink hnative hbusy hfree)
  -- A soft reset absorbs both.
  · simp only [List.mem_cons, List.not_mem_nil, or_false] at hi
    obtain rfl | rfl := hi
    · exact completes_counted (exec_pcieHotReset_of_busy hlink hbusy)
    · exact completes_counted (exec_flr_of_busy hlink (hnative rfl) hbusy)
  -- FLR_COMPLETE.
  · exact ⟨_, rfl, rfl, fun p hp => by cases p <;> simp_all [Piece.same], fun _ _ => rfl⟩

/-! ### Warm reset (R229, R305, R436, R438) -/

/-- The end state of a warm reset that no start absorbs. -/
def State.warmReset (s : State) (c : WarmCause) : State :=
  ((s.addReg Reg.PWR_RESET_CNT_WARM 1).keepKP false (s.power.restart false)).lastReset (warmCode c)

section
variable {s : State} {c : WarmCause}

theorem exec_warmReset (hacts : s.warmActs c = true) (hstart : s.power.starting = false) :
    exec (.warmReset c) s = answer s (s.warmReset c) := by
  show execWarmReset c s = _
  simp only [execWarmReset, State.when, hacts, hstart, if_true, Bool.false_eq_true, if_false]
  rfl

theorem exec_warmReset_of_starting (hacts : s.warmActs c = true) (hstart : s.power.starting = true) :
    exec (.warmReset c) s = answer s (s.addReg Reg.PWR_RESET_CNT_WARM 1) := by
  show execWarmReset c s = _
  simp only [execWarmReset, State.when, hacts, hstart, if_true]

theorem ignored_warmReset (hacts : s.warmActs c = false) : Ignored (.warmReset c) s := by
  show execWarmReset c s = _
  rw [execWarmReset, State.when, if_neg (by simp [hacts])]
  exact answer_self s

/-- Classes K and P and the lands stay. -/
theorem State.keepKP_retains (s : State) (p : PowerUnit) : Retains (fun f => f.cls != .v || f.land) [] s (s.keepKP false p) := by
  have hkeep : (fun f : Field => f.cls != .v || f.land || (false && f.isAckWait)) = fun f => f.cls != .v || f.land := by
    funext f
    simp
  exact Retains.of_keepFields (congrArg (keepFields · s.regs) hkeep)

/-- A field set beforehand joins the exceptions. -/
theorem Retains.of_setReg {keep : Field → Bool} {but : List Field} {s t : State} {g : Field} {v : Nat}
    (h : Retains keep but (s.setReg g v) t) : Retains keep (but ++ [g]) s t := by
  intro f hf hb
  have hg : f.key ≠ g.key := (hb g (by simp)).symm
  rw [h f hf fun e he => hb e (by simp [he]), State.reg_setReg_ne _ _ _ _ hg]

theorem State.warmReset_retains (s : State) (c : WarmCause) :
    Retains (fun f => f.cls != .v || f.land) [Reg.PWR_STATUS_LAST_RESET, Reg.PWR_RESET_CNT_WARM] s (s.warmReset c) :=
  (((s.addReg Reg.PWR_RESET_CNT_WARM 1).keepKP_retains (s.power.restart false)).setReg Reg.PWR_STATUS_LAST_RESET (warmCode c)).of_setReg

theorem State.lastReset_warmReset (s : State) (c : WarmCause) : (s.warmReset c).reg Reg.PWR_STATUS_LAST_RESET = warmCode c :=
  (State.reg_setReg_same _ _ _ (by decide)).trans (by cases c <;> rfl)

theorem State.warmResets_warmReset (s : State) (c : WarmCause) :
    (s.warmReset c).reg Reg.PWR_RESET_CNT_WARM = min 255 (s.reg Reg.PWR_RESET_CNT_WARM + 1) := by
  have hkept := ((s.addReg Reg.PWR_RESET_CNT_WARM 1).keepKP_retains (s.power.restart false)).reg_eq (f := Reg.PWR_RESET_CNT_WARM)
    (by decide +kernel) (by decide)
  exact ((State.reg_setReg_ne _ _ _ _ (by decide)).trans hkept).trans (State.reg_addReg_same s 1 (by decide))

/-- Every group trains fast (R229). -/
theorem State.fast_warmReset (s : State) (c : WarmCause) {g : Nat} (hg : g < 16) : ((s.warmReset c).group g).fast = true := by
  show (vget (Vector.replicate 16 { Group.init with fast := true }) g Group.init).fast = true
  simp [vget, hg]

end

theorem clauseWarmReset : ClauseWarmReset := by
  refine ⟨fun s c hacts hstart => Completes.of_answer (exec_warmReset hacts hstart) ⟨(s.warmReset_retains c).of_regs rfl rfl,
    s.lastReset_warmReset c, s.warmResets_warmReset c, rfl, rfl, rfl, rfl, rfl, rfl, rfl, rfl, rfl, rfl, rfl, rfl, rfl, rfl, rfl, rfl,
    rfl, fun g hg => s.fast_warmReset c hg⟩,
    fun s c hacts hstart => completes_counted (exec_warmReset_of_starting hacts hstart), fun s c hacts => ignored_warmReset hacts⟩

/-! ### The statement -/

/-- Settles O20: each unit that a hot reset or an FLR stops does still work (`StillWork`), which leaves what they keep; what the
registers read afterwards follows from the fields that each reset's filter keeps. -/
theorem warmResetsAndFlr : Obligations.WarmResetsAndFlr := ⟨clauseHotResetAndFlr, clauseWarmReset⟩

end Sys2Proof.Machine
end

section
/-! SUPPORT. Steps of the auxiliary axes (R268 to R271): what the rest of an axis leaves alone, and what a step comes to. -/
namespace Sys2Proof.Machine

open Sys2Proof

/-! ### Signed fields -/

/-- A number in the signed range of 32 bits reads back as it was put. -/
theorem signed_unsignedOf {v : Int} (hlo : -2147483648 ≤ v) (hhi : v ≤ 2147483647) : signed 32 (unsignedOf 32 v) = v := by
  have hmod : (unsignedOf 32 v : Int) = v % 2 ^ 32 := Int.toNat_of_nonneg (by omega)
  unfold signed
  generalize unsignedOf 32 v = u at hmod
  dsimp only
  split <;> omega

/-! ### The rest of an axis (R268, R270, R271, R347) -/

@[simp] theorem key_auxOvershoot (n : Nat) : (Reg.AUX_STATUS_OVERSHOOT n).key = 32 * (0x501C + 0x40 * n) + 8 := rfl

/-- The fields that an axis at rest may show: what is left, how far beyond, its state, and that a counter wrapped. -/
def auxRestFields (n : Nat) : List Field :=
  [Reg.AUX_REMAIN_STEPS n, Reg.AUX_STATUS_STATE n, Reg.AUX_STATUS_OVERSHOOT n, ovf 6, ovf 1]

theorem auxRestFields_ne_pos (n : Nat) : ∀ g ∈ auxRestFields n, g.key ≠ (Reg.AUX_POS n).key := by
  simp only [auxRestFields, List.forall_mem_cons, ovf_key, key_auxRemain, key_auxState, key_auxOvershoot, key_auxPos]
  refine ⟨by omega, by omega, by omega, by omega, by omega, by simp⟩

theorem auxRestFields_le (n : Nat) : ∀ g ∈ auxRestFields n, 32 * 0x5000 ≤ g.key := by
  simp only [auxRestFields, List.forall_mem_cons, ovf_key, key_auxRemain, key_auxState, key_auxOvershoot]
  refine ⟨by omega, by omega, by omega, by omega, by omega, by simp⟩

/-- Work on one axis: the other axes, where this one stands, and what has left are as before. -/
structure OnAxis (n : Nat) (s t : State) : Prop where
  keeps : Keeps [.stage, .host, .counters] (auxRestFields n) s t
  others : ∀ k, k ≠ n → t.auxAxis k = s.auxAxis k

theorem OnAxis.trans {n : Nat} {s t u : State} (h : OnAxis n s t) (h' : OnAxis n t u) : OnAxis n s u :=
  ⟨(h.keeps.trans h'.keeps).mono (by simp) (by simp), fun k hk => (h'.others k hk).trans (h.others k hk)⟩

theorem Keeps.onAxis {n : Nat} {ps : List Piece} {fs : List Field} {s t : State} (h : Keeps ps fs s t) (hps : ps ⊆ [.host, .counters])
    (hfs : fs ⊆ auxRestFields n) : OnAxis n s t := by
  have hstage : t.stage = s.stage := h.pieces .stage fun hm => by simpa using hps hm
  exact ⟨h.mono (List.Subset.trans hps (by simp)) hfs, fun k _ => by rw [State.auxAxis, hstage, State.auxAxis]⟩

theorem State.auxAxis_onAux_ne (s : State) {n k : Nat} (h : k ≠ n) (f : AuxAxis → AuxAxis) : (s.onAux n f).auxAxis k = s.auxAxis k :=
  vget_vmod_ne _ _ _ _ _ h

theorem State.onAux_onAxis (s : State) (n : Nat) (f : AuxAxis → AuxAxis) : OnAxis n s (s.onAux n f) :=
  ⟨(s.onAux_keeps n f).mono (by simp) (by simp), fun _ hk => s.auxAxis_onAux_ne hk f⟩

theorem State.count_onAxis (s : State) (n c k : Nat) : OnAxis n s (s.count 6 c k) :=
  (s.count_keeps 6 c k).onAxis (by simp) (by simp [auxRestFields])

theorem State.complete_onAxis (s : State) (n : Nat) (c : Completion) : OnAxis n s (s.complete c) :=
  (s.complete_keeps c).onAxis (by simp) (by simp [auxRestFields])

theorem State.setRegs_onAxis (s : State) {n : Nat} {l : List (Field × Nat)} (h : l.map Prod.fst ⊆ auxRestFields n) :
    OnAxis n s (s.setRegs l) := (s.setRegs_keeps l).onAxis (by simp) h

theorem State.auxStopsDone_onAxis (s : State) (n : Nat) (m : AuxMove) (remain : Int) : OnAxis n s (s.auxStopsDone m remain) :=
  State.forAll_induction (P := OnAxis n s) _ ((Keeps.refl [] [] s).onAxis (by simp) (by simp)) fun _ _ u hu => hu.trans (u.complete_onAxis n _)

theorem State.auxStop_onAxis (s : State) (n : Nat) (m : AuxMove) : OnAxis n s (s.auxStop n m) := by
  unfold State.auxStop
  extract_lets remain a b
  have ha : OnAxis n s a := ((s.onAux_onAxis n _).trans (State.setRegs_onAxis _ (by simp [auxRestFields]))).trans (State.count_onAxis _ n 6 1)
  have hb : OnAxis n a b := by
    unfold b
    split
    · exact a.complete_onAxis n _
    · exact (Keeps.refl [] [] a).onAxis (by simp) (by simp)
  exact (ha.trans hb).trans (b.auxStopsDone_onAxis n m remain)

/-- The axis is shown at rest on its target. -/
def State.auxArrived (s : State) (n : Nat) : State :=
  ((s.onAux n fun a => { a with move := none }).setReg (Reg.AUX_STATUS_STATE n) auxIdle).count 6 2 1

theorem State.auxArrived_onAxis (s : State) (n : Nat) : OnAxis n s (s.auxArrived n) :=
  ((s.onAux_onAxis n _).trans ((State.setReg_keeps _ _ _).onAxis (by simp) (by simp [auxRestFields]))).trans (State.count_onAxis _ n 2 1)

/-- The move's own completion, where a command asked for it. -/
def State.auxMoved (s : State) (m : AuxMove) : State :=
  match m.origin with
  | some o => s.complete (Completion.mk' o .ok m.overshoot 0 0)
  | none => s

theorem State.auxMoved_keeps (s : State) (m : AuxMove) : Keeps [.host, .counters] [ovf 1] s (s.auxMoved m) := by
  unfold State.auxMoved
  split
  · exact s.complete_keeps _
  · exact Keeps.refl _ _ s

theorem State.auxArrive_eq (s : State) (n : Nat) (m : AuxMove) :
    s.auxArrive n m = ((s.auxArrived n).auxMoved m).auxStopsDone m 0 := rfl

theorem State.auxArrive_onAxis (s : State) (n : Nat) (m : AuxMove) : OnAxis n s (s.auxArrive n m) := by
  rw [State.auxArrive_eq]
  exact ((s.auxArrived_onAxis n).trans ((State.auxMoved_keeps _ m).onAxis (by simp) (by simp [auxRestFields]))).trans
    (State.auxStopsDone_onAxis _ n m 0)

theorem State.auxTurn_onAxis (s : State) (n : Nat) (m : AuxMove) : OnAxis n s (s.auxTurn n m) :=
  (((s.auxStopsDone_onAxis n m 0).trans (State.onAux_onAxis _ n _)).trans (State.setRegs_onAxis _ (by simp [auxRestFields]))).trans
    (State.count_onAxis _ n 1 1)

/-- Whatever a profile comes to, it is work on its axis. -/
theorem State.auxAim_onAxis (s : State) (n : Nat) (m : AuxMove) : OnAxis n s (s.auxAim n m) := by
  unfold State.auxAim State.auxRest
  split
  · split
    · exact s.auxStop_onAxis n m
    · split
      · exact s.auxArrive_onAxis n m
      · exact s.auxTurn_onAxis n m
  · exact s.onAux_onAxis n _

/-- A profile that ends on its own target, nothing stopping it, arrives there. -/
theorem State.auxAim_arrives {s : State} {n : Nat} {m : AuxMove} (ht : m.target = s.auxPos n) (hg : m.goal = s.auxPos n)
    (hs : m.stopping = false) (hb : m.stoppedBy = []) : s.auxAim n m = (s.auxArrived n).auxMoved m := by
  rw [State.auxAim, if_pos ht, State.auxRest, if_neg (by simp [hs]), if_pos hg, State.auxArrive_eq, State.auxStopsDone, hb]
  rfl

/-! ### AUX_STEP (R268, R269, R347, R439) -/

/-- Where the next step takes the axis. -/
def AuxMove.nextPos (m : AuxMove) (pos : Int) : Int := if m.up then pos + 1 else pos - 1

/-- The move after a step. -/
def State.auxStepped (s : State) (n : Nat) (m : AuxMove) : AuxMove := { m with v2 := s.auxSpeed2 n m, first := false }

/-- The step has left on the axis's pins, is counted, and shows. -/
def State.stepSent (s : State) (n : Nat) (m : AuxMove) : State :=
  ((s.emit (.step n m.up)).count 6 0 1).setRegs
    [(Reg.AUX_POS n, unsignedOf 32 (m.nextPos (s.auxPos n))), (Reg.AUX_STATUS_STATE n, m.phase (s.auxSpeed2 n m))]

section
variable {s : State} {n : Fin 4} {m : AuxMove}

theorem State.stepSent_keeps (s : State) (n : Fin 4) (m : AuxMove) :
    Keeps [.out, .counters] [ovf 6, Reg.AUX_POS n, Reg.AUX_STATUS_STATE n] s (s.stepSent n m) :=
  ((s.emit_keeps _).trans (State.count_keeps _ 6 0 1)).trans (State.setRegs_keeps _ _)

theorem State.auxPos_stepSent (hhi : m.nextPos (s.auxPos n) ≤ 2147483647) (hlo : -2147483648 ≤ m.nextPos (s.auxPos n)) :
    (s.stepSent n m).auxPos n = m.nextPos (s.auxPos n) := by
  have hreg : (s.stepSent n m).reg (Reg.AUX_POS n) = unsignedOf 32 (m.nextPos (s.auxPos n)) % 2 ^ 32 :=
    State.reg_setRegs_mem (by simp) List.mem_cons_self (Nat.le_refl 32)
  have hlt : unsignedOf 32 (m.nextPos (s.auxPos n)) < 2 ^ 32 := by simp only [unsignedOf]; omega
  rw [State.auxPos, State.sreg, hreg, Nat.mod_eq_of_lt hlt]
  exact signed_unsignedOf hlo hhi

/-- What a step and the rest after it may change: the soft reset's flag is not among it. -/
theorem State.auxStep_keeps (s : State) (n : Fin 4) (m k : AuxMove) : Keeps [.out, .counters, .stage, .host]
    (Reg.AUX_POS n :: auxRestFields n) s ((s.stepSent n m).auxAim n k) :=
  ((s.stepSent_keeps n m).trans (State.auxAim_onAxis _ n k).keeps).mono (by simp) (by simp [auxRestFields])

theorem exec_auxStep (hm : (s.auxAxis n).move = some m) (hw : m.waking = false) (hb : s.softBusy = false) :
    exec (.auxStep n) s = answer s ((s.stepSent n m).auxAim n (s.auxStepped n m)) := by
  have hbusy : ((s.stepSent n m).auxAim n (s.auxStepped n m)).softBusy = false := by
    rw [← hb, State.softBusy, State.softBusy, State.flag, State.flag,
      (s.auxStep_keeps n m _).2 Reg.PWR_STATUS_RST_BUSY (List.forall_mem_cons.2 ⟨by simp [Field.key, Reg.PWR_STATUS_RST_BUSY, Reg.AUX_POS]; omega, fun g hg => ?_⟩)]
    have := auxRestFields_le n g hg
    simp only [Field.key, Reg.PWR_STATUS_RST_BUSY] at this ⊢
    omega
  show execAuxStep n s = _
  unfold execAuxStep
  rw [hm]
  dsimp only
  rw [State.when, if_pos (by simp [hw])]
  exact congrArg (answer s) (State.softEnds_of_not_busy hbusy)

/-- The completion ring of a submission ring is none of what a step or its rest shows. -/
theorem State.cprOf_congr {t : State} {ring : Nat} (h : t.reg (Reg.HIF_SQ_CTL_CPR ring) = s.reg (Reg.HIF_SQ_CTL_CPR ring)) :
    t.cprOf ring = s.cprOf ring := by rw [State.cprOf, State.cprOf, h]

theorem State.cprOf_auxArrived (m : AuxMove) (ring : Nat) : ((s.stepSent n m).auxArrived n).cprOf ring = s.cprOf ring := by
  have harrived : Keeps [.stage, .counters] [Reg.AUX_STATUS_STATE n, ovf 6] (s.stepSent n m) ((s.stepSent n m).auxArrived n) :=
    ((State.onAux_keeps _ n _).trans (State.setReg_keeps _ _ _)).trans (State.count_keeps _ 6 2 1)
  refine State.cprOf_congr (((s.stepSent_keeps n m).trans harrived).2 _ ?_)
  simp only [List.cons_append, List.nil_append, List.forall_mem_cons, ovf_key, key_auxPos, key_auxState]
  simp only [Field.key, Reg.HIF_SQ_CTL_CPR]
  refine ⟨by omega, by omega, by omega, by omega, by omega, by simp⟩

/-- A move that arrives with its step shows idle and completes. -/
theorem State.auxArrives_spec (s : State) (n : Fin 4) (m : AuxMove) {k : AuxMove} (hk : k.origin = m.origin) (hover : k.overshoot = m.overshoot) :
    ((((s.stepSent n m).auxArrived n).auxMoved k).auxAxis n).move = none ∧
    (((s.stepSent n m).auxArrived n).auxMoved k).reg (Reg.AUX_STATUS_STATE n) = 0 ∧
    ∀ o, m.origin = some o → s.cprOf o.ring ≤ 4 → (((s.stepSent n m).auxArrived n).auxMoved k).heldCpl (s.cprOf o.ring) =
      s.heldCpl (s.cprOf o.ring) ++ [Completion.mk' o .ok m.overshoot 0 0] := by
  have hmoved := ((s.stepSent n m).auxArrived n).auxMoved_keeps k
  refine ⟨?_, ?_, fun o ho hcpr => ?_⟩
  · rw [State.auxAxis, show _ = _ from hmoved.pieces .stage (by decide)]
    exact congrArg AuxAxis.move (State.auxAxis_onAux _ n _)
  · rw [hmoved.2 _ (by simp [ovf_key]; omega), State.auxArrived, State.reg_count _ _ _ _ (by simp [ovf_key]; omega),
      State.reg_setReg_same _ _ _ (by simp [Reg.AUX_STATUS_STATE])]
    rfl
  · have hring := State.cprOf_auxArrived (s := s) (n := n) m o.ring
    have hcomplete := ((s.stepSent n m).auxArrived n).heldCpl_complete (Completion.mk' o .ok m.overshoot 0 0) (hring.trans_le hcpr)
    rw [State.auxMoved, hk, ho, hover, ← hring]
    exact hcomplete

theorem completes_auxStep (hm : (s.auxAxis n).move = some m) (hw : m.waking = false) (hb : s.softBusy = false)
    (hhi : m.nextPos (s.auxPos n) ≤ 2147483647) (hlo : -2147483648 ≤ m.nextPos (s.auxPos n)) :
    Completes (.auxStep n) s fun t =>
      t.auxPos n = m.nextPos (s.auxPos n) ∧ t.out = .step n m.up :: s.out ∧ (∀ k < 4, k ≠ n.val → t.auxAxis k = s.auxAxis k) ∧
      (m.nextPos (s.auxPos n) ≠ m.target → (t.auxAxis n).move = some (s.auxStepped n m)) ∧
      (m.nextPos (s.auxPos n) = m.target → m.goal = m.target → m.stopping = false → m.stoppedBy = [] →
        (t.auxAxis n).move = none ∧ t.reg (Reg.AUX_STATUS_STATE n) = 0 ∧ ∀ o, m.origin = some o → s.cprOf o.ring ≤ 4 →
          t.heldCpl (s.cprOf o.ring) = s.heldCpl (s.cprOf o.ring) ++ [Completion.mk' o .ok m.overshoot 0 0]) := by
  have hpos : (s.stepSent n m).auxPos n = m.nextPos (s.auxPos n) := State.auxPos_stepSent hhi hlo
  have haim := (s.stepSent n m).auxAim_onAxis n (s.auxStepped n m)
  refine completes_of_pieces (exec_auxStep hm hw hb) (s.auxStep_keeps n m _).pieces ⟨?_, ?_, ?_, fun hway => ?_, fun hend hgoal hs hby => ?_⟩
  · rw [← hpos, State.auxPos, State.sreg, haim.keeps.2 _ (auxRestFields_ne_pos n)]
    rfl
  · exact haim.keeps.pieces .out (by decide)
  · exact fun k _ hk => haim.others k hk
  · rw [State.auxAim_of_ne (m := s.auxStepped n m) (by rw [hpos]; exact hway.symm), State.auxAxis_onAux]
  · have harrives := State.auxAim_arrives (s := s.stepSent n m) (n := n) (m := s.auxStepped n m) (hend.symm.trans hpos.symm)
      ((hgoal.trans hend.symm).trans hpos.symm) hs hby
    rw [harrives]
    exact s.auxArrives_spec n m rfl rfl

/-! ### AUX_WAKE_EXPIRY and AUX_IHOLD_TIMEOUT (R269, R270) -/

theorem completes_auxWakeExpiry (hm : (s.auxAxis n).move = some m) (hw : m.waking = true) : Completes (.auxWakeExpiry n) s fun t =>
    (t.auxAxis n).move = some { m with waking := false } ∧ (t.auxAxis n).dir = m.up ∧ Keeps [.stage] [] s t := by
  have hexec : exec (.auxWakeExpiry n) s =
      answer s (s.onAux n fun a => { a with dir := m.up, move := some { m with waking := false } }) := by
    show execAuxWakeExpiry n s = _
    rw [execAuxWakeExpiry, hm]
    dsimp only
    rw [State.when, if_pos hw]
  have hkeeps := s.onAux_keeps n fun a => { a with dir := m.up, move := some { m with waking := false } }
  refine completes_of_pieces hexec hkeeps.pieces ⟨?_, ?_, hkeeps⟩
  · rw [State.auxAxis_onAux]
  · rw [State.auxAxis_onAux]

theorem completes_auxIholdTimeout (hrest : (s.auxAxis n).move = none) (hlow : s.reg (Reg.AUX_STATUS_IHOLD n) = 0) :
    Completes (.auxIholdTimeout n) s fun t =>
      t.reg (Reg.AUX_STATUS_IHOLD n) = 1 ∧ Keeps [.counters] [Reg.AUX_STATUS_IHOLD n, ovf 6] s t := by
  have hexec : exec (.auxIholdTimeout n) s = answer s ((s.setReg (Reg.AUX_STATUS_IHOLD n) 1).count 6 5 1) := by
    show execAuxIholdTimeout n s = _
    rw [execAuxIholdTimeout, State.when, if_pos (by simp [hrest, State.flag, hlow])]
  have hkeeps := (s.setReg_keeps (Reg.AUX_STATUS_IHOLD n) 1).trans (State.count_keeps _ 6 5 1)
  refine completes_of_pieces hexec hkeeps.pieces ⟨?_, hkeeps⟩
  rw [State.reg_count _ _ _ _ (by simp [ovf_key]; omega), State.reg_setReg_same _ _ _ (by simp [Reg.AUX_STATUS_IHOLD])]
  rfl

/-- An axis that does not move, or still wakes, takes no step (R268, R270; log 5). -/
theorem ignored_auxStep (h : ∀ k, (s.auxAxis n).move = some k → k.waking = true) : Ignored (.auxStep n) s := by
  show execAuxStep n s = .next s
  rw [execAuxStep]
  cases hm : (s.auxAxis n).move with
  | none => rfl
  | some k =>
    dsimp only
    rw [State.when, if_neg (by simp [h k hm]), answer_self]

/-- Nothing wakes in an axis whose move goes on, or that has none (log 5). -/
theorem ignored_auxWakeExpiry (h : ∀ k, (s.auxAxis n).move = some k → k.waking = false) : Ignored (.auxWakeExpiry n) s := by
  show execAuxWakeExpiry n s = .next s
  rw [execAuxWakeExpiry]
  cases hm : (s.auxAxis n).move with
  | none => rfl
  | some k =>
    dsimp only
    rw [State.when, if_neg (by simp [h k hm]), answer_self]

end

/-! ### The statement -/

/-- Settles O35: a step leaves and its axis stands one on, and then the profile goes on or comes to rest, which is work on that axis alone. -/
theorem auxSteps : Obligations.AuxSteps := by
  refine ⟨fun s n m hm hw hb => completes_auxStep hm hw hb, fun s n m hm => ⟨completes_auxWakeExpiry hm, fun hw => ?_, fun hw => ?_⟩,
    fun s n hrest => ⟨completes_auxIholdTimeout hrest, ignored_auxStep (by simp [hrest]), ignored_auxWakeExpiry (by simp [hrest])⟩⟩
  · exact ignored_auxStep (by simp [hm, hw])
  · exact ignored_auxWakeExpiry (by simp [hm, hw])

end Sys2Proof.Machine
end

section
/-! SUPPORT. The lanes of the stage port (R245 to R248, R266): locks and misses, the Y sample while nothing moves, and what the end of a
lane's signal comes to. -/
namespace Sys2Proof.Machine

open Sys2Proof

/-! ### Lanes and their locks (R246) -/

theorem State.onLane_keeps (s : State) (l : Nat) (f : StageLane → StageLane) : Keeps [.stage] [] s (s.onLane l f) := s.setStage_keeps _

theorem State.stageLane_onLane (s : State) (l : Fin 3) (f : StageLane → StageLane) : (s.onLane l f).stageLane l = f (s.stageLane l) :=
  vget_vmod_same _ _ _ _ l.isLt

theorem State.setLock_keeps (s : State) (l : Nat) (b : Bool) : Keeps [] [Reg.STG_STATUS_LOCK] s (s.setLock l b) := s.setReg_keeps _ _

/-- The locks read from their register alone. -/
theorem State.locked_congr {s t : State} (h : t.reg Reg.STG_STATUS_LOCK = s.reg Reg.STG_STATUS_LOCK) (l : Nat) :
    t.locked l = s.locked l := by rw [State.locked, State.locked, h]

theorem Keeps.locked {ps : List Piece} {fs : List Field} {s t : State} (h : Keeps ps fs s t)
    (hfs : ∀ g ∈ fs, g.key ≠ Reg.STG_STATUS_LOCK.key) (l : Nat) : t.locked l = s.locked l := State.locked_congr (h.2 _ hfs) l

theorem State.locked_setLock_true (s : State) (l : Fin 3) : (s.setLock l true).locked l = true :=
  bitOf_setReg (f := Reg.STG_STATUS_LOCK) l.isLt (by decide) _

theorem State.locked_setLock_false (s : State) (l : Nat) : (s.setLock l false).locked l = false :=
  State.bitOf_setReg_sub _ (by decide) _ l

/-- A lane that locks leaves the other lanes' locks alone. -/
theorem State.locked_setLock_ne (s : State) {l m : Nat} (hm : m < 3) (h : m ≠ l) : (s.setLock l true).locked m = s.locked m := by
  have hreg : (s.setLock l true).reg Reg.STG_STATUS_LOCK = (s.reg Reg.STG_STATUS_LOCK ||| 2 ^ l) % 2 ^ 3 :=
    State.reg_setReg_same _ _ _ (by decide)
  rw [State.locked, hreg, bitOf_eq_testBit, Nat.testBit_mod_two_pow, Nat.testBit_or, Nat.testBit_two_pow_of_ne (Ne.symm h), State.locked,
    bitOf_eq_testBit]
  simp [hm]

/-! ### The status bits of a word (R247) -/

theorem State.countStatus_keeps (s : State) (w : BitVec 80) : Keeps [.stage] [] s (s.countStatus w) :=
  s.when_keeps _ _ fun _ => s.setStage_keeps _

theorem State.stageLane_countStatus (s : State) (w : BitVec 80) (l : Nat) : (s.countStatus w).stageLane l = s.stageLane l := by
  unfold State.countStatus State.when
  split <;> rfl

theorem State.locked_countStatus (s : State) (w : BitVec 80) (l : Nat) : (s.countStatus w).locked l = s.locked l :=
  (s.countStatus_keeps w).locked (by simp) l

/-! ### What a word makes of its lane (R246 to R248) -/

section
variable {s : State} {l : Fin 3} {w : BitVec 80} {tau : Nat}

/-- A lane as the sixteenth good word in a row leaves it. -/
def StageLane.sixteenth (k : StageLane) (w : BitVec 80) (tau : Nat) : StageLane :=
  ({ k with streak := 16, lastSeq := wordSeq w, missed := k.missed + 1 }).push (wordPos w) tau

/-- The sixteenth good word in a row is counted as a missed sample. -/
def State.sixteenthCounted (s : State) (l : Nat) (w : BitVec 80) (tau : Nat) : State :=
  ((s.onLane l fun k => k.sixteenth w tau).addReg Reg.STG_MISSED_SAMPLES 1).count 4 3 1

/-- The lane locks. -/
def State.laneLocks (s : State) (l : Nat) (w : BitVec 80) (tau : Nat) : State :=
  ((s.sixteenthCounted l w tau).setLock l true).onLane l fun k => { k with streak := 0, missed := 0 }

theorem State.sixteenthCounted_keeps (s : State) (l : Nat) (w : BitVec 80) (tau : Nat) :
    Keeps [.stage, .counters] [Reg.STG_MISSED_SAMPLES, ovf 4] s (s.sixteenthCounted l w tau) :=
  ((s.onLane_keeps l _).trans (State.addReg_keeps _ _ _)).trans (State.count_keeps _ 4 3 1)

theorem State.laneLocks_keeps (s : State) (l : Nat) (w : BitVec 80) (tau : Nat) :
    Keeps [.stage, .counters] [Reg.STG_STATUS_LOCK, Reg.STG_MISSED_SAMPLES, ovf 4] s (s.laneLocks l w tau) :=
  (((s.sixteenthCounted_keeps l w tau).trans (State.setLock_keeps _ l true)).trans (State.onLane_keeps _ l _)).mono (by simp) (by simp)

/-- The sixteenth good word in a row locks its lane. -/
theorem State.laneWord_locks (hlock : s.locked l = false) (hgood : sampleGood w = true) (hstreak : (s.stageLane l).streak = 15)
    (hseq : wordSeq w = ((s.stageLane l).lastSeq + 1) % 256) : s.laneWord l w tau = (s.laneLocks l w tau, false) := by
  rw [State.laneWord, hlock, Bool.not_false, if_pos rfl]
  unfold State.seekSample
  extract_lets lane streak t u
  have hcount : streak = 16 := by simp [streak, lane, hgood, hstreak, hseq]
  have hu : u = s.sixteenthCounted l w tau := by
    unfold u t
    rw [hcount]
    rfl
  rw [hcount, hu]
  rfl

theorem State.locked_laneLocks (s : State) (l : Fin 3) (w : BitVec 80) (tau : Nat) : (s.laneLocks l w tau).locked l = true :=
  (s.sixteenthCounted l w tau).locked_setLock_true l

theorem State.locked_laneLocks_ne (s : State) {l m : Nat} (hm : m < 3) (h : m ≠ l) (w : BitVec 80) (tau : Nat) :
    (s.laneLocks l w tau).locked m = s.locked m :=
  ((s.sixteenthCounted l w tau).locked_setLock_ne hm h).trans ((s.sixteenthCounted_keeps l w tau).locked (by decide) m)

theorem State.hist_laneLocks (s : State) (l : Fin 3) (w : BitVec 80) (tau : Nat) :
    ((s.laneLocks l w tau).stageLane l).hist.head? = some (wordPos w) := by
  have hlane : ((s.sixteenthCounted l w tau).setLock l true).stageLane l = (s.stageLane l).sixteenth w tau := s.stageLane_onLane l _
  rw [State.laneLocks, State.stageLane_onLane, hlane]
  rfl

/-- A lane with a good word. -/
def StageLane.heard (k : StageLane) (w : BitVec 80) (tau : Nat) : StageLane :=
  ({ k with missed := 0, lastSeq := wordSeq w }).push (wordPos w) tau

/-- A good word of a locked lane is taken and counted. -/
def State.laneHeard (s : State) (l : Nat) (w : BitVec 80) (tau : Nat) : State := (s.onLane l fun k => k.heard w tau).count 4 2 1

theorem State.laneHeard_keeps (s : State) (l : Nat) (w : BitVec 80) (tau : Nat) :
    Keeps [.stage, .counters] [ovf 4] s (s.laneHeard l w tau) := (s.onLane_keeps l _).trans (State.count_keeps _ 4 2 1)

theorem State.stageLane_laneHeard (s : State) (l : Fin 3) (w : BitVec 80) (tau : Nat) :
    (s.laneHeard l w tau).stageLane l = (s.stageLane l).heard w tau := s.stageLane_onLane l _

theorem State.laneWord_heard (hlock : s.locked l = true) (hgood : (s.stageLane l).good w = true) :
    s.laneWord l w tau = (s.laneHeard l w tau, true) := by
  rw [State.laneWord, hlock, Bool.not_true, if_neg (by simp), if_pos hgood]
  rfl

theorem State.missSample_keeps (s : State) (l : Nat) (w : BitVec 80) (tau : Nat) :
    Keeps [.stage, .counters, .draw] [Reg.STG_MISSED_SAMPLES, ovf 4] s (s.missSample l w tau) :=
  (((s.onLane_keeps l _).trans (State.addReg_keeps _ _ _)).trans (State.count_keeps _ 4 3 1)).trans (State.drawn_keeps _)

/-- After three misses in a row a further one only counts. -/
theorem State.stageLane_missSample (h : 3 ≤ (s.stageLane l).missed) :
    ((s.missSample l w tau).stageLane l).missed = (s.stageLane l).missed + 1 ∧
    ((s.missSample l w tau).stageLane l).hist = (s.stageLane l).hist := by
  unfold State.missSample
  extract_lets lane seq t
  have hlane : t.drawn.stageLane l = (let k' : StageLane := { s.stageLane l with missed := (s.stageLane l).missed + 1, lastSeq := seq }
      if (s.stageLane l).missed < 3 then k'.push (s.extrapolated lane) tau else k') := s.stageLane_onLane l _
  rw [hlane]
  dsimp only
  rw [if_neg (by omega)]
  exact ⟨rfl, rfl⟩

theorem State.laneWord_misses (hlock : s.locked l = true) (hbad : (s.stageLane l).good w = false) (hmissed : 3 ≤ (s.stageLane l).missed) :
    s.laneWord l w tau = (s.missSample l w tau, false) := by
  rw [State.laneWord, hlock, Bool.not_true, if_neg (by simp), if_neg (by simp [hbad]), decide_eq_false (by omega)]

end

/-! ### STAGE_SAMPLE (R245 to R248, R253, R276) -/

section
variable {s : State} {l : Fin 3} {w : BitVec 80} {tau : Nat} {k : Lockstep}

theorem State.setLooper_keeps (s : State) (u : LooperUnit) : Keeps [.looper] [] s { s with looper := u } :=
  ⟨fun p hp => by cases p <;> simp_all [Piece.same], fun _ _ => rfl⟩

/-- An X sample waits for its Y, or none does. -/
def State.xWaits (s : State) (x : Option Nat) : State := { s with looper := { s.looper with sampleX := x } }

theorem State.xWaits_keeps (s : State) (x : Option Nat) : Keeps [.looper] [] s (s.xWaits x) := s.setLooper_keeps _

theorem State.locked_xWaits (s : State) (x : Option Nat) (l : Nat) : (s.xWaits x).locked l = s.locked l := rfl
theorem State.stageLane_xWaits (s : State) (x : Option Nat) (l : Nat) : (s.xWaits x).stageLane l = s.stageLane l := rfl

/-- What a Y word comes to: its sample, if one came of it, goes to Looper with the X sample that waits, and either moves the DACs. -/
def State.yGoesOn (s : State) (was : StageLane) (at_ : Nat) (came : Bool) (k : Lockstep) : State :=
  (((s.when came (·.ySample was at_)).looperSample s.looper.sampleX (if came then some at_ else none) k).xWaits none).when
    (came || s.looper.sampleX.isSome) fun b => b.emit (.dac b.looper.codeX b.looper.codeY)

/-- What a word comes to beyond its lane: an X sample waits, a Y sample goes to Looper, and a yaw sample ends here. -/
def State.wordGoesOn (s : State) (was : StageLane) (lane at_ : Nat) (came : Bool) (k : Lockstep) : State :=
  if lane = 0 then s.xWaits (if came then some at_ else none)
  else if lane = 1 then s.yGoesOn was at_ came k
  else s

theorem State.wordGoesOn_y (s : State) (was : StageLane) (at_ : Nat) (came : Bool) (k : Lockstep) :
    s.wordGoesOn was 1 at_ came k = s.yGoesOn was at_ came k := rfl

theorem State.wordGoesOn_yaw (s : State) (was : StageLane) (at_ : Nat) (came : Bool) (k : Lockstep) :
    s.wordGoesOn was 2 at_ came k = s := rfl

theorem exec_stageSample {u : State} {came : Bool} (hport : s.portOn = true)
    (hword : (s.countStatus w).laneWord l w (tau - s.reg Reg.STG_LAT) = (u, came)) : exec (.stageSample l w tau k) s =
      answer s (u.wordGoesOn (s.stageLane l) l (tau - s.reg Reg.STG_LAT) came k) := by
  have hexec : exec (.stageSample l w tau k) s =
      answer s (((s.countStatus w).laneWord l w (tau - s.reg Reg.STG_LAT)).1.wordGoesOn (s.stageLane l) l (tau - s.reg Reg.STG_LAT)
        ((s.countStatus w).laneWord l w (tau - s.reg Reg.STG_LAT)).2 k) := by
    show execStageSample l w tau k s = _
    rw [execStageSample, State.when, if_pos hport]
    rfl
  rw [hexec, hword]

/-- A word of which no sample comes, with no X sample that waits, goes no further than its lane. -/
theorem State.wordGoesOn_still {u : State} (hx : l.val = 1 → u.looper.sampleX = none) (was : StageLane) (at_ : Nat) :
    ∃ x, u.wordGoesOn was l at_ false k = u.xWaits x := by
  unfold State.wordGoesOn
  split
  · exact ⟨none, rfl⟩
  · split
    · next h1 =>
      refine ⟨none, ?_⟩
      rw [State.yGoesOn, hx h1]
      rfl
    · exact ⟨u.looper.sampleX, rfl⟩

/-- The lane's state is what a word of which no sample comes leaves. -/
theorem completes_still {u : State} {P : State → Prop} {fs : List Field} (hport : s.portOn = true)
    (hword : (s.countStatus w).laneWord l w (tau - s.reg Reg.STG_LAT) = (u, false))
    (hkeeps : Keeps [.stage, .counters, .draw] fs (s.countStatus w) u)
    (hx : l.val = 1 → s.looper.sampleX = none) (hP : ∀ x, P (u.xWaits x)) :
    Completes (.stageSample l w tau k) s P := by
  have hall := (s.countStatus_keeps w).trans hkeeps
  have hlooper : u.looper = s.looper := hall.pieces .looper (by simp)
  obtain ⟨x, hgo⟩ := State.wordGoesOn_still (k := k) (by rw [hlooper]; exact hx) (s.stageLane l) (tau - s.reg Reg.STG_LAT)
  have hexec := exec_stageSample (k := k) hport hword
  rw [hgo] at hexec
  exact completes_of_pieces hexec (hall.trans (u.xWaits_keeps x)).pieces (hP x)

theorem completes_laneLocks (hport : s.portOn = true) (hlock : s.locked l = false) (hgood : sampleGood w = true)
    (hstreak : (s.stageLane l).streak = 15) (hseq : wordSeq w = ((s.stageLane l).lastSeq + 1) % 256)
    (hx : l.val = 1 → s.looper.sampleX = none) : Completes (.stageSample l w tau k) s fun t =>
      t.locked l = true ∧ (t.stageLane l).hist.head? = some (wordPos w) ∧ (∀ m < 3, m ≠ l.val → t.locked m = s.locked m) ∧
      Keeps [.stage, .looper, .counters] [Reg.STG_STATUS_LOCK, Reg.STG_MISSED_SAMPLES, ovf 4] s t := by
  have hkeeps := (s.countStatus w).laneLocks_keeps l w (tau - s.reg Reg.STG_LAT)
  have hword := State.laneWord_locks (s := s.countStatus w) (tau := tau - s.reg Reg.STG_LAT) (by rwa [State.locked_countStatus]) hgood
    (by rwa [State.stageLane_countStatus]) (by rwa [State.stageLane_countStatus])
  have hlocked := (s.countStatus w).locked_laneLocks l w (tau - s.reg Reg.STG_LAT)
  have hhist := (s.countStatus w).hist_laneLocks l w (tau - s.reg Reg.STG_LAT)
  have hothers (m : Nat) (hm : m < 3) (hne : m ≠ l.val) :=
    ((s.countStatus w).locked_laneLocks_ne hm hne w (tau - s.reg Reg.STG_LAT)).trans (s.locked_countStatus w m)
  generalize (s.countStatus w).laneLocks l w (tau - s.reg Reg.STG_LAT) = u at hkeeps hword hlocked hhist hothers
  exact completes_still hport hword (hkeeps.mono (by simp) (List.Subset.refl _)) hx fun x => ⟨hlocked, hhist, hothers,
    (((s.countStatus_keeps w).trans hkeeps).trans (u.xWaits_keeps x)).mono (by simp) (by simp)⟩

theorem completes_laneMisses (hport : s.portOn = true) (hlock : s.locked l = true) (hbad : (s.stageLane l).good w = false)
    (hmissed : 3 ≤ (s.stageLane l).missed) (hx : l.val = 1 → s.looper.sampleX = none) : Completes (.stageSample l w tau k) s fun t =>
      (t.stageLane l).missed = (s.stageLane l).missed + 1 ∧ (t.stageLane l).hist = (s.stageLane l).hist ∧
      Keeps [.stage, .looper, .counters, .draw] [Reg.STG_MISSED_SAMPLES, ovf 4] s t := by
  have hkeeps := (s.countStatus w).missSample_keeps l w (tau - s.reg Reg.STG_LAT)
  have hlane := State.stageLane_missSample (s := s.countStatus w) (l := l) (w := w) (tau := tau - s.reg Reg.STG_LAT)
    (by rwa [State.stageLane_countStatus])
  rw [State.stageLane_countStatus] at hlane
  have hword := State.laneWord_misses (s := s.countStatus w) (tau := tau - s.reg Reg.STG_LAT) (by rwa [State.locked_countStatus])
    (by rwa [State.stageLane_countStatus]) (by rwa [State.stageLane_countStatus])
  generalize (s.countStatus w).missSample l w (tau - s.reg Reg.STG_LAT) = u at hkeeps hlane hword
  obtain ⟨hmiss, hhist⟩ := hlane
  exact completes_still hport hword hkeeps hx fun x => ⟨hmiss, hhist,
    (((s.countStatus_keeps w).trans hkeeps).trans (u.xWaits_keeps x)).mono (by simp) (by simp)⟩

theorem State.laneWord_countStatus (hlock : s.locked l = true) (hgood : (s.stageLane l).good w = true) :
    (s.countStatus w).laneWord l w (tau - s.reg Reg.STG_LAT) = ((s.countStatus w).laneHeard l w (tau - s.reg Reg.STG_LAT), true) :=
  State.laneWord_heard (by rwa [State.locked_countStatus]) (by rwa [State.stageLane_countStatus])

/-- A word of the yaw lane goes no further than its lane. -/
theorem completes_yawHeard (hport : s.portOn = true) (hlock : s.locked 2 = true) (hgood : (s.stageLane 2).good w = true) :
    Completes (.stageSample 2 w tau k) s fun t =>
      (t.stageLane 2).hist = (wordPos w :: (s.stageLane 2).hist).take 9 ∧ (t.stageLane 2).missed = 0 ∧
      (t.stageLane 2).lastSeq = wordSeq w ∧ Keeps [.stage, .counters] [ovf 4] s t := by
  have hexec : exec (.stageSample 2 w tau k) s = answer s (((s.countStatus w).laneHeard 2 w (tau - s.reg Reg.STG_LAT)).wordGoesOn
      (s.stageLane 2) 2 (tau - s.reg Reg.STG_LAT) true k) :=
    exec_stageSample hport (State.laneWord_countStatus (l := 2) hlock hgood)
  rw [State.wordGoesOn_yaw] at hexec
  have hkeeps := (s.countStatus_keeps w).trans ((s.countStatus w).laneHeard_keeps 2 w (tau - s.reg Reg.STG_LAT))
  have hlane := (s.countStatus w).stageLane_laneHeard 2 w (tau - s.reg Reg.STG_LAT)
  rw [State.stageLane_countStatus] at hlane
  refine completes_of_pieces hexec hkeeps.pieces ⟨?_, ?_, ?_, hkeeps.mono (by simp) (by simp)⟩
  all_goals exact hlane ▸ rfl

/-! #### A Y sample while nothing moves (R252, R275, R290) -/

/-- The stage model takes its sample: the DAC codes stay. -/
theorem State.modelSample_spec (s : State) (y : Int) (tau : Nat) :
    Keeps [.looper, .draw] [Reg.LPR_MODEL_PEAK] s (s.modelSample y tau) ∧
    (s.modelSample y tau).looper.codeX = s.looper.codeX ∧ (s.modelSample y tau).looper.codeY = s.looper.codeY := by
  unfold State.modelSample
  split
  · exact ⟨Keeps.refl _ _ s, rfl, rfl⟩
  · split
    · exact ⟨(s.setLooper_keeps _).mono (by simp) (by simp), rfl, rfl⟩
    · extract_lets st r far nm
      exact ⟨((s.setLooper_keeps _).trans (State.drawn_keeps _)).trans (State.setReg_keeps _ _ _), rfl, rfl⟩

theorem State.ySample_of_still (h : s.active? = none) (was : StageLane) (tau : Nat) :
    s.ySample was tau = s.modelSample ((s.stageLane 1).hist.headD 0) tau := by
  unfold State.ySample State.fixInstants
  extract_lets now y a b
  have ha : a = s := by
    unfold a
    rw [h]
  have hb : b = s := by
    unfold b
    rw [ha, h]
  rw [hb]

theorem State.looperSample_of_still (h : s.active? = none) (x y : Option Nat) : s.looperSample x y k = s := by
  have href (tau : Nat) : s.looperRef tau = none := by
    unfold State.looperRef
    rw [h]
  unfold State.looperSample
  split
  · rfl
  · next tau _ =>
    have hengage : s.mayEngage tau = s := by
      unfold State.mayEngage
      rw [href]
    extract_lets t
    have ht : t = s := hengage
    rw [ht, href]

/-- Its model aside, a Y sample while nothing moves only moves the DACs. -/
theorem State.yGoesOn_of_still (h : s.active? = none) (was : StageLane) (at_ : Nat) : s.yGoesOn was at_ true k =
    ((s.modelSample ((s.stageLane 1).hist.headD 0) at_).xWaits none).emit
      (.dac (s.modelSample ((s.stageLane 1).hist.headD 0) at_).looper.codeX (s.modelSample ((s.stageLane 1).hist.headD 0) at_).looper.codeY) := by
  obtain ⟨hmodel, -⟩ := s.modelSample_spec ((s.stageLane 1).hist.headD 0) at_
  have hstill : (s.modelSample ((s.stageLane 1).hist.headD 0) at_).active? = none := by
    rw [State.active?, show _ = s.stripes from hmodel.pieces .stripes (by decide)]
    exact h
  have hsample : s.when true (·.ySample was at_) = s.modelSample ((s.stageLane 1).hist.headD 0) at_ := State.ySample_of_still h was at_
  rw [State.yGoesOn, hsample, State.looperSample_of_still hstill]
  rfl

theorem completes_yHeard (hport : s.portOn = true) (hlock : s.locked 1 = true) (hgood : (s.stageLane 1).good w = true)
    (hstill : s.active? = none) : Completes (.stageSample 1 w tau k) s fun t =>
      (t.stageLane 1).hist = (wordPos w :: (s.stageLane 1).hist).take 9 ∧ (t.stageLane 1).tau = tau - s.reg Reg.STG_LAT ∧
      t.out = .dac s.looper.codeX s.looper.codeY :: s.out := by
  have hkeeps := (s.countStatus_keeps w).trans ((s.countStatus w).laneHeard_keeps 1 w (tau - s.reg Reg.STG_LAT))
  have hlane : ((s.countStatus w).laneHeard 1 w (tau - s.reg Reg.STG_LAT)).stageLane 1 =
      ((s.countStatus w).stageLane 1).heard w (tau - s.reg Reg.STG_LAT) := (s.countStatus w).stageLane_laneHeard 1 w _
  have hexec : exec (.stageSample 1 w tau k) s = answer s (((s.countStatus w).laneHeard 1 w (tau - s.reg Reg.STG_LAT)).wordGoesOn
      (s.stageLane 1) 1 (tau - s.reg Reg.STG_LAT) true k) :=
    exec_stageSample hport (State.laneWord_countStatus (l := 1) hlock hgood)
  rw [State.stageLane_countStatus] at hlane
  generalize (s.countStatus w).laneHeard 1 w (tau - s.reg Reg.STG_LAT) = u at hkeeps hlane hexec
  have hactive : u.active? = none := by
    rw [State.active?, show _ = s.stripes from hkeeps.pieces .stripes (by decide)]
    exact hstill
  rw [State.wordGoesOn_y, State.yGoesOn_of_still hactive] at hexec
  obtain ⟨hmodel, hcodeX, hcodeY⟩ := u.modelSample_spec ((u.stageLane 1).hist.headD 0) (tau - s.reg Reg.STG_LAT)
  generalize u.modelSample ((u.stageLane 1).hist.headD 0) (tau - s.reg Reg.STG_LAT) = v at hmodel hcodeX hcodeY hexec
  have hall := hkeeps.trans hmodel
  have hlooper : u.looper = s.looper := hkeeps.pieces .looper (by decide)
  have hstage : v.stageLane 1 = (s.stageLane 1).heard w (tau - s.reg Reg.STG_LAT) := by
    rw [State.stageLane, show v.stage = u.stage from hmodel.pieces .stage (by decide)]
    exact hlane
  refine completes_of_pieces hexec ((hall.trans (v.xWaits_keeps none)).trans (State.emit_keeps _ _)).pieces ⟨?_, ?_, ?_⟩
  · exact congrArg StageLane.hist hstage
  · exact congrArg StageLane.tau hstage
  · rw [hcodeX, hcodeY, hlooper]
    exact congrArg (_ :: ·) (hall.pieces .out (by decide))

end

/-! ### STAGE_LANE_LOCK_LOST and STAGE_PORT_FAULT (R246, R247, R266) -/

section
variable {s : State} {l : Fin 3}

theorem completes_stageLaneLockLost (hport : s.portOn = true) (hlock : s.locked l = true) (hmissed : 16 ≤ (s.stageLane l).missed) :
    Completes (.stageLaneLockLost l) s fun t => t.locked l = false ∧ (t.stageLane l).hist = [] ∧
      Keeps [.stage] [Reg.STG_STATUS_LOCK] s t := by
  have hexec : exec (.stageLaneLockLost l) s = answer s ((s.setLock l false).onLane l fun k => { k with streak := 0, hist := [] }) := by
    show execStageLaneLockLost l s = _
    rw [execStageLaneLockLost, State.when, if_pos (by simp [hport, hlock, hmissed])]
  have hkeeps := (s.setLock_keeps l false).trans (State.onLane_keeps _ l fun k => { k with streak := 0, hist := [] })
  refine completes_of_pieces hexec hkeeps.pieces ⟨s.locked_setLock_false l, ?_, hkeeps⟩
  rw [State.stageLane_onLane]

/-- A stripe that writes is in a run. -/
theorem Writes.inRun {p : Stripe} {r : Run} (h : Writes s p r) : s.inRun = true := by
  obtain ⟨hact, -, hstate, -, -, -⟩ := h
  exact List.any_eq_true.2 ⟨p, List.mem_of_find?_eq_some hact, by rw [hstate]⟩

/-- A fault of the stage port is counted and posted, and the stage is to stop at EDEC. -/
def State.portFaulted (s : State) (l : Nat) : State :=
  ((s.addReg Reg.STG_MISSED_FAULTS 1).event 0x05 l 1 (s.stageLane l).missed).stopHard

theorem State.portFaulted_pieces (s : State) (l : Nat) : KeepsPieces (.stage :: logPieces) s (s.portFaulted l) :=
  ((((s.addReg_keeps _ _).pieces.mono (List.nil_subset _)).trans (State.event_pieces _ _ _ _ _)).mono (List.subset_cons_self _ _)).trans
    ((State.setStage_keeps _ _).pieces.mono (by simp))

theorem completes_stagePortFault {p : Stripe} {r : Run} (hport : s.portOn = true) (hmissed : 4 ≤ (s.stageLane l).missed)
    (hw : Writes s p r) : Completes (.stagePortFault l) s fun t => Aborts t p.par.id .stripeAborted ∧ t.posted 5 l 1 ∧
      t.stage.hardStop = true := by
  have hexec : exec (.stagePortFault l) s = answer s ((s.portFaulted l).abort .stripeAborted) := by
    show execStagePortFault l s = _
    rw [execStagePortFault, State.when, if_pos (by simp [hport, hmissed, hw.inRun])]
    rfl
  have hw' : Writes (s.portFaulted l) p r := hw.congr (s.portFaulted_pieces l .stripes (by decide))
  have habort := hw'.abort_keeps .stripeAborted
  have hstage : ((s.portFaulted l).abort .stripeAborted).stage = (s.portFaulted l).stage := habort.pieces .stage (by decide)
  have hposted : (s.portFaulted l).posted 5 l 1 :=
    State.posted_of_pieces (State.setStage_keeps _ _).pieces (by decide) (State.posted_event _ 0x05 l 1 _)
  exact Completes.of_answer_of hexec ⟨hw'.aborts _, State.posted_of_pieces habort.pieces (by decide) hposted,
    (congrArg StageUnit.hardStop hstage).trans rfl⟩ fun _ _ _ _ h => h

theorem ignored_stagePortFault (h : (s.stageLane l).missed < 4 ∨ s.inRun = false) : Ignored (.stagePortFault l) s := by
  have hnot : (s.portOn && decide (4 ≤ (s.stageLane l).missed) && s.inRun) = false := by
    rcases h with h | h
    · simp [Nat.not_le.2 h]
    · simp [h]
  show execStagePortFault l s = .next s
  rw [execStagePortFault, hnot]
  rfl

end

theorem clauseStageLanes : ClauseStageLanes :=
  ⟨fun _ _ _ _ _ hport hlock hgood hstreak hseq hx => completes_laneLocks hport hlock hgood hstreak hseq hx,
    fun _ _ _ _ hport => ⟨completes_yawHeard hport, completes_yHeard hport⟩,
    fun _ _ _ _ _ hport hlock hbad hmissed hx => completes_laneMisses hport hlock hbad hmissed hx,
    fun _ _ hport hlock hmissed => completes_stageLaneLockLost hport hlock hmissed,
    fun _ _ _ _ hport hmissed hw => completes_stagePortFault hport hmissed hw, fun _ _ h => ignored_stagePortFault h⟩

end Sys2Proof.Machine
end

section
/-! SUPPORT. Set-points and Skipper (R249, R250, R255, R257, R258, R260). -/
namespace Sys2Proof.Machine

open Sys2Proof

/-! ### SET_POINT_WORD (R249, R255, R260) -/

section
variable {s : State} {pos vel acc : Int}

/-- A set-point has left as a word and is the one in force. -/
def State.setPointSent (s : State) (pos vel acc : Int) : State :=
  ({ s with stage := { s.stage with
      spPos := pos, spVel := vel, spAcc := acc, spAt := s.now, spSeq := (s.stage.spSeq + 1) % 256, spActive := s.driving } } : State).emit
    (.setPoint (setPointBits s.stage.spSeq pos vel acc s.driving s.stage.emergency (s.holdFlag vel acc)))

theorem State.setPointSent_keeps (s : State) (pos vel acc : Int) : Keeps [.stage, .out] [] s (s.setPointSent pos vel acc) :=
  (s.setStage_keeps _).trans (State.emit_keeps _ _)

/-- The word is one of this device's, of the profile in force. -/
def State.wordLeaves (s : State) (pos vel acc : Int) : Bool :=
  s.native && s.flag Reg.STG_CTL_SP_EN && s.role != 2 && s.setPointAllowed pos vel acc

theorem exec_setPointWord (s : State) (pos vel acc : Int) : exec (.setPointWord pos vel acc) s =
    answer s (s.when (s.wordLeaves pos vel acc) fun s => (s.setPointSent pos vel acc).count 4 4 1) := rfl

theorem completes_setPointWord (hnative : s.native = true) (hsp : s.flag Reg.STG_CTL_SP_EN = true) (hrole : s.role ≠ 2)
    (hallowed : s.setPointAllowed pos vel acc = true) : Completes (.setPointWord pos vel acc) s fun t =>
      t.stage = { s.stage with spPos := pos, spVel := vel, spAcc := acc, spAt := s.now, spSeq := (s.stage.spSeq + 1) % 256,
                               spActive := s.driving } ∧
      t.out = .setPoint (setPointBits s.stage.spSeq pos vel acc s.driving s.stage.emergency (s.holdFlag vel acc)) :: s.out ∧
      Keeps [.stage, .out, .counters] [ovf 4] s t := by
  have hexec := exec_setPointWord s pos vel acc
  rw [State.when, if_pos (by simp [State.wordLeaves, hnative, hsp, hrole, hallowed])] at hexec
  have hkeeps := (s.setPointSent_keeps pos vel acc).trans (State.count_keeps _ 4 4 1)
  exact completes_of_pieces hexec hkeeps.pieces ⟨rfl, rfl, hkeeps⟩

theorem ignored_setPointWord (hnot : s.setPointAllowed pos vel acc = false) : Ignored (.setPointWord pos vel acc) s := by
  have hexec := exec_setPointWord s pos vel acc
  rwa [State.when, if_neg (by simp [State.wordLeaves, hnot]), answer_self] at hexec

end

/-! ### SKIPPER_EVALUATE (R250, R257 to R259) -/

section
variable {s : State} {p : Stripe} {r : Run}

/-- What an evaluation shows before it decides: the cap, the reserves, and the caches of the last fifty. -/
def State.evaluated (s : State) (p : Stripe) (r : Run) : State :=
  let w := s.planReserves p r
  let a := ((s.onStripe p.par.id fun q => { q with fCap := (s.rateCap p r.caps).1 }).setRegs
    [(Reg.SKP_RES_WIN, w.1.toNat), (Reg.SKP_RAS, w.2.toNat)]).count 5 0 1
  { a with stage := { a.stage with cacheHist :=
    ((match s.leastCache p r with | some y => y | none => (p.par.len : Int)) :: s.stage.cacheHist).take 51 } }

/-- What it decides: to pause below the critical reserve or with no plan, else to follow the plan. -/
def State.decided (s : State) (p : Stripe) (r : Run) (cap : Rat × Nat) (w : Int × Int) (below : Prop) [Decidable below] : State :=
  if below then s.pauseRun p w.1.toNat
  else match s.planStep p r cap.1 w.2 with
    | none => s.pauseRun p w.1.toNat
    | some n => (s.follow cap.1 (cap.1 * n / 64) cap.2).restart p r w.1.toNat

theorem exec_skipperEvaluate (hnative : s.native = true) (hsp : s.flag Reg.STG_CTL_SP_EN = true) (hw : Writes s p r) :
    exec .skipperEvaluate s = answer s ((s.evaluated p r).decided p r (s.rateCap p r.caps) (s.planReserves p r)
      ((s.planReserves p r).1 < s.criticalReserve p (s.planReserves p r).1 (s.planReserves p r).2)) := by
  obtain ⟨hact, -, hstate, hrun, -, hrole⟩ := hw
  show execSkipperEvaluate s = _
  rw [execSkipperEvaluate, State.when, if_pos (by simp [hnative, hsp]), hact]
  dsimp -zeta only
  rw [hrun]
  dsimp -zeta only
  rw [State.when, if_pos (by simp [hstate, hrole])]
  rfl

theorem State.evaluated_keeps (s : State) (p : Stripe) (r : Run) :
    Keeps [.stripes, .counters, .stage] [Reg.SKP_RES_WIN, Reg.SKP_RAS, ovf 5] s (s.evaluated p r) :=
  (((s.onStripe_keeps _ _).trans (State.setRegs_keeps _ _)).trans (State.count_keeps _ 5 0 1)).trans (State.setStage_keeps _ _)

/-- A stripe still in WRITE, under the cap of an evaluation. -/
def Stripe.Capped (f : Rat) (q : Stripe) : Prop := q.state = .write ∧ q.fCap = f

theorem Now.evaluated (hw : Writes s p r) : Now (s.evaluated p r) p.par.id (Stripe.Capped (s.rateCap p r.caps).1) := by
  obtain ⟨-, hp, hstate, -⟩ := hw
  exact Now.onStripe (f := fun q => { q with fCap := (s.rateCap p r.caps).1 }) ⟨p, hp, hstate, rfl⟩ fun _ => rfl

/-- With no cache to run out, the plan looks at the horizon and the low mark only. -/
theorem State.planStep_evaluated (hleast : s.leastCache p r = none) (cap : Rat) (rr : Int) :
    (s.evaluated p r).planStep p r cap rr = s.planStep p r cap rr := by
  have hkeeps := s.evaluated_keeps p r
  have hpackages : (s.evaluated p r).packages = s.packages := hkeeps.pieces .packages (by decide)
  have hleast' : (s.evaluated p r).leastCache p r = none := by
    rw [← hleast, State.leastCache, State.leastCache, State.package?, hpackages, ← State.package?]
  have hprod : s.fProd p r = none := by rw [State.fProd, hleast]
  have hprod' : (s.evaluated p r).fProd p r = none := by rw [State.fProd, hleast']
  unfold State.planStep
  rw [hprod, hprod', hkeeps.2 Reg.SKP_TIME_HORIZON (by decide), hkeeps.2 Reg.SKP_PLAN_LOW (by decide)]

/-! #### A pause for data (R257, R258) -/

theorem State.showTarget_keeps (s : State) (cause : Nat) :
    Keeps [.draw] [Reg.SKP_STATUS_F_PLAN, Reg.SKP_STATUS_CAUSE] s (s.showTarget cause) :=
  (s.setRegs_keeps _).trans (State.drawn_keeps _)

theorem State.cause_showTarget (s : State) {cause : Nat} (h : cause < 16) : (s.showTarget cause).reg Reg.SKP_STATUS_CAUSE = cause :=
  (State.reg_setRegs_mem (by simp; decide) (List.mem_cons_of_mem _ List.mem_cons_self) (by decide)).trans (Nat.mod_eq_of_lt h)

/-- A stripe that stops for data. -/
def Stripe.paused (q : Stripe) : Stripe := { q with state := .pause, run := q.run.map fun r => { r with rest := false } }

/-- The stripe pauses and the target shows why. -/
def State.pauseShown (s : State) (id : Nat) : State :=
  (({ s with stage := { s.stage with raising := 0 } } : State).onStripe id Stripe.paused).showTarget 7

theorem State.pauseRun_eq (s : State) (hstate : p.state = .write) (rw' : Nat) :
    s.pauseRun p rw' = ((s.pauseShown p.par.id).event 0x09 0xFF 1 rw').count 5 3 1 := by
  unfold State.pauseRun
  rw [hstate]
  rfl

theorem pauseRun_spec {P : Stripe → Prop} (hstate : p.state = .write) (h : Now s p.par.id P) (rw' : Nat) :
    Now (s.pauseRun p rw') p.par.id (fun q => q.state = .pause) ∧ (s.pauseRun p rw').reg Reg.SKP_STATUS_CAUSE = 7 ∧
    (s.pauseRun p rw').posted 9 0xFF 1 := by
  have hevent := (s.pauseShown p.par.id).event_keeps 0x09 0xFF 1 rw'
  have hcount := ((s.pauseShown p.par.id).event 0x09 0xFF 1 rw').count_keeps 5 3 1
  have hpaused : Now (s.pauseShown p.par.id) p.par.id fun q => q.state = .pause :=
    Now.congr (s := ({ s with stage := { s.stage with raising := 0 } } : State).onStripe p.par.id Stripe.paused)
      (Now.onStripe (h.imp fun _ _ => rfl) fun _ => rfl) rfl
  rw [State.pauseRun_eq s hstate]
  refine ⟨hpaused.congr ((hevent.trans hcount).pieces .stripes (by decide)), ?_,
    State.posted_of_pieces hcount.pieces (by decide) (State.posted_event _ 0x09 0xFF 1 rw')⟩
  rw [hcount.2 _ (by decide), hevent.2 _ (by decide)]
  exact State.cause_showTarget _ (by decide)

theorem State.decided_pauses {cap : Rat × Nat} {w : Int × Int} {below : Prop} [Decidable below]
    (h : below ∨ s.planStep p r cap.1 w.2 = none) : s.decided p r cap w below = s.pauseRun p w.1.toNat := by
  unfold State.decided
  split
  · rfl
  · next hbelow => rw [h.resolve_left hbelow]

theorem completes_pause (hnative : s.native = true) (hsp : s.flag Reg.STG_CTL_SP_EN = true) (hw : Writes s p r)
    (hlow : (s.planReserves p r).1 < s.criticalReserve p (s.planReserves p r).1 (s.planReserves p r).2 ∨
      (s.leastCache p r = none ∧ s.planStep p r (s.rateCap p r.caps).1 (s.planReserves p r).2 = none)) :
    Completes .skipperEvaluate s fun t =>
      Now t p.par.id (fun q => q.state = .pause) ∧ t.reg Reg.SKP_STATUS_CAUSE = 7 ∧ t.posted 9 0xFF 1 := by
  have hexec := exec_skipperEvaluate hnative hsp hw
  rw [State.decided_pauses (hlow.imp_right fun ⟨hleast, hplan⟩ => (State.planStep_evaluated hleast _ _).trans hplan)] at hexec
  obtain ⟨-, -, hstate, -⟩ := id hw
  exact Completes.of_answer_of hexec (pauseRun_spec hstate (Now.evaluated hw) _) fun _ _ _ _ h => h

/-! #### A plan below the target (R257) -/

/-- The target is lowered and shown. -/
def State.targetShown (s : State) (f : Rat) (cause : Nat) : State :=
  ({ s with stage := { s.stage with fTarget := f, raising := 0 } } : State).showTarget cause

theorem State.setTarget_lower {f : Rat} (h : f < s.stage.fTarget) (cause : Nat) : s.setTarget f cause =
    ((s.targetShown f cause).event 0x08 0xFF cause ((s.targetShown f cause).reg Reg.SKP_STATUS_F_PLAN)).count 5 1 1 :=
  if_pos h

theorem setTarget_spec {f : Rat} {P : Stripe → Prop} (hlower : f < s.stage.fTarget) (h : Now s p.par.id P) (cause : Nat) :
    (s.setTarget f cause).stage.fTarget = f ∧ (s.setTarget f cause).posted 8 0xFF cause ∧ Now (s.setTarget f cause) p.par.id P := by
  have hevent := (s.targetShown f cause).event_keeps 0x08 0xFF cause ((s.targetShown f cause).reg Reg.SKP_STATUS_F_PLAN)
  have hcount := ((s.targetShown f cause).event 0x08 0xFF cause ((s.targetShown f cause).reg Reg.SKP_STATUS_F_PLAN)).count_keeps 5 1 1
  have hkeeps := (hevent.trans hcount).pieces
  rw [State.setTarget_lower hlower]
  refine ⟨?_, State.posted_of_pieces hcount.pieces (by decide) (State.posted_event _ 0x08 0xFF cause _), h.congr (hkeeps .stripes (by decide))⟩
  exact (congrArg StageUnit.fTarget (hkeeps .stage (by decide))).trans rfl

theorem State.restart_of_not_paused (s : State) (hstate : p.state = .write) (r : Run) (rw' : Nat) : s.restart p r rw' = s := by
  unfold State.restart
  rw [hstate]
  rfl

theorem State.follow_lower {cap f : Rat} (hcalm : s.stage.emergency = false) (h : f < s.stage.fTarget) (cause : Nat) :
    s.follow cap f cause = s.setTarget f (if f < cap then 4 else cause) := by
  unfold State.follow
  simp only [hcalm, Bool.false_eq_true, if_false, if_pos h]

theorem completes_lower {n : Nat} (hnative : s.native = true) (hsp : s.flag Reg.STG_CTL_SP_EN = true) (hw : Writes s p r)
    (hreserve : s.criticalReserve p (s.planReserves p r).1 (s.planReserves p r).2 ≤ (s.planReserves p r).1)
    (hcalm : s.stage.emergency = false) (hlower : (s.rateCap p r.caps).1 * n / 64 < s.stage.fTarget) (hleast : s.leastCache p r = none)
    (hplan : s.planStep p r (s.rateCap p r.caps).1 (s.planReserves p r).2 = some n) : Completes .skipperEvaluate s fun t =>
      t.stage.fTarget = (s.rateCap p r.caps).1 * n / 64 ∧
      t.posted 8 0xFF (if (s.rateCap p r.caps).1 * n / 64 < (s.rateCap p r.caps).1 then 4 else (s.rateCap p r.caps).2) ∧
      Now t p.par.id (fun q => q.state = .write ∧ q.fCap = (s.rateCap p r.caps).1) := by
  obtain ⟨-, -, hstate, -⟩ := id hw
  have hplan' := (State.planStep_evaluated hleast (s.rateCap p r.caps).1 (s.planReserves p r).2).trans hplan
  have hexec := exec_skipperEvaluate hnative hsp hw
  rw [State.decided, if_neg (not_lt.2 hreserve), hplan'] at hexec
  dsimp only at hexec
  rw [State.restart_of_not_paused _ hstate, State.follow_lower (s := s.evaluated p r) hcalm hlower] at hexec
  exact Completes.of_answer_of hexec (setTarget_spec (s := s.evaluated p r) hlower (Now.evaluated hw) _) fun _ _ _ _ h => h

theorem ignored_skipperEvaluate (h : s.active? = none ∨ s.flag Reg.STG_CTL_SP_EN = false) : Ignored .skipperEvaluate s := by
  show execSkipperEvaluate s = .next s
  rw [execSkipperEvaluate, State.when]
  split
  · next hon =>
    rw [h.resolve_right (by simp_all)]
    rfl
  · rfl

end

theorem clauseSetPointsAndSkipper : ClauseSetPointsAndSkipper :=
  ⟨fun _ _ _ _ hnative hsp hrole => ⟨completes_setPointWord hnative hsp hrole, ignored_setPointWord⟩,
    fun _ _ _ hnative hsp hw => ⟨completes_pause hnative hsp hw, fun _ hreserve hcalm hlower hleast hplan =>
      completes_lower hnative hsp hw hreserve hcalm hlower hleast hplan⟩,
    fun _ h => ignored_skipperEvaluate h⟩

/-- Settles O38: a word on a lane is followed through the lane to what its sample comes to, and an evaluation through what it shows to the
pause or the plan that it decides on. -/
theorem stageAndSkipper : Obligations.StageAndSkipper := ⟨clauseStageLanes, clauseSetPointsAndSkipper⟩

end Sys2Proof.Machine
end

section
/-! SUPPORT. TICK_IN (R252, R272, R273, R408, R421). -/
namespace Sys2Proof.Machine

open Sys2Proof

section
variable {s : State} {x : Nat} {p : Stripe} {r : Run}

/-! ### An edge that is the next tick's instant (R272) -/

/-- A run whose next frame's instant is fixed. -/
def Run.fixNext (r : Run) (at_ : Nat) : Run := { r with fixed := (r.nextFixed, at_) :: r.fixed.take 127 }

/-- A stripe whose run has its next instant. -/
def Stripe.fixNext (q : Stripe) (at_ : Nat) : Stripe := { q with run := q.run.map fun k => k.fixNext at_ }

/-- The edge is the last one accepted, and the next tick's instant. -/
def State.edgeTaken (s : State) (id x : Nat) : State :=
  ({ s with stage := { s.stage with lastEdge := some x } } : State).onStripe id fun q => q.fixNext x

theorem State.edgeTaken_keeps (s : State) (id x : Nat) : Keeps [.stage, .stripes] [] s (s.edgeTaken id x) :=
  (s.setStage_keeps _).trans (State.onStripe_keeps _ _ _)

/-- An edge too soon after the last one. -/
def State.edgeSoon (s : State) (x : Nat) : Bool :=
  match s.stage.lastEdge with | some e => decide (x < e + xk2MinPeriod) | none => false

theorem exec_tickInEdge (hxk2 : s.native = false) (hcheck : s.checking = false) (hact : s.active? = some p) (hrun : p.run = some r)
    (hend : r.ended = false) (hlast : r.nextFixed ≤ r.last + 1) : exec (.tickInEdge x) s =
      answer s (if s.edgeSoon x then s.overrunEdge p r else s.edgeTaken p.par.id x) := by
  show execTickInEdge x s = _
  rw [execTickInEdge, State.when, if_pos (by simp [hxk2, hcheck]), hact]
  dsimp -zeta only
  rw [hrun]
  dsimp -zeta only
  rw [if_neg (by simp [hend]; omega)]
  rfl

theorem completes_edgeTaken (hexec : exec (.tickInEdge x) s = answer s (if s.edgeSoon x then s.overrunEdge p r else s.edgeTaken p.par.id x))
    (hp : s.stripe? p.par.id = some p) (hrun : p.run = some r) (hlater : ∀ e ∈ s.stage.lastEdge, e + xk2MinPeriod ≤ x) :
    Completes (.tickInEdge x) s fun t =>
      t.stage.lastEdge = some x ∧ Now t p.par.id (fun q => ∃ k, q.run = some k ∧ k.fixed.head? = some (r.nextFixed, x)) ∧
      Keeps [.stage, .stripes] [] s t := by
  have hsoon : s.edgeSoon x = false := by
    unfold State.edgeSoon
    split
    · next e he => exact decide_eq_false (not_lt.2 (hlater e he))
    · rfl
  rw [hsoon, if_neg (by simp)] at hexec
  have hkeeps := s.edgeTaken_keeps p.par.id x
  refine completes_of_pieces hexec hkeeps.pieces ⟨rfl, ?_, hkeeps⟩
  exact Now.onStripe (s := { s with stage := { s.stage with lastEdge := some x } }) (f := fun q => q.fixNext x)
    ⟨p, hp, r.fixNext x, by rw [Stripe.fixNext, hrun, Option.map_some], rfl⟩ fun _ => rfl

/-! ### An overrun (R272, R413) -/

/-- An overrun is counted and shown. -/
def State.overrunShown (s : State) : State :=
  let a := s.addReg Reg.STG_XK2_OVERRUN 1
  a.setRegs [(Reg.XK2_STATUS_OVERRUN, 1), (Reg.XK2_OVERRUN_CNT_COUNT, a.reg Reg.STG_XK2_OVERRUN), (Reg.XK2_IRQ_OVERRUN, 1)]

/-- The host is told, where it asked to be. -/
def State.overrunTold (s : State) : State :=
  s.overrunShown.when ((s.addReg Reg.STG_XK2_OVERRUN 1).flag Reg.XK2_CTL_IRQ_EN) (·.emit .msi)

theorem State.overrunTold_keeps (s : State) : Keeps [.out] [Reg.STG_XK2_OVERRUN, Reg.XK2_STATUS_OVERRUN, Reg.XK2_OVERRUN_CNT_COUNT,
    Reg.XK2_IRQ_OVERRUN] s s.overrunTold :=
  ((s.addReg_keeps _ _).trans (State.setRegs_keeps _ _)).trans (State.when_keeps _ _ _ fun _ => State.emit_keeps _ _)

theorem State.overrunEdge_eq (s : State) (p : Stripe) (r : Run) : s.overrunEdge p r =
    s.overrunTold.putStripe (p.addRegion repCut 0 4095 (((r.nextFixed - 1 : Nat) : Int) - 4095) ((p.par.len : Int) - 1)) := rfl

theorem State.reg_overrunTold (s : State) (f : Field) : s.overrunTold.reg f = s.overrunShown.reg f := by
  rw [State.overrunTold, State.reg_when]
  split <;> rfl

theorem State.reg_overrunShown {f : Field} (s : State) (hf : f = Reg.XK2_STATUS_OVERRUN ∨ f = Reg.XK2_IRQ_OVERRUN) :
    s.overrunShown.reg f = 1 := by
  have hl : (([(Reg.XK2_STATUS_OVERRUN, 1), (Reg.XK2_OVERRUN_CNT_COUNT, (s.addReg Reg.STG_XK2_OVERRUN 1).reg Reg.STG_XK2_OVERRUN),
      (Reg.XK2_IRQ_OVERRUN, 1)].map Prod.fst).map Field.key).Nodup := by simp; decide
  rcases hf with rfl | rfl
  · exact State.reg_setRegs_mem (f := Reg.XK2_STATUS_OVERRUN) (v := 1) hl (by simp) (by decide)
  · exact State.reg_setRegs_mem (f := Reg.XK2_IRQ_OVERRUN) (v := 1) hl (by simp) (by decide)

theorem State.overruns_overrunShown (s : State) : s.overrunShown.reg Reg.STG_XK2_OVERRUN =
    min (2 ^ Reg.STG_XK2_OVERRUN.width - 1) (s.reg Reg.STG_XK2_OVERRUN + 1) :=
  ((State.setRegs_keeps _ _).2 _ (by simp; decide)).trans (s.reg_addReg_same 1 (by decide))

theorem completes_overrun (hexec : exec (.tickInEdge x) s = answer s (if s.edgeSoon x then s.overrunEdge p r else s.edgeTaken p.par.id x))
    {e : Nat} (he : s.stage.lastEdge = some e) (hsoon : x < e + xk2MinPeriod) : Completes (.tickInEdge x) s fun t =>
      t.reg Reg.XK2_STATUS_OVERRUN = 1 ∧ t.reg Reg.XK2_IRQ_OVERRUN = 1 ∧
      t.reg Reg.STG_XK2_OVERRUN = min (2 ^ Reg.STG_XK2_OVERRUN.width - 1) (s.reg Reg.STG_XK2_OVERRUN + 1) ∧ t.stage = s.stage := by
  have hs : s.edgeSoon x = true := by
    unfold State.edgeSoon
    rw [he]
    exact decide_eq_true hsoon
  rw [hs, if_pos rfl, State.overrunEdge_eq] at hexec
  have hput := s.overrunTold.putStripe_keeps (p.addRegion repCut 0 4095 (((r.nextFixed - 1 : Nat) : Int) - 4095) ((p.par.len : Int) - 1))
  have hall := s.overrunTold_keeps.trans hput
  refine completes_of_pieces hexec hall.pieces ⟨?_, ?_, ?_, hall.pieces .stage (by decide)⟩
  · rw [hput.2 _ (by decide), State.reg_overrunTold, s.reg_overrunShown (.inl rfl)]
  · rw [hput.2 _ (by decide), State.reg_overrunTold, s.reg_overrunShown (.inr rfl)]
  · rw [hput.2 _ (by decide), State.reg_overrunTold, s.overruns_overrunShown]

/-! ### No stripe armed, native mode, a BEAM_CHECK (R273, R408, R421) -/

theorem exec_tickInEdge_idle (hxk2 : s.native = false) (hcheck : s.checking = false) (hact : s.active? = none) :
    exec (.tickInEdge x) s = answer s (s.when (!s.stage.pastEnd) (·.setReg Reg.XK2_STATUS_EARLY 1)) := by
  show execTickInEdge x s = _
  rw [execTickInEdge, State.when, if_pos (by simp [hxk2, hcheck]), hact]

theorem completes_early (hxk2 : s.native = false) (hcheck : s.checking = false) (hact : s.active? = none)
    (hpast : s.stage.pastEnd = false) : Completes (.tickInEdge x) s fun t =>
      t.reg Reg.XK2_STATUS_EARLY = 1 ∧ Keeps [] [Reg.XK2_STATUS_EARLY] s t := by
  have hexec := exec_tickInEdge_idle (x := x) hxk2 hcheck hact
  rw [hpast] at hexec
  have hkeeps := s.setReg_keeps Reg.XK2_STATUS_EARLY 1
  exact completes_of_pieces hexec hkeeps.pieces ⟨s.reg_setReg_same _ _ (by decide), hkeeps⟩

theorem ignored_pastEnd (hxk2 : s.native = false) (hcheck : s.checking = false) (hact : s.active? = none)
    (hpast : s.stage.pastEnd = true) : Ignored (.tickInEdge x) s := by
  have hexec := exec_tickInEdge_idle (x := x) hxk2 hcheck hact
  rw [hpast] at hexec
  exact hexec

theorem ignored_tickInEdge (h : s.native = true ∨ s.checking = true) : Ignored (.tickInEdge x) s := by
  show execTickInEdge x s = .next s
  rw [execTickInEdge, State.when, if_neg (by rcases h with h | h <;> simp [h]), answer_self]

end

theorem clauseTickInEdges : ClauseTickInEdges := by
  refine ⟨fun s x p r hxk2 hcheck hact hp hrun hend hlast => ?_, fun s x hxk2 hcheck hact =>
    ⟨completes_early hxk2 hcheck hact, ignored_pastEnd hxk2 hcheck hact⟩, fun s x h => ignored_tickInEdge h⟩
  have hexec := exec_tickInEdge (x := x) hxk2 hcheck hact hrun hend hlast
  exact ⟨completes_edgeTaken hexec hp hrun, fun e he hsoon => completes_overrun hexec he hsoon⟩

end Sys2Proof.Machine
end

section
/-! SUPPORT. The messages of a lock group (R260 to R264): what is heard, passed on, answered and missed. -/
namespace Sys2Proof.Machine

open Sys2Proof

/-! ### Roles, and messages heard and sent (R260, R261, R274) -/

section
variable {s : State} {p : Stripe} {r : Run} {b : List Byte} {x : Nat}

/-- A member on its way has the role of its stripe. -/
theorem State.groupRole_of_active (h : s.active? = some p) : s.groupRole = p.bv.role := by
  rw [State.groupRole, State.role, h]
  rfl

theorem State.sendTicksync_keeps (s : State) (b : List Byte) : Keeps [.link, .out] [] s (s.sendTicksync b) := s.sendOn_keeps _ _ _

theorem State.out_sendTicksync (s : State) (b : List Byte) :
    (s.sendTicksync b).out = .ticksync (s.disparity lineTicksync) b :: s.out := rfl

theorem State.goodTicksync_keeps (s : State) : Keeps [.counters] [ovf 4, Reg.STG_STATUS_TSYNC_LOCK] s s.goodTicksync :=
  (s.count_keeps 4 6 1).trans (State.setReg_keeps _ _ _)

theorem State.active?_goodTicksync (s : State) : s.goodTicksync.active? = s.active? := rfl
theorem State.runStripe_goodTicksync (s : State) : s.goodTicksync.runStripe = s.runStripe := rfl
theorem State.disparity_goodTicksync (s : State) (key : Nat) : s.goodTicksync.disparity key = s.disparity key := rfl

/-! ### A message that fails its CRC, or that no group hears (R260 to R262) -/

theorem State.badTicksync_keeps (s : State) (b : List Byte) : Keeps [.link, .out, .counters] [ovf 4] s (s.badTicksync b) :=
  ((s.count_keeps 4 7 1).trans (State.when_keeps _ _ _ fun _ => State.sendTicksync_keeps _ b)).mono (by simp) (by simp)

theorem State.out_badTicksync (s : State) (b : List Byte) : (s.badTicksync b).out =
    if s.groupRole = 2 then .ticksync (s.disparity lineTicksync) b :: s.out else s.out := by
  unfold State.badTicksync State.when
  by_cases h : s.groupRole = 2
  · rw [if_pos h, if_pos (by simp [h])]
    rfl
  · rw [if_neg h, if_neg (by simp [h])]
    rfl

theorem exec_badTicksync (hon : s.tsyncOn = true) (hbad : ticksyncGood b = false) (i : Instr)
    (hi : i ∈ [Instr.ticksyncTickMessage b x, .ticksyncRunMessage b x]) : exec i s = answer s (s.badTicksync b) := by
  simp only [List.mem_cons, List.not_mem_nil, or_false] at hi
  rcases hi with rfl | rfl
  · show execTicksyncTickMessage b x s = _
    rw [execTicksyncTickMessage, State.when, if_pos hon, if_pos (by simp [hbad])]
  · show execTicksyncRunMessage b x s = _
    rw [execTicksyncRunMessage, State.when, if_pos hon, if_pos (by simp [hbad])]

theorem ignored_ticksync (hoff : s.tsyncOn = false) : Ignored (.ticksyncTickMessage b x) s ∧ Ignored (.ticksyncRunMessage b x) s := by
  refine ⟨?_, ?_⟩
  · show execTicksyncTickMessage b x s = .next s
    rw [execTicksyncTickMessage, State.when, hoff]
    rfl
  · show execTicksyncRunMessage b x s = .next s
    rw [execTicksyncRunMessage, State.when, hoff]
    rfl

/-! ### TICKSYNC_TICK_MESSAGE (R46, R262, R264) -/

theorem exec_masterTick (hon : s.tsyncOn = true) (hgood : ticksyncGood b = true) (htype : byteAt b 0 = 1) (hrole : s.groupRole = 1) :
    exec (.ticksyncTickMessage b x) s = answer s (s.goodTicksync.returnTick b) := by
  show execTicksyncTickMessage b x s = _
  rw [execTicksyncTickMessage, State.when, if_pos hon, if_neg (by simp [hgood]), if_neg (by simp [htype]), if_pos hrole]

theorem completes_masterTick (hon : s.tsyncOn = true) (hgood : ticksyncGood b = true) (htype : byteAt b 0 = 1) (hrole : s.groupRole = 1)
    (hcalm : bitOf (byteAt b 1) 1 = false) : Completes (.ticksyncTickMessage b x) s fun t =>
      t.stage = { s.stage with tsWin := some (leAt b 8 2), tsRas := some (leAt b 10 3), tsCap := some (leAt b 13 2), tsMissing := 0,
                               tsReturned := some (leAt b 2 4) } ∧
      Keeps [.stage, .counters] [Reg.STG_STATUS_TSYNC_LOCK, ovf 4] s t := by
  have hexec := exec_masterTick (x := x) hon hgood htype hrole
  rw [State.returnTick, hcalm] at hexec
  have hkeeps := s.goodTicksync_keeps.trans (s.goodTicksync.setStage_keeps { s.stage with
    tsWin := some (leAt b 8 2), tsRas := some (leAt b 10 3), tsCap := some (leAt b 13 2), tsMissing := 0, tsReturned := some (leAt b 2 4) })
  exact completes_of_pieces hexec hkeeps.pieces ⟨rfl, hkeeps.mono (by simp) (by simp)⟩

/-- A stripe whose run has the instant of a frame. -/
def Stripe.fixAt (q : Stripe) (n at_ : Nat) : Stripe := { q with run := q.run.map fun k => { k with fixed := (n, at_) :: k.fixed.take 127 } }

/-- A follower takes the instant of the frame that is due next. -/
theorem State.followTick_fixes (hrun : p.run = some r) (htick : p.ticking = true) (hnext : (leAt b 2 4 + 1) % 2 ^ 32 = r.nextFixed)
    (hcalm : bitOf (byteAt b 1) 0 = false) : s.followTick p b x =
      s.onStripe p.par.id fun q => q.fixAt r.nextFixed (x + 1000 * leAt b 6 2 - s.reg Reg.STG_TSYNC_HOP) := by
  unfold State.followTick
  rw [hrun]
  dsimp -zeta only
  extract_lets n at_ t
  have ht : t = s.onStripe p.par.id fun q => q.fixAt n at_ := if_pos (by simp [htick, n, hnext])
  rw [hcalm, ht, show n = r.nextFixed from hnext]
  rfl

theorem State.forwardTick_spec (s : State) (p : Option Stripe) (b : List Byte) :
    Keeps [.link, .out, .draw, .stage] [] s (s.forwardTick p b) ∧
    ∃ m, (s.forwardTick p b).out = .ticksync (s.disparity lineTicksync) m :: s.out := by
  unfold State.forwardTick
  extract_lets lead own body t
  exact ⟨((s.sendTicksync_keeps _).trans (State.drawn_keeps _)).trans (t.setStage_keeps _), _, rfl⟩

theorem exec_followerTick (hon : s.tsyncOn = true) (hgood : ticksyncGood b = true) (htype : byteAt b 0 = 1) (hact : s.active? = some p)
    (hrole : p.bv.role = 2) : exec (.ticksyncTickMessage b x) s =
      answer s ((s.goodTicksync.followTick p b x).forwardTick (some p) b) := by
  show execTicksyncTickMessage b x s = _
  rw [execTicksyncTickMessage, State.when, if_pos hon, if_neg (by simp [hgood]), if_neg (by simp [htype]),
    if_neg (by simp [State.groupRole_of_active hact, hrole])]
  dsimp only
  rw [s.active?_goodTicksync, hact]

theorem completes_followerTick (hon : s.tsyncOn = true) (hgood : ticksyncGood b = true) (htype : byteAt b 0 = 1)
    (hact : s.active? = some p) (hp : s.stripe? p.par.id = some p) (hrun : p.run = some r) (hrole : p.bv.role = 2)
    (htick : p.ticking = true) (hnext : (leAt b 2 4 + 1) % 2 ^ 32 = r.nextFixed) (hcalm : bitOf (byteAt b 1) 0 = false) :
    Completes (.ticksyncTickMessage b x) s fun t =>
      Now t p.par.id (fun q => ∃ k, q.run = some k ∧ k.fixed.head? =
        some (r.nextFixed, x + 1000 * leAt b 6 2 - s.reg Reg.STG_TSYNC_HOP)) ∧
      ∃ m, t.out = .ticksync (s.disparity lineTicksync) m :: s.out := by
  have hexec := exec_followerTick (x := x) hon hgood htype hact hrole
  rw [State.followTick_fixes hrun htick hnext hcalm, s.goodTicksync_keeps.2 Reg.STG_TSYNC_HOP (by decide)] at hexec
  have hfixed : Now (s.goodTicksync.onStripe p.par.id fun q => q.fixAt r.nextFixed (x + 1000 * leAt b 6 2 - s.reg Reg.STG_TSYNC_HOP)) p.par.id
      fun q => ∃ k, q.run = some k ∧ k.fixed.head? = some (r.nextFixed, x + 1000 * leAt b 6 2 - s.reg Reg.STG_TSYNC_HOP) :=
    Now.onStripe (s := s.goodTicksync) (f := fun q => q.fixAt r.nextFixed (x + 1000 * leAt b 6 2 - s.reg Reg.STG_TSYNC_HOP))
      ⟨p, hp, _, by rw [Stripe.fixAt, hrun, Option.map_some], rfl⟩ fun _ => rfl
  obtain ⟨hkeeps, hout⟩ := State.forwardTick_spec
    (s.goodTicksync.onStripe p.par.id fun q => q.fixAt r.nextFixed (x + 1000 * leAt b 6 2 - s.reg Reg.STG_TSYNC_HOP)) (some p) b
  exact Completes.of_answer_of hexec ⟨hfixed.congr (hkeeps.pieces .stripes (by decide)), hout⟩ fun _ _ _ _ h => h

/-! ### TICKSYNC_MISSING and TICKSYNC_RETURN_MISSING (R46, R264) -/

/-- A cut run changes its stripe, and what sending its END may. -/
theorem State.cutRun_pieces (h : Now s p.par.id fun _ => True) (r : Run) (st : Status) (hx : p.xk2 = false) :
    KeepsPieces (.stripes :: lanePieces) s (s.cutRun p r st) := by
  obtain ⟨q, hq, -⟩ := (h.undisturbed (s.vetoSent_undisturbed p r)).endLostRun (P := fun _ => True) fun _ _ _ _ _ _ => trivial
  rw [State.cutRun_eq st hx hq]
  have hwork : workPieces ⊆ .stripes :: lanePieces := by simp [workPieces, lanePieces]
  exact ((((s.vetoSent_undisturbed p r).pieces.mono (List.subset_cons_self _ _)).trans
    ((State.endLostRun_undisturbed _ _).pieces.mono hwork)).trans ((State.amendAbort_undisturbed _ _ _ _).pieces.mono hwork)).trans
      ((State.aborting_undisturbed _ _ _ _).pieces.mono (by simp))

/-- The group is asked to abort. -/
def State.abortAsked (s : State) : State := { s with stage := { s.stage with tsAbortReq := true } }

theorem completes_ticksyncMissing (hnative : s.native = true) (hact : s.active? = some p) (hp : s.stripe? p.par.id = some p)
    (hrun : p.run = some r) (htick : p.ticking = true) (hticked : r.ticked = true) (hx : p.xk2 = false) (hrole : p.bv.role = 2) :
    Completes .ticksyncMissing s fun t =>
      t.stage.tsAbortReq = true ∧ Now t p.par.id fun q => q.state = .aborting ∧ q.cause = some .stripeAborted ∧
        q.resumeAt = some (max r.next r.accounted) := by
  have hexec : exec .ticksyncMissing s = answer s (s.abortAsked.cutRun p r .stripeAborted) := by
    show execTicksyncMissing s = _
    rw [execTicksyncMissing, hact]
    dsimp -zeta only
    rw [hrun]
    dsimp -zeta only
    rw [State.when, if_pos (by simp [hnative, hrole, htick])]
    extract_lets t
    rw [if_pos hticked]
    rfl
  have hnow : Now s.abortAsked p.par.id fun _ => True := ⟨p, hp, trivial⟩
  have hstage := State.cutRun_pieces hnow r .stripeAborted hx .stage (by decide)
  refine Completes.of_answer_of hexec ⟨congrArg StageUnit.tsAbortReq hstage, ?_⟩ fun _ _ _ _ h => h
  exact (Now.cutRun hnow r .stripeAborted hx).imp fun q ⟨hstate, _, hcause, hresume⟩ => ⟨hstate, hcause, hresume⟩

/-- A message that did not return counts as reserves of zero. -/
def State.returnMissed (s : State) : State :=
  { s with stage := { s.stage with tsWin := some 0, tsRas := some 0, tsMissing := s.stage.tsMissing + 1 } }

theorem exec_ticksyncReturnMissing (hnative : s.native = true) (hact : s.active? = some p) (htick : p.ticking = true)
    (hrole : p.bv.role = 1) (hnone : s.stage.tsReturned = none) : exec .ticksyncReturnMissing s =
      answer s (s.returnMissed.when (decide (2 ≤ s.stage.tsMissing + 1)) (·.abort .stripeAborted)) := by
  show execTicksyncReturnMissing s = _
  rw [execTicksyncReturnMissing, hact]
  dsimp -zeta only
  rw [State.when, if_pos (by simp [hnative, hrole, htick, hnone])]
  rfl

theorem completes_returnMissing_first (hnative : s.native = true) (hact : s.active? = some p) (htick : p.ticking = true)
    (hrole : p.bv.role = 1) (hnone : s.stage.tsReturned = none) (hmissing : s.stage.tsMissing = 0) :
    Completes .ticksyncReturnMissing s fun t =>
      t.stage = { s.stage with tsWin := some 0, tsRas := some 0, tsMissing := 1 } ∧ Keeps [.stage] [] s t := by
  have hexec := exec_ticksyncReturnMissing hnative hact htick hrole hnone
  rw [State.when, if_neg (by simp [hmissing])] at hexec
  have hkeeps : Keeps [.stage] [] s s.returnMissed := s.setStage_keeps _
  have hstage : s.returnMissed.stage = { s.stage with tsWin := some 0, tsRas := some 0, tsMissing := 1 } := by
    simp [State.returnMissed, hmissing]
  exact completes_of_pieces hexec hkeeps.pieces ⟨hstage, hkeeps⟩

/-- A master that writes aborts at the tick whose instant is fixed next, unless its cause blanks at once (R264). -/
theorem State.abort_master (hact : s.active? = some p) (hstate : p.state = .write) (hrun : p.run = some r) (hticked : r.ticked = true)
    (hrole : p.bv.role = 1) {st : Status} (hst : st.blanks = false) :
    s.abort st = (s.tellGroup p).abortAtTick p st (some r.nextFixed) := by
  unfold State.abort
  rw [hact]
  simp [hstate, hrun, hticked, State.abortTicked, hrole, hst]

theorem completes_returnMissing_second (hnative : s.native = true) (hact : s.active? = some p) (hp : s.stripe? p.par.id = some p)
    (hrun : p.run = some r) (htick : p.ticking = true) (hticked : r.ticked = true) (hrole : p.bv.role = 1)
    (hnone : s.stage.tsReturned = none) (hmissing : 1 ≤ s.stage.tsMissing) (hstate : p.state = .write) :
    Completes .ticksyncReturnMissing s fun t =>
      Now t p.par.id fun q => q.state = .aborting ∧ q.cause = some .stripeAborted ∧ q.abortAt = some r.nextFixed := by
  have hexec := exec_ticksyncReturnMissing hnative hact htick hrole hnone
  rw [State.when, if_pos (by simp; omega), State.abort_master (s := s.returnMissed) hact hstate hrun hticked hrole rfl] at hexec
  have hnow : Now (s.returnMissed.tellGroup p) p.par.id fun _ => True :=
    Now.undisturbed (s := s.returnMissed) ⟨p, hp, trivial⟩ (State.tellGroup_undisturbed _ p)
  have haborts : Now ((s.returnMissed.tellGroup p).abortAtTick p .stripeAborted (some r.nextFixed)) p.par.id fun q =>
      q.state = .aborting ∧ q.cause = some .stripeAborted ∧ q.abortAt = some r.nextFixed :=
    Now.onStripe (hnow.imp fun _ _ => ⟨rfl, rfl, rfl⟩) fun _ => rfl
  exact Completes.of_answer_of hexec haborts fun _ _ _ _ h => h

/-! ### TICKSYNC_RUN_MESSAGE and RUN_MESSAGE_REPEAT (R261 to R263) -/

theorem exec_ticksyncRun (hon : s.tsyncOn = true) (hgood : ticksyncGood b = true) (htype : byteAt b 0 = 2) :
    exec (.ticksyncRunMessage b x) s =
      answer s (if s.groupRole = 1 then s.goodTicksync.masterRun b x else s.goodTicksync.memberRun b) := by
  show execTicksyncRunMessage b x s = _
  rw [execTicksyncRunMessage, State.when, if_pos hon, if_neg (by simp [hgood]), if_neg (by simp [htype])]

/-- A message that is not the last one is answered and passed on. -/
theorem State.memberRun_answers (hopen : bitOf (byteAt b 1) 4 = false) : ∃ m, s.memberRun b = s.sendTicksync m := by
  unfold State.memberRun
  extract_lets final a flags body t
  exact ⟨_, if_pos (by simp [final, hopen])⟩

theorem completes_memberRun (hon : s.tsyncOn = true) (hgood : ticksyncGood b = true) (htype : byteAt b 0 = 2) (hrole : s.groupRole = 2)
    (hopen : bitOf (byteAt b 1) 4 = false) : Completes (.ticksyncRunMessage b x) s fun t =>
      ∃ m, t.out = .ticksync (s.disparity lineTicksync) m :: s.out ∧
        Keeps [.link, .out, .counters] [Reg.STG_STATUS_TSYNC_LOCK, ovf 4] s t := by
  have hexec := exec_ticksyncRun (x := x) hon hgood htype
  obtain ⟨m, hm⟩ := s.goodTicksync.memberRun_answers hopen
  rw [if_neg (by simp [hrole]), hm] at hexec
  have hkeeps := s.goodTicksync_keeps.trans (s.goodTicksync.sendTicksync_keeps m)
  exact completes_of_pieces hexec hkeeps.pieces ⟨m, rfl, hkeeps.mono (by simp) (by simp)⟩

/-- The ring's delay as the message's return shows it. -/
def State.ringShown (s : State) (ring : Nat) : State := (s.setReg Reg.STG_TSYNC_RING (min 65535 ring)).drawn

theorem State.quotient_self (s : State) (x d : Nat) : s.quotient ((x : Int) - x) d = 0 := by simp [State.quotient]

/-- A message that returns at once, of a group whose members are not ready, is to be repeated. -/
theorem State.masterRun_repeats {m : List Byte} (hsent : s.stage.tsRun = some (m, x)) (hrun : s.runStripe = some (p, r))
    (hopen : bitOf (byteAt b 1) 4 = false) (hagreed : bitOf (byteAt b 1) 3 = false) (hwaits : bitOf (byteAt b 1) 2 = true)
    (hlead : 100 ≤ s.reg Reg.STG_TSYNC_LEAD) : s.masterRun b x =
      { s.ringShown 0 with stage := { s.stage with tsRepeat := true } } := by
  unfold State.masterRun
  rw [hsent, hrun]
  dsimp -zeta only
  extract_lets ring t first last u
  have hring : ring = 0 := by
    unfold ring
    rw [State.quotient_self]
    rfl
  rw [hopen, if_neg (by simp), if_neg (by simp [hagreed, hring]; omega), if_pos hwaits]
  unfold t
  rw [hring]
  rfl

theorem completes_masterRun {m : List Byte} (hon : s.tsyncOn = true) (hgood : ticksyncGood b = true) (htype : byteAt b 0 = 2)
    (hrole : s.groupRole = 1) (hrun : s.runStripe = some (p, r)) (hsent : s.stage.tsRun = some (m, x))
    (hopen : bitOf (byteAt b 1) 4 = false) (hagreed : bitOf (byteAt b 1) 3 = false) (hwaits : bitOf (byteAt b 1) 2 = true)
    (hlead : 100 ≤ s.reg Reg.STG_TSYNC_LEAD) : Completes (.ticksyncRunMessage b x) s fun t =>
      t.stage = { s.stage with tsRepeat := true } ∧ t.out = s.out ∧ t.reg Reg.STG_TSYNC_RING = 0 := by
  have hexec := exec_ticksyncRun (x := x) hon hgood htype
  have hlead' : 100 ≤ s.goodTicksync.reg Reg.STG_TSYNC_LEAD := by rwa [s.goodTicksync_keeps.2 _ (by decide)]
  rw [if_pos hrole, State.masterRun_repeats (s := s.goodTicksync) hsent hrun hopen hagreed hwaits hlead'] at hexec
  have hring : (s.goodTicksync.ringShown 0).reg Reg.STG_TSYNC_RING = 0 :=
    State.reg_setReg_same _ Reg.STG_TSYNC_RING (min 65535 0) (by decide)
  exact Completes.of_answer_of hexec ⟨rfl, rfl, hring⟩ fun _ _ _ _ h => h

theorem completes_runMessageRepeat (hrun : s.runStripe = some (p, r)) (hon : s.tsyncOn = true) (hrole : s.groupRole = 1)
    (hrepeat : s.stage.tsRepeat = true) : Completes .runMessageRepeat s fun t =>
      t.out = .ticksync (s.disparity lineTicksync) (runMessage 0 p r r.first r.last s.stage.tsSeq) :: s.out ∧ t.stage.tsRepeat = false ∧
      Keeps [.link, .out, .stage] [] s t := by
  have hexec : exec .runMessageRepeat s = answer s (s.sendRun 0 p r r.first r.last) := by
    show execRunMessageRepeat s = _
    rw [execRunMessageRepeat, hrun]
    dsimp only
    rw [State.when, if_pos (by simp [hon, hrole, hrepeat])]
  have hkeeps : Keeps [.link, .out, .stage] [] s (s.sendRun 0 p r r.first r.last) :=
    (s.sendTicksync_keeps _).trans (State.setStage_keeps _ _)
  exact completes_of_pieces hexec hkeeps.pieces ⟨rfl, rfl, hkeeps⟩

end

/-! ### The statement -/

theorem clauseLockGroups : ClauseLockGroups := by
  refine ⟨fun s b x hon hbad i hi => ?_, fun s b x hoff => ignored_ticksync hoff, fun s b x hon hgood htype =>
      ⟨completes_masterTick hon hgood htype, fun p r hact hp hrun hrole htick hnext hcalm =>
        completes_followerTick hon hgood htype hact hp hrun hrole htick hnext hcalm⟩,
    fun s p r hnative hact hp hrun htick hticked hx => ⟨completes_ticksyncMissing hnative hact hp hrun htick hticked hx,
      completes_returnMissing_first hnative hact htick, completes_returnMissing_second hnative hact hp hrun htick hticked⟩,
    fun s b x hon hgood htype => ⟨completes_memberRun hon hgood htype, fun p r m hrole hrun hsent hopen hagreed hwaits hlead =>
      completes_masterRun hon hgood htype hrole hrun hsent hopen hagreed hwaits hlead⟩,
    fun s p r hrun hon hrole hrepeat => completes_runMessageRepeat hrun hon hrole hrepeat⟩
  have hkeeps := s.badTicksync_keeps b
  exact completes_of_pieces (exec_badTicksync hon hbad i hi) hkeeps.pieces ⟨s.out_badTicksync b, hkeeps⟩

/-- Settles O37: an edge is taken, an overrun, early or nothing; a message is passed on, taken or answered by the member's role, and a missing
one cuts the follower's run or counts against the master's. -/
theorem tickInAndLockGroups : Obligations.TickInAndLockGroups := ⟨clauseTickInEdges, clauseLockGroups⟩

end Sys2Proof.Machine
end
